-- ==== Sys2Proof/Word.lean ====
section
/-! DEFINITION. The words of the CMT960: the 32-bit register word of the status space (R12) and the octet
of every frame, image and memory layout (R9). -/

namespace Sys2Proof

/-- A register of the status space: 32 bits (R12). -/
abbrev Word := BitVec 32

/-- One octet of a frame, a record, an image or a memory. -/
abbrev Octet := BitVec 8

end Sys2Proof
end

