-- ==== Sys2Proof/Machine/Bits.lean ====
section
/-! DEFINITION. Bit fields, little-endian octets, CRC-32C and the integer roots that several chapters use. -/

namespace Sys2Proof.Machine

/-- The field of `n` bits from bit `lo` of a number. -/
def bits (v lo n : Nat) : Nat := (v / 2 ^ lo) % 2 ^ n

/-- One bit of a number. -/
def bit (v n : Nat) : Bool := Nat.testBit v n

/-- A flag as a number. -/
def flag (b : Bool) : Nat := if b then 1 else 0

/-- A register word from its fields, each (lowest bit, width, value); reserved bits read 0 (R8). -/
def pack : List (Nat × Nat × Nat) → Word
  | [] => 0#32
  | (lo, n, v) :: fs => BitVec.ofNat 32 ((v % 2 ^ n) * 2 ^ lo) ||| pack fs

/-- A signed number as `n` bits of two's complement. -/
def sbits (n : Nat) (v : Int) : Nat := (v % (2 ^ n : Nat)).toNat

/-- `n` bits of two's complement as a signed number. -/
def ofSbits (n v : Nat) : Int := if v % 2 ^ n < 2 ^ (n - 1) then ((v % 2 ^ n : Nat) : Int) else ((v % 2 ^ n : Nat) : Int) - (2 ^ n : Nat)

/-- A number held within `n` bits: it stays at the largest value (a saturating field). -/
def sat (n v : Nat) : Nat := min v (2 ^ n - 1)

/-- A signed number held within `n` bits of two's complement. -/
def ssat (n : Nat) (v : Int) : Int := max (-(2 ^ (n - 1) : Nat)) (min v ((2 ^ (n - 1) : Nat) - 1))

/-- The little-endian octets of a number (R9). -/
def leBytes : Nat → Nat → List Octet
  | 0, _ => []
  | n + 1, v => BitVec.ofNat 8 v :: leBytes n (v / 256)

/-- The number of little-endian octets (R9). -/
def ofLe : List Octet → Nat
  | [] => 0
  | b :: bs => b.toNat + 256 * ofLe bs

/-- The big-endian octets of a number. -/
def beBytes (n v : Nat) : List Octet := (leBytes n v).reverse

/-- The number of big-endian octets. -/
def ofBe (bs : List Octet) : Nat := ofLe bs.reverse

/-- `n` octets of a list from offset `off`, missing ones left out. -/
def slice (bs : List Octet) (off n : Nat) : List Octet := (bs.drop off).take n

/-- The little-endian number of `n` octets at `off`. -/
def getLe (bs : List Octet) (off n : Nat) : Nat := ofLe (slice bs off n)

/-- The signed little-endian number of `n` octets at `off`. -/
def getLeS (bs : List Octet) (off n : Nat) : Int := ofSbits (8 * n) (getLe bs off n)

/-- Octet list padded with zero octets, or cut, to `n`. -/
def padTo (n : Nat) (bs : List Octet) : List Octet := (bs ++ List.replicate n 0#8).take n

/-- One bit of the reflected Castagnoli polynomial division (R62). -/
def crcBit (c : BitVec 32) : BitVec 32 := if c.getLsbD 0 then (c >>> 1) ^^^ 0x82F63B78#32 else c >>> 1

/-- `n` bits of the division. -/
def crcBits : Nat → BitVec 32 → BitVec 32
  | 0, c => c
  | n + 1, c => crcBits n (crcBit c)

/-- The CRC register after the octets. -/
def crcFold : BitVec 32 → List Octet → BitVec 32
  | c, [] => c
  | c, b :: bs => crcFold (crcBits 8 (c ^^^ b.setWidth 32)) bs

/-- CRC-32C: polynomial 0x1EDC6F41 reflected, start and final value 0xFFFFFFFF (R62). -/
def crc32c (bs : List Octet) : Nat := (crcFold 0xFFFFFFFF#32 bs ^^^ 0xFFFFFFFF#32).toNat

/-- CRC-32 of IEEE 802.3: polynomial 0x04C11DB7 reflected, start and final value 0xFFFFFFFF (R210). -/
def crc32Bit (c : BitVec 32) : BitVec 32 := if c.getLsbD 0 then (c >>> 1) ^^^ 0xEDB88320#32 else c >>> 1

/-- `n` bits of that division. -/
def crc32Bits : Nat → BitVec 32 → BitVec 32
  | 0, c => c
  | n + 1, c => crc32Bits n (crc32Bit c)

/-- CRC-32 of octets. -/
def crc32 (bs : List Octet) : Nat := (bs.foldl (fun c b => crc32Bits 8 (c ^^^ b.setWidth 32)) 0xFFFFFFFF#32 ^^^ 0xFFFFFFFF#32).toNat

/-- The integer square root by `fuel` bisection bits below 2^fuel. -/
def isqrtGo (n : Nat) : Nat → Nat → Nat
  | 0, r => r
  | k + 1, r => if (r + 2 ^ k) * (r + 2 ^ k) ≤ n then isqrtGo n k (r + 2 ^ k) else isqrtGo n k r

/-- The integer part of the square root of a number below 2^128. -/
def isqrt (n : Nat) : Nat := isqrtGo n 64 0

/-- A quotient rounded up. -/
def ceilDiv (a b : Nat) : Nat := (a + (b - 1)) / b

/-- The positions of the bits of `v` that are 1, below `n`, rising. -/
def onesBelow (n v : Nat) : List Nat := (List.range n).filter (fun i => Nat.testBit v i)

/-- The first `n` numbers as a list, each with its element of `l`. -/
def enum {α : Type} (l : List α) : List (Nat × α) := (List.range l.length).zip l

/-- The list with the element at `i` changed by `f`. -/
def updAt {α : Type} : List α → Nat → (α → α) → List α
  | [], _, _ => []
  | x :: xs, 0, f => f x :: xs
  | x :: xs, i + 1, f => x :: updAt xs i f

/-- `x` put before the first element that does not precede it. -/
def insertBy {α : Type} (lt : α → α → Bool) (x : α) : List α → List α
  | [] => [x]
  | y :: ys => if lt y x then y :: insertBy lt x ys else x :: y :: ys

/-- A list in the order of `lt`; equals keep their order. -/
def sortBy {α : Type} (lt : α → α → Bool) (l : List α) : List α := l.foldr (insertBy lt) []

/-- The element of a list that comes first in the order of `lt`. -/
def leastBy {α : Type} (lt : α → α → Bool) (l : List α) : Option α := (sortBy lt l).head?

/-- A quotient of integers rounded to the nearest, halves upward. -/
def nearest (a : Int) (b : Nat) : Int := (2 * a + b) / (2 * (max 1 b) : Nat)

/-- The angles atan(2^-i) in 2^-32 cycle. -/
def cordicAngles : List Nat :=
  [536870912, 316933406, 167458907, 85004756, 42667331, 21354465, 10679838, 5340245, 2670163, 1335087, 667544, 333772, 166886, 83443, 41722,
   20861, 10430, 5215, 2608, 1304, 652, 326, 163, 81]

/-- A vector with x ≥ 0 turned onto the axis step by step: the angle it had, in 2^-32 cycle. -/
def cordicGo : Nat → List Nat → Int → Int → Int → Int
  | _, [], _, _, a => a
  | i, t :: ts, x, y, a =>
    if 0 ≤ y then cordicGo (i + 1) ts (x + y / 2 ^ i) (y - x / 2 ^ i) (a + t)
    else cordicGo (i + 1) ts (x - y / 2 ^ i) (y + x / 2 ^ i) (a - t)

/-- The angle of a complex number with x ≥ 0 in 2^-20 cycle, to the nearest (DESIGN CHOICE, log 177). -/
def angleRight (x y : Int) : Int := if y = 0 then 0 else (cordicGo 0 cordicAngles (x * 2 ^ 20) (y * 2 ^ 20) 0 + 2048) / 4096

/-- The two-quadrant angle of a complex number in 2^-20 cycle: θ and θ + ½ cycle are one (R122). -/
def angle2 (z : Int × Int) : Int := if z.1 < 0 then angleRight (-z.1) (-z.2) else angleRight z.1 z.2

/-- The four-quadrant angle of a complex number in 2^-20 cycle (R122). -/
def angle4 (z : Int × Int) : Int :=
  if z.1 < 0 then angleRight (-z.1) (-z.2) + (if 0 ≤ z.2 then 2 ^ 19 else -2 ^ 19) else angleRight z.1 z.2

/-- A counter register: wraps at 2^32. -/
def incr (w : Word) : Word := w + 1#32

end Sys2Proof.Machine
end

