-- ==== Sys2Proof/Machine/Tab.lean ====
section
/-! DEFINITION. Sparse tables: the machine's arrays of like things (channels, sessions, queues, flash octets)
held as sorted lists of (key, value) pairs in ONE canonical form, keys strictly rising and no entry equal to
what an unlisted key reads as, so that equal tables are equal data. -/

namespace Sys2Proof.Machine

/-- A sparse table from a number to a value. What an unlisted key reads as is given at each read and write. -/
abbrev Tab (α : Type) := List (Nat × α)

/-- The value at key `i`; `d` where the table lists none. -/
def Tab.get {α : Type} (d : α) : Tab α → Nat → α
  | [], _ => d
  | (k, v) :: t, i => if k = i then v else Tab.get d t i

/-- The table with `v` at key `i`, in canonical form: an entry equal to `d` is not kept. -/
def Tab.set {α : Type} [DecidableEq α] (d : α) : Tab α → Nat → α → Tab α
  | [], i, v => if v = d then [] else [(i, v)]
  | (k, w) :: t, i, v =>
    if i < k then (if v = d then (k, w) :: t else (i, v) :: (k, w) :: t)
    else if i = k then (if v = d then t else (i, v) :: t)
    else (k, w) :: Tab.set d t i v

/-- The table with the value at key `i` changed by `f`. -/
def Tab.upd {α : Type} [DecidableEq α] (d : α) (t : Tab α) (i : Nat) (f : α → α) : Tab α :=
  Tab.set d t i (f (Tab.get d t i))

/-- Every listed value changed by `f` of its key, re-entered in canonical form. -/
def Tab.mapVals {α : Type} [DecidableEq α] (d : α) (f : Nat → α → α) : Tab α → Tab α
  | [] => []
  | (k, v) :: t =>
    let t' := Tab.mapVals d f t
    if f k v = d then t' else (k, f k v) :: t'

/-- Keys strictly rising, all of them at or above `lo`, and no entry equal to `d`. -/
def Tab.wfFrom {α : Type} [DecidableEq α] (d : α) : Nat → Tab α → Bool
  | _, [] => true
  | lo, (k, v) :: t => decide (lo ≤ k) && decide (v ≠ d) && Tab.wfFrom d (k + 1) t

/-- The canonical form of a table. -/
def Tab.wf {α : Type} [DecidableEq α] (d : α) (t : Tab α) : Bool := Tab.wfFrom d 0 t

/-- The boot flash as octets; what an octet nothing has programmed reads as is `Memory.erased`. -/
abbrev Memory := Tab Octet

/-- DESIGN CHOICE (log 3): an octet of the boot flash that nothing has programmed reads 0xFF, as an erased NOR cell. -/
def Memory.erased : Octet := 0xFF#8

/-- One octet of the flash. -/
def Memory.read (m : Memory) (a : Nat) : Octet := Tab.get Memory.erased m a

/-- One octet programmed. -/
def Memory.write (m : Memory) (a : Nat) (v : Octet) : Memory := Tab.set Memory.erased m a v

/-- The canonical form of the flash. -/
def Memory.wf (m : Memory) : Bool := Tab.wf Memory.erased m

/-- `n` octets from address `a`. -/
def Memory.readN (m : Memory) (a : Nat) : Nat → List Octet
  | 0 => []
  | n + 1 => m.read a :: Memory.readN m (a + 1) n

/-- The octets written from address `a` upward. -/
def Memory.writeN (m : Memory) (a : Nat) : List Octet → Memory
  | [] => m
  | b :: bs => Memory.writeN (m.write a b) (a + 1) bs

/-- A range of the flash erased: every octet of it reads as erased again. -/
def Memory.erase (m : Memory) (a n : Nat) : Memory := m.filter (fun c => !(decide (a ≤ c.1) && decide (c.1 < a + n)))

/-- A range of the flash copied from `src` to `dst`, canonical form kept. -/
def Memory.copy (m : Memory) (src dst n : Nat) : Memory :=
  (m.filter (fun c => decide (src ≤ c.1) && decide (c.1 < src + n))).foldl
    (fun acc c => acc.write (dst + (c.1 - src)) c.2) (m.erase dst n)

end Sys2Proof.Machine
end

