-- ==== Sys2Proof/Machine/Types.lean ====
section
/-! DEFINITION. The types that commands and State share: modes, sources, frames, measured inputs. -/

namespace Sys2Proof.Machine

/-- The six modes of Table 2-1. -/
inductive Mode where
  | dormant | start | survey | lead | shadow | hold
deriving DecidableEq, Repr

/-- The mode code that SYS_MODE and every mode-change record carry (Table 2-1). -/
def Mode.code : Mode → Nat
  | .dormant => 0 | .start => 1 | .survey => 2 | .lead => 3 | .shadow => 4 | .hold => 5

/-- The mode of a code; START for a code of no mode. -/
def Mode.ofCode : Nat → Mode
  | 0 => .dormant | 2 => .survey | 3 => .lead | 4 => .shadow | 5 => .hold | _ => .start

/-- The life-cycle states (R7's companion list in "Keys, worlds and tamper", R372). -/
inductive LifeCycle where
  | vendor | provision | field | service | retired
deriving DecidableEq, Repr

/-- What a Trestle freeze was for (R21; parity is the injection of Table 17-6). -/
inductive FreezeCause where
  | overstay | window | parity
deriving DecidableEq, Repr

/-- One bank cycle of a Trestle window: a bank, the masters that have a request pending at it (R18) and whether a scrubber has one
(R24); `keep` says that the master served holds on to the bank, with what its locked sequence writes (R19). -/
structure BankCycle where
  bank : Fin 16
  asking : BitVec 13
  scrub : Bool := false
  keep : Option (List (Nat × Octet)) := none
deriving DecidableEq, Repr

/-- Where a scrubber step, or another access, read a word (Table 1-5, R24, R25). -/
inductive EccSite where
  | l1d (core : Fin 8)
  | l1i (core : Fin 8)
  | mram (area : Fin 7)
  | sram (reader : Option (Fin 13))
  | queue (queue : Fin 32) (slot : Nat)
  | correlator (channel : Fin 288)
  | session (n : Fin 256)
  | span (n : Fin 8192)
  | profiler (n : Fin 256)
  | recorder (index : Nat)
deriving DecidableEq, Repr

/-- What the access found: a clean word, a correctable error, an uncorrectable one. -/
inductive EccFinding where
  | clean | correctable | uncorrectable
deriving DecidableEq, Repr

/-- Where a CHP frame came from: an Ethernet MAC with source address and port, or the SPI target port. -/
inductive ChpSource where
  | ethernet (mac : Fin 2) (address : Word) (port : BitVec 16)
  | spi
deriving DecidableEq, Repr

/-- A received CHP frame in the fields of Table 18-3; the type is that of the command that carries it. -/
structure ChpFrame where
  source : ChpSource
  magic : BitVec 16 := 0x4843#16
  version : Octet := 1#8
  flags : Octet := 2#8
  length : BitVec 16
  session : Word
  sequence : Word
  result : Octet := 0#8
  index : Octet := 0#8
  reserved : BitVec 16 := 0#16
  body : List Octet
  mac : Option (BitVec 128)
deriving DecidableEq, Repr

/-- A reply that the host bridge sends (R472, R473). -/
structure Reply where
  session : Word
  sequence : Word
  kind : BitVec 16
  result : Octet
  body : List Octet
  mac : Option (BitVec 128)
  dest : ChpSource
deriving DecidableEq, Repr

/-- The PHR of a SUN FSK frame (R199). -/
structure Phr where
  modeSwitch : Bool := false
  fcsType : Nat := 0
  whitening : Bool := true
  length : Nat := 0
deriving DecidableEq, Repr

/-- A frame on air: its radio and channel, the device time of its first symbol, its destination (none for a broadcast), sequence number, frame
counter and key number, its payload in clear, and whether it was cut off; then its PHR and its PSDU as sent, its centre frequency in kHz and
its power in dBm. -/
structure AirFrame where
  radio : Nat
  channel : Nat
  start : Nat
  dest : Option Nat := none
  extended : Bool := false
  seq : Option Nat := none
  counter : Nat := 0
  key : Nat := 0
  payload : List Octet := []
  cut : Bool := false
  phr : Phr := {}
  psdu : List Octet := []
  kHz : Nat := 0
  power : Int := 0
deriving DecidableEq, Repr

/-- A satellite signal: system and SV (Table 4-2), signal code (Table 4-1), GLONASS frequency number. -/
structure SigId where
  system : Nat
  sv : Nat
  signal : Nat
  k : Int
deriving DecidableEq, Repr

/-- A search request (Table 4-6). -/
structure SearchReq where
  sig : SigId
  kind : Nat
  priority : Nat
  target : Nat
  codeStart : Nat
  codeWidth : Nat
  candidates : Nat
  spacing : Nat
  doppler : Int
  halfWidth : Nat
  step : Nat
  tc : Nat
  nnc : Nat
  tag : Nat
deriving DecidableEq, Repr

/-- One complex sample of a band's notched stream, in levels, with its blank mark (R90, R92, R96). -/
structure Sample where
  i : Int
  q : Int
  blank : Bool := false
deriving DecidableEq, Repr

/-- The complex sums of a channel's seven taps over a coherent interval (Table 5-1). -/
structure TapSums where
  ve : Int × Int
  early : Int × Int
  prompt : Int × Int
  late : Int × Int
  vl : Int × Int
  dataPrompt : Int × Int
  pilotPrompt : Int × Int
deriving DecidableEq, Repr

/-- One observation of an epoch (Table 6-1): pseudorange in 0.1 mm, carrier phase in 2^-16 cycle, Doppler in mHz,
C/N0 in 0.1 dB-Hz, published lock time in ms (R162), the flags and the exclusion cause (Table 6-5). -/
structure Obs where
  sig : SigId
  channel : Nat
  codePhase : Nat
  pr : Nat
  phase : Int
  doppler : Int
  cn0 : Nat
  lockTime : Nat
  half : Bool
  slip : Bool
  multipath : Bool
  notched : Bool
  notchChange : Bool
  cfgChanged : Bool
  bwLimited : Bool
  onData : Bool
  cause : Nat
  published : Bool
deriving DecidableEq, Repr

/-- A satellite at its transmit time from its broadcast ephemeris and clock (R149): ECEF and clock, all in 0.1 mm. -/
structure SatState where
  system : Nat
  sv : Nat
  x : Int
  y : Int
  z : Int
  clock : Int
deriving DecidableEq, Repr

/-- What firmware has decoded from the navigation data at an epoch (log 185): for each channel whose time of week is known the ms of device
time at which the span of its code phase began at the satellite (R146), the GLONASS slots by channel (R84), the satellites. -/
structure EpochIn where
  tow : List (Nat × Nat)
  slots : List (Nat × Nat)
  sats : List SatState
deriving DecidableEq, Repr

/-- What the evaluation of an audit snapshot yields (R169): satellites observed in two or more bands by both, the
ratio test in tenths, and the claimed fix minus the unit's computed position in mm. -/
structure Baseline where
  common : Nat
  ratio : Nat
  east : Int
  north : Int
  up : Int
deriving DecidableEq, Repr

/-- The survey in progress and the base it refers to (R148–R151): mirrored once per second (R153). -/
structure SurveyState where
  base : Nat := 0
  source : Nat := 0
  x : Int := 0
  y : Int := 0
  z : Int := 0
  form : Nat := 0
  refX : Int := 0
  refY : Int := 0
  refZ : Int := 0
  validS : Nat := 0
  sumX : Int := 0
  sumY : Int := 0
  sumZ : Int := 0
  blockX : Int := 0
  blockY : Int := 0
  blockZ : Int := 0
  blocks : List (Int × Int × Int) := []
  sigmaH : Nat := 0xFF
deriving DecidableEq, Repr

/-- A whole-second observation record of the lead as an EPOCH frame carries it (Table 6-2, R171, R153). -/
structure EpochFrame where
  second : Nat
  observations : List Obs
  survey : SurveyState
deriving DecidableEq, Repr

/-- What a whole second brings the servo: the clock bias of the second's solution in 0.1 ns, device time minus source time (R181), whether the
GPS week is known from navigation data, and the leap-second count where navigation data has supplied it in the second (R11). -/
structure SecondOffsets where
  gnss : Option Int
  weekKnown : Bool
  leap : Option Nat := none
deriving DecidableEq, Repr

/-- The data set of an Announce message that the best master selection compares (R190). -/
structure PtpRank where
  priority1 : Nat := 0
  clockClass : Nat := 0
  accuracy : Nat := 0
  variance : Nat := 0
  priority2 : Nat := 0
  identity : Nat := 0
  steps : Nat := 0
  sender : Nat := 0
deriving DecidableEq, Repr

/-- A PTP message at a port (R190): its type and domain as IEEE 1588 numbers them, whether it uses only the options of
Table 7-4, and its fields. `time` is the time-stamp it carries and `received` the device time of its start-of-frame
delimiter, both in 2^-16 ns with correction fields applied; `received` is before the PHY delay. -/
structure PtpMsg where
  kind : Nat
  domain : Nat
  supported : Bool
  sequence : Nat
  sender : Nat
  rank : PtpRank
  time : Nat
  received : Nat
  oneStep : Bool
deriving DecidableEq, Repr

/-- Duplicate rejection of one source (R223): the last accepted number and the window w[1..8] as bits. -/
structure DupState where
  last : Option Nat := none
  win : Nat := 0
deriving DecidableEq, Repr

/-- An accepted REPORT or ASK (Table 8-15) with the device time of its first symbol. -/
structure Report where
  ask : Bool
  span : Nat
  offset : Nat
  speed : Int
  state : Nat
  serial : Nat
  routeId : Nat
  index : Nat
  ahead : Nat
  progress : Nat
  tail : Nat
  time : Nat
deriving DecidableEq, Repr

/-- A route with each span's direction of travel: true from the from pier to the to pier (R275). -/
structure Route where
  id : Nat
  spans : List (Nat × Bool)
deriving DecidableEq, Repr

/-- A route as its parts give it (R218): the places filled and the last index when known. -/
structure RouteAsm where
  id : Nat
  places : Tab Nat := []
  last : Option Nat := none
deriving DecidableEq, Repr

/-- An audit snapshot being collected (R219): its epoch, fragment count and the payloads that have arrived. -/
structure AuditSnap where
  epoch : Nat
  count : Nat
  began : Nat
  parts : Tab (Option (List Octet)) := []
deriving DecidableEq, Repr

/-- The audit state of a session (R169, R170): hold with its cause, 0 FAIL or 1 OVERDUE, the last result as MEAS_AUDITs
numbers it, the second of the last conclusive result (or of the session's opening), the epochs already evaluated. -/
structure AuditState where
  hold : Bool := false
  cause : Nat := 0
  fails : Nat := 0
  passes : Nat := 0
  result : Nat := 0
  conclusive : Option Nat := none
  seen : List Nat := []
deriving DecidableEq, Repr

/-- One session as the radio keeps it (R227): 0 FREE, 1 OPEN, 2 SILENT. -/
structure RadioSess where
  state : Nat := 0
  identity : Nat := 0
  missed : Nat := 0
  heard : Bool := false
  silentCycles : Nat := 0
  dup : DupState := {}
  rssi : Int := 0
  span : Nat := 0
  offset : Nat := 0
  cls : Nat := 0
  report : Option Report := none
  asm : Option RouteAsm := none
  done : Option RouteAsm := none
  snap : Option AuditSnap := none
  audit : AuditState := {}
  closing : Bool := false
deriving DecidableEq, Repr

/-- One item of a NODE_REPORT (Table 8-21). -/
structure NodeItem where
  quantity : Nat
  sensor : Nat
  value : Int
deriving DecidableEq, Repr

/-- One roster node (R230, R231): 0 not yet heard, 1 ACTIVE, 2 LOST. `lastContact` is a device time, `guard` is in µs, and
`due` lies just after the last agreed contact that was received or missed. -/
structure NodeState where
  state : Nat := 0
  missed : Nat := 0
  dup : DupState := {}
  rssi : Int := 0
  guard : Nat := 50000
  due : Nat := 0
  lastContact : Option Nat := none
  lastSecond : Nat := 0
  battery : Nat := 0
  items : List NodeItem := []
  values : List NodeItem := []
  reported : Option Nat := none
deriving DecidableEq, Repr

/-- A unicast frame waiting in the queue of R225. `dest` is a short address, or for a JOIN_ACCEPT an EUI-64. -/
structure Unicast where
  radio : Nat
  kind : Nat
  dest : Nat
  extended : Bool
  payload : List Octet
  tick : Nat
  seq : Option Nat := none
  sent : Nat := 0
  first : Nat := 0
  last : Nat := 0
  serial : Nat := 0
deriving DecidableEq, Repr

/-- A task descriptor (Table 9-2). -/
structure Desc where
  task : Nat
  flow : Nat
  mask : Nat
  queue : Nat
  origin : Nat
  dest : Nat
  impl : Nat
  bound : Nat
  targets : List Int
  payload : Nat
  flags : Nat := 0
  progress : Nat := 0xFF
  interruptions : Nat := 0
  source : Nat := 0
  number : Nat := 0
  lastSession : Nat := 0xFFFF
  submitted : Nat := 0
  host : List Octet := []
  sequence : Nat := 0
deriving DecidableEq, Repr

/-- A fleet or core queue (R240): its ring from the read pointer to the write pointer, none for a hole, the absolute
position of the read pointer, and closing. -/
structure Queue where
  ring : List (Option Desc) := []
  rd : Nat := 0
  closing : Bool := false
deriving DecidableEq, Repr

/-- A task in service with the position it was taken from (none once the read pointer has freed it), the device time in
ms at which it was given, and whether it is CONFIRMED. -/
structure Service where
  desc : Desc
  slot : Option Nat
  given : Nat
  confirmed : Bool := false
deriving DecidableEq, Repr

/-- A worker: sessions 0–255 and cores 256–263. A parked ask is the mask that it carried and the tick it parked at;
`lastMask` is the effective mask of the last. -/
structure Worker where
  ask : Option (Nat × Nat) := none
  lastMask : Nat := 0
  task : Option Service := none
  retreat : Option Service := none
  suspended : Bool := false
  progress : Nat := 0xFF
  doneNow : Bool := false
  confirmedTasks : Nat := 0
deriving DecidableEq, Repr

/-- A flow (R251, R252, R261): the last worker, the hold's start in ms, the closed session that keeps its lock with
the spans it has still to give up. -/
structure Flow where
  last : Option Nat := none
  holdSince : Option Nat := none
  locked : Option Nat := none
  spans : List Nat := []
deriving DecidableEq, Repr

/-- A trigger rule's state for one node (R246): FIRED, and when it last fired. -/
structure Fired where
  fired : Bool := false
  at_ : Nat := 0
deriving DecidableEq, Repr

/-- The dispatcher's mirrored state (R264). Triggers are keyed rule × 4,096 + node. -/
structure Dsp where
  queues : Tab Queue := []
  workers : Tab Worker := []
  flows : Tab Flow := []
  triggers : Tab Fired := []
  ruleN : Tab Nat := []
  retreatN : Tab Nat := []
  pointer : Nat := 0
  energyMask : Bool := false
  sequence : Nat := 0
deriving DecidableEq, Repr

/-- A retreat reservation (R295, R297): the spans beyond the covered ones, and the retreat's task. -/
structure Retreat where
  spans : List Nat
  task : Nat
  taken : Bool := false
deriving DecidableEq, Repr

/-- One session as the arbiter keeps it. -/
structure ArbSess where
  seated : Bool := false
  cls : Nat := 0
  override : Bool := false
  cause : Nat := 0
  held : List Nat := []
  route : Option Route := none
  pending : Option Route := none
  index : Nat := 0
  ahead : Nat := 0
  age : Nat := 0
  blocked : Option Nat := none
  waits : Nat := 0x1FF
  serial : Nat := 0
  overdue : List Nat := []
  expected : List (Nat × Nat) := []
  overstayed : Bool := false
  resolving : Bool := false
  noEscape : Bool := false
  retreat : Option Retreat := none
  cause9 : Bool := false
  guestRefused : Bool := false
  first : Bool := true
deriving DecidableEq, Repr

/-- An orphan hold (R289). -/
structure Orphan where
  identity : Nat
  spans : List Nat
deriving DecidableEq, Repr

/-- A guest slot of this cell as owner (R299, R300): 0 free, 1 held, 2 LOST. -/
structure Guest where
  state : Nat := 0
  span : Nat := 0
  cell : Nat := 0
  session : Nat := 0
  cls : Nat := 0
  since : Nat := 0
deriving DecidableEq, Repr

/-- A guest request waiting at this owner (R299). -/
structure GuestAsk where
  cell : Nat
  span : Nat
  forward : Bool
  session : Nat
  cls : Nat
  age : Nat
  tried : Bool := false
deriving DecidableEq, Repr

/-- A circular wait being resolved or held (R295, R296). -/
structure Circle where
  members : List Nat
  victim : Option Nat
  since : Nat
deriving DecidableEq, Repr

/-- The arbiter's mirrored state (R301). -/
structure Xarb where
  sessions : Tab ArbSess := []
  orphans : Tab (Option Orphan) := []
  guests : Tab Guest := []
  asks : List GuestAsk := []
  pointer : Nat := 0
  used : List Nat := [0, 0]
  masked : List Bool := [false, false]
  circles : List Circle := []
  alarm : Bool := false
  cycle : List Nat := []
  cycleVictim : Option Nat := none
  cycleState : Nat := 0
  authSeq : Nat := 0
  forced : List Nat := []
deriving DecidableEq, Repr

/-- One segment of a plan (Table 8-14, shapes 0 and 1): duration ms, speed mm/s, acceleration mm/s², jerk mm/s³. -/
structure Seg where
  ms : Nat
  v : Int
  a : Int
  j : Int
deriving DecidableEq, Repr

/-- A published profile (Table 8-13). `start` is a device time in ms; `along` is the start position in mm along the
session's adopted route. -/
structure Profile where
  serial : Nat := 0
  authSerial : Nat := 0
  start : Nat := 0
  span : Nat := 0
  offset : Nat := 0
  shape : Nat := 0
  reverse : Bool := false
  gift : Bool := false
  authDist : Nat := 0
  segs : List Seg := []
  impl : Nat := 0
  targets : List Int := [0, 0, 0]
  endPier : Nat := 0xFFFF
  along : Int := 0
deriving DecidableEq, Repr

/-- The limits of a class or session: speed, acceleration, deceleration, jerk, shape. -/
structure Limits where
  speed : Nat := 0
  accel : Nat := 0
  decel : Nat := 0
  jerk : Nat := 0
  shape : Nat := 0
deriving DecidableEq, Repr

/-- The states of Table 11-1 as PROF_SESSn numbers them. -/
inductive ProfState where
  | none | standing | moving | stopping | stopped | resuming
deriving DecidableEq, Repr

/-- One session as the profiler keeps it. Positions are mm along the adopted route; `cleared` and `replan` are device
times in ms. -/
structure ProfSess where
  state : ProfState := .none
  base : Profile := {}
  earlier : List Profile := []
  cand : Option Profile := none
  latest : Option Profile := none
  join : Limits := {}
  limits : Limits := {}
  deferred : List (Nat × Nat) := []
  serial : Nat := 0
  cleared : Nat := 0
  rest : Option Int := none
  planEnd : Option Int := none
  stopPos : Option Int := none
  authority : Option Int := none
  vlimit : Nat := 0
  replan : Option Nat := none
  rejected : Bool := false
  due : Bool := false
  awaitRef : Option Nat := none
  reverse : Bool := false
  behind : Bool := false
  implLate : Bool := false
  margin : Int := 0
  planPos : Int := 0
  planSpeed : Int := 0
  planAccel : Int := 0
  error : Int := 0
  trips : Nat := 0
deriving DecidableEq, Repr

/-- The profiler's mirrored state (R330). -/
structure Prof where
  sessions : Tab ProfSess := []
deriving DecidableEq, Repr

/-- What one arbitration tick did that counters and wait statistics count, at a lead from its own decisions and at a
standby from the delta (R264, Table 10-7, Table 11-9). -/
inductive TickNews where
  | given (worker queue waitMs : Nat) (held expired : Bool)
  | done (worker : Nat)
  | returned
  | fired | coalesced | lookahead | accepted | refused
  | granted (spans : Nat)
  | contested | routed | overstayed | cycled | retreated | noEscape | forced (spans : Nat)
  | guestOut | guestIn
  | planned | deferred | behind | resumed
deriving DecidableEq, Repr

/-- The state of the fleet that the tick delta mirrors (Table 12-4): sessions, nodes, the duplicate state of extended sources, the
last accepted frame counter plus 1 of each identity's key, the next sequence number of each radio, queued unicast frames, the
dispatcher, the arbiter, the profiler, the causes, the stop serial and the go bits; and the mode. -/
structure Fleet where
  mode : Mode := .start
  sessions : Tab RadioSess := []
  nodes : Tab NodeState := []
  joins : Tab DupState := []
  counters : Tab Nat := []
  dsn : List Nat := [0, 0]
  unicast : List Unicast := []
  dsp : Dsp := {}
  xarb : Xarb := {}
  prof : Prof := {}
  cell : Nat := 0
  causes : Tab Nat := []
  serial : Nat := 0
  go : BitVec 256 := 0#256
deriving DecidableEq, Repr

/-- A tick delta on the Viaduct (R342, R344): its tick, whether its CRC and the digest of the result hold, the state
it leaves, what the tick did, and a key epoch switch it carries (R381). -/
structure TickDelta where
  tick : Nat
  crcOk : Bool
  digestOk : Bool
  fleet : Fleet
  news : List TickNews
  epochSwitch : Option (Nat × Nat)
deriving DecidableEq, Repr

/-- The source or destination address of a radio frame: a short address or an EUI-64. -/
inductive RadioAddr where
  | short (a : Nat)
  | ext (a : Nat)
deriving DecidableEq, Repr

/-- A frame as a radio receives it (R210, R221): the header fields that the filter reads, the key index and counter,
the payload in clear with its integrity code, the FCS result, the level, the device time of its first symbol. -/
structure RxFrame where
  phr : Phr := {}
  version : Nat
  pan : Nat
  dest : Option RadioAddr
  source : RadioAddr
  ackRequest : Bool
  fcsOk : Bool
  seq : Nat
  keyIndex : Nat
  counter : Nat
  payload : List Octet
  mic : BitVec 64
  rssi : Int
  time : Nat
deriving DecidableEq, Repr

/-- The samples that a metering channel of Table 15-1 gives in a block, oldest first: 24-bit codes of its modulator, or of the sinc³ decimator
of its bitstream (R411, R413). -/
structure BlockIn where
  channel : Nat
  samples : List Int
deriving DecidableEq, Repr

/-- SITE (Table 3-7). -/
structure SiteRec where
  siteId : Nat
  cell : Nat
  cells : Nat
  pan : Nat
  leap : Nat
  name : List Octet
deriving DecidableEq, Repr

/-- STATION (Table 3-8). -/
structure StationRec where
  baseMode : Nat
  constellations : Nat
  stationId : Nat
  ecefX : Int
  ecefY : Int
  ecefZ : Int
  surveyDuration : Nat
  epochRate : Nat
  airRate : Nat
  ethRate : Nat
  ageLimit : Nat
  ancillary : Nat
  uartRouting : Nat
  jumpThreshold : Nat
  stability : Nat
deriving DecidableEq, Repr

/-- UNIT (Table 3-9). -/
structure UnitRec where
  bias : Nat
  biasLimit : Nat
  reference : Nat
  pair : Nat
  holdoff : Nat
  vsense : Nat
  cableDelay : Nat
  refill : List Nat
  boostMax : Nat
  shortTest : Nat
deriving DecidableEq, Repr

/-- SPAN (Table 3-10). -/
structure SpanRec where
  span : Nat
  fromPier : Nat
  toPier : Nat
  flags : Nat
  length : Nat
  speed : Nat
  capacity : Nat
  zone : Nat
  retreat : Nat
  owner : Nat
deriving DecidableEq, Repr

/-- PIER (Table 3-11). -/
structure PierRec where
  pier : Nat
  kind : Nat
  meter : Nat
  flow : Nat
deriving DecidableEq, Repr

/-- ROBOT (Table 3-12). -/
structure RobotRec where
  identity : Nat
  mask : Nat
  cls : Nat
  flags : Nat
deriving DecidableEq, Repr

/-- CLASS (Table 3-13). -/
structure ClassRec where
  cls : Nat
  shape : Nat
  quota : Nat
  window : Nat
  speed : Nat
  accel : Nat
  decel : Nat
  jerk : Nat
  overstay : Nat
  auditPeriod : Nat
  auditH : Nat
  auditV : Nat
  envelope : Nat
deriving DecidableEq, Repr

/-- QUEUE (Table 3-14). -/
structure QueueRec where
  queue : Nat
  priority : Nat
  capLog : Nat
  flags : Nat
  affWait : Nat
  affWindow : Nat
deriving DecidableEq, Repr

/-- TRIGGER (Table 3-15). -/
structure TriggerRec where
  rule : Nat
  firstNode : Nat
  lastNode : Nat
  quantity : Nat
  comparison : Nat
  threshold : Int
  queue : Nat
  flow : Nat
  origin : Nat
  dest : Nat
  holdoff : Nat
deriving DecidableEq, Repr

/-- ENERGY_BUDGET (Table 3-16). -/
structure BudgetRec where
  point : Nat
  window : Nat
  cap : Nat
  hysteresis : Nat
deriving DecidableEq, Repr

/-- RADIO_PLAN (Table 3-17). -/
structure RadioPlanRec where
  radio : Nat
  band : Nat
  modulation : Nat
  rate : Nat
  mask : Nat
  seed : Nat
  power : Int
  frontEnd : Nat
deriving DecidableEq, Repr

/-- DECK_ENTRY (Table 3-18) with the eight octets of its Deck entry. -/
structure DeckRec where
  radio : Nat
  tick : Nat
  index : Nat
  entry : List Octet
deriving DecidableEq, Repr

/-- NODE (Table 3-19). -/
structure NodeRec where
  node : Nat
  kind : Nat
  tolerance : Nat
  identity : Nat
  wake : Nat
  contact : Nat
  pier : Nat
deriving DecidableEq, Repr

/-- LOOP (Table 3-20). -/
structure LoopRec where
  kind : Nat
  order : Nat
  ratio : Nat
  timing : Nat
  bandwidth : Nat
  clamp : Nat
  offset : Nat
deriving DecidableEq, Repr

/-- MPOINT (Table 3-21). -/
structure PointRec where
  point : Nat
  arrangement : Nat
  feeder : Nat
  sensor : Nat
  inputs : List Nat
  scale : Nat
  nominal : Nat
deriving DecidableEq, Repr

/-- ZONE (Table 3-22). -/
structure ZoneRec where
  zone : Nat
  free : Nat
  granted : Nat
  occupied : Nat
  tower : Nat
deriving DecidableEq, Repr

/-- STRING (Table 3-23). -/
structure StringRec where
  string : Nat
  zone : Nat
  colour : Nat
  current : Nat
  level : Nat
  flags : Nat
deriving DecidableEq, Repr

/-- NET (Table 3-24). -/
structure NetRec where
  mac : Nat
  flags : Nat
  chpPort : Nat
  address : Nat
  pfxLen : Nat
  ptpRole : Nat
  ptpDomain : Nat
  gateway : Nat
  macAddress : List Octet
  txDelay : Nat
  rxDelay : Nat
  rtcmPort : Nat
deriving DecidableEq, Repr

/-- ACCESS (Table 3-25). -/
structure AccessRec where
  host : Nat
  transports : Nat
  rights : Nat
  address : Nat
  slot : Nat
deriving DecidableEq, Repr

/-- The header of an image as read (Table 3-1) with its trailer's key index. -/
structure ImageHead where
  length : Nat
  generation : Nat
  sections : Nat
  target : Nat
  siteId : Nat
  buildTime : Nat
  digest : BitVec 384
  predecessor : BitVec 384
  keyIndex : Nat
deriving DecidableEq, Repr

/-- The records of an image in use, decoded (R66), with the SHA-384 of each shared section (R79). -/
structure Image where
  head : ImageHead
  site : SiteRec
  station : StationRec
  unit : UnitRec
  spans : List SpanRec
  piers : List PierRec
  robots : List RobotRec
  classes : List ClassRec
  queues : List QueueRec
  triggers : List TriggerRec
  budget : Option BudgetRec
  plans : List RadioPlanRec
  deck : List DeckRec
  nodes : List NodeRec
  loops : List LoopRec
  points : List PointRec
  zones : List ZoneRec
  strings : List StringRec
  nets : List NetRec
  accesses : List AccessRec
  shared : List (Nat × BitVec 384)
deriving DecidableEq, Repr

/-- A HEARTBEAT (Table 12-3) in its fields: `unit` 1 A, 2 B; stop inputs in run; times are device times; `step` is the
pending step in ns. -/
structure Heartbeat where
  version : Nat
  unit : Nat
  mode : Nat
  claim : Bool
  force : Bool
  saving : Bool
  sequence : Nat
  stopA : Bool
  stopB : Bool
  sent : Nat
  stamp : Nat
  health : Nat
  tick : Nat
  sigma : Int
  step : Int
  stepSecond : Nat
  ready : Nat
deriving DecidableEq, Repr

/-- What START meets at its balls, memories and self-test (R38): a step that hangs, the MRAM areas (bit a - 1 for area a)
and copies whose CRC fails, a sector that fails its read-back twice, the sector at which START's command ends within a copy (a power
failure may then follow), the seconds that the copies take, the self-test's
failures (Table 18-12's SELFTEST bits) with the detail of the record, START's length in ms; then what the decision of R42
reads: CLAIM_IN, whether the Viaduct has trained, and what the partner's CONFIG frames and HEARTBEAT give. -/
structure StartIn where
  stall : Option Nat
  areasBad : Nat
  selectorBad : Bool
  calBad : Nat
  checksBad : Nat
  keysBad : List Nat
  copyFault : Option Nat
  copyCut : Option Nat := none
  copySeconds : Nat
  failures : Nat
  detail : Nat
  duration : Nat
  supply : Nat
  claimIn : Bool
  viaduct : Bool
  partner : Option Image
  checks : List Nat
  protocol : Nat
deriving DecidableEq, Repr

/-- What a takeover measures and what the standby's radio had heard (R349, R350): its length in µs from lead loss to completion,
and the octets and CORR frames of the correction epoch that were heard in full. -/
structure TakeIn where
  duration : Nat
  corrOctets : Nat
  corrFrames : Nat
deriving DecidableEq, Repr

end Sys2Proof.Machine
end

