-- ==== Sys2Proof/Syntax.lean ====
section
/-! DEFINITION. The commands: one constructor per row of spec/opcode_table.json. A command is an event at the
block: a message, a frame, a pin, a register write with a row of its own, or a boundary the unit's clocks reach. -/

namespace Sys2Proof
open Sys2Proof.Machine

/-- The commands of the block, one constructor per row of the opcode table, in the table's order. -/
inductive Instr where
  /-- POWER_ON (R36): Supplies are in range, RESET_N is high and VSENSE has stood above its threshold plus hysteresis for 10 ms, so the unit leaves DORMANT and enters START with cause 0x01. -/
  | powerOn (pairSel : Bool)
  /-- RESET_N_ASSERTED (R44): RESET_N goes low; outside a save the unit enters START with cause 0x02, and during a save it acts only when the save has ended. -/
  | resetNAsserted
  /-- VDD_CORE_POR (R35): VDD_CORE falls below its power-on-reset level and the unit enters DORMANT without writing a record. -/
  | vddCorePor (areas : Fin 8)
  /-- RAIL_MONITOR_TRIP (R499): A VDD_SRAM, VDD_IO18 or VDD_IO33 monitor trips and acts as RESET_N asserted. -/
  | railMonitorTrip
  /-- START (R38): START runs its steps in order, from PLL lock through the self-test, and ends at the decision of R42. -/
  | start (input : StartIn)
  /-- START_TIMEOUT (R39): The 5 s START watchdog expires, so START_TIMEOUT is recorded and START restarts with cause 0x05. -/
  | startTimeout
  /-- DEGRADED_SUCCESSION_RESET (R39): After 60 s in a service mode without degradation, the count of degraded restarts in succession returns to 0. -/
  | degradedSuccessionReset
  /-- FIRMWARE_WATCHDOG (R44): A running core has not serviced its watchdog for 100 ms, so the unit restarts with cause 0x06. -/
  | firmwareWatchdog
  /-- VIADUCT_WAIT_RETRY (R42): A unit waiting in START because the Viaduct is down decides again when the Viaduct trains or when CLAIM_IN has stayed released for 2 µs. -/
  | viaductWaitRetry (partner : Option Image) (checks : List Nat) (protocol : Nat)
  /-- PAIR_MISMATCH_RECHECK (R43): A unit held by PAIR_MISMATCH classifies again when the partner shows a new protocol version or sends new CONFIG frames. -/
  | pairMismatchRecheck (partner : Option Image) (checks : List Nat) (protocol : Nat)
  /-- POWER_FAIL_DETECT (R46): VSENSE stays below its threshold for 2 µs; the save begins and its steps stop the domains and write the areas to MRAM. -/
  | powerFailDetect (blocks : List BlockIn)
  /-- SAVE_END (R47): The commit word is written and the save ends. -/
  | saveEnd
  /-- POWER_RESTORED (R51): VSENSE has stood above its threshold plus hysteresis for 10 ms after the save ended, so the unit enters START with cause 0x08, or 0x04 if it became degraded. -/
  | powerRestored
  /-- OPTIME_TICK (R54): Each second with VDD_CORE in range increments the saturating operating time. -/
  | optimeTick
  /-- COUNTER_CHECKPOINT (R55): At each 10 s checkpoint the unit copies the operating time, the power-cycle count and the restart count to MRAM. -/
  | counterCheckpoint
  /-- TRESTLE_WINDOW (R18): At every whole microsecond of the FRC every master's Trestle quota reloads. -/
  | trestleWindow (cycles : List BankCycle)
  /-- BANK_OVERSTAY (R19): A master has held a bank for more than 256 cycles, so it is cut off, its write buffer is discarded and it is frozen. -/
  | bankOverstay (master : Fin 13) (secure : Bool) (address : Nat)
  /-- WORLD_WINDOW_VIOLATION (R20): An access outside every window of its master's current world is not performed, and the master is frozen. -/
  | worldWindowViolation (master : Fin 13) (secure : Bool) (access : Fin 3) (address : Nat)
  /-- SCRUB_ACCESS (R24): A scrubber step reads a word, and a correctable error is corrected, written back and counted. -/
  | scrubAccess (scrubber : Bool) (site : EccSite) (finding : EccFinding) (address : Nat)
  /-- TABLE_COMMIT (R28): Firmware sets the commit flag of a sequenced table, after which writes to its shadow copy are refused until the exchange. -/
  | tableCommit (table : Fin 5) (entries : List (Nat × List Octet)) (commit : Bool)
  /-- TABLE_EXCHANGE (R28): At a table's boundary the sequencer exchanges the active and shadow copies when the commit flag was set at least 50 µs before. -/
  | tableExchange (table : Fin 5)
  /-- ARBITRATION_TICK (R30): A whole 10 ms boundary opens the arbitration tick, which takes its snapshot and runs the arbiter, dispatch and profiler stages up to commit. -/
  | arbitrationTick
  /-- PUBLISH_DEADLINE (R32): No acknowledgement has arrived by t0 + 8 ms, so the lead publishes the tick and marks the standby not mirrored. -/
  | publishDeadline
  /-- SPECTRUM_MONITOR_RUN (R98): A monitor run averages FFTs per band, finds lines, assigns and releases notches, and raises or clears flags. -/
  | spectrumMonitorRun (band : Fin 3) (power : List Int)
  /-- NOTCH_ENGAGED (R93): An acquiring notch's output power at its line has fallen by 20 dB, so the notch is engaged. -/
  | notchEngaged (band : Fin 3) (notch : Fin 4) (offset : Int) (depth : BitVec 6)
  /-- BLANK_EVAL (R97): The blanked fraction of each whole millisecond is evaluated against BLANK_SAT and LOW_JAMMED. -/
  | blankEval (hits : List (Nat × Nat))
  /-- AGC_REFERENCE_UPDATE (R91): The AGC reference gain is learned after 600 s free of flags, then tracked, and WIDEBAND is evaluated against it. -/
  | agcReferenceUpdate (band : Fin 3) (need : Int) (full : BitVec 8) (blanking : Bool)
  /-- SEARCH_REQUEST (R102): Firmware submits a search request, which the Lake refuses with a code or places in the FIFO. -/
  | searchRequest (request : List Octet) (defaults : Bool)
  /-- SEARCH_RECORD_DONE (R107): A slot's record completes: on a parity error it is discarded and recorded again, otherwise it is accumulated. -/
  | searchRecordDone (slot : Fin 96) (parityError : Option Nat) (doppler : Int) (ratio : Nat)
  /-- SEARCH_DONE (R105): After n_nc records the detection ratio decides between VERIFY and NOT_FOUND. -/
  | searchDone (slot : Fin 96)
  /-- VERIFY_DONE (R105): The verification dwell ends, passing or failing, with the cross-correlation check, and hands over or waits for a channel. -/
  | verifyDone (slot : Fin 96) (ratio : Nat) (cn0 : Nat) (codePhase : Nat) (doppler : Int)
  /-- NO_CHANNEL (R107): 200 ms pass in WAIT_CHANNEL and the slot returns to IDLE with outcome NO_CHANNEL. -/
  | noChannel (slot : Fin 96)
  /-- HANDOVER_ACCEPTED (R108): The channel accepts the handed-over code phase and Doppler, and the slot ends with outcome CONFIRMED. -/
  | handoverAccepted (slot : Fin 96)
  /-- SEARCH_CANCEL (R109): Firmware cancels a search by its tag, and the slot ends with outcome CANCELLED. -/
  | searchCancel (tag : BitVec 16)
  /-- AID_REQUEUE (R110): Each whole second an aided request refused as FIFO_FULL or JAMMED is queued again while its source stays locked. -/
  | aidRequeue
  /-- LAKE_DOMAIN_STOP (R111): After 10 ms with no slot busy, no request waiting and no run pending, the Lake domain stops. -/
  | lakeDomainStop
  /-- ANT_OPEN (R88): The bias current has stayed below 2 mA for 1 s, so the bias state enters OPEN. -/
  | antOpen (current : BitVec 8) (voltage : BitVec 12)
  /-- ANT_OPEN_RESTORED (R88): The bias current has stayed at or above 4 mA for 1 s, so OPEN returns to ON. -/
  | antOpenRestored (current : BitVec 8) (voltage : BitVec 12)
  /-- ANT_SHORT (R88): The bias current has been at the limit, or the output low, for 2 ms, so the switch opens and SHORT_WAIT begins. -/
  | antShort (current : BitVec 8) (voltage : BitVec 12)
  /-- ANT_SHORT_WAIT_END (R88): 1 s after a short, the bias returns to ON or latches off at the fifth consecutive short. -/
  | antShortWaitEnd (current : BitVec 8) (voltage : BitVec 12)
  /-- ANT_SHORT_COUNT_RESET (R88): 60 s in ON without a short reset the consecutive-short count. -/
  | antShortCountReset
  /-- ANT_SUPPLY_FAULT (R88): ANT_BIAS_SUP has been outside ±10 % for 10 ms, so the switch opens in SUPPLY_FAULT. -/
  | antSupplyFault (current : BitVec 8) (voltage : BitVec 12) (supply : Nat)
  /-- ANT_SUPPLY_RESTORED (R88): ANT_BIAS_SUP has been back within ±10 % for 1 s, so the bias returns to ON. -/
  | antSupplyRestored (current : BitVec 8) (voltage : BitVec 12) (supply : Nat)
  /-- ANT_RETRY (R88): A write of RETRY to LAKE_ANT_CTL returns a LATCHED_OFF bias to ON and sets the count to 0. -/
  | antRetry
  /-- VDD_IO33_LOSS (R87): The loss of VDD_IO33 returns the antenna bias switch to PASSIVE. -/
  | vddIo33Loss
  /-- SPEC_LATCH (R98): A write of LATCH to LAKE_SPEC_SEL copies the selected band's last spectrum into LAKE_SPEC. -/
  | specLatch (value : Word)
  /-- PAIR_WIDE_REG_APPLY (R115): A pair-wide register write takes effect in both units at the next whole second of device time. -/
  | pairWideRegApply
  /-- COHERENT_INTERVAL_END (R116): A channel's coherent interval ends: its taps yield accumulations, and C/N0, PLI, multipath, synchronisation and lock are evaluated. -/
  | coherentIntervalEnd (c : Fin 288) (samples : List Sample) (symbol : Option (Bool × Nat))
  /-- FLL_TIME_END (R124): FLL_TIME after a handover elapses and the carrier loop drops frequency assist. -/
  | fllTimeEnd (c : Fin 288)
  /-- PULLIN_FAILED (R124): PULLIN_MAX elapses without lock, so the channel goes FREE and queues a reacquisition request. -/
  | pullinFailed (c : Fin 288)
  /-- CH_DROPPED (R124): COAST_MAX elapses in COAST, so the channel goes FREE and queues a reacquisition request. -/
  | chDropped (c : Fin 288)
  /-- REACQ_REQUEUE (R125): Each second for up to 60 s a refused reacquisition request is queued again. -/
  | reacqRequeue
  /-- POLARITY_REPORT (R127): Firmware reports the polarity of a checked preamble or time mark, which clears HALF or makes a half-cycle slip. -/
  | polarityReport (c : Fin 288) (inverted : Bool)
  /-- TRK_CH_CFG_WRITE (R139): A write to TRK_CHc_CFG is refused or accepted, and it takes effect at the channel's next period boundary. -/
  | trkChCfgWrite (c : Fin 288) (value : Word)
  /-- LOOP_PERIOD_BOUNDARY (R133): At a loop object's period boundary the engine computes its output and applies whole-period outputs and set-points. -/
  | loopPeriodBoundary (object : Fin 580) (sample : Int)
  /-- FIXED_PHASE_APPLY (R133): At its fixed-phase offset a fixed-phase object's output is applied. -/
  | fixedPhaseApply (object : Fin 580)
  /-- EPOCH_LATCH (R145): An epoch latches every channel and runs the processing of Table 6-2 through record, checks, RTCM assembly and output. -/
  | epochLatch (sky : EpochIn)
  /-- AUDIT_EVALUATE (R169): A complete audit snapshot is evaluated against the base ring and the session's fail count and audit hold are updated. -/
  | auditEvaluate (session : Fin 256) (sats : List SatState)
  /-- AUDIT_OVERDUE (R170): 3 × P elapse without a conclusive result, so the session enters audit hold with cause OVERDUE. -/
  | auditOverdue (session : Fin 256)
  /-- AUDIT_SNAPSHOT_DISCARD (R219): An incomplete audit snapshot is discarded after 10 s. -/
  | auditSnapshotDiscard (session : Fin 256)
  /-- ANCHOR_UPDATE (R179): At each whole second the time anchor and rate are renewed and the servo takes its offset and makes its transitions. -/
  | anchorUpdate (offsets : SecondOffsets)
  /-- REF_FAULT (R180): The reference stops or departs beyond ±200 ppm, so the system PLL unlocks and the unit is degraded. -/
  | refFault (deviation : Int)
  /-- TIME_STEP (R187): A CHP time-step message is accepted or refused with a reason, and an accepted step is scheduled at w. -/
  | timeStep (frame : ChpFrame)
  /-- STEP_APPLY (R187): At w a pending step moves the anchor, re-arms the boundaries, empties the base ring and is recorded. -/
  | stepApply
  /-- PPS_EDGE (R188): A PPS output drives its edge at a whole multiple of its period plus its offset. -/
  | ppsEdge (output : Fin 2)
  /-- EVT_CAPTURE (R189): A selected edge on EVT_INn is time-stamped into its FIFO, or counted missed or dropped. -/
  | evtCapture (input : Fin 8) (rising : Bool) (quarter : Fin 4)
  /-- EVT_POP (R189): A write to TIME_EVT_POP removes the head entry of each named input. -/
  | evtPop (value : Word)
  /-- PTP_MESSAGE_RX (R190): A PTP message arrives at a port and is stamped, used by the port or ignored and counted. -/
  | ptpMessageRx (mac : Fin 2) (message : PtpMsg)
  /-- PTP_TX (R191): A master or slave port sends a PTP event message and queues its transmit stamp, or drops it when the queue is full. -/
  | ptpTx (mac : Fin 2) (follow : Option Nat)
  /-- TXTS_STALE (R191): A transmit stamp not taken within 1 s is discarded and counted as stale. -/
  | txtsStale (mac : Fin 2)
  /-- RADIO_WAKE (R27): The sequencer wakes a radio 300 µs before an entry that uses it. -/
  | radioWake (radio : Fin 2)
  /-- RADIO_SLEEP (R27): A gap of more than 600 µs before the next entry lets the radio domain stop. -/
  | radioSleep (radio : Fin 2)
  /-- BEACON_ENTRY (R212): A BEACON entry transmits the beacon and reads FSTOP at its first bitmap octet. -/
  | beaconEntry
  /-- BEACON_START_TIMEOUT (R235): A lead's beacon has not started by 1.0 ms into its entry, which is a transmit failure that releases the claim. -/
  | beaconStartTimeout
  /-- STOP_ENTRY (R214): A STOP entry samples FSTOP 250 µs before its start and sends a STOP frame when a cell cause or newly cleared go bits call for one. -/
  | stopEntry
  /-- CORR_ENTRY (R215): A CORR entry sends the next CORR frame of queued correction octets. -/
  | corrEntry
  /-- DOWN_ENTRY (R225): A DOWN entry sends queued unicast frames, or on Deck B SYNC and TOWER_COMMIT, in order and with retransmissions. -/
  | downEntry (radio : Fin 2)
  /-- UP_ASSIGNED_ENTRY (R207): An UP-ASSIGNED entry receives the named session's frame. -/
  | upAssignedEntry
  /-- UP_CONTENTION_ENTRY (R207): An UP-CONTENTION entry receives throughout, and with CONTACTS only node contacts. -/
  | upContentionEntry (radio : Fin 2)
  /-- CEILING_ACK_TIMEOUT (R224): A standby that has not acknowledged a CEILING within 100 ms is no longer mirrored, and the lead may use the new ceiling. -/
  | ceilingAckTimeout
  /-- FRAME_RECEIVED (R221): A received frame passes the FCS, header and MIC checks and duplicate rejection, and is acknowledged, or is dropped and counted. -/
  | frameReceived (radio : Fin 2) (frame : RxFrame)
  /-- REPORT (R217): A REPORT is accepted and feeds the next snapshot's release, request, supervision, task confirmation and candidate resolution. -/
  | report
  /-- ASK (R248): An ASK parks or replaces the session's ask with its effective queue mask. -/
  | ask
  /-- ROUTE (R218): A ROUTE part is assembled into the session's route, and the route completes when its parts cover it. -/
  | route
  /-- AUDIT (R219): An AUDIT fragment is collected, and the snapshot is evaluated once every fragment has arrived. -/
  | audit
  /-- JOIN (R227): A JOIN opens or confirms a session under R229 and queues JOIN_ACCEPT, or is rejected with a result. -/
  | join
  /-- ACK_RECEIVED (R222): A partner's acknowledgement ends the retransmission of a unicast frame and completes a CLOSE. -/
  | ackReceived (radio : Fin 2) (seq : BitVec 8)
  /-- SESSION_SILENT (R227): Three consecutive cycles without an accepted frame make the session SILENT and set cause SILENT. -/
  | sessionSilent (session : Fin 256)
  /-- NODE_REPORT (R230): A NODE_REPORT is accepted, restores the node to ACTIVE and feeds the trigger rules. -/
  | nodeReport
  /-- NODE_CONTACT_MISSED (R231): An agreed contact passes without a frame, and after three misses the node is LOST. -/
  | nodeContactMissed (node : BitVec 12)
  /-- NODE_DATA_SEND (R232): 1.0 ms after an acknowledgement with the pending bit set, the unit sends NODE_DATA. -/
  | nodeDataSend
  /-- PLL_UNLOCK (R235): A synthesiser loses lock, so the radio skips the rest of the entry. -/
  | pllUnlock (radio : Fin 2)
  /-- PA_FAULT (R235): A PA detector trips, so the PA is disabled for the rest of the entry. -/
  | paFault (radio detector : Fin 2) (power : BitVec 16)
  /-- TASK_SUBMIT (R244): A TASK_SUBMIT message is taken into the next snapshot and answered after publication with per-descriptor outcomes. -/
  | taskSubmit (frame : ChpFrame)
  /-- CORE_ASK (R249): A core asks with a mask over queues 28–31 and receives a descriptor or halts. -/
  | coreAsk (core : Fin 8) (mask : BitVec 4)
  /-- CORE_DESCRIPTOR_ARRIVE (R249): A descriptor arrives in a core queue and wakes the lowest-numbered halted core asking on it. -/
  | coreDescriptorArrive (queue : Fin 4) (descriptor : List Octet)
  /-- CORE_TASK_COMPLETE (R256): Firmware completes a core task and it leaves GIVEN. -/
  | coreTaskComplete (core : Fin 8)
  /-- DSP_FLUSH (R267): A write to DSP_FLUSH empties the named queues within 1 µs. -/
  | dspFlush (value : Word)
  /-- DSP_STAT_CLR (R271): A write of WAIT clears the wait statistics of every queue. -/
  | dspStatClr
  /-- PEEK_LATCH (R271): A write of LATCH to DSP_PEEK_SEL copies the selected descriptor into DSP_PEEK0–15. -/
  | peekLatch (queue : Fin 32) (index : Fin 4096) (bad : Option Bool)
  /-- XARB_CLASS_SET (R292): A write to XARB_CLASS_SET orders a class change that the lead applies at the next snapshot. -/
  | xarbClassSet (session : Fin 256) (cls : Fin 4)
  /-- XARB_ALARM_CLR (R296): A write to XARB_ALARM_CLR ends every NO_ESCAPE hold at the next tick. -/
  | xarbAlarmClr
  /-- FORCE_RELEASE (R298): A FORCE_RELEASE message releases a span, session, orphan hold or guest slot at the next arbiter stage and sets cause FORCE_RELEASE. -/
  | forceRelease (frame : ChpFrame)
  /-- GUEST_REQUEST (R299): An owner cell receives a guest request and evaluates it after its own sessions. -/
  | guestRequest (frame : ChpFrame)
  /-- GUEST_ANSWER (R299): A guest cell receives a grant, refusal, force-release or release acknowledgement for a border span. -/
  | guestAnswer (frame : ChpFrame)
  /-- GUEST_RELEASE (R300): An owner receives a guest's release and frees the guest slot at its next tick. -/
  | guestRelease (frame : ChpFrame)
  /-- GUEST_RELEASE_RESEND (R487): Every 1 s an unanswered GUEST_RELEASE is sent again. -/
  | guestReleaseResend
  /-- BACKBONE_ALIVE (R487): Each whole second a lead that holds or owns a guest slot sends, or receives, BACKBONE_ALIVE. -/
  | backboneAlive (received : Option ChpFrame)
  /-- GUEST_LOST (R300): 10 s without a message from the guest's cell marks the guest slot LOST. -/
  | guestLost (cell : Fin 64)
  /-- STOP_INPUT (R323): A level on STOP_A or STOP_B held for 0.5 ms passes the filter and sets or allows clearing of INPUT. -/
  | stopInput (input : Fin 2) (high : Bool)
  /-- DISCREPANCY (R321): STOP_A and STOP_B have differed for more than 20 ms, so cause DISCREPANCY is set. -/
  | discrepancy
  /-- STOP (R324): A CHP STOP sets HOST in the cell or a session within 50 µs. -/
  | stop (frame : ChpFrame)
  /-- RELEASE (R324): A CHP RELEASE, taken at the next snapshot, clears the host-clearable causes whose conditions hold and reports the rest. -/
  | release (frame : ChpFrame)
  /-- ROBOT_CLOSE (R482): A ROBOT_CLOSE orders the host close of a session, and the unit queues CLOSE. -/
  | robotClose (frame : ChpFrame)
  /-- CLAIM_DECISION (R337): A unit decides to claim and asserts CLAIM_OUT once CLAIM_IN has been released for 2 µs. -/
  | claimDecision (take : TakeIn)
  /-- CLAIM_B_RECHECK (R337): Unit B samples CLAIM_IN again 10 µs after its decision and asserts CLAIM_OUT only if it stayed released. -/
  | claimBRecheck (released : Bool) (take : TakeIn)
  /-- CLAIM_CONFLICT (R340): CLAIM_IN is asserted for 20 µs while the unit holds its claim, and unit B releases and restarts. -/
  | claimConflict
  /-- FORCE_IN_ASSERTED (R338): FORCE_IN rises, so the hardware gate closes and the claim is released within 100 ns. -/
  | forceInAsserted
  /-- HEALTH_REFRESH (R339): Firmware refreshes the health word that permits heartbeats. -/
  | healthRefresh
  /-- HEARTBEAT_SEND (R343): At each whole 500 µs the pair controller sends a HEARTBEAT if health permits. -/
  | heartbeatSend
  /-- HEARTBEAT_KEEPALIVE_EXPIRY (R339): 1.0 ms after the last heartbeat sent, or that would have been sent, the claim is released. -/
  | heartbeatKeepaliveExpiry
  /-- HEARTBEAT_RECEIVED (R343): A HEARTBEAT arrives and carries the time exchange, the partner's health, inputs, sigma, step and readiness. -/
  | heartbeatReceived (beat : Heartbeat) (crcOk : Bool) (received : Nat)
  /-- HEARTBEAT_MISSED (R343): No valid HEARTBEAT has arrived 100 µs after its whole 500 µs, and four in a row mark VIADUCT_DOWN. -/
  | heartbeatMissed
  /-- VIADUCT_LINK_DOWN (R341): A lane has been without block lock for 10 µs, so the link is down. -/
  | viaductLinkDown (lanes : Fin 4)
  /-- VIADUCT_LINK_UP (R341): The Viaduct retrains and the link comes up. -/
  | viaductLinkUp (training : Nat)
  /-- TICK_DELTA (R344): A standby applies a TICK_DELTA in tick order and acknowledges it, or stops being mirrored. -/
  | tickDelta (delta : TickDelta)
  /-- DELTA_ACK (R32): The lead receives the standby's acknowledgement and publishes the tick. -/
  | deltaAck (tick : Nat) (digestOk : Bool) (ceiling : Bool)
  /-- EPOCH_FRAME (R171): An EPOCH frame from the lead updates the standby's alignment offsets and mirrored survey state. -/
  | epochFrame (frame : EpochFrame)
  /-- CEILING (R224): A standby receives a raised ceiling and acknowledges it. -/
  | ceiling (key ceiling : Nat)
  /-- REGISTER_FRAME (R115): A standby receives a pair-wide register write with its whole second of effect. -/
  | registerFrame (address : Nat) (value : Word) (second : Nat)
  /-- CONFIG_FRAME (R80): A CONFIG frame carries shared sections and digests for classification and the change list. -/
  | configFrame (partner : Image) (checks : List Nat)
  /-- RESYNC (R345): A RESYNC block is applied, and the standby is mirrored once a delta lands on a complete image. -/
  | resync (tick : Nat) (image : Option Fleet)
  /-- HANDOVER_REQUEST (R353): Unit A, after its hold-off and with readiness met, requests a handover in a HANDOVER frame. -/
  | handoverRequest
  /-- HANDOVER_GRANT (R353): The lead grants a handover for the first tick that has a swap instant. -/
  | handoverGrant (tick : Nat)
  /-- HANDOVER_REFUSED (R353): The lead refuses a handover with NOT_READY, NO_GAP or PENDING. -/
  | handoverRefused (reason : Fin 3)
  /-- HANDOVER_RETRY (R353): After each further 10 s of clean health, unit A asks again. -/
  | handoverRetry
  /-- SWAP_INSTANT (R354): At the swap instant the lead releases its claim and enters SHADOW, and the standby claims into the lead's mode. -/
  | swapInstant (take : TakeIn)
  /-- PAIR_CTL_HANDOVER (R353): A write of HANDOVER to PAIR_CTL at the lead requests a handover to the standby. -/
  | pairCtlHandover
  /-- FORCE_CLR (R348): A write of FORCE_CLR to PAIR_CTL releases this unit's FORCE_OUT. -/
  | forceClr
  /-- CLAIM_IN_RELEASED (R346): The standby sees CLAIM_IN released with no handover granted and takes over. -/
  | claimInReleased (take : TakeIn)
  /-- BEACON_WATCH (R346): No preamble of the lead's beacon by 1.0 ms into the entry leads to a takeover if CLAIM_IN is released by 1.47 ms. -/
  | beaconWatch (heard : Bool) (released : Option Nat) (take : TakeIn)
  /-- FORCE_OUT_ASSERT (R348): At 1.2 ms into the third consecutive missed window the standby asserts FORCE_OUT. -/
  | forceOutAssert
  /-- CRYPTO_JOB (R370): A master invokes a key, and the engine performs the job or records a use violation and freezes the master. -/
  | cryptoJob (master : Fin 13) (secure : Bool) (key : Fin 67) (op : Fin 5)
  /-- KEY_UPDATE_AUTHORITY (R376): An AUTHORITY key update burns the authority digest and its programmed bit. -/
  | keyUpdateAuthority (frame : ChpFrame)
  /-- KEY_UPDATE_WRITE (R376): A WRITE key update writes a key slot. -/
  | keyUpdateWrite (frame : ChpFrame)
  /-- KEY_UPDATE_ERASE (R376): An ERASE key update zeroes a key slot. -/
  | keyUpdateErase (frame : ChpFrame)
  /-- KEY_UPDATE_EPOCH_SWITCH (R381): An EPOCH_SWITCH key update schedules the next epoch at GPS second S. -/
  | keyUpdateEpochSwitch (frame : ChpFrame)
  /-- KEY_UPDATE_CONFIG_KEY (R376): A CONFIG_KEY key update burns a configuration key digest and its programmed bit. -/
  | keyUpdateConfigKey (frame : ChpFrame)
  /-- KEY_UPDATE_CONFIG_REVOKE (R376): A CONFIG_REVOKE key update burns the revoked bit of an index. -/
  | keyUpdateConfigRevoke (frame : ChpFrame)
  /-- KEY_UPDATE_LIFECYCLE (R373): A LIFECYCLE key update writes a pending life-cycle record and restarts the unit. -/
  | keyUpdateLifecycle (frame : ChpFrame)
  /-- KEY_UPDATE_FLOOR (R376): A FLOOR key update raises the monotonic counter only. -/
  | keyUpdateFloor (frame : ChpFrame)
  /-- EPOCH_SWITCH_APPLY (R381): At cycle boundary S both units move the next masters in, derive the new radio keys and restart their counters. -/
  | epochSwitchApply
  /-- PREVIOUS_EPOCH_CLEAR (R381): At S + 10 s the previous epoch's keys are cleared and its uplinks are no longer accepted. -/
  | previousEpochClear
  /-- TAMPER (R385): A tamper source detects, and within 5 µs the key store is zeroed, the caches are cleared, the latch is set and TAMPER is set. -/
  | tamper (sources : BitVec 9)
  /-- VBAT_LOW (R383): VBAT falls below 1.9 V while VDD_IO33 is in range and VBAT_LOW is recorded. -/
  | vbatLow (vbat : Nat)
  /-- TEMP_HIGH (R460): The die temperature exceeds the junction maximum, or rises again after a fall of 5 °C below it. -/
  | tempHigh (temperature : Int)
  /-- UPDATE_BEGIN (R396): UPDATE_BEGIN resumes a download of the same image or clears the state for a new one. -/
  | updateBegin (frame : ChpFrame)
  /-- UPDATE_BLOCK (R397): UPDATE_BLOCK checks, erases when needed, programs and reads back one block of STAGING. -/
  | updateBlock (frame : ChpFrame) (failures : Fin 3)
  /-- UPDATE_QUERY (R397): UPDATE_QUERY returns the bitmap of received blocks. -/
  | updateQuery (frame : ChpFrame)
  /-- UPDATE_VERIFY (R398): UPDATE_VERIFY is refused or starts verification of STAGING. -/
  | updateVerify (frame : ChpFrame)
  /-- VERIFY_COMPLETE (R398): Verification of STAGING ends, and on success a PENDING journal record is written. -/
  | verifyComplete
  /-- VERIFY_RESTART (R399): At the first service-mode entry after START an interrupted verification starts again. -/
  | verifyRestart
  /-- TRIAL_CONFIRM (R405): The trial's health conditions hold, so the image is confirmed and the revoke mask is burnt. -/
  | trialConfirm
  /-- TRIAL_EXPIRED (R406): The trial window expires without confirmation, so REVERT is written and the unit restarts with cause 0x07. -/
  | trialExpired
  /-- UPD_CANCEL (R408): A write of CANCEL to UPD_CTL withdraws a pending image and clears the download state. -/
  | updCancel
  /-- UPD_REVERT (R406): A write of REVERT to UPD_CTL during a trial reverts with outcome 4. -/
  | updRevert
  /-- METER_BLOCK (R417): A 10 ms energy block ends and its energies are added to the accumulators. -/
  | meterBlock (blocks : List BlockIn)
  /-- METER_SECOND (R419): At each whole second the RMS values, powers, frequency and validity are published. -/
  | meterSecond
  /-- METER_CHECKPOINT (R425): Every 10 s the accumulators and maximum powers are written to MRAM. -/
  | meterCheckpoint (failure : Option (BitVec 8))
  /-- BITSTREAM_FAULT (R413): MDATn holds one level for 64 MCLK cycles, so the bitstream is in fault. -/
  | bitstreamFault (pair : Fin 8)
  /-- BITSTREAM_RECOVERED (R413): 1,024 cycles pass without such a run and the bitstream fault ends. -/
  | bitstreamRecovered (pair : Fin 8)
  /-- SNAPSHOT_LATCH (R423): A write of LATCH to MET_SNAP_CTL latches every accumulator with device time and sequence numbers. -/
  | snapshotLatch
  /-- CAL_WRITE (R416): A MET_CALc write is refused outside VENDOR and SERVICE, or writes the calibration record and applies it at the next second. -/
  | calWrite (channel : Fin 38) (half : Fin 2) (value : Word)
  /-- LUM_BASE_PERIOD (R442): A string's base period ends and is evaluated for OPEN, STALE and overvoltage. -/
  | lumBasePeriod (string : Fin 24) (sink : Nat) (current : Nat)
  /-- DIAG_PULSE (R443): Once every 1,024 base periods a diagnostic pulse is inserted for an enabled dim or dark string. -/
  | diagPulse (string : Fin 24)
  /-- BOOST_HEADROOM_PERIOD (R440): Each 500 µs headroom period takes the lowest sink voltage among strings in regulation. -/
  | boostHeadroomPeriod (sinks : List (Fin 24 × Nat × Nat)) (output : Nat)
  /-- BST_CS_TRIP (R439): BST_CS exceeds 150 mV and the gate pulse of that cycle ends. -/
  | bstCsTrip
  /-- BOOST_FAULT (R441): An overvoltage or undervoltage puts the boost in FAULT_WAIT, with the gate low and every sink off. -/
  | boostFault (excess : Bool) (output : Nat)
  /-- BOOST_FAULT_WAIT_END (R441): After 1 s in FAULT_WAIT the boost soft-starts again or latches. -/
  | boostFaultWaitEnd
  /-- BOOST_RUN (R441): The output comes within 5 % of the set-point and the boost enters RUN. -/
  | boostRun (output : Nat)
  /-- BOOST_RETRY (R441): A write of BOOST_RETRY to LUM_CTL takes a LATCHED boost to SOFT_START. -/
  | boostRetry
  /-- STRING_RETRY (R444): A write of STRING_RETRY to LUM_CTL releases strings held off for overvoltage. -/
  | stringRetry
  /-- ADJ_TEST_DUE (R445): The short-test period expires and an adjacent-pin test becomes due. -/
  | adjTestDue
  /-- LUM_TEST (R445): A write of TEST to LUM_CTL orders an adjacent-pin test at the next opportunity. -/
  | lumTest
  /-- ADJ_TEST (R445): With the boost in RUN, a test occupies one base period and holds off the shorted pairs. -/
  | adjTest (phaseA : List Nat) (phaseB : List Nat)
  /-- EVENT_INTAKE (R453): A block reports an event, which takes a token and enters the intake FIFO, or is suppressed or dropped. -/
  | eventIntake (code : BitVec 16) (data : List Octet)
  /-- RECORD_STORE (R453): The writer stores the next FIFO entry as a record in the buffer. -/
  | recordStore
  /-- TOKEN_REFILL (R454): A code's bucket gains a token, and a bucket that becomes full after suppressing stores SUPPRESSED. -/
  | tokenRefill (code : BitVec 16)
  /-- FLUSH (R457): A flush appends the unflushed records to the MRAM ring and updates the control record. -/
  | flush
  /-- REC_FLUSH_CMD (R457): A write of FLUSH to REC_CTL starts a flush. -/
  | recFlushCmd
  /-- ARCHIVE (R458): An archive copies unarchived MRAM records into the flash ring sector by sector. -/
  | archive (pageFaults : List Bool) (pages : Option Nat)
  /-- REC_ARCHIVE_CMD (R458): A write of ARCHIVE to REC_CTL starts an archive. -/
  | recArchiveCmd
  /-- ARCHIVE_HOURLY (R458): At each whole hour of GPS time in a service mode an archive starts. -/
  | archiveHourly
  /-- REC_READ_LATCH (R459): A write of LATCH to REC_RD_SEL copies the selected record, and VALID is set when the read completes. -/
  | recReadLatch (value : Word)
  /-- DIAG_OPEN (R461): DIAG_OPEN opens a diagnostic session where permitted and extends MEAS7. -/
  | diagOpen (frame : ChpFrame)
  /-- DIAG_CLOSE (R461): DIAG_CLOSE closes the diagnostic session. -/
  | diagClose (frame : ChpFrame)
  /-- DIAG_IDLE_TIMEOUT (R461): 600 s without a write to DIAG close the session. -/
  | diagIdleTimeout
  /-- DIAG_INJECT (R462): A write of INJECT to DIAG_CTL refuses the injection or acts at the selected injection point. -/
  | diagInject (writer : Fin 8) (secure : Bool) (address : Nat)
  /-- DIAG_CANCEL (R464): A write of CANCEL to DIAG_CTL cancels the active injection. -/
  | diagCancel (writer : Fin 8)
  /-- INJECT_RESULT (R462): The check record arrives or the deadline expires, so DIAG_RESULT reads PASS or FAIL. -/
  | injectResult
  /-- OPEN (R474): OPEN starts a pending host session and returns a session ID and a unit nonce. -/
  | open_ (frame : ChpFrame)
  /-- AUTH (R474): AUTH verifies the host proof and opens the session with the unit's proof and the host's rights. -/
  | auth (frame : ChpFrame)
  /-- CLOSE (R476): CLOSE ends the host session. -/
  | close (frame : ChpFrame)
  /-- AUTH_PENDING_TIMEOUT (R476): A pending session that has not passed AUTH within 5 s is dropped. -/
  | authPendingTimeout (slot : Fin 8)
  /-- SESSION_IDLE_TIMEOUT (R476): 120 s without an accepted frame closes a host session. -/
  | sessionIdleTimeout (slot : Fin 8)
  /-- LOCKOUT_END (R476): 60 s after five failed AUTHs the host may open sessions again. -/
  | lockoutEnd (host : Fin 16)
  /-- CLOSE_OTHERS (R476): A write of CLOSE_OTHERS to HOST_CTL closes every session but the writer's. -/
  | closeOthers (writer : Fin 8)
  /-- STATUS_READ (R478): STATUS_READ returns up to 256 words of one block together with the tick and the queue credits. -/
  | statusRead (frame : ChpFrame)
  /-- STATUS_WRITE (R479): STATUS_WRITE applies its address-value pairs in order and stops at the first refused pair. -/
  | statusWrite (frame : ChpFrame)
  /-- RESTART (R483): RESTART is replied to and the unit releases its claim and restarts with cause 0x03 once fuse burns or copies end. -/
  | restart (frame : ChpFrame)
  /-- NODE_SEND (R482): NODE_SEND queues a NODE_DATA frame for the node's next contact and sets its pending entry. -/
  | nodeSend (frame : ChpFrame)
  /-- NODE_LAST (R482): NODE_LAST returns the node's last accepted NODE_REPORT. -/
  | nodeLast (frame : ChpFrame)
  /-- CONFIG_WRITE (R482): CONFIG_WRITE erases when at a sector start, programs and reads back octets of an inactive slot. -/
  | configWrite (frame : ChpFrame)
  /-- CONFIG_COMMIT (R78): CONFIG_COMMIT validates a slot and names it pending in the selector, or refuses with the error. -/
  | configCommit (frame : ChpFrame)
  /-- REASSEMBLY_TIMEOUT (R469): An IPv4 reassembly still incomplete 500 ms after its first fragment is dropped and counted. -/
  | reassemblyTimeout
  /-- SPI_WRITE_FRAME (R471): An SPI write-frame transaction places a frame in a receive buffer, or discards it with RX_ERROR. -/
  | spiWriteFrame (quad : Bool) (length : BitVec 16) (octets : List Octet)
  /-- SPI_READ_REPLY (R471): An SPI read-reply transaction clocks out the oldest ready reply and removes it when complete. -/
  | spiReadReply (clocked : BitVec 16)
  /-- SPI_READ_STATUS (R470): An SPI read-status transaction returns the status octet and clears RX_ERROR. -/
  | spiReadStatus
  /-- BACKBONE_REJECTED (R486): A backbone frame that fails the site, MAC, time or order check is dropped and counted. -/
  | backboneRejected (kind : Fin 4) (frame : ChpFrame)
  /-- LINK_CHANGED (R489): An Ethernet PHY link goes up or down and is recorded. -/
  | linkChanged (mac : Fin 2) (up : Bool) (speed : Fin 3)
  /-- RESET_N_RELEASED (R38): RESET_N rises with the supplies in range, and START begins at t = 0 with PAIR_SEL sampled. -/
  | resetNReleased (pairSel : Bool)
  /-- MANUFACTURING_MESSAGE (R372): Ranlek's manufacturing message moves the life-cycle state from VENDOR to PROVISION or to RETIRED. -/
  | manufacturingMessage (retire : Bool)
  /-- BOOST_FAULT_COUNT_RESET (R441): After 60 s in RUN the boost's consecutive-fault count returns to 0. -/
  | boostFaultCountReset
  /-- PTP_ANNOUNCE_RECEIPT_TIMEOUT (R190): A PTP port's announce receipt timeout expires, and the port leaves SLAVE and reselects its master. -/
  | ptpAnnounceReceiptTimeout (mac : Fin 2)
  /-- INJECTION_DURATION_END (R463): The timed action of an injection ends when its duration runs out, as with the temperature offset, the bias sense, the stop-input hold or the saturation. -/
  | injectionDurationEnd
  /-- VBAT_APPLIED (R508): VBAT is applied, the 32.768 kHz oscillator starts, and the crystal check arms once it has run for 1 s. -/
  | vbatApplied
deriving DecidableEq, Repr

end Sys2Proof
end

