-- ==== Sys2Proof/Config.lean ====
section
/-! DEFINITION. What the spec names by a standard or leaves open: uninterpreted functions without a body, so that
no proof can see a value of them. Cryptographic functions are those of the standards the rules name; the free
values stand where the spec gives a value no number. -/

namespace Sys2Proof.Config

/-- SHA-384 of octets (R40, R64). Uninterpreted. -/
opaque sha384 : List Octet → BitVec 384

/-- SHA-256 of octets (R516). Uninterpreted. -/
opaque sha256 : List Octet → BitVec 256

/-- HMAC-SHA-256 of octets under a key: key, message. Uninterpreted. -/
opaque hmacSha256 : List Octet → List Octet → BitVec 256

/-- HMAC-SHA-384 of octets under a key: key, message. Uninterpreted. -/
opaque hmacSha384 : List Octet → List Octet → BitVec 384

/-- ECDSA P-384 with SHA-384: public key x, y, signature r, s, message (R65, R395). Uninterpreted. -/
opaque ecdsaVerify : BitVec 384 → BitVec 384 → BitVec 384 → BitVec 384 → List Octet → Bool

/-- ECDH P-384 to the shared secret's octets: private scalar, public x, y. Uninterpreted. -/
opaque ecdh : List Octet → BitVec 384 → BitVec 384 → List Octet

/-- The P-384 public point of a private scalar: x then y. Uninterpreted. -/
opaque publicX : List Octet → BitVec 384

/-- The y coordinate of the P-384 public point of a private scalar. Uninterpreted. -/
opaque publicY : List Octet → BitVec 384

/-- AES-256 key wrap (RFC 3394) of the Keystone under the key that is reconstructed from the die at each START (R360). Uninterpreted. -/
opaque dieWrap : List Octet → List Octet

/-- AES-256-GCM opening: key, nonce, additional data, ciphertext with its tag. Uninterpreted. -/
opaque gcmOpen : List Octet → List Octet → List Octet → List Octet → Option (List Octet)

/-- AES-CCM* authentication of a radio frame: key, nonce, header, payload to the 4-octet or 8-octet integrity code. Uninterpreted. -/
opaque ccmMic : List Octet → List Octet → List Octet → List Octet → BitVec 64

/-- AES-CCM* encryption of a radio frame's payload: key, nonce, payload. Uninterpreted. -/
opaque ccmEncrypt : List Octet → List Octet → List Octet → List Octet

/-- A chip of a signal's code (R116, R117): satellite by system, SV and frequency number, signal code, component (0 data, 1 pilot, 2 CL, 3 the
code of the family that no satellite transmits), chip. The codes are those of the systems' published interfaces, which the spec does not
print. Uninterpreted. -/
opaque codeChip : Nat → Nat → Int → Nat → Nat → Nat → Bool

/-- A chip of a component's secondary or overlay code (R122), likewise. Uninterpreted. -/
opaque secondaryChip : Nat → Nat → Nat → Nat → Nat → Bool

/-- A channel's carrier replica, cosine and sine, at a phase in 2^-32 cycle (R116); the spec gives its levels no width. Uninterpreted. -/
opaque carrierReplica : BitVec 32 → Int × Int

/-- The time-only solution at a position (R154, R155): satellite positions and clocks in 0.1 mm with pseudoranges in 0.1 mm, to the receiver
clock offset in 0.1 ns and the magnitude of each residual in 0.1 mm; the spec names no estimator. Uninterpreted. -/
opaque timeOnly : Int × Int × Int → List ((Int × Int × Int × Int) × Nat) → Option (Int × List Nat)

/-- The single-point solution (R149): satellite positions and clocks with ranges, to a position in 0.1 mm and its PDOP in tenths; the spec
names no estimator. Uninterpreted. -/
opaque pointFix : List ((Int × Int × Int × Int) × Int) → Option ((Int × Int × Int) × Nat)

/-- The single-epoch ambiguity fix of an audit (R169): base position, then each signal's satellite, the base's pseudorange and phase and the
robot's, to the ratio in tenths and the robot's position in mm; the spec names no estimator. Uninterpreted. -/
opaque baselineFix : Int × Int × Int → List ((Int × Int × Int × Int) × (Nat × Int) × (Nat × Int)) → Nat × Int × Int × Int

/-- The factory group delay of the bands used (a bit of the mask for each), in 0.1 ns (R181): calibration of the fuse bank, which the spec gives no
layout. Uninterpreted. -/
opaque groupDelay : Nat → Nat → Int

/-- The offsetScaledLogVariance of the unit's clock as its Announce messages carry it; Table 7-4 gives no value. -/
opaque ptpVariance : Nat

/-- timeSource in Announce for the sources that Table 7-4 does not name: none, the Viaduct, a host step. -/
opaque timeSource : Nat → Nat

/-- The fixed pipeline delay of a band path in ns (R145; log 179); the spec gives no value. -/
opaque pipelineDelay : Nat → Nat

/-- A channel's sample delayed by a fraction (R415): the delay in 1/1,024 sample, the delay line newest first; the spec names no interpolator.
Uninterpreted. -/
opaque fractionalDelay : Nat → List Int → Int

/-- A block's voltage shifted by 90° (R417): the samples of the block before, those of the block; the spec gives the Hilbert transformer no
coefficients. Uninterpreted. -/
opaque hilbert : List Int → List Int → List Int

/-- The free values: one for each count of the model's own counter. They stand where the spec fixes no value. -/
opaque freeWord : Nat → Word

/-- Free values of 128 bits (nonces that the spec calls random, R474). -/
opaque freeNonce : Nat → BitVec 128

/-- Free values as octets of a stated length (random keys, uninitialised data). -/
opaque freeOctets : Nat → Nat → List Octet

/-- The unit's own GLONASS code bias in 0.1 mm: factory calibration of the fuse bank, signal code, frequency number (R163); the
spec gives the calibration no layout. Uninterpreted. -/
opaque glonassBias : Nat → Nat → Int → Int

/-- The SHA-384 of the boot ROM, which MEAS0 is extended with (R40); the spec gives no value. -/
opaque romDigest : List Octet

/-- The Ranlek public keys that the boot ROM holds, by index (R394): X. -/
opaque ranlekX : Nat → BitVec 384

/-- The Ranlek public keys that the boot ROM holds, by index (R394): Y. -/
opaque ranlekY : Nat → BitVec 384

/-- Generation, flash interface, read clock, dummy cycles and flash size of a boot header from its octets when its CRC-32C
matches; the spec gives the header no layout beyond its magic (R391). Uninterpreted. -/
opaque bootHeader : List Octet → Option (Nat × Nat × Nat × Nat × Nat)

end Sys2Proof.Config
end

