-- ==== Sys2Proof/Machine/Crypto.lean ====
section
/-! DEFINITION. Truncated MACs and the key derivation function over the uninterpreted hashes of Config (R361, R474). -/

namespace Sys2Proof.Machine

/-- The ASCII octets of a string without a terminator. -/
def ascii (x : String) : List Octet := x.toList.map (fun c => BitVec.ofNat 8 c.toNat)

/-- The leftmost 16 octets of an HMAC-SHA-256. -/
def mac256 (key msg : List Octet) : BitVec 128 := (Config.hmacSha256 key msg).extractLsb' 128 128

/-- The leftmost 16 octets of an HMAC-SHA-384. -/
def mac384 (key msg : List Octet) : BitVec 128 := (Config.hmacSha384 key msg).extractLsb' 256 128

/-- The Keystone KDF (R361): `n` octets of output. -/
def kdf (key label context : List Octet) (n : Nat) : List Octet :=
  ((List.range (ceilDiv n 48)).flatMap (fun i =>
    beBytes 48 (Config.hmacSha384 key (beBytes 4 (i + 1) ++ label ++ [0#8] ++ context ++ beBytes 4 (8 * n))).toNat)).take n

/-- SHA-384 as octets. -/
def sha384 (msg : List Octet) : List Octet := beBytes 48 (Config.sha384 msg).toNat

/-- The order of the group of P-384. -/
def p384n : Nat := 0xFFFFFFFFFFFFFFFFFFFFFFFFFFFFFFFFFFFFFFFFFFFFFFFFC7634D81F4372DDF581A0DB248B0A77AECEC196ACCC52973

end Sys2Proof.Machine
end

