-- ==== Sys2Proof/Machine/State.lean ====
section
/-! DEFINITION. The state of the block as plain data: every register, table, counter, mode and pin the spec gives
the CMT960, grouped by status-space block, with its value at reset as each field's given value, and the queue of
waiting commands. -/

namespace Sys2Proof.Machine

/-- An event in the intake FIFO: its code, its data items, and the time fields taken at its arrival (R451, R453). -/
structure Entry where
  code : BitVec 16
  data : List Octet
  sec : Nat
  ns : Nat
  optime : Nat
  pwrcyc : Nat
  valid : Bool
  aligned : Bool
  stepped : Bool
  injected : Bool
deriving DecidableEq, Repr

/-- A stored record in the layout of Table 17-1 (R450). -/
structure Record where
  code : BitVec 16
  flags : Octet
  unit : Octet
  optime : Nat
  pwrcyc : Nat
  seq : Nat
  sec : Nat
  ns : Nat
  data : List Octet
deriving DecidableEq, Repr

/-- The token bucket of one event code (R454) with what it has suppressed (R455). -/
structure Bucket where
  tokens : Nat := 8
  suppressed : Nat := 0
  first : Nat := 0
  last : Nat := 0
  next : Nat := 0
deriving DecidableEq, Repr

/-- The recorder: buffer, intake, buckets, and the registers of Table 17-8. The buffer is newest first. -/
structure Recorder where
  buffer : List Record := []
  unflushed : Nat := 0
  fifo : List Entry := []
  storeAt : Nat := 0
  buckets : Tab Bucket := []
  ovfDrops : Nat := 0
  seq : Nat := 0
  flushDue : Bool := false
  flushing : Bool := false
  archiving : Bool := false
  lostRun : Nat := 0
  closed : Bool := false
  events : Word := 0#32
  selTier : Nat := 0
  selIndex : Nat := 0
  rdValid : Bool := false
  rd : List Octet := []
  cntRecords : Word := 0#32
  cntSuppressed : Word := 0#32
  cntIntakeOvf : Word := 0#32
  cntLost : Word := 0#32
  cntFlushes : Word := 0#32
  cntArchived : Word := 0#32
  cntOverwritten : Word := 0#32
deriving DecidableEq, Repr

/-- One sector of the archive ring (R458): its sequence, whether its header verifies, its records newest first. -/
structure ArchiveSector where
  sequence : Nat
  headerOk : Bool
  records : List Record
deriving DecidableEq, Repr

/-- The recorder's non-volatile tiers: the MRAM ring with its control record (R457) and the archive (R458).
Both lists are newest first; `unarchived` counts the newest ring records the archive has not copied. -/
structure RecStore where
  ring : List Record := []
  flushed : Nat := 0
  unarchived : Nat := 0
  sectors : List ArchiveSector := []
  nextSequence : Nat := 0
deriving DecidableEq, Repr

/-- An injection in force (R462): its detector, target and argument, when it began, whether the point is still
armed, and when its check record was stored. -/
structure Injection where
  detector : Nat
  target : Nat
  argument : Nat
  began : Nat
  armed : Bool
  seen : Option Nat
deriving DecidableEq, Repr

/-- The DIAG block (Table 17-9). -/
structure Diag where
  session : Bool := false
  host : Nat := 0
  slot : Nat := 0
  lastWrite : Nat := 0
  active : Option Injection := none
  selDetector : Nat := 0
  selTarget : Nat := 0
  argument : Word := 0#32
  resDetector : Nat := 0
  resOutcome : Nat := 0
  resReason : Nat := 0
  resLatency : Nat := 0
  count : Word := 0#32
  events : Word := 0#32
  stallStep : Option Nat := none
  tempOffset : Int := 0
  stopHold : Option Nat := none
  satChannel : Option Nat := none
  biasSense : Option Nat := none
  viaCorrupt : Option Nat := none
  loopDelay : Option (Nat × Nat) := none
  authCut : Option (Nat × Nat) := none
  synthFault : Option Nat := none
  paFault : Option (Nat × Nat) := none
  eccArmed : Option (Nat × Nat) := none
  timedEnd : Option Nat := none
deriving DecidableEq, Repr

/-- The areas of the last save in MRAM (Table 2-7) and the 10 s copy of the counters (R55). `valid` has bit a - 1 for
area a; the counters are operating time, power cycles, restarts and the recorder's intake count; `drops` are the drop and
ECC counters of area 4; `struck` is an area that an injection has struck (Table 17-6). `step` is the journal step of area 3 and
`cursorOk` says that a power failure within the journal step of START has written that area alone (Table 2-8); `appended` counts the
records that area 6 appended to the ring. -/
structure SavedAreas where
  seq : Nat := 0
  valid : Nat := 0
  mode : Nat := 0
  time : Nat := 0
  trigger : Nat := 0
  cursor : Nat := 0
  counters : Nat × Nat × Nat × Nat := (0, 0, 0, 0)
  digestTick : Nat := 0
  dsp : BitVec 256 := 0#256
  xarb : BitVec 256 := 0#256
  copy : Nat × Nat × Nat := (0, 0, 0)
  drops : List Nat := []
  struck : Option Nat := none
  begun : Bool := false
  step : Nat := 0
  appended : Nat := 0
  cursorOk : Bool := false
deriving DecidableEq, Repr

/-- The fuse bank (Table 13-1); the Keystone stands unwrapped. -/
structure Fuse where
  serial : Nat := 0
  keystone : List Octet := []
  wrapped : Nat := 0
  committed : Bool := false
  word : Nat := 0
  floor : Nat := 0
  auth : BitVec 384 := 0#384
  authProg : Bool := false
  cfg : List (BitVec 384) := [0#384, 0#384, 0#384, 0#384]
  cfgProg : Nat := 0
  cfgRevoked : Nat := 0
  vendorRevoked : Nat := 0
  calibration : Nat := 0
  revision : Nat := 0
  extended : Bool := false
deriving DecidableEq, Repr

/-- One slot of the key store (Table 13-3). -/
structure KeySlot where
  valid : Bool := false
  kind : Nat := 0
  length : Nat := 0
  epoch : Nat := 0
  masters : Nat := 0
  worlds : Nat := 0
  states : Nat := 0
  ops : Nat := 0
  id : Nat := 0
  counter : Nat := 0
  check : Nat := 0
  material : List Octet := []
deriving DecidableEq, Repr

/-- A counter record in MRAM (R378) with its HMAC under the counter key; `applied` says that its effect stands. -/
structure CounterRec where
  counter : Nat
  digest : BitVec 384
  kind : Nat
  argument : Nat
  mac : BitVec 384
  applied : Bool
deriving DecidableEq, Repr

/-- The tamper latch (R385); `told` says that a START has recorded TAMPER_DORMANT for it (Table 13-15). -/
structure TamperLatch where
  sources : Nat
  mode : Nat
  optime : Nat
  aborted : Bool
  told : Bool
deriving DecidableEq, Repr

/-- What the key block keeps without VDD_CORE: fuses, key store, counter records (newest first), the latch, the pending
life-cycle record. -/
structure KeyStore where
  fuse : Fuse := {}
  slots : Tab KeySlot := []
  records : List CounterRec := []
  latch : Option TamperLatch := none
  pendingLc : Option Nat := none
deriving DecidableEq, Repr

/-- The key block's registers and what it holds until the next START: the pending epoch switch (epoch, second), the
previous epoch's masters (epoch, fleet, node) with the second they end, and the key cache: the Class I keys of Table 13-2 in its order, as
far as they are derived (R364). -/
structure KeyRegs where
  events : Word := 0#32
  switch : Option (Nat × Nat) := none
  previous : Option (Nat × List Octet × List Octet × Nat) := none
  live : Nat := 0
  temp : Int := 0
  vbat : Nat := 0
  lastResult : Nat := 0
  lastKind : Nat := 0
  lastArg : Nat := 0
  cache : List (List Octet) := []
  updates : Word := 0#32
  refused : Word := 0#32
  jobs : Word := 0#32
  aborted : Word := 0#32
  violations : Word := 0#32
  tampers : Word := 0#32
  vbatRun : Bool := false
  /-- The instant until which a crypto job runs (R386); the spec gives a job no duration (log 197). -/
  jobTill : Nat := 0
deriving DecidableEq, Repr

/-- The update journal's record in force (Table 14-4). -/
structure Journal where
  sequence : Nat := 0
  state : Nat := 0
  starts : Nat := 0
  window : Nat := 0
  cursor : Nat := 0
  outcome : Nat := 0
  length : Nat := 0
  digest : BitVec 384 := 0#384
  active : BitVec 384 := 0#384
deriving DecidableEq, Repr

/-- What the update controller keeps in MRAM: the download state (R396) and the window of a verification named and not finished (R399). `journal`
is the journal record in force, as START last read it from the flash or the unit last wrote it (R400), with the sector of a step in progress. -/
structure UpdStore where
  journal : Journal := {}
  length : Nat := 0
  digest : BitVec 384 := 0#384
  blocks : Nat := 0
  sectors : Nat := 0
  window : Option Nat := none
deriving DecidableEq, Repr

/-- What the boot ROM reads the boot flash by, from a boot header (R391): generation, interface (0 quad, 1 octal), read clock in MHz, dummy cycles,
size in MiB. Without a valid header it is quad mode at 25 MHz. -/
structure BootFlash where
  generation : Nat := 0
  interface : Nat := 0
  clock : Nat := 25
  dummy : Nat := 0
  size : Nat := 0
deriving DecidableEq, Repr

/-- The update controller's registers since START: a verification running with the message that asked for it, the trial's window (opened at, ns),
and how this START reads the boot flash. -/
structure UpdRegs where
  boot : BootFlash := {}
  events : Word := 0#32
  verifying : Bool := false
  opened : Option Nat := none
  startedTrial : Bool := false
  bootFallback : Bool := false
  recovery : Bool := false
  rewrites : Nat := 0
  verify : Option ChpFrame := none
  cntBlocks : Word := 0#32
  cntErrors : Word := 0#32
  cntActivations : Word := 0#32
  cntReverts : Word := 0#32
deriving DecidableEq, Repr

/-- The class of a pair (Table 3-28). -/
inductive PairClass where
  | none | matched | mixed | mismatch
deriving DecidableEq, Repr

/-- One change of the list of R80: the record type, what changed (0 added, 1 removed, 2 changed) and the key. -/
structure CfgChange where
  kind : Nat
  change : Nat
  key : Nat
deriving DecidableEq, Repr

/-- What the unit runs on (R57) and what it knows of its slots and of the partner's image. -/
structure CfgState where
  image : Option Image := none
  selected : Nat := 0
  active : Nat := 0
  pending : Option Nat := none
  selectorLost : Bool := false
  outcome : Nat := 0
  errorA : Nat := 0
  errorB : Nat := 0
  detailA : Nat := 0
  detailB : Nat := 0
  partner : Option Image := none
  changes : List CfgChange := []
deriving DecidableEq, Repr

/-- The states of the servo (Table 7-2). -/
inductive Servo where
  | provisional | tracking | locked | slew | holdover
deriving DecidableEq, Repr

/-- A step ordered by the host and not yet applied (R187). -/
structure TimeStep where
  amount : Int
  uncertainty : Nat
  w : Nat
deriving DecidableEq, Repr

/-- One PPS output's settings (R188). -/
structure Pps where
  mode : Nat := 1
  period : Nat := 0
  polarity : Nat := 0
  width : Nat := 100000
  offset : Int := 0
deriving DecidableEq, Repr

/-- One captured edge (R189). -/
structure EdgeEntry where
  time : Nat
  rising : Bool
  aligned : Bool
  step : Bool
deriving DecidableEq, Repr

/-- One capture input: its 8-deep FIFO, oldest first, with its counts (R189). -/
structure CaptureIn where
  fifo : List EdgeEntry := []
  overflow : Nat := 0
  missed : Nat := 0
  last : Option Nat := none
  dropRun : Bool := false
deriving DecidableEq, Repr

/-- The states of a PTP port as TIME_PTPm_STATUS numbers them. -/
inductive PtpState where
  | disabled | listening | master | uncalibrated | slave | passive
deriving DecidableEq, Repr

/-- A transmit stamp waiting in a MAC's queue (R191). -/
structure TxStamp where
  time : Nat
  kind : Nat
  sequence : Nat
  queued : Nat
deriving DecidableEq, Repr

/-- One PTP port (R190, R191). -/
structure PtpPort where
  state : PtpState := .disabled
  ignored : Nat := 0
  syncLog : Nat := 4
  masterId : Nat := 0
  master : PtpRank := {}
  queue : List TxStamp := []
  dropRun : Bool := false
  syncT1 : Option Nat := none
  syncT2 : Option Nat := none
  syncSeq : Nat := 0
  reqSeq : Nat := 0
  txSeq : Nat := 0
  reqT3 : Option Nat := none
  offsets : List Int := []
deriving DecidableEq, Repr

/-- The time unit (Table 7-7). `frc` is the free-running counter; times are counts of 2^-16 ns on the GPS scale
(R10); offsets are in 0.1 ns; `marks` remembers for each
kind of boundary the time of the last that fired, plus 1 (the model's own). -/
structure TimeUnit where
  frc : BitVec 64 := 0#64
  running : Bool := false
  tAnchor : Nat := 0
  fAnchor : BitVec 64 := 0#64
  rho : Int := 0
  servo : Servo := .provisional
  aligned : Bool := false
  source : Nat := 0
  stepped : Bool := false
  holdS : Nat := 0
  e0 : Nat := 0
  lastOffset : Int := 0
  loopOffset : Int := 0
  viaSigma : Int := 0
  sigma : Int := 0
  slewTerm : Int := 0
  viaSum : Int := 0
  viaCount : Nat := 0
  gnssOwn : Int := 0
  history : List Int := []
  noOffset : Nat := 0
  frozenRho : Int := 0
  rhoAtUsable : Int := 0
  slewSeconds : Nat := 0
  gnssRun : List Int := []
  viaRun : Nat := 0
  initDue : Option (Nat × Int) := none
  step : Option TimeStep := none
  ctlGnss : Bool := true
  ctlPtp : Bool := true
  pps : List Pps := [{}, {}]
  ppsNext : List Pps := [{}, {}]
  pairAligned : Bool := false
  pairGood : Nat := 0
  pairBad : Nat := 0
  viaOffset : Int := 0
  bias : Int := 0
  biasRun : List (Nat × Int) := []
  biasFrozen : Bool := false
  ptp : List PtpPort := [{}, {}]
  evtEdge : Nat := 0
  evt : List CaptureIn := [{}, {}, {}, {}, {}, {}, {}, {}]
  leapFromNav : Bool := false
  leap : Nat := 0
  marks : Tab Nat := []
deriving DecidableEq, Repr

/-- The counters and latched events of the TIME block. -/
structure TimeRegs where
  events : Word := 0#32
  discarded : Word := 0#32
  slewS : Word := 0#32
  steps : Word := 0#32
  holdSCount : Word := 0#32
  txtsOvf : List Nat := [0, 0]
  txtsStale : List Nat := [0, 0]
deriving DecidableEq, Repr

/-- The demand-started clock domains that are running (Table 1-6); `readyAt` is, by domain number (`domCore` and on), the FRC
instant at which a domain last woken reaches its working frequency (R26). -/
structure Domains where
  system : Bool := false
  corePll : Bool := false
  cores : BitVec 8 := 0#8
  gnss : Bool := false
  lake : Bool := false
  radioA : Bool := false
  radioB : Bool := false
  viaduct : Bool := false
  eth0 : Bool := false
  eth1 : Bool := false
  metering : Bool := false
  lighting : Bool := false
  readyAt : Tab Nat := []
deriving DecidableEq, Repr

/-- A bank that its master holds on to (R19): since when, by the FRC, and the bank's write buffer. -/
structure BankHold where
  master : Nat
  since : Nat
  writes : List (Nat × Octet) := []
deriving DecidableEq, Repr

/-- A scrubber's walk of its memory (R24): the next 64-bit word of the pass and the passes completed. -/
structure Scrub where
  next : Nat := 0
  passes : Nat := 0
deriving DecidableEq, Repr

/-- One address window of a master in one world (R20). -/
structure WorldWindow where
  master : Nat
  secure : Bool
  base : Nat
  size : Nat
  perms : Nat := 0
deriving DecidableEq, Repr

/-- Trestle: what is left of each master's quota, each bank's round-robin pointer, the frozen masters, the
world windows that START loaded and locked, the banks held, and the array as locked sequences have written it (R17–R21); the scrubbers'
walks by memory (R24). -/
structure Trestle where
  quota : List Nat := [160, 160, 160, 160, 160, 160, 160, 160, 64, 256, 32, 96, 128]
  pointer : List Nat := List.replicate 16 0
  frozen : BitVec 13 := 0#13
  windows : List WorldWindow := []
  locked : Bool := false
  holds : Tab (Option BankHold) := []
  sram : Tab Octet := []
  scrubs : Tab Scrub := []
deriving DecidableEq, Repr

/-- The SYS block and the machinery of modes, START and the save (Tables 2-1 to 2-7, 18-12). -/
structure Sys where
  mode : Mode := .start
  saving : Bool := false
  pairSel : Bool := false
  restricted : Nat := 0
  cause : Nat := 0
  succession : Nat := 0
  duration : Nat := 0
  events : Word := 0#32
  degraded : Bool := false
  degradedInSave : Bool := false
  degradedRow : Nat := 0
  surveyStopped : Bool := false
  startStep : Nat := 0
  startT0 : Nat := 0
  startExtra : Nat := 0
  watchdog : Bool := true
  waitViaduct : Bool := false
  mismatch : Bool := false
  restored : Bool := false
  resetHeld : Bool := false
  selftest : Nat := 0
  saveSeq : Nat := 0
  saveAreas : Nat := 0
  saveMode : Nat := 0
  digestTick : Nat := 0xFFFFFFFF
  dspDigest : BitVec 256 := 0#256
  xarbDigest : BitVec 256 := 0#256
  meas : List (BitVec 384) := List.replicate 8 0#384
  vsense : Nat := 600
  ecc : Tab Nat := []
  serviceSince : Option Nat := none
  tempHigh : Bool := false
  saveEnded : Bool := false
  resetDue : Bool := false
  vsenseOk : Bool := true
  saveT0 : Nat := 0
deriving DecidableEq, Repr

/-- The always-on domain: the counters of R54 and the latches that outlive VDD_CORE (R55, R508). -/
structure AlwaysOn where
  optime : Nat := 0
  pwrcyc : Nat := 0
  restarts : Nat := 0
  intake : Nat := 0
  intakeValid : Bool := true
  vbatLost : Bool := false
  crystalArmed : Bool := true
  vbatLow : Bool := false
deriving DecidableEq, Repr

/-- One host session (R474–R476). -/
structure HostSess where
  inUse : Bool := false
  authed : Bool := false
  source : ChpSource := .spi
  host : Nat := 0
  sid : Word := 0#32
  hostNonce : List Octet := []
  unitNonce : List Octet := []
  lastSeq : Nat := 0
  lastFrame : Nat := 0
  opened : Nat := 0
  remembered : List Reply := []
  processing : List Nat := []
deriving DecidableEq, Repr

/-- A request taken and not yet answered, waiting for the publication of a tick (R483). -/
structure Awaiting where
  frame : ChpFrame
  kind : Nat
  refusal : Nat
  tick : Nat
  outcome : List Octet
deriving DecidableEq, Repr

/-- The host bridge (Table 18-13): sessions, lockouts, links, the SPI port, counters. -/
structure HostBridge where
  sessions : List HostSess := List.replicate 8 {}
  failures : Tab Nat := []
  lockout : Tab Nat := []
  linkUp : BitVec 2 := 0#2
  linkSpeed : List Nat := [0, 0]
  spiRx : List (List Octet) := []
  spiTx : List (List Octet) := []
  spiRxError : Bool := false
  spiQuad : Bool := false
  spiLast : Option Nat := none
  awaiting : List Awaiting := []
  backboneLast : Tab (Option (Nat × Nat)) := []
  backboneIndex : Nat := 0
  backboneTick : Nat := 0
  events : Word := 0#32
  rxFrames : Word := 0#32
  txFrames : Word := 0#32
  authFail : Word := 0#32
  replay : Word := 0#32
  right : Word := 0#32
  reassemblyDrop : Word := 0#32
  spiOvf : Word := 0#32
  backboneRx : Word := 0#32
  backboneTx : Word := 0#32
  backboneDrop : Word := 0#32
deriving DecidableEq, Repr

/-- The antenna bias states as LAKE_ANT_STATUS numbers them (Table 4-3). -/
inductive AntState where
  | passive | off | on | openCircuit | shortWait | latchedOff | supplyFault
deriving DecidableEq, Repr

/-- The states of a search slot (Table 4-9). -/
inductive SlotState where
  | idle | search | verify | waitChannel | handover
deriving DecidableEq, Repr

/-- One of the Lake's 96 slots: its request, its state, and what the slot view shows. -/
structure LakeSlot where
  req : SearchReq := ⟨⟨0, 0, 0, 0⟩, 0, 0, 0, 0, 0, 0, 0, 0, 0, 0, 0, 0, 0⟩
  state : SlotState := .idle
  outcome : Nat := 0
  ncDone : Nat := 0
  doppler : Int := 0
  peak : Nat := 0
  cn0 : Nat := 0
  codePhase : Nat := 0
  instant : Nat := 0
  channel : Option Nat := none
  ratio : Nat := 0
  since : Nat := 0
deriving DecidableEq, Repr

/-- One adaptive notch (R93): its state, depth and centre in kHz, the runs its line has stayed below, the centre at the last epoch
(R95) and the instant of its last adaptation. -/
structure Notch where
  state : Nat := 0
  depth : Nat := 0
  offset : Int := 0
  below : Nat := 0
  epochAt : Int := 0
  instant : Nat := 0
deriving DecidableEq, Repr

/-- One band path's AGC, spectrum and flags (R91, R98, R99). -/
structure Band where
  gain : Nat := 0
  reference : Nat := 0xFF
  scaled : Nat := 0
  full : Nat := 0
  learnSum : Nat := 0
  learnCount : Nat := 0
  wideClear : Nat := 0
  margin : Nat := 0
  lineOffset : Int := 0
  spectrum : List Int := []
  runs : Nat := 0
  noLine : Nat := 0
  narrowband : Bool := false
  wideband : Bool := false
  unmitigated : Bool := false
  notches : List Notch := [{}, {}, {}, {}]
  changed : Bool := false
  runPending : Bool := false
deriving DecidableEq, Repr

/-- The Lake and the band paths (Table 4-14). -/
structure Lake where
  autoAid : Bool := true
  xcorrCheck : Bool := true
  detect : Nat := 120
  verify : Nat := 100
  sigEn : Nat := 0
  events : Word := 0#32
  slots : Tab LakeSlot := []
  fifo : List SearchReq := []
  requeue : List (SearchReq × Nat) := []
  ant : AntState := .passive
  shorts : Nat := 0
  antCurrent : Nat := 0
  antVoltage : Nat := 0
  antSince : Nat := 0
  idleSince : Nat := 0
  bands : List Band := [{}, {}, {}]
  notchEn : Nat := 7
  notchWidth : Nat := 1
  blankEn : Bool := true
  blankThreshold : Nat := 24
  blankPost : Nat := 32
  blankFraction : Nat := 0
  blankPulses : Word := 0#32
  blankMs : List Nat := []
  blankCount : Nat := 0
  blankClear : Nat := 0
  blankSatMs : Nat := 0
  blankCarry : Nat := 0
  pulsed : Bool := false
  lowJammed : Bool := false
  monPeriod : Nat := 1
  monEngage : Nat := 20
  monWideband : Nat := 12
  specBand : Nat := 0
  specSeq : Nat := 0
  specWidth : Nat := 0
  spec : List Int := []
deriving DecidableEq, Repr

/-- The Lake's search counters (0x0020–0x003C). -/
structure LakeCounters where
  done : Word := 0#32
  confirmed : Word := 0#32
  notFound : Word := 0#32
  verifyFailed : Word := 0#32
  xcorr : Word := 0#32
  noChannel : Word := 0#32
  refused : Word := 0#32
  parity : Word := 0#32
deriving DecidableEq, Repr

/-- The states of a tracking channel (Table 5-4). -/
inductive ChanState where
  | free | pullIn | locked | synced | coast
deriving DecidableEq, Repr

/-- A channel's settings: the fields of TRK_SIGCFGn and TRK_CHc_CFG (R118, R119). -/
structure ChanCfg where
  spacing : Nat := 8
  vspacing : Nat := 16
  disc : Nat := 0
  comp : Nat := 0
  coh : Nat := 10
deriving DecidableEq, Repr

/-- One tracking channel (R116–R128). PLI is in 2^-16, M in 1/4,096, the carrier phase in 2^-32 cycle; the code phase, in 2^-32 chip
within `spanMs` of code (the primary period until synchronisation), stands at the FRC instant `instant`. `window` holds, newest first, each
interval's prompt and noise power, and length in ms; `mpWin` M and length. -/
structure Channel where
  sig : SigId := ⟨0, 0, 0, 0⟩
  state : ChanState := .free
  prior : ChanState := .locked
  half : Bool := false
  slip : Bool := false
  multipath : Bool := false
  onData : Bool := false
  noiseTap : Bool := false
  cfgChanged : Bool := false
  coh : Nat := 0
  cfg : ChanCfg := {}
  cfgNext : Option ChanCfg := none
  cn0 : Nat := 0
  doppler : Int := 0
  codePhase : Nat := 0
  carrPhase : Int := 0
  lockTime : Nat := 0
  slips : Nat := 0
  pli : Int := 0
  pliDip : Bool := false
  pliGood : Nat := 0
  pliBad : Nat := 0
  mp : Int := 0
  window : List (Nat × Nat × Nat) := []
  mpWin : List (Int × Nat) := []
  pli10 : List (Int × Nat) := []
  fll : Bool := false
  entered : Nat := 0
  tag : Nat := 0
  changes : List Nat := []
  phaseIndex : Nat := 0
  lastSign : Bool := false
  signs : List Bool := []
  clPower : List Nat := []
  clStep : Nat := 0
  spanMs : Nat := 0
  cohNext : Option Nat := none
  instant : Nat := 0
  codeRate : Int := 0
  prompt : Int × Int := (0, 0)
  freqError : Int := 0
  rate : Int := 0
  doppler0 : Int := 0
  handed : Nat × Int × Nat := (0, 0, 0)
  kind : Nat := 0
  fresh : Bool := false
  halfDone : Nat := 0
  opposite : Nat := 0
  polarity : Option Bool := none
  halfDue : Nat := 0
  phaseError : Int := 0
  discSum : Int := 0
  discCount : Nat := 0
deriving DecidableEq, Repr

/-- One symbol in the symbol FIFO (R123). -/
structure SymbolEntry where
  channel : Nat
  instant : Nat
  positive : Bool
  magnitude : Nat
deriving DecidableEq, Repr

/-- The tracking array (Table 5-12). -/
structure Trk where
  channels : Tab Channel := []
  fifo : List SymbolEntry := []
  requeue : List (SearchReq × Nat × Nat) := []
  fllTime : Nat := 20
  pullinMax : Nat := 100
  coastMax : Nat := 20
  lockCn0 : Nat := 50
  lossCn0 : Nat := 40
  pliLock : Nat := 205
  pliSlip : Nat := 77
  mpThreshold : Nat := 26
  sigcfg : List ChanCfg := [⟨8, 16, 0, 0, 10⟩, ⟨8, 16, 0, 0, 10⟩, ⟨16, 32, 0, 0, 20⟩, ⟨16, 32, 0, 0, 10⟩,
    ⟨8, 16, 0, 0, 8⟩, ⟨16, 32, 0, 0, 10⟩, ⟨16, 32, 0, 0, 10⟩, ⟨8, 16, 0, 0, 10⟩, ⟨8, 16, 0, 0, 10⟩,
    ⟨16, 32, 0, 0, 10⟩, ⟨16, 32, 0, 0, 1⟩, ⟨16, 32, 0, 0, 10⟩, ⟨16, 32, 0, 0, 10⟩, ⟨8, 16, 0, 0, 10⟩,
    ⟨8, 16, 0, 0, 10⟩, ⟨16, 32, 0, 0, 20⟩, ⟨16, 32, 0, 0, 10⟩, ⟨8, 16, 0, 0, 2⟩, ⟨16, 32, 0, 0, 10⟩]
  events : Word := 0#32
  locks : Word := 0#32
  slips : Word := 0#32
  halfSlips : Word := 0#32
  coasts : Word := 0#32
  pullinFailed : Word := 0#32
  ecc : Word := 0#32
deriving DecidableEq, Repr

/-- One loop object (R129–R136). Set-point, output, integrators and error are held in 2^-20 of the units of
Table 5-5; `due` is the output computed and not yet applied; `inner` counts the inner loop's periods since an outer object last ran;
`boundary` (ns) and `finish` (1/32 ns; none while it waits) are those of the computation in hand. -/
structure LoopObj where
  setpoint : Int := 0
  output : Int := 0
  i1 : Int := 0
  i2 : Int := 0
  error : Int := 0
  periods : Word := 0#32
  due : Option Int := none
  lateDue : Option Int := none
  fellBack : Bool := false
  lock : Bool := false
  clamp1 : Bool := false
  clamp2 : Bool := false
  limited : Bool := false
  good : Nat := 0
  bad : Nat := 0
  recent : List Int := []
  bwEff : Nat := 0
  ran : Bool := false
  inner : Nat := 1
  reduced : Bool := false
  boundary : Nat := 0
  finish : Option Nat := none
deriving DecidableEq, Repr

/-- The loop engine (Table 5-13) and its two lanes (R138): when the computation in progress on each ends, and the computations that
wait as (application boundary, object, duration), all in 1/32 ns of the free-running counter. -/
structure LoopEngine where
  lane0 : Nat := 0
  lane1 : Nat := 0
  jobs : List (Nat × Nat × Nat) := []
  objects : Tab LoopObj := []
  util : Nat := 0
  active : Nat := 0
  peak : Nat := 0
  cycles : Nat := 0
  cyclesMs : Nat := 0
  msMark : Nat := 0
  events : Word := 0#32
  fallback : Word := 0#32
  overrun : Word := 0#32
  clamp : Word := 0#32
deriving DecidableEq, Repr

/-- The alignment of one signal between the units (R171, R172): seconds and sums of its code offset (0.1 mm), the
last ten phase-offset fractions (2^-16 cycle), its phase offset in whole cycles, whether it is aligned, the lead's lock time
and HALF, the own HALF, NOTCHED of both, and whether the lead published it. `codes` is newest first. -/
structure AlignSig where
  sig : SigId
  count : Nat := 0
  codes : List Int := []
  fractions : List Int := []
  cycles : Int := 0
  aligned : Bool := false
  offset : Int := 0
  phase : Int := 0
  lockLead : Nat := 0
  derivedAt : Nat := 0
  halfLead : Bool := false
  halfOwn : Bool := false
  notchedLead : Bool := false
  notchedOwn : Bool := false
  published : Bool := false
deriving DecidableEq, Repr

/-- One whole second of the base ring (R168). -/
structure RingEntry where
  second : Nat
  valid : Bool
  obs : List Obs
deriving DecidableEq, Repr

/-- A correction message made and not yet sent on a route: its number and octets. -/
structure RtcmMsg where
  number : Nat
  octets : List Octet
deriving DecidableEq, Repr

/-- A UDP datagram to a directed broadcast address (R164, R486): MAC, source and destination port, destination address, octets. -/
structure Datagram where
  mac : Nat
  port : Nat
  address : Nat
  octets : List Octet
deriving DecidableEq, Repr

/-- What an epoch has still to send (Table 6-2): the FRC of its latch, the record for the Viaduct at 2 ms, the datagrams and the octets of each
UART at 15 ms. -/
structure EpochJob where
  since : Nat
  frame : List Octet
  udp : List Datagram
  uart : List (Nat × List Octet)
deriving DecidableEq, Repr

/-- The measurement unit (Table 6-14) and the correction routes. -/
structure Meas where
  survey : SurveyState := {}
  running : Bool := false
  integ : Bool := false
  passes : Nat := 0
  failing : Nat := 0
  unifRun : Nat := 0
  posDev : Bool := false
  devH : Nat := 0
  devV : Nat := 0
  fixes : List (Option (Int × Int × Int)) := []
  prevClock : Option Int := none
  prevDrift : Option Int := none
  prevRho : Int := 0
  excluded : Nat := 0
  sats : Nat := 0
  causes : Tab Nat := []
  coastAt : Tab Nat := []
  notchAt : List (Option Nat) := [none, none, none]
  epochT : Nat := 0
  last : List Obs := []
  window : List Obs := []
  windowCount : Nat := 0
  publishing : Bool := false
  lastValid : Option Nat := none
  lastValidDue : Option (Nat × Nat) := none
  ageLimit : Bool := false
  ring : List RingEntry := []
  stepped : Option Nat := none
  uniform : Nat := 10
  clk : Nat := 50
  resid : Nat := 15
  gf : Nat := 30
  staMsg : Nat := 1
  glo1230 : Nat := 1
  staPeriod : Nat := 10
  uart0 : Nat := 1
  uart1 : Nat := 1
  uart0Next : Nat := 1
  uart1Next : Nat := 1
  uartBusy : List Nat := [0, 0]
  airQueue : List RtcmMsg := []
  airOffset : Nat := 0
  airSeq : Nat := 0
  airEpoch : Nat := 0
  airFrom : Nat := 0
  airDropped : Bool := false
  job : Option EpochJob := none
  prevSec : List Obs := []
  shadowSince : Nat := 0
  align : List AlignSig := []
  alignState : Nat := 0
  contNotAssured : Bool := false
  required : Nat := 0
  clkOffset : Int := 0
  clkError : Nat := 0
  clkRun : List Int := []
  frozen : Bool := false
  frozenAt : Nat := 0
  withheldSince : Nat := 0
  alignAt : Nat := 0
  ambig : Tab Int := []
deriving DecidableEq, Repr

/-- The counters and latched events of the MEAS block. -/
structure MeasRegs where
  events : Word := 0#32
  epochs : Word := 0#32
  valid : Word := 0#32
  withheldS : Word := 0#32
  airDropped : Word := 0#32
  auditPass : Word := 0#32
  auditFail : Word := 0#32
  auditOther : Word := 0#32
  alignResets : Word := 0#32
deriving DecidableEq, Repr

/-- A position settled by a full survey and kept in MRAM with its site and station IDs (R151). -/
structure KeptPosition where
  x : Int
  y : Int
  z : Int
  site : Nat
  station : Nat
deriving DecidableEq, Repr

/-- The states of the boost (Table 16-1). -/
inductive BoostState where
  | off | softStart | run | faultWait | latched
deriving DecidableEq, Repr

/-- One string (R442–R445): its counts of failed, good and overvoltage periods in a row, OPEN, STALE, the two holds, its
on-time, its last measurement, whether it is in regulation, and its base periods since the last evaluated one and
since the last diagnostic pulse. -/
structure LumString where
  fails : Nat := 0
  goods : Nat := 0
  overs : Nat := 0
  opened : Bool := false
  stale : Bool := false
  heldOv : Bool := false
  heldAdj : Bool := false
  on : Nat := 0
  sink : Nat := 0
  low : Bool := false
  idle : Nat := 0
  sinceDiag : Nat := 0
  diag : Bool := false
  period : Nat := 0
  clocks : Nat := 0
  ended : Nat := 0
deriving DecidableEq, Repr

/-- The lighting engine (Table 16-4). The schedule's two copies hold state and display code of each zone, as
state + 4 × code + 64; `tested` is the arbitration boundary at which the last adjacent-pin test began. A string's `period` is its last whole base
period (0–11), with its clocks and the instant of its end (R435). Times are ns of the FRC. -/
structure Lum where
  boost : BoostState := .off
  faults : Nat := 0
  runSince : Option Nat := none
  faultAt : Nat := 0
  shadow : Tab Nat := []
  active : Tab Nat := []
  override : Bool := false
  strings : Tab LumString := []
  adj : Nat := 0
  /-- The pairs found shorted that no later test has found clear, bit n the pair LEDn and LEDn+1 (R445). -/
  adjHeld : Nat := 0
  testDue : Bool := false
  tested : Option Nat := none
  testTime : Nat := 0
  output : Nat := 0
  minSink : Nat := 0
  regulated : Bool := false
  headroomRun : Bool := false
  events : Word := 0#32
  opens : Word := 0#32
  adjFails : Word := 0#32
  boostFaults : Word := 0#32
  curlim : Word := 0#32
  missed : Nat := 0
deriving DecidableEq, Repr

/-- One sequenced table (R28): when its commit flag was set, how often its copies have been exchanged, and the two copies of its
entries (a Deck's entries stand in its radio). -/
structure SeqTable where
  committed : Option Nat := none
  exchanges : Nat := 0
  active : Tab (List Octet) := []
  shadow : Tab (List Octet) := []
deriving DecidableEq, Repr

/-- One copy of the calibration record in MRAM (R416): whether its CRC holds, its sequence number, and the channels whose
gain, phase and offset are not 1.0, 0 and 0. -/
structure CalCopy where
  valid : Bool
  seq : Nat
  chans : Tab (Nat × Int × Int)
deriving DecidableEq, Repr

/-- One copy of a checkpoint, or the metering area of a save (R425, R426): each point's seven accumulators and maximum
power. -/
structure MetCopy where
  valid : Bool := false
  time : Nat := 0
  accs : Tab (List Nat) := []
  maxp : Tab Nat := []
deriving DecidableEq, Repr

/-- An unaccounted interval that is open (R427): its start, whether that is a completed save's, the maximum powers. -/
structure MetGap where
  start : Nat
  saved : Bool
  maxp : Tab Nat
deriving DecidableEq, Repr

/-- What the metering engine keeps in MRAM: calibration, the two checkpoints, the save's area 2, the open interval. -/
structure MetStore where
  cal : List (Option CalCopy) := [none, none]
  checks : List MetCopy := [{}, {}]
  area : MetCopy := {}
  gap : Option MetGap := none
deriving DecidableEq, Repr

/-- A metering channel (R413–R419): the calibrated samples in its delay line, newest first; its coil integrator in 2^-32 code; its samples of
the block before and of the last block, oldest first; the second's sum of squares and count; the last sample and the ns from the last
positive zero crossing to it; the second's intervals between crossings, their sum in ns and number. -/
structure MetChan where
  line : List Int := []
  coil : Int := 0
  before : List Int := []
  block : List Int := []
  squares : Nat := 0
  count : Nat := 0
  prev : Int := 0
  since : Option Nat := none
  span : Nat := 0
  spans : Nat := 0
deriving DecidableEq, Repr

/-- One metering point: accumulators in 1 nWh with their fractions (R422), the sums of the second in progress, both in the engine's unit of
energy, and what MET_Pp shows. -/
structure MetPoint where
  acc : List Nat := [0, 0, 0, 0, 0, 0, 0]
  frac : List Nat := [0, 0, 0, 0, 0, 0, 0]
  sumP : Int := 0
  sumQ : Int := 0
  sumS : Nat := 0
  blocks : Nat := 0
  creeps : Nat := 0
  p : Int := 0
  q : Int := 0
  s : Nat := 0
  pf : Int := 0
  quadrant : Nat := 0
  creep : Bool := false
  valid : Bool := false
  irms : List Nat := [0, 0, 0]
  runMax : Nat := 0
  maxp : Nat := 0
deriving DecidableEq, Repr

/-- A calibration write waiting for the next whole second (R416). -/
structure CalChange where
  channel : Nat
  half : Nat
  old : Nat
  new : Nat
  seq : Nat
  at_ : Nat
deriving DecidableEq, Repr

/-- The metering engine (Table 15-7). -/
structure Met where
  settled : Option Nat := none
  accumulating : Bool := false
  resumed : Option (BitVec 64) := none
  points : Tab MetPoint := []
  chans : Tab MetChan := []
  satSeen : Nat := 0
  cal : Tab (Nat × Int × Int) := []
  calSeq : Nat := 0
  calValid : Bool := false
  calDue : List CalChange := []
  vrms : List Nat := [0, 0, 0, 0, 0, 0]
  freq : List Nat := [0, 0]
  lost : List Nat := [0, 0]
  sat : Nat := 0
  bsFault : Nat := 0
  bsSecond : Nat := 0
  bsRun : Nat := 0
  snapSeq : Nat := 0
  snapCal : Nat := 0
  snapTime : Nat := 0
  snap : Tab (List Nat) := []
  gapState : Nat := 0
  gapSaved : Bool := false
  gapStart : Nat := 0
  gapLen : Nat := 0
  gapBound : Tab Nat := []
  events : Word := 0#32
  cntChecks : Word := 0#32
  cntSat : Word := 0#32
  cntBs : Word := 0#32
  cntSnap : Word := 0#32
deriving DecidableEq, Repr

/-- A handover asked for or granted (R353, R354): who asked (0 unit A's takeback, 1 the host's write) and, once granted,
the tick whose swap instant it has. -/
structure Handover where
  source : Nat
  tick : Option Nat := none
  instant : Nat := 0
deriving DecidableEq, Repr

/-- A frame heard by a standby's radio, kept for a takeover (R349). -/
structure Heard where
  radio : Nat
  frame : RxFrame
deriving DecidableEq, Repr

/-- The pair controller and the PAIR block (Table 12-12, R336–R354). Times are ns of the FRC. `holdFrom` is where the
hold-off counts from and `brokenAt` the last break of clean health; `seeking` is why the unit seeks the claim: 0 not, 1 to 5
a KIND of PAIR_LAST, 6 the end of START; `lossAt` is the instant of lead loss, `lateEntry` the BEACON entry that a takeover
may still serve at +1.5 ms; `beatRx` is the device time of the partner's last HEARTBEAT. -/
structure Pair where
  claim : Bool := false
  peerClaim : Bool := false
  peerFree : Option Nat := some 0
  decided : Option Nat := none
  forceOut : Bool := false
  forceIn : Bool := false
  mirrored : Bool := false
  cls : PairClass := .none
  holdFrom : Nat := 0
  brokenAt : Nat := 0
  seeking : Nat := 0
  lossAt : Nat := 0
  lateEntry : Option Nat := none
  beatRx : Nat := 0
  beatTx : List Nat := []
  asked : Option Nat := none
  takeback : Bool := true
  healthAt : Option Nat := none
  beatAt : Option Nat := none
  beatSeq : Nat := 0
  lanes : Nat := 0
  viaUp : Bool := false
  viaDown : Bool := false
  missed : Nat := 0
  retrains : Nat := 0
  peer : Nat := 0
  peerMode : Nat := 0
  peerReady : Nat := 0
  peerForce : Bool := false
  peerSaving : Bool := false
  peerAligned : Bool := false
  eccSeen : Bool := false
  tamperSeen : Bool := false
  refSeen : Bool := false
  radioAt : Option Nat := none
  windows : Nat := 0
  lastKind : Nat := 0
  lastDuration : Nat := 0
  handover : Option Handover := none
  swapDue : Bool := false
  sentTick : Nat := 0
  ackTick : Nat := 0
  deltaDue : Bool := false
  unapplied : Bool := false
  resync : Option Nat := none
  resyncBlocks : Nat := 0
  imageTick : Option Nat := none
  nextTick : Nat := 0
  heard : List Heard := []
  ceilingDue : List (Nat × Nat) := []
  regDue : List (Nat × Nat × Nat) := []
  checks : List Nat := [0, 0, 0, 0]
  events : Word := 0#32
  cntTakeovers : Word := 0#32
  cntHandovers : Word := 0#32
  cntHbMissed : Word := 0#32
  cntCrc : Word := 0#32
  cntResyncs : Word := 0#32
  cntDeltaLate : Word := 0#32
deriving DecidableEq, Repr

/-- The fleet stop block's own registers (Table 11-10): input levels and filters, the times of causes not yet on air,
what the beacon's bitmap and the STOP frames have carried. Times are device times. -/
structure Fstop where
  rawA : Bool := false
  rawB : Bool := false
  runA : Bool := false
  runB : Bool := false
  differ : Option Nat := none
  partnerA : Bool := true
  partnerB : Bool := true
  own : Nat := 0
  serialAt : Option Nat := none
  cellSince : Option Nat := none
  since : Tab Nat := []
  bitmap : BitVec 256 := 0#256
  listed : BitVec 256 := 0#256
  ticked : BitVec 256 := 0#256
  events : Word := 0#32
  seen : Word := 0#32
  latLast : Nat := 0
  latMax : Nat := 0
  cntCell : Word := 0#32
  cntSession : Word := 0#32
  cntReleases : Word := 0#32
  cntLate : Word := 0#32
deriving DecidableEq, Repr

/-- A frame-counter and its ceiling for one sending key (R224), with a raised ceiling that awaits its
acknowledgement. -/
structure SendKey where
  counter : Nat := 0
  ceiling : Nat := 0
  raised : Option Nat := none
  epochDue : Bool := false
deriving DecidableEq, Repr

/-- One use of the air: when it ended, its channel and its length, in µs (R203). -/
structure AirUse where
  time : Nat
  channel : Nat
  length : Nat
deriving DecidableEq, Repr

/-- A frame that passed the checks of R221 and R223, waiting for its own command. -/
structure Delivered where
  radio : Nat
  source : RadioAddr
  payload : List Octet
  time : Nat
  rssi : Int
  ctr : Nat
deriving DecidableEq, Repr

/-- A unicast frame on air that awaits its acknowledgement. -/
structure AwaitAck where
  seq : Nat
  dest : RadioAddr
  frame : Unicast
deriving DecidableEq, Repr

/-- One radio: its sequencer and registers (Table 8-26). The two Decks hold entries keyed 64 × tick + index. The PLL and
the PA are out until the device times `dead` and `paDead` (R235); `rx` ends the last listening entry; `sentEnd` ends the
last exchange of a DOWN entry; `contact` is a node exchange in progress: node, end of the acknowledgement, frames sent. -/
structure Radio where
  awake : Bool := false
  decks : Nat := 0
  deck : Tab (List Octet) := []
  shadow : Tab (List Octet) := []
  dead : Nat := 0
  paDead : Nat := 0
  rx : Nat := 0
  rxFrom : Nat := 0
  ackAir : Option (Nat × Nat) := none
  busy : Nat := 0
  onAir : Option (AirFrame × Nat) := none
  uses : List AirUse := []
  skipRun : Bool := false
  sent : Option AwaitAck := none
  sentEnd : Nat := 0
  contact : Option (Nat × Nat × Nat) := none
  events : Word := 0#32
  cntTx : Word := 0#32
  cntRx : Word := 0#32
  cntAcks : Word := 0#32
  cntDup : Word := 0#32
  cntFiltered : Word := 0#32
  cntFcs : Word := 0#32
  cntMic : Word := 0#32
  cntReplay : Word := 0#32
  cntSkipDwell : Word := 0#32
  cntSkipDuty : Word := 0#32
  cntNoAck : Word := 0#32
  cntStop : Word := 0#32
deriving DecidableEq, Repr

/-- A tower commit in progress (R234): its serial, the data not yet settled by tower, the tick named. -/
structure TowerCommit where
  serial : Nat := 0
  opened : Bool := false
  waiting : List Nat := []
  tick : Option Nat := none
deriving DecidableEq, Repr

/-- What both radios share: the delivered frames, the tower data, the sending keys by number (`sendKeyNo`) with the
ceilings and accepted counters that MRAM holds, the last beacon, a beacon skipped under R203, a transmit failure in the
entry, the late beacon of a takeover, the ns at which a tick last went without a beacon. -/
structure Radios where
  a : Radio := {}
  b : Radio := {}
  guardG0 : Nat := 500
  guardPpm : Nat := 2
  delivered : List Delivered := []
  keys : Tab SendKey := []
  beaconStart : Option Nat := none
  skipAt : Option Nat := none
  txFail : Bool := false
  late : Option Nat := none
  beaconGap : Nat := 0
  serveFrom : Nat := 0
  changeMap : Nat := 0
  tower : TowerCommit := {}
  shown : Tab Nat := []
  lastCounter : Tab Nat := []
  stored : Tab Nat := []
deriving DecidableEq, Repr

/-- A CHP submission waiting for the next snapshot (R244): its frame and its descriptors in order. -/
structure Submission where
  frame : ChpFrame
  host : Nat
  tasks : List (List Octet)
deriving DecidableEq, Repr

/-- A host stop release, force-release or class change waiting for the next snapshot (R324, R298, R292). -/
structure HostOrder where
  kind : Nat
  scope : Nat
  target : Nat
  host : Nat
  frame : Option ChpFrame
  keep : Nat := 0
deriving DecidableEq, Repr

/-- What was received since the last snapshot and waits for the next (Table 1-8); a node's report and a session's opening carry the
device time of their frame's first symbol. -/
structure Inputs where
  submissions : List Submission := []
  reports : List (Nat × List NodeItem × Nat) := []
  reported : List (Nat × Report) := []
  opened : List (Nat × Nat) := []
  closed : List (Nat × Nat) := []
  releases : List HostOrder := []
  forces : List HostOrder := []
  classes : List (Nat × Nat) := []
  alarmClr : Bool := false
  answers : List (Nat × Nat × Nat) := []
  guestReleases : List (Nat × Nat × Nat) := []
deriving DecidableEq, Repr

/-- A gift of the tick in progress with what a flush of its queue restores (R267): the worker, its flow and its profiler
session as they stood. -/
structure Gift where
  worker : Nat
  queue : Nat
  task : Nat
  before : Worker
  flow : Nat
  flowBefore : Flow
deriving DecidableEq, Repr

/-- One tick decided and not yet published (Table 1-8): its t0, whether t0 + 7 ms has committed it, the PROFILE frames and replies it
will publish, the go bits it returns, what status reads then show. -/
structure TickOut where
  tick : Nat
  committed : Bool := false
  profiles : List Nat := []
  returns : List Nat := []
  guestOut : List (Nat × List Octet) := []
  news : List TickNews := []
  gifts : List Gift := []
  records : List (Nat × List (Nat × Int)) := []
deriving DecidableEq, Repr

/-- The committed state that status reads, frames and the lighting schedule see (R31). -/
structure Published where
  dsp : Dsp := {}
  xarb : Xarb := {}
  prof : Prof := {}
  covered : List Nat := []
  tick : Nat := 0
deriving DecidableEq, Repr

/-- Wait statistics of one queue (R264, Table 9-8): count and sum of waits, maximum, histogram, ECC counts. -/
structure WaitStat where
  count : Nat := 0
  sum : Nat := 0
  max : Nat := 0
  bins : List Nat := []
  corrected : Nat := 0
  discarded : Nat := 0
deriving DecidableEq, Repr

/-- Busy time of one worker: spans of time, in ms, with work (Table 9-8), and tasks given since START. -/
structure WorkStat where
  since : Option Nat := none
  spans : List (Nat × Nat) := []
  given : Nat := 0
deriving DecidableEq, Repr

/-- The unit's own registers of DSP, XARB and PROF: counters, events, views, and the settings of PROF. -/
structure FleetRegs where
  dspEvents : Word := 0#32
  submitted : Word := 0#32
  refused : Word := 0#32
  given : Word := 0#32
  done : Word := 0#32
  interrupted : Word := 0#32
  fired : Word := 0#32
  coalesced : Word := 0#32
  discarded : Word := 0#32
  affHeld : Word := 0#32
  affExpired : Word := 0#32
  lookahead : Word := 0#32
  peekQueue : Nat := 0
  peekIndex : Nat := 0
  peekValid : Bool := false
  peekDepth : Nat := 0
  peek : List Octet := []
  waits : Tab WaitStat := []
  works : Tab WorkStat := []
  energy : List Int := []
  energyAvg : Int := 0
  energyValid : Bool := false
  energyNoted : Bool := false
  xarbEvents : Word := 0#32
  grants : Word := 0#32
  contested : Word := 0#32
  routes : Word := 0#32
  overstays : Word := 0#32
  cycles : Word := 0#32
  retreats : Word := 0#32
  noEscapes : Word := 0#32
  forced : Word := 0#32
  guestOut : Word := 0#32
  guestIn : Word := 0#32
  profEvents : Word := 0#32
  derate : List Nat := [0x64646464, 0x64646464, 0x64646464, 0x64646464]
  imp : List Nat := List.replicate 12 0x00640064
  plans : Word := 0#32
  deferred : Word := 0#32
  behind : Word := 0#32
  envelope : Word := 0#32
  late : Word := 0#32
  resumes : Word := 0#32
  stageLast : Nat := 0
  stageMax : Nat := 0
deriving DecidableEq, Repr

/-- The releases not yet acknowledged and when they were last sent, when each cell was last heard, and the cells not heard
for 10 s (R299, R300). -/
structure GuestLinks where
  releasing : List (Nat × Nat × Nat) := []
  heard : Tab Nat := []
  lost : List Nat := []
  sentAt : Nat := 0
deriving DecidableEq, Repr

/-- What the block sends out during one command. -/
inductive Out where
  | reply (r : Reply)
  | air (frame : AirFrame)
  | ack (radio : Nat) (seq : Nat) (more : Bool) (correction : Int) (psdu : List Octet)
  | viaduct (kind : Nat) (octets : List Octet)
  | backbone (kind : Nat) (d : Datagram)
  | delta (d : TickDelta)
  /-- The RESYNC blocks of every table, stamped with their tick (R345). -/
  | resync (tick : Nat) (image : Fleet)
  | pulse (n : Nat) (time : Nat) (trailing : Nat) (activeHigh : Bool)
  | datagram (d : Datagram)
  | rtcm (port : Nat) (octets : List Octet)
  | ptp (mac : Nat) (kind : Nat) (octets : List Octet)
  | spi (octets : List Octet)
  /-- What a read returns to its master when Trestle cuts the access off (R20): the data, and no further transfer follows. -/
  | readEnd (master : Nat) (data : Nat)
  /-- A transfer of a DMA master or the host bridge ends with an error (R25). -/
  | transferError (master : Nat) (address : Nat)
  /-- A write to the shadow copy of a sequenced table is refused with an error (R28). -/
  | tableError (table : Nat)
deriving DecidableEq, Repr

/-- Why a command would fault: no rule of the spec stops the block, so the type has no constructor; a command that
the spec turns away is answered or ignored as its rule says. Safe: nothing is cut short. -/
inductive Fault where
deriving DecidableEq, Repr

/-- Why a command is refused. -/
inductive Refusal where
  /-- Raised by `exec` alone, for a command that has no meaning here. Safe: the machine stops and claims nothing. -/
  | notModelled (mnemonic : String)
deriving DecidableEq, Repr

/-- The state of one CMT960. -/
structure State where
  sys : Sys := {}
  clk : Domains := {}
  tres : Trestle := {}
  ao : AlwaysOn := {}
  cfg : CfgState := {}
  time : TimeUnit := {}
  treg : TimeRegs := {}
  rcd : Recorder := {}
  store : RecStore := {}
  diag : Diag := {}
  host : HostBridge := {}
  flash : Memory := []
  saved : SavedAreas := {}
  keys : KeyStore := {}
  kreg : KeyRegs := {}
  upd : UpdStore := {}
  ureg : UpdRegs := {}
  pair : Pair := {}
  fleet : Fleet := {}
  pub : Published := {}
  inp : Inputs := {}
  tick : Option TickOut := none
  freg : FleetRegs := {}
  guest : GuestLinks := {}
  stop : Fstop := {}
  rad : Radios := {}
  lake : Lake := {}
  lcnt : LakeCounters := {}
  trk : Trk := {}
  loop : LoopEngine := {}
  meas : Meas := {}
  mreg : MeasRegs := {}
  lum : Lum := {}
  met : Met := {}
  mets : MetStore := {}
  tables : List SeqTable := [{}, {}, {}, {}, {}]
  kept : Option KeptPosition := none
  latch : Tab Word := []
  free : Nat := 0
  out : List Out := []
  pending : List Instr := []
deriving DecidableEq, Repr

/-- The machine right after reset. -/
def State.reset : State := {}

end Sys2Proof.Machine
end

