-- ==== Sys2Proof/Machine/Clock.lean ====
section
/-! DEFINITION. The free-running counter, the time formula and the boundaries of device time (R10, R178, R179, R29). -/

namespace Sys2Proof.Machine

/-- One nanosecond in the unit of device time, 2^-16 ns (R10). -/
def perNs : Nat := 65536
/-- One microsecond of device time. -/
def perUs : Nat := 1000 * perNs
/-- One millisecond of device time. -/
def perMs : Nat := 1000 * perUs
/-- One second of device time. -/
def perSec : Nat := 1000 * perMs

/-- Device time at FRC value `f` under the anchor in force, rounded down to 2^-16 ns (R179). -/
def TimeUnit.timeAt (t : TimeUnit) (f : BitVec 64) : Nat :=
  t.tAnchor + (((f - t.fAnchor).toNat : Int) * (2 ^ 52 + t.rho) / 2 ^ 36).toNat

/-- The first FRC value at which device time has reached `target` under the anchor in force. -/
def TimeUnit.frcFor (t : TimeUnit) (target : Nat) : BitVec 64 :=
  if target ≤ t.tAnchor then t.fAnchor
  else t.fAnchor + BitVec.ofNat 64 (ceilDiv ((target - t.tAnchor) * 2 ^ 36) (2 ^ 52 + t.rho).toNat)

/-- Device time now. -/
def State.now (s : State) : Nat := s.time.timeAt s.time.frc

/-- The FRC now, in ns of the system PLL (R178). -/
def State.ns (s : State) : Nat := s.time.frc.toNat

/-- Whole seconds of a device time. -/
def secOf (t : Nat) : Nat := t / perSec

/-- Nanoseconds within the second of a device time. -/
def nsOf (t : Nat) : Nat := t % perSec / perNs

/-- The number of the arbitration tick that a device time lies in (R342). -/
def tickOf (t : Nat) : Nat := t / (10 * perMs)

/-- The three words of a 96-bit device time, least significant first (R10). -/
def timeWord (t : Nat) (i : Nat) : Word :=
  BitVec.ofNat 32 ((secOf t * 2 ^ 48 + nsOf t * 2 ^ 16 + t % perNs) / 2 ^ (32 * i))

/-- Time runs on until device time has reached `target`. -/
def State.reach (target : Nat) (s : State) : State :=
  { s with time.frc := if target ≤ s.now then s.time.frc else s.time.frcFor target }

/-- A timeout at an instant of the free-running counter falls due: time has run on to it (log 5). -/
def State.atLeast (ns : Nat) (s : State) : State := { s with time.frc := if s.ns < ns then BitVec.ofNat 64 ns else s.time.frc }

/-- The time of the next boundary of kind `kind` with the given period and offset: the first multiple of the period,
plus the offset, that lies after the last that fired and was not past one count of the FRC ago (log 5). -/
def State.nextMark (kind period : Nat) (ofs : Int) (s : State) : Nat :=
  let least := max (s.now - (perNs + 8)) (Tab.get 0 s.time.marks kind)
  (((ceilDiv ((least : Int) - ofs).toNat period * period : Nat) : Int) + ofs).toNat

/-- The boundary of kind `kind` fires: time has reached it, and it is remembered (log 5). -/
def State.markOfs (kind period : Nat) (ofs : Int) (s : State) : State :=
  let t := s.nextMark kind period ofs
  { s with time.frc := (s.reach t).time.frc, time.marks := Tab.set 0 s.time.marks kind (t + 1) }

/-- A boundary at whole multiples of the period. -/
def State.mark (kind period : Nat) (s : State) : State := s.markOfs kind period 0

/-- The boundaries after a move of device time at this instant (R187): with a whole number of seconds each boundary
fires as the one the amount later; otherwise the next ones are the multiples that lie after the new time. -/
def State.rearm (amount : Int) (s : State) : State :=
  { s with time.marks := Tab.mapVals 0 (fun _ v =>
      if amount % (perSec : Int) = 0 then ((v : Int) + amount).toNat else s.now + 1) s.time.marks }

/-- The kinds of boundary that `State.mark` counts. -/
def markTick : Nat := 1
def markSecond : Nat := 2
def markEpoch : Nat := 3
def markBeat : Nat := 4
def markMeter : Nat := 5
def markBlock : Nat := 6
def markTable : Nat := 7
def markRadioA : Nat := 8
def markRadioB : Nat := 9
def markMs : Nat := 10

/-- The second at which the lead speaks on the backbone. -/
def markAlive : Nat := 14
def markHour : Nat := 0
/-- The blanker's milliseconds, and of band `b` the AGC's seconds and the monitor's runs. -/
def markBlank : Nat := 30
def markAgc (b : Nat) : Nat := 31 + b
def markMonitor (b : Nat) : Nat := 34 + b
/-- The seconds of the clock loops 576 + `n`. -/
def markLoop (n : Nat) : Nat := 37 + n
/-- The adjacent-pin test's period. -/
def markShort : Nat := 39
/-- The instants at which a HEARTBEAT is missed. -/
def markMissed : Nat := 40
/-- PPS output `n` counts as kind 11 + n. -/
def markPps (n : Nat) : Nat := 11 + n

end Sys2Proof.Machine
end

