-- ==== Sys2Proof/Machine/Ops.lean ====
section
/-! DEFINITION. The operations that every chapter shares: how a command ends, free values, the event recorder's
intake and writer (R450–R456), the mode change (R36). -/

namespace Sys2Proof.Machine

/-- The clock domains by number (Table 1-6). -/
def domCore : Nat := 0
def domGnss : Nat := 1
def domLake : Nat := 2
def domRadioA : Nat := 3
def domRadioB : Nat := 4
def domCrypto : Nat := 5
def domViaduct : Nat := 6
def domEth0 : Nat := 7
def domEth1 : Nat := 8
def domMetering : Nat := 9
def domLighting : Nat := 10

/-- The start time of a demand-started domain in ns, from its wake trigger (Table 1-6); for the core complex that of its PLL. -/
def domStart (d : Nat) : Nat :=
  ([500000, 3000000, 30000, 250000, 250000, 200, 2000000, 1000000, 1000000, 5000000, 20000][d]?).getD 0

/-- A domain's wake trigger: it reaches its working frequency `ns` later (R26). -/
def State.wakeIn (d ns : Nat) (s : State) : State := { s with clk.readyAt := Tab.set 0 s.clk.readyAt d (s.ns + ns) }

/-- A domain wakes with the start time of Table 1-6. -/
def State.wake (d : Nat) (s : State) : State := s.wakeIn d (domStart d)

/-- A domain has reached its working frequency (R26). -/
def State.domReady (d : Nat) (s : State) : Bool := decide (Tab.get 0 s.clk.readyAt d ≤ s.ns)

/-- Time runs on until a domain has reached its working frequency: no work is handed to it before (R26, log 5). -/
def State.whenReady (d : Nat) (s : State) : State := s.atLeast (Tab.get 0 s.clk.readyAt d)

/-- The one shape of a meaning: what the block sent during the last command is gone, the command's effect is the next state, and the
queue of waiting commands stays as it was. -/
def done (f : State → State) (s : State) : Host.Outcome State Fault Refusal := .next { f { s with out := [] } with pending := s.pending }

/-- The block idles (log 1): 1 ns passes on the free-running counter where it counts, which it does once the system PLL has locked
(R178), and nothing else changes. -/
def State.idle (s : State) : State :=
  match s.sys.mode with
  | .dormant => s
  | .start | .survey | .lead | .shadow | .hold => if s.clk.system then { s with time.frc := s.time.frc + 1 } else s

/-- The effect `f` where `c` holds; nothing otherwise. -/
def State.when (c : Bool) (f : State → State) (s : State) : State := if c then f s else s

/-- The effect of each element in turn. -/
def State.each {α : Type} (l : List α) (f : α → State → State) (s : State) : State := l.foldl (fun acc a => f a acc) s

/-- The block sends something. -/
def State.send (o : Out) (s : State) : State := { s with out := s.out ++ [o] }

/-- A free value is taken: the model's counter advances (log 2). -/
def State.takeFree (s : State) : Nat × State := (s.free, { s with free := s.free + 1 })

/-- VDD_CORE is in range: the unit is in a powered mode (R35). -/
def State.powered (s : State) : Bool := decide (s.sys.mode ≠ .dormant)

/-- The unit is in a service mode: SURVEY, LEAD, SHADOW or HOLD. -/
def State.inService (s : State) : Bool :=
  match s.sys.mode with
  | .survey | .lead | .shadow | .hold => true
  | .dormant | .start => false

/-- The unit is lead: in SURVEY, LEAD or HOLD with its claim held (R477). -/
def State.isLead (s : State) : Bool :=
  match s.sys.mode with
  | .survey | .lead | .hold => s.pair.claim
  | .dormant | .start | .shadow => false

/-- The unit records of the image in use. -/
def State.unitRec (s : State) : Option UnitRec := s.cfg.image.map (·.unit)

/-- The STATION record of the image in use. -/
def State.station (s : State) : Option StationRec := s.cfg.image.map (·.station)

/-- The unit is a member of a pair by its image. -/
def State.paired (s : State) : Bool := (s.unitRec.map (fun u => decide (u.pair = 1))).getD false

/-- The unit's role in records and SYS_MODE: 0 lone, 1 A, 2 B (Table 17-1). -/
def State.unitNo (s : State) : Nat := if s.paired then (if s.sys.pairSel then 2 else 1) else 0

/-- The data items of an event as octets, each (width, value), little-endian, whole items only (R450). -/
def itemOctets : Nat → List (Nat × Int) → List Octet
  | _, [] => []
  | room, (n, v) :: rest => if n ≤ room then leBytes n (sbits (8 * n) v) ++ itemOctets (room - n) rest else []

/-- The class of an event code (Table 17-2). -/
def codeClass (code : Nat) : Nat :=
  if [0x0003, 0x0004, 0x0009, 0x000A, 0x000C, 0x000D, 0x000E, 0x0101, 0x0103, 0x0606, 0x0607, 0x0706, 0x0707,
      0x0907, 0x090A, 0x090E, 0x0509, 0x0B01, 0x0B05, 0x0B06, 0x0C02, 0x0C05, 0x0C06, 0x0C07, 0x0C08, 0x0D0A,
      0x0D0B, 0x0E08, 0x0F06, 0x1001, 0x1002, 0x1301].contains code then 0
  else if [0x00, 0x04, 0x05, 0x0B, 0x0C, 0x0D, 0x10, 0x11, 0x12].contains (code / 256) then 1
  else if [0x02, 0x06, 0x07, 0x08, 0x09, 0x0A, 0x13].contains (code / 256) then 2
  else 3

/-- Codes that a unit in SHADOW does not take, because they belong to the lead's mirrored state (R456). -/
def leadOnlyCode (code : Nat) : Bool :=
  [0x08, 0x09, 0x0A].contains (code / 256) || (decide (0x0610 ≤ code) && decide (code ≤ 0x0614)) ||
  (decide (0x0710 ≤ code) && decide (code ≤ 0x0713)) || (decide (0x1301 ≤ code) && decide (code ≤ 0x1303))

/-- The check records of a detector (Table 17-6). -/
def checkCodes (detector : Nat) : List Nat :=
  match detector with
  | 0x01 => [0x000E, 0x010B, 0x000A]
  | 0x02 | 0x03 => [0x000C]
  | 0x04 | 0x07 => [0x0001]
  | 0x05 => [0x0003]
  | 0x06 => [0x0509]
  | 0x08 => [0x000F, 0x0C07]
  | 0x09 => [0x0C07]
  | 0x0A => [0x0606, 0x0706]
  | 0x0B => [0x0607, 0x0707]
  | 0x0C => [0x0101, 0x0102, 0x0104]
  | 0x0D => [0x1304]
  | 0x0E => [0x0B09]
  | 0x0F => [0x0E01]
  | 0x10 => [0x0301, 0x0302]
  | 0x11 => [0x090E]
  | _ => []

/-- The codes that a detector's response writes, its check record among them (Table 17-6, log 12). -/
def responseCodes (detector : Nat) : List Nat :=
  checkCodes detector ++ (if [0x01, 0x02, 0x03, 0x06, 0x08, 0x09, 0x0A].contains detector then [0x000D, 0x0001] else []) ++
    (if [0x06, 0x08, 0x09, 0x0D, 0x11].contains detector then [0x1301] else [])

/-- The record is part of the response to the injection in force (R462). -/
def State.injecting (code : Nat) (s : State) : Bool :=
  match s.diag.active with
  | some i => (responseCodes i.detector).contains code
  | none => false

/-- An event as it arrives at the intake: its time fields are those of this instant (R451). -/
def State.entry (code : Nat) (data : List Octet) (s : State) : Entry :=
  { code := BitVec.ofNat 16 code, data := padTo 12 data, sec := secOf s.now, ns := nsOf s.now, optime := s.ao.optime, pwrcyc := s.ao.pwrcyc
    valid := decide (s.time.servo ≠ .provisional), aligned := s.time.aligned, stepped := s.time.stepped,
    injected := s.injecting code }

/-- The record of an entry as the writer stores it (Table 17-1). -/
def State.recordOf (e : Entry) (cls : Nat) (s : State) : Record :=
  { code := e.code
    flags := BitVec.ofNat 8 (flag e.valid + 2 * flag e.aligned + 4 * flag e.stepped + 8 * flag e.injected +
      16 * flag s.pair.claim + 32 * cls)
    unit := BitVec.ofNat 8 (s.sys.mode.code + 8 * s.unitNo + 32 * flag s.sys.saving)
    optime := e.optime, pwrcyc := e.pwrcyc, seq := s.rcd.seq, sec := e.sec % 2 ^ 32, ns := e.ns, data := e.data }

/-- The writer stores one record in the buffer (R453): it is counted, joins the records waiting for a flush, may
push out the oldest waiting one (R457), and may be the check record an injection waits for (R462; a MODE_CHANGE counts to START). -/
def State.store1 (e : Entry) (cls : Nat) (s : State) : State :=
  let r := s.recordOf e cls
  let full := decide (4096 ≤ s.rcd.unflushed)
  let wait := if full then s.rcd.unflushed else s.rcd.unflushed + 1
  let s := { s with
    rcd.buffer := (r :: s.rcd.buffer).take 4096
    rcd.seq := (s.rcd.seq + 1) % 256
    rcd.unflushed := wait
    rcd.cntRecords := incr s.rcd.cntRecords
    rcd.cntLost := if full then incr s.rcd.cntLost else s.rcd.cntLost
    rcd.lostRun := if full then s.rcd.lostRun + 1 else s.rcd.lostRun
    rcd.flushDue := s.rcd.flushDue || decide (cls = 0) || decide (2048 ≤ wait)
    ao.intake := s.ao.intake + 1 }
  match s.diag.active with
  | some i =>
    if i.seen = none ∧ (checkCodes i.detector).contains e.code.toNat ∧ (e.code = 0x0001#16 → e.data[1]? = some 1#8) then
      { s with diag.active := some { i with seen := some s.ns } }
    else s
  | none => s

/-- A record that has no bucket is stored directly (R453–R455, R457). -/
def State.storeDirect (code : Nat) (data : List (Nat × Int)) (cls : Nat) (s : State) : State :=
  s.store1 (s.entry code (itemOctets 12 data)) cls

/-- The writer takes the oldest entry of the intake FIFO; when the FIFO becomes empty after drops it stores
INTAKE_OVERFLOW (R453). -/
def State.writeOne (s : State) : State :=
  match s.rcd.fifo with
  | [] => s
  | e :: rest =>
    let s := ({ s with rcd.fifo := rest }).store1 e (codeClass e.code.toNat)
    if rest = [] ∧ s.rcd.ovfDrops ≠ 0 then
      ({ s with rcd.ovfDrops := 0 }).storeDirect 0x1002 [(4, s.rcd.ovfDrops)] 0
    else s

/-- The writer stores up to `n` entries. -/
def State.writeN : Nat → State → State
  | 0, s => s
  | n + 1, s => State.writeN n s.writeOne

/-- The writer catches up: within the time the command takes, it has stored every entry (one each 100 ns, R453). -/
def State.drain (s : State) : State := State.writeN s.rcd.fifo.length s

/-- The time in ns between two tokens of a code's bucket: 10 s over the refill of its class in the UNIT record (R454). -/
def State.refillNs (code : Nat) (s : State) : Nat := 10000000000 / max 1 (s.unitRec.elim 0 (fun u => (u.refill[codeClass code]?).getD 0))

/-- The newest entries of the FIFO that arrived in the system cycle (1 ns) of an entry and stand in a higher block: it goes before them (R453). -/
def entriesAfter (e : Entry) (fifo : List Entry) : Nat :=
  (fifo.reverse.takeWhile (fun x => decide (x.sec = e.sec ∧ x.ns = e.ns ∧ e.code.toNat / 256 < x.code.toNat / 256))).length

/-- An entry joins the FIFO in the order of arrival (R453). -/
def joinFifo (e : Entry) (fifo : List Entry) : List Entry :=
  let n := fifo.length - entriesAfter e fifo
  fifo.take n ++ e :: fifo.drop n

/-- An event reaches the intake (R453, R454, R456): it takes a token and enters the FIFO, or is suppressed and
counted, or finds the FIFO full and is dropped and counted. The first token taken starts the bucket's refill clock. -/
def State.intake (code : Nat) (data : List Octet) (s : State) : State :=
  if s.rcd.closed || !s.powered || (decide (s.sys.mode = .shadow) && leadOnlyCode code && !s.injecting code) then s
  else
    let b := Tab.get {} s.rcd.buckets code
    if b.tokens = 0 then
      let t := s.now
      let b' := { b with suppressed := b.suppressed + 1, first := if b.suppressed = 0 then t else b.first, last := t }
      { s with rcd.buckets := Tab.set {} s.rcd.buckets code b'
               rcd.cntSuppressed := incr s.rcd.cntSuppressed
               rcd.events := s.rcd.events ||| 2#32 }
    else
      let s := { s with rcd.buckets := Tab.set {} s.rcd.buckets code { b with
        tokens := b.tokens - 1, next := if 8 ≤ b.tokens then s.ns + s.refillNs code else b.next } }
      if 32 ≤ s.rcd.fifo.length then
        { s with rcd.ovfDrops := s.rcd.ovfDrops + 1
                 rcd.cntIntakeOvf := incr s.rcd.cntIntakeOvf
                 rcd.events := s.rcd.events ||| 1#32 }
      else { s with rcd.fifo := joinFifo (s.entry code data) s.rcd.fifo }

/-- What an injection of the detector waits for has come about without a record: a counter has risen (Table 17-6). -/
def State.injectSeen (detector : Nat) (s : State) : State :=
  match s.diag.active with
  | some i => if i.detector = detector ∧ i.seen = none then { s with diag.active := some { i with seen := some s.ns } } else s
  | none => s

/-- A block reports an event with its data items, each (octets, value). -/
def State.report (code : Nat) (data : List (Nat × Int)) (s : State) : State := s.intake code (itemOctets 12 data)

/-- Reports an event of a command that itself lasts longer than the writer needs: the writer has stored it. -/
def State.reportNow (code : Nat) (data : List (Nat × Int)) (s : State) : State := (s.report code data).drain

/-- The mode changes: MODE_CHANGE is recorded with the old code, the new code and the trigger, numbered by the row
of Table 2-2 (R36, log 11); entry to DORMANT writes no record. -/
def State.setMode (m : Mode) (trigger : Nat) (s : State) : State :=
  let old := s.sys.mode
  let s' := { s with sys.mode := m, sys.events := s.sys.events ||| 1#32
                     sys.serviceSince := if m = Mode.start ∨ m = Mode.dormant then none
                       else if s.inService then s.sys.serviceSince else some s.ns }
  if m = Mode.dormant then { s' with sys.events := s.sys.events }
  else s'.report 0x0001 [(1, old.code), (1, m.code), (1, trigger)]

/-- The header's octets of the firmware image that runs: of ACTIVE, or of FALLBACK where START booted that (Table 14-1, Table 14-2,
R403). -/
def State.activeHead (s : State) : List Octet := s.flash.readN (if s.ureg.bootFallback then 0x1800000 else 0x800000) 256

/-- The Viaduct protocol version that the running firmware speaks (Table 14-2, R343). -/
def State.protocol (s : State) : Nat := getLe s.activeHead 18 1

/-- The lowest partner protocol that the running firmware pairs with. -/
def State.protocolLow (s : State) : Nat := getLe s.activeHead 19 1

/-- A Viaduct frame as it goes out: the header of type, protocol version and length in octets, the content, and the CRC-32C over both
(R341, R342). -/
def State.framed (kind : Nat) (content : List Octet) (s : State) : List Octet :=
  let b := leBytes 1 kind ++ leBytes 1 s.protocol ++ leBytes 2 (content.length + 8) ++ content
  b ++ leBytes 4 (crc32c b)

/-- A Viaduct frame goes to the partner while the link is up (R342). -/
def State.viaduct (kind : Nat) (content : List Octet) (s : State) : State :=
  if s.pair.viaUp && s.paired then s.send (.viaduct kind (s.framed kind content)) else s

/-- The directed broadcast address of a MAC's subnet. -/
def NetRec.broadcast (n : NetRec) : Nat :=
  let host := 2 ^ (32 - n.pfxLen)
  n.address / host * host + (host - 1)

/-- What an epoch sends at 2 ms and at 15 ms goes out once that instant has passed (Table 6-2, log 187). -/
def State.epochPast (s : State) : State :=
  match s.meas.job with
  | none => s
  | some j =>
    let s := if j.since + 2000000 ≤ s.ns ∧ j.frame ≠ [] then
        ({ s with meas.job := some { j with frame := [] } }).viaduct 0x04 j.frame else s
    if j.since + 15000000 ≤ s.ns then
      let s := { s with meas.job := none }
      let s := s.each j.udp (fun d s => s.send (.datagram d))
      s.each j.uart (fun u s => s.send (.rtcm (2 + u.1) u.2))
    else s

/-- A valid correction epoch counts towards the age once its assembly is complete (R166). -/
def State.promoteValid (t0 : Nat) (s : State) : State :=
  match s.meas.lastValidDue with
  | some (due, e) => if due ≤ t0 then { s with meas.lastValid := some e, meas.lastValidDue := none } else s
  | none => s

end Sys2Proof.Machine
end

