-- ==== Sys2Proof/Machine/Plan.lean ====
section
/-! DEFINITION. The arithmetic of motion (R305–R313): a segment at an instant, stopping distances, trapezoidal and
S-curve plans in the units of a PROFILE frame, implement synchronisation. Positions are in nm, speeds in nm/s and
accelerations in nm/s² where a rule needs them finer than a frame's fields. -/

namespace Sys2Proof.Machine

/-- Distance in nm from a segment's start, `t` ms into it, rounded up (Table 8-14). -/
def Seg.dist (g : Seg) (t : Nat) : Int :=
  -(-(6000000 * g.v * t + 3000 * g.a * t * t + g.j * t * t * t) / 6000)

/-- Speed in nm/s, `t` ms into a segment; never below 0. -/
def Seg.speed (g : Seg) (t : Nat) : Int := max 0 ((2000000 * g.v + 2000 * g.a * t + g.j * t * t + 1) / 2)

/-- Acceleration in nm/s², `t` ms into a segment. -/
def Seg.accel (g : Seg) (t : Nat) : Int := 1000000 * g.a + 1000 * g.j * t

/-- A plan's state at an instant: distance from its start in nm, speed in nm/s, acceleration in nm/s². -/
structure PlanAt where
  pos : Int
  speed : Int
  accel : Int
deriving DecidableEq, Repr

/-- A plan `t` ms after its start: at rest at its end after the last segment (R307). -/
def planAt : List Seg → Nat → PlanAt
  | [], _ => ⟨0, 0, 0⟩
  | g :: gs, t =>
    if t < g.ms then ⟨g.dist t, g.speed t, g.accel t⟩
    else
      let r := planAt gs (t - g.ms)
      ⟨g.dist g.ms + r.pos, r.speed, r.accel⟩

/-- A plan's duration in ms. -/
def planMs (gs : List Seg) : Nat := gs.foldl (fun n g => n + g.ms) 0

/-- A plan's distance from start to rest, in nm. -/
def planDist (gs : List Seg) : Int := gs.foldl (fun n g => n + g.dist g.ms) 0

/-- A quotient of integers rounded up; the divisor is positive. -/
def ceilI (a b : Int) : Int := -((-a) / b)

/-- Distance in nm of the jerk-limited stop from speed `v` nm/s at acceleration 0, deceleration `d` and jerk `j` in
mm/s² and mm/s³: trapezoidal deceleration where the speed allows it, else triangular (R306). -/
def stopZero (v : Int) (d j : Nat) : Int :=
  let D : Int := d * 1000000
  let J : Int := j * 1000000
  if D * D ≤ v * J then ceilI (v * v * J + v * D * D) (2 * D * J)
  else ceilI (v * (isqrt (v.toNat * 10 ^ 12 / (j * 1000000)) + 1)) 1000000

/-- The stopping distance in nm (R306) from speed `v` nm/s and acceleration `a` nm/s², with deceleration `d`, jerk `j`
and shape 0 trapezoidal or 1 S-curve. -/
def stopDist (shape : Nat) (v a : Int) (d j : Nat) : Int :=
  let D : Int := d * 1000000
  if d = 0 then 0
  else if shape = 0 ∨ j = 0 then ceilI (v * v) (2 * D)
  else
    let J : Int := j * 1000000
    let v' := v + ceilI (a * a) (2 * J)
    if 0 ≤ a then stopZero v' d j + ceilI (v * a) J + ceilI (a * a * a) (3 * J * J)
    else
      let b := -a
      max 0 (stopZero v' d j - (v' * b / J - ceilI (b * b * b) (6 * J * J)))

/-- A segment, left out when it lasts 0 ms (R309). -/
def seg (ms : Nat) (v a j : Int) : List Seg := if ms = 0 then [] else [⟨ms, v, a, j⟩]

/-- The speed in whole mm/s at which a list of segments from speed `v` ends, rounded towards 0 (R312). -/
def endSpeed (v : Int) (gs : List Seg) : Int :=
  match gs.getLast? with
  | some g => g.speed g.ms / 1000000
  | none => v

/-- A change of speed at acceleration `a`, from `v` towards `w`, in whole ms (R309, R312). -/
def rampFlat (v w : Int) (a : Nat) : List Seg :=
  if v < w then seg ((w - v).toNat * 1000 / a) v a 0 else seg ((v - w).toNat * 1000 / a) v (-(a : Int)) 0

/-- A change of speed from `v` towards `w` with acceleration up to `a` and jerk `j`: ramp, hold, ramp (R310, R312). -/
def rampCurve (v w : Int) (a j : Nat) : List Seg :=
  let dv := (w - v).natAbs
  let sgn : Int := if v < w then 1 else -1
  let t := if a * a ≤ dv * j then a * 1000 / j else isqrt (dv * 1000000 / j)
  let p : Int := sgn * (j * t / 1000 : Nat)
  let g1 := seg t v 0 (sgn * j)
  let v1 := endSpeed v g1
  let used := (j * t * t / 1000000 : Nat)
  let g2 := if p = 0 then [] else seg ((dv - used) * 1000 / p.natAbs) v1 p 0
  let v2 := endSpeed v1 g2
  g1 ++ g2 ++ seg t v2 p (-(sgn * j))

/-- A change of speed in a shape. -/
def ramp (shape : Nat) (v w : Int) (a j : Nat) : List Seg :=
  if v = w then [] else if shape = 0 ∨ j = 0 then rampFlat v w a else rampCurve v w a j

/-- The start of an S-curve plan: the start acceleration ramps to 0 at the jerk (R310). -/
def unramp (shape : Nat) (v a : Int) (j : Nat) : List Seg :=
  if shape = 0 ∨ j = 0 ∨ a = 0 then [] else seg (a.natAbs * 1000 / j) v a (if 0 < a then -(j : Int) else j)

/-- The plan that goes from the start state to speed `w`, cruises and comes to rest at or before `D` nm; none when
it cannot (R309, R310). `a`, `d`, `j` are acceleration, plan deceleration and jerk. -/
def planPeak (shape : Nat) (v0 a0 : Int) (D : Int) (w : Int) (a d j jd : Nat) : Option (List Seg) :=
  let g0 := unramp shape v0 a0 j
  let v1 := endSpeed v0 g0
  let g1 := if w < v1 then ramp shape v1 w d jd else ramp shape v1 w a j
  let v2 := endSpeed v1 g1
  let g3 := ramp shape v2 0 d jd
  let stop := max (planDist g3) (if v2 ≤ 0 then 0 else stopDist shape (v2 * 1000000) 0 d jd)
  let left := D - planDist (g0 ++ g1) - stop
  if left < 0 then none
  else if v2 ≤ 0 then some (g0 ++ g1)
  else some (g0 ++ g1 ++ seg (left / (v2 * 1000)).toNat v2 0 0 ++ g3)

/-- The highest peak in whole mm/s from `lo` for which `f` answers, by bisection with `fuel` halvings of `lo`…`hi`. -/
def bisect {α : Type} (f : Nat → Option α) : Nat → Nat → Nat → Option α → Option α
  | 0, _, _, best => best
  | k + 1, lo, hi, best =>
    if hi < lo then best
    else
      let mid := (lo + hi + 1) / 2
      match f mid with
      | some r => bisect f k (mid + 1) hi (some r)
      | none => if mid = 0 then best else bisect f k lo (mid - 1) best

/-- The stop from the start state at the plan deceleration, ramped at the plan jerk for an S-curve (R318). -/
def planStop (shape : Nat) (v0 a0 : Int) (d jd : Nat) : List Seg :=
  if shape = 0 ∨ jd = 0 then ramp 0 v0 0 d 0
  else
    let g0 := unramp shape v0 a0 jd
    g0 ++ ramp shape (endSpeed v0 g0) 0 d jd

/-- The peak of a trapezoid in whole mm/s, rounded towards 0 (R309, R312). -/
def trapPeak (v0 : Int) (D : Int) (vmax a d : Nat) : Nat :=
  let v := min v0.toNat vmax
  let D' : Int := if (vmax : Int) < v0 then D - ceilI ((v0 * v0 - vmax * vmax) * 1000000) (2 * d) else D
  min vmax (isqrt ((2 * a * d * D'.toNat / 1000000 + d * v * v) / (a + d)))

/-- A plan in the class's shape towards distance `D` nm, not faster than `vmax` (R309, R310); the stop of R318 where the
target is behind, with true. -/
def planTo (shape : Nat) (v0 a0 : Int) (D : Int) (vmax a d j jd : Nat) : List Seg × Bool :=
  if D < stopDist shape (v0 * 1000000) (a0 * 1000000) d jd then (planStop shape v0 a0 d jd, true)
  else if shape = 0 ∨ j = 0 then
    let w := trapPeak v0 D vmax a d
    match planPeak 0 v0 0 D w a d 0 0 with
    | some g => (g, false)
    | none => (((planPeak 0 v0 0 D (min v0 vmax) a d 0 0)).getD (planStop 0 v0 0 d 0), false)
  else
    match bisect (fun w => planPeak shape v0 a0 D w a d j jd) 15 0 vmax none with
    | some g => (g, false)
    | none => (planStop shape v0 a0 d jd, true)

/-- The furthest stopping point of a plan, in nm from its start, over every ms of each of its segments, both ends of a
segment included (R307; tested at whole ms, DESIGN CHOICE, log 195), with the stopping distances of `S`. -/
def planReach (S : Int → Int → Int) (gs : List Seg) : Int :=
  (gs.foldl (fun (acc : Int × Int) g =>
    ((List.range (g.ms + 1)).foldl (fun m t => max m (acc.2 + g.dist t + S (g.speed t) (g.accel t))) acc.1,
      acc.2 + g.dist g.ms)) (0, 0)).1

/-- The time in ms of one implement axis to cover `delta` with rate `r` and acceleration `al`, rounded up (R313). -/
def implMs (delta : Nat) (r al : Nat) : Nat :=
  if delta = 0 ∨ r = 0 ∨ al = 0 then 0
  else if r * r ≤ delta * al then ceilDiv (delta * 1000) r + ceilDiv (r * 1000) al
  else isqrt (4 * delta * 1000000 / al) + 1

/-- A plan with what the profiler reports of it: its segments, whether its target is behind, whether the implements
finish later than the path. -/
structure Planned where
  segs : List Seg
  behind : Bool := false
  late : Bool := false
  cut : Bool := false
deriving DecidableEq, Repr

/-- The plan of R307–R313: towards `D` nm with authority `A` nm ahead, pulled back to 60 s and to the end for which its
stopping point keeps within, its peak lowered to `sync` ms but to no less than 50 mm/s. -/
def makePlan (shape : Nat) (v0 a0 D A : Int) (vmax a d j jd : Nat) (S : Int → Int → Int) (sync : Nat) : Planned :=
  let go := fun (D : Int) (v : Nat) => planTo shape v0 a0 D v a d j jd
  let full := go D vmax
  if full.2 then { segs := full.1, behind := true }
  else
    let fits := fun (gs : List Seg) => decide (planReach S gs ≤ D)
    let ok := fun (mm : Nat) =>
      let r := go (D - (mm : Int) * 1000000) vmax
      if !r.2 && fits r.1 && decide (planMs r.1 ≤ 60000) then some r.1 else none
    let span := (D / 1000000).toNat
    let kept := if fits full.1 && decide (planMs full.1 ≤ 60000) then some full.1
      else bisect (fun n => ok (span - n)) 22 (ceilI (stopDist shape (v0 * 1000000) (a0 * 1000000) d jd) 1000000).toNat span none
    match kept with
    | none => { segs := planStop shape v0 a0 d jd, behind := decide (A < planReach S (planStop shape v0 a0 d jd)) }
    | some gs =>
      let cut := decide (60000 < planMs full.1)
      if sync ≤ planMs gs ∨ gs = [] then { segs := gs, late := decide (planMs gs < sync), cut := cut }
      else
        let slow := fun (v : Nat) => (go (planDist gs) v).1
        match bisect (fun v => if sync ≤ planMs (slow v) ∧ fits (slow v) = true then some (slow v) else none) 15 50 vmax none with
        | some g => { segs := g, cut := cut }
        | none => { segs := if 50 ≤ vmax then slow 50 else gs, late := true, cut := cut }

end Sys2Proof.Machine
end

