-- ==== Sys2Proof/Machine/Fleet.lean ====
section
/-! DEFINITION. Reading and writing the fleet's tables: sessions, the arbiter's, profiler's and dispatcher's entries,
the image's records, what a tick reports. -/

namespace Sys2Proof.Machine

/-- Session `n` as the radio keeps it. -/
def State.rs (n : Nat) (s : State) : RadioSess := Tab.get {} s.fleet.sessions n
/-- Session `n` of the radio set. -/
def State.setRs (n : Nat) (v : RadioSess) (s : State) : State := { s with fleet.sessions := Tab.set {} s.fleet.sessions n v }
/-- Session `n` of the radio changed. -/
def State.updRs (n : Nat) (f : RadioSess → RadioSess) (s : State) : State := s.setRs n (f (s.rs n))
/-- Session `n` as the arbiter keeps it. -/
def State.xs (n : Nat) (s : State) : ArbSess := Tab.get {} s.fleet.xarb.sessions n
/-- Session `n` of the arbiter set. -/
def State.setXs (n : Nat) (v : ArbSess) (s : State) : State := { s with fleet.xarb.sessions := Tab.set {} s.fleet.xarb.sessions n v }
/-- Session `n` of the arbiter changed. -/
def State.updXs (n : Nat) (f : ArbSess → ArbSess) (s : State) : State := s.setXs n (f (s.xs n))
/-- Session `n` as the profiler keeps it. -/
def State.ps (n : Nat) (s : State) : ProfSess := Tab.get {} s.fleet.prof.sessions n
/-- Session `n` of the profiler set. -/
def State.setPs (n : Nat) (v : ProfSess) (s : State) : State := { s with fleet.prof.sessions := Tab.set {} s.fleet.prof.sessions n v }
/-- Session `n` of the profiler changed. -/
def State.updPs (n : Nat) (f : ProfSess → ProfSess) (s : State) : State := s.setPs n (f (s.ps n))
/-- Worker `k`. -/
def State.wk (k : Nat) (s : State) : Worker := Tab.get {} s.fleet.dsp.workers k
/-- Worker `k` set. -/
def State.setWk (k : Nat) (v : Worker) (s : State) : State := { s with fleet.dsp.workers := Tab.set {} s.fleet.dsp.workers k v }
/-- Worker `k` changed. -/
def State.updWk (k : Nat) (f : Worker → Worker) (s : State) : State := s.setWk k (f (s.wk k))
/-- Flow `f`. -/
def State.flow (f : Nat) (s : State) : Flow := Tab.get {} s.fleet.dsp.flows f
/-- Flow `f` set. -/
def State.setFlow (f : Nat) (v : Flow) (s : State) : State := { s with fleet.dsp.flows := Tab.set {} s.fleet.dsp.flows f v }
/-- Queue `q`. -/
def State.queue (q : Nat) (s : State) : Queue := Tab.get {} s.fleet.dsp.queues q
/-- Queue `q` set. -/
def State.setQueue (q : Nat) (v : Queue) (s : State) : State := { s with fleet.dsp.queues := Tab.set {} s.fleet.dsp.queues q v }
/-- Node `a`. -/
def State.node (a : Nat) (s : State) : NodeState := Tab.get {} s.fleet.nodes a
/-- Node `a` set. -/
def State.setNode (a : Nat) (v : NodeState) (s : State) : State := { s with fleet.nodes := Tab.set {} s.fleet.nodes a v }

/-- The session numbers. -/
def sessionNos : List Nat := List.range 256

/-- The sessions that are not FREE, rising. -/
def State.openSessions (s : State) : List Nat := (s.fleet.sessions.filter (fun p => decide (p.2.state ≠ 0))).map (·.1)

/-- Session causes of session `n`. -/
def State.causes (n : Nat) (s : State) : Nat := Tab.get 0 s.fleet.causes n

/-- The records of a kind in the image in use. -/
def State.recs {α : Type} (f : Image → List α) (s : State) : List α := (s.cfg.image.map f).getD []

/-- SPAN record `n` of the image in use. -/
def State.spanRec (n : Nat) (s : State) : Option SpanRec := (s.recs (·.spans)).find? (fun r => decide (r.span = n))

/-- The geometry of span `n`: of the image in use, or for a span removed while held the partner's (Table 3-29). -/
def State.spanGeo (n : Nat) (s : State) : Option SpanRec :=
  match s.spanRec n with
  | some r => some r
  | none => (s.cfg.partner.map (·.spans)).getD [] |>.find? (fun r => decide (r.span = n))

/-- The length of span `n` in mm. -/
def State.spanLen (n : Nat) (s : State) : Nat := (s.spanGeo n).elim 0 (·.length)

/-- CLASS record `c`. -/
def State.classRec (c : Nat) (s : State) : Option ClassRec := (s.recs (·.classes)).find? (fun r => decide (r.cls = c))

/-- ROBOT record of an identity. -/
def State.robotRec (id : Nat) (s : State) : Option RobotRec := (s.recs (·.robots)).find? (fun r => decide (r.identity = id))

/-- QUEUE record `q`. -/
def State.queueRec (q : Nat) (s : State) : Option QueueRec := (s.recs (·.queues)).find? (fun r => decide (r.queue = q))

/-- NODE record `a`. -/
def State.nodeRec (a : Nat) (s : State) : Option NodeRec := (s.recs (·.nodes)).find? (fun r => decide (r.node = a))

/-- PIER record `p`. -/
def State.pierRec (p : Nat) (s : State) : Option PierRec := (s.recs (·.piers)).find? (fun r => decide (r.pier = p))

/-- The cell number of the SITE record. -/
def State.cellNo (s : State) : Nat := (s.cfg.image.map (·.site.cell)).getD 0

/-- A record of the tick, written when the tick is published (R31); at once outside a tick. -/
def State.tickReport (code : Nat) (data : List (Nat × Int)) (s : State) : State :=
  match s.tick with
  | some t => { s with tick := some { t with records := t.records ++ [(code, data)] } }
  | none => s.report code data

/-- Something the tick did that counters count at its publication (R264). -/
def State.news (n : TickNews) (s : State) : State :=
  match s.tick with
  | some t => { s with tick := some { t with news := t.news ++ [n] } }
  | none => s

/-- The event bit of a DSP record code (Table 9-8), an XARB one (Table 10-7) or a PROF one (Table 11-9). -/
def fleetEventBit (code : Nat) : Option (Nat × Nat) :=
  match code with
  | 0x0805 => some (0, 0) | 0x0807 => some (0, 1) | 0x0808 => some (0, 2) | 0x0809 => some (0, 3)
  | 0x0803 => some (0, 4) | 0x080A => some (0, 5) | 0x0804 => some (0, 7)
  | 0x0901 => some (1, 0) | 0x0904 => some (1, 1) | 0x0905 => some (1, 2) | 0x0907 => some (1, 3)
  | 0x090A => some (1, 4) | 0x090B => some (1, 5) | 0x090C => some (1, 6) | 0x090D => some (1, 7)
  | 0x090E => some (1, 8) | 0x0903 => some (1, 9)
  | 0x0A01 => some (2, 0) | 0x0A02 => some (2, 1) | 0x0A03 => some (2, 2) | 0x0A04 => some (2, 3)
  | _ => none

/-- The event bit of a fleet record latched. -/
def State.fleetEvent (code : Nat) (s : State) : State :=
  match fleetEventBit code with
  | some (0, n) => { s with freg.dspEvents := s.freg.dspEvents ||| BitVec.ofNat 32 (2 ^ n) }
  | some (1, n) => { s with freg.xarbEvents := s.freg.xarbEvents ||| BitVec.ofNat 32 (2 ^ n) }
  | some (_, n) => { s with freg.profEvents := s.freg.profEvents ||| BitVec.ofNat 32 (2 ^ n) }
  | none => s

/-- A fleet record written at once with its event bit. -/
def State.fleetReport (code : Nat) (data : List (Nat × Int)) (s : State) : State := (s.reportNow code data).fleetEvent code

/-- The site ID of the image in use. -/
def State.siteId (s : State) : Nat := (s.cfg.image.map (·.site.siteId)).getD 0

/-- Slot `n` of the key store (Table 13-3). -/
def State.keySlot (n : Nat) (s : State) : KeySlot := Tab.get {} s.keys.slots n

/-- The key of a slot (Table 13-3). -/
def KeySlot.key (k : KeySlot) : List Octet := k.material.take k.length

/-- The MACs that serve CHP (R468). -/
def State.chpMacs (s : State) : List NetRec := (s.recs (·.nets)).filter (fun n => bit n.flags 0 && bit n.flags 1)

/-- A backbone frame with its MAC under slot 4 (R486, Table 18-3), numbered within the tick, to the subnet of each MAC that serves CHP; none while
the servo is PROVISIONAL, the slot is empty, the host bridge is frozen (Table 18-9) or a save runs. -/
def State.backbone (kind : Nat) (body : List Octet) (s : State) : State :=
  if s.time.servo = .provisional ∨ (s.keySlot 4).valid = false ∨ s.tres.frozen.getLsbD 8 = true ∨ s.sys.saving = true ∨ s.chpMacs = [] then s
  else
    let tick := tickOf s.now % 2 ^ 32
    let i := if s.host.backboneTick = tick then s.host.backboneIndex else 0
    let head := [0x43#8, 0x48#8, 1#8, 6#8] ++ leBytes 2 kind ++ leBytes 2 body.length ++ leBytes 4 s.siteId ++ leBytes 4 tick ++
      [0#8] ++ leBytes 1 i ++ [0#8, 0#8]
    let mac := beBytes 16 (mac256 (s.keySlot 4).key (head ++ body)).toNat
    let s := { s with host.backboneTick := tick, host.backboneIndex := i + 1, host.backboneTx := incr s.host.backboneTx }
    s.each s.chpMacs (fun n s => s.send (.backbone kind ⟨n.mac, n.chpPort, n.broadcast, head ++ body ++ mac⟩))

/-- Milliseconds of a device time. -/
def msOf (t : Nat) : Nat := t / perMs

/-- Whole seconds between two device times. -/
def secBetween (a b : Nat) : Nat := (b - a) / perSec

end Sys2Proof.Machine
end

