-- ==== Sys2Proof/Machine/Fstop.lean ====
section
/-! DEFINITION. FSTOP (R321–R325): the stop causes, the go bits, the stop inputs, STOP_ST and stop latency. -/

namespace Sys2Proof.Machine

/-- The cell causes of Table 11-3. -/
def causeInput : Nat := 0
def causeDiscrepancy : Nat := 1
def causeHost : Nat := 2
def causeCorrAge : Nat := 3
def causeSurvey : Nat := 4
def causeDegraded : Nat := 5
def causeUnsync : Nat := 6
def causeTamper : Nat := 7
/-- The session causes of Table 11-3. -/
def sessHost : Nat := 0
def sessSilent : Nat := 1
def sessFault : Nat := 2
def sessEnvelope : Nat := 3
def sessAuthority : Nat := 4
def sessForce : Nat := 5
def sessRemoved : Nat := 6
def sessGraph : Nat := 7
def sessBeacon : Nat := 8

/-- A bit set in a mask. -/
def setBit (m n : Nat) : Nat := m ||| 2 ^ n
/-- A bit cleared in a mask. -/
def clrBit (m n : Nat) : Nat := if bit m n then m - 2 ^ n else m

/-- The cell set: the mirrored set and this unit's own TAMPER (R385). -/
def State.cellSet (s : State) : Nat := s.fleet.cell ||| s.stop.own

/-- The level of STOP_ST: high with the cell set empty while driven (R323). -/
def State.stopSt (s : State) : Bool := s.pair.claim && decide (s.cellSet = 0)

/-- The go condition of session `n` (R322). -/
def State.goCond (n : Nat) (s : State) : Bool :=
  decide ((s.rs n).state ≠ 0) && decide (s.sys.mode = .lead) && decide (s.cellSet = 0) && decide (s.causes n = 0)

/-- One go bit of the bitmap. -/
def goBit (g : BitVec 256) (n : Nat) : Bool := g.getLsbD n

/-- A bitmap with one bit cleared. -/
def goClear (g : BitVec 256) (n : Nat) : BitVec 256 := g &&& ~~~(BitVec.ofNat 256 (2 ^ n))

/-- A bitmap with one bit set. -/
def goSet (g : BitVec 256) (n : Nat) : BitVec 256 := g ||| BitVec.ofNat 256 (2 ^ n)

/-- The go bit of session `n` clears (R322): the instant is kept for the stopping point (R326), and a stop that a
beacon's bitmap had not carried waits for its frame (R214). -/
def State.dropGo (n : Nat) (s : State) : State :=
  if goBit s.fleet.go n then
    let s := { s with fleet.go := goClear s.fleet.go n, stop.listed := goClear s.stop.listed n }
    let s := s.updPs n (fun (p : ProfSess) => { p with cleared := msOf s.now })
    if goBit s.stop.bitmap n && decide (Tab.get 0 s.stop.since n = 0) then { s with stop.since := Tab.set 0 s.stop.since n (s.now + 1) } else s
  else s

/-- Every go bit clears. -/
def State.dropAll (s : State) : State := s.each (onesBelow 256 s.fleet.go.toNat) State.dropGo

/-- The stop serial increments, once in a system cycle (R214, R331). -/
def State.bumpSerial (s : State) : State :=
  if s.stop.serialAt = some s.ns then s
  else { s with fleet.serial := (s.fleet.serial + 1) % 256, stop.serialAt := some s.ns }

/-- A cause set while a release of its scope waits for its snapshot is not cleared by it (R488). -/
def State.keepCause (scope target c : Nat) (s : State) : State :=
  { s with inp.releases := s.inp.releases.map (fun (o : HostOrder) =>
      if o.scope = scope ∧ (scope = 0 ∨ o.target = target) then { o with keep := setBit o.keep c } else o) }

/-- A cell cause is set (R321, R322): in its system cycle every go bit clears. `since` is the instant the stop began. -/
def State.setCell (c source : Nat) (s : State) : State :=
  if bit s.cellSet c ∨ (c ≠ causeTamper ∧ s.sys.mode = Mode.shadow) then s
  else
    let s := s.keepCause 0 0 c
    let s := if c = causeTamper then { s with stop.own := setBit s.stop.own c } else { s with fleet.cell := setBit s.fleet.cell c }
    let s := { s with stop.cntCell := incr s.stop.cntCell, stop.events := s.stop.events ||| 1#32
                      stop.seen := s.stop.seen ||| BitVec.ofNat 32 (2 ^ c)
                      stop.cellSince := if s.stop.cellSince = none then some s.now else s.stop.cellSince }
    let s := if s.sys.mode = Mode.shadow then s else s.bumpSerial.dropAll
    s.report 0x1301 [(1, c), (2, 0xFFFF), (1, source)]

/-- A cell cause clears: the go bits return only at a publication (R322). -/
def State.clearCell (c : Nat) (host : Bool) (s : State) : State :=
  if !bit s.cellSet c then s
  else
    let s := { s with fleet.cell := clrBit s.fleet.cell c, stop.own := clrBit s.stop.own c
                      stop.cntReleases := if host then incr s.stop.cntReleases else s.stop.cntReleases }
    let s := if s.cellSet = 0 then { s with stop.cellSince := none } else s
    s.report 0x1302 [(1, c), (2, 0xFFFF), (1, flag host)]

/-- A session cause is set: it stops only that session (R321). -/
def State.setSess (n c source : Nat) (s : State) : State :=
  if bit (s.causes n) c ∨ (s.rs n).state = 0 ∨ s.sys.mode = Mode.shadow then s
  else
    let s := s.keepCause 1 n c
    let s := { s with fleet.causes := Tab.set 0 s.fleet.causes n (setBit (s.causes n) c)
                      stop.cntSession := incr s.stop.cntSession, stop.events := s.stop.events ||| 2#32 }
    (s.dropGo n).report 0x1301 [(1, c), (2, n), (1, source)]

/-- A session cause clears. -/
def State.clearSess (n c : Nat) (host : Bool) (s : State) : State :=
  if !bit (s.causes n) c then s
  else
    let m := clrBit (s.causes n) c
    let s := { s with fleet.causes := Tab.set 0 s.fleet.causes n m
                      stop.cntReleases := if host then incr s.stop.cntReleases else s.stop.cntReleases
                      stop.since := if m = 0 then Tab.set 0 s.stop.since n 0 else s.stop.since }
    s.report 0x1302 [(1, c), (2, n), (1, flag host)]

/-- Every input of this unit and every input the partner last reported is in run (Table 11-3). -/
def State.inputsRun (s : State) : Bool := s.stop.runA && s.stop.runB && s.stop.partnerA && s.stop.partnerB

/-- INPUT follows the inputs in stop at a lead (R323, R330). -/
def State.checkInputs (s : State) : State :=
  if s.isLead && !s.inputsRun then
    s.setCell causeInput (if !s.stop.runA then 0 else if !s.stop.runB then 1 else 2)
  else s

/-- The inputs as the discrepancy comparator sees them: an injection may hold one in stop (Table 17-6). -/
def State.compared (s : State) : Bool × Bool :=
  (s.stop.runA && !decide (s.diag.stopHold = some 0), s.stop.runB && !decide (s.diag.stopHold = some 1))

/-- The comparator's inputs have changed: they differ from now on, or still, or no longer. -/
def State.compare (s : State) : State :=
  { s with stop.differ := if s.compared.1 = s.compared.2 then none else if s.stop.differ = none then some s.ns else s.stop.differ }

/-- STOP_INPUT (R323): a level held for 0.5 ms passes the filter of STOP_A (0) or STOP_B (1). A stop edge during a save is recorded
(Table 2-8). -/
def execStopInput (input : Fin 2) (high : Bool) : State → Host.Outcome State Fault Refusal :=
  done fun s =>
    if !s.powered then s
    else
      let edge := !high && (if input.val = 0 then s.stop.runA else s.stop.runB)
      let s := if input.val = 0 then { s with stop.rawA := high, stop.runA := high } else { s with stop.rawB := high, stop.runB := high }
      let s := s.when (edge && s.sys.saving) (State.report 0x1301 [(1, causeInput), (2, 0xFFFF), (1, input.val)])
      s.compare.checkInputs

/-- DISCREPANCY (R321): the inputs have differed for more than 20 ms. -/
def execDiscrepancy : State → Host.Outcome State Fault Refusal :=
  done fun s =>
    match s.stop.differ with
    | some t =>
      if !s.powered || (s.isLead && bit s.cellSet causeDiscrepancy) then s
      else
        let s := s.atLeast (20000001 + t)
        let which := if s.compared.1 then 1 else 0
        let s := { s with stop.events := s.stop.events ||| 8#32 }
        if s.isLead then (s.report 0x1304 [(1, which), (4, sat 32 ((s.ns - t) / 1000000))]).setCell causeDiscrepancy which
        else s.report 0x1304 [(1, which), (4, sat 32 ((s.ns - t) / 1000000))]
    | none => s

/-- Why a cell cause cannot be released now: none where its condition holds (Table 11-3). -/
def State.cellRefusal (c : Nat) (s : State) : Option Nat :=
  if c = causeInput then (if s.inputsRun then none else some 1)
  else if c = causeDiscrepancy then (if s.stop.runA = s.stop.runB then none else some 2)
  else if c = causeHost ∨ c = causeUnsync then none
  else some 0

/-- The planned stopping point of session `n` lies within its authority. -/
def State.withinAuthority (n : Nat) (s : State) : Bool := decide (0 ≤ (s.ps n).margin)

/-- Why a session cause cannot be released now (Table 11-3). -/
def State.sessRefusal (n c : Nat) (s : State) : Option Nat :=
  if c = sessHost then none
  else if c = sessFault then (if ((s.rs n).report.map (fun r => bit r.state 3)).getD false then some 3 else none)
  else if c = sessEnvelope then (if (s.ps n).state = .stopped then none else some 4)
  else if c = sessAuthority then (if s.withinAuthority n then none else some 5)
  else if c = sessForce then (if ((s.rs n).report.map (fun r => (s.xs n).held.contains r.span)).getD false then none else some 6)
  else some 0

/-- A release of the cell or of a session, taken at a snapshot (R324): each cause clears or is refused, and the causes
that stay are the reply's. -/
def State.release (o : HostOrder) (s : State) : State :=
  if o.scope = 0 then
    s.each (onesBelow 8 s.cellSet) fun c s =>
      match (if bit o.keep c then some 7 else s.cellRefusal c) with
      | none => s.clearCell c true
      | some why => ({ s with stop.events := s.stop.events ||| 4#32 }).report 0x1303 [(1, c), (2, 0xFFFF), (1, why)]
  else
    s.each (onesBelow 9 (s.causes o.target)) fun c s =>
      match (if bit o.keep c then some 7 else s.sessRefusal o.target c) with
      | none => s.clearSess o.target c true
      | some why => ({ s with stop.events := s.stop.events ||| 4#32 }).report 0x1303 [(1, c), (2, o.target), (1, why)]

/-- A frame's first symbol carries stops that began at the given times (R325): STOP_LATE where the largest latency
exceeds 10.25 ms. -/
def State.carried (times : List Nat) (first : Nat) (s : State) : State :=
  match times with
  | [] => s
  | _ =>
    let worst := (times.map (fun t => (first - t) / perUs)).foldl max 0
    let s := { s with stop.latLast := sat 16 worst, stop.latMax := max s.stop.latMax (sat 16 worst) }
    if 10250 < worst then
      ({ s with stop.cntLate := incr s.stop.cntLate, stop.events := s.stop.events ||| 16#32 }).report 0x1305 [(4, sat 32 worst)]
    else s

/-- The times of the stops not yet on air, and none left of those that a frame of the given scope carries. -/
def State.takeStops (all : Bool) (listed : List Nat) (s : State) : List Nat × State :=
  let cell := if all then s.stop.cellSince.toList else []
  let ns := if all then s.stop.since.map (·.1) else listed
  let times := ns.filterMap (fun n => let v := Tab.get 0 s.stop.since n; if v = 0 then none else some (v - 1))
  (cell ++ times, { s with stop.cellSince := if all then none else s.stop.cellSince
                           stop.since := ns.foldl (fun t n => Tab.set 0 t n 0) s.stop.since })

end Sys2Proof.Machine
end

