-- ==== Sys2Proof/Machine/Gap.lean ====
section
/-! DEFINITION. What the time unit shares with other chapters: the unaccounted interval of the metering engine (R427), which
closes when its end can be told in device time, and clean health (R352). -/

namespace Sys2Proof.Machine

/-- Device time at a past value of the free-running counter under the anchor in force. -/
def TimeUnit.timeAgo (t : TimeUnit) (now : BitVec 64) (f : BitVec 64) : Nat :=
  t.timeAt now - (((now - f).toNat : Int) * (2 ^ 52 + t.rho) / 2 ^ 36).toNat

/-- The bound of a point in Wh, saturating: the length in ms by its maximum power in VA (R427). -/
def gapBound (ms power : Nat) : Nat := sat 32 (ms * power / 3600000)

/-- The open interval closes once accumulation has resumed and device time is not provisional (R427). -/
def State.closeGap (s : State) : State :=
  match s.mets.gap, s.met.resumed with
  | some g, some f =>
    if s.time.servo = Servo.provisional then s
    else
      let len := sat 32 ((s.time.timeAgo s.time.frc f - g.start) / perMs)
      let bounds : Tab Nat := g.maxp.foldl (fun t (p : Nat × Nat) => Tab.set 0 t p.1 (gapBound len p.2)) []
      let s' := { s with mets.gap := none, met.gapState := 2, met.gapSaved := g.saved, met.gapStart := secOf g.start % 2 ^ 32
                         met.gapLen := len, met.gapBound := bounds, met.events := s.met.events ||| 32#32 }
      s'.report 0x0E07 [(4, secOf g.start % 2 ^ 32), (4, len), (1, flag g.saved), (4, bounds.foldl (fun m p => max m p.2) 0)]
  | _, _ => s

/-- Clean health (R352). -/
def State.clean (s : State) : Bool :=
  !s.sys.degraded && decide (s.tres.frozen = 0#13) && !s.pair.eccSeen && !s.pair.refSeen && !s.pair.tamperSeen &&
  (match s.time.servo with | .tracking | .locked => true | _ => false)

/-- Clean health breaks at an instant (R352): the hold-off and the clean time of a trial count from here again. -/
def State.breakHealth (s : State) : State := { s with pair.holdFrom := s.ns, pair.brokenAt := s.ns, pair.asked := none }

end Sys2Proof.Machine
end

