-- ==== Sys2Proof/Machine/Recorder.lean ====
section
/-! DEFINITION. The event recorder's tiers (R454–R459): refills, flushes to the MRAM ring, the archive, reading back. -/

namespace Sys2Proof.Machine

/-- EVENT_INTAKE (R453, R454, R456): a block reports an event with its data octets. -/
def execEventIntake (code : BitVec 16) (data : List Octet) : State → Host.Outcome State Fault Refusal :=
  done fun s => s.intake code.toNat data

/-- RECORD_STORE (R453): the writer stores the oldest entry of the intake FIFO, 100 ns after the one before. -/
def execRecordStore : State → Host.Outcome State Fault Refusal :=
  done fun s =>
    if s.rcd.closed ∨ s.rcd.fifo = [] then s
    else
      let s := (s.atLeast s.rcd.storeAt).writeOne
      { s with rcd.storeAt := s.ns + 100 }

/-- TOKEN_REFILL (R454, R455): the code's bucket gains a token at the instant of its refill clock; one that becomes full after suppressing stores
SUPPRESSED in the class of the code (R452). -/
def execTokenRefill (code : BitVec 16) : State → Host.Outcome State Fault Refusal :=
  done fun s =>
    let c := code.toNat
    let b := Tab.get {} s.rcd.buckets c
    if 8 ≤ b.tokens then s
    else
      let s := s.atLeast b.next
      if b.tokens = 7 then
      let s := { s with rcd.buckets := Tab.set {} s.rcd.buckets c {} }
      if b.suppressed = 0 ∨ s.rcd.closed = true then s
      else s.storeDirect 0x1003 [(2, c), (2, sat 16 b.suppressed), (4, (b.first / perMs % 2 ^ 32 : Nat)),
        (4, (sat 32 ((b.last - b.first) / perUs) : Nat))] (codeClass c)
      else { s with rcd.buckets := Tab.set {} s.rcd.buckets c { b with tokens := b.tokens + 1, next := b.next + s.refillNs c } }

/-- Records lost while they waited are reported by one RECORD_LOST record (R457). -/
def State.reportLost (s : State) : State :=
  if s.rcd.lostRun = 0 then s
  else
    let s' := { s with rcd.lostRun := 0, rcd.events := s.rcd.events ||| 4#32 }
    s'.storeDirect 0x1001 [(4, s.rcd.lostRun)] 0

/-- Of `waiting` unarchived records, those past the 32,768 that the ring holds were overwritten by a flush and are reported by one
RING_OVERWRITE record (R457). -/
def State.reportOverwrite (waiting : Nat) (s : State) : State :=
  if waiting ≤ 32768 then s else ({ s with rcd.events := s.rcd.events ||| 8#32 }).reportNow 0x1005 [(4, (waiting - 32768 : Nat))]

/-- A flush (R457): every record waiting joins the MRAM ring, the control record is updated, and what the ring
overwrote unarchived, or the buffer lost while waiting, is reported. -/
def State.flush (s : State) : State :=
  let n := s.rcd.unflushed
  let s' := { s with
    store.ring := (s.rcd.buffer.take n ++ s.store.ring).take 32768
    store.flushed := s.store.flushed + n
    store.unarchived := min 32768 (s.store.unarchived + n)
    rcd.unflushed := 0, rcd.flushDue := false, rcd.flushing := false
    rcd.cntFlushes := incr s.rcd.cntFlushes
    rcd.cntOverwritten := s.rcd.cntOverwritten + BitVec.ofNat 32 (s.store.unarchived + n - 32768) }
  (s'.reportOverwrite (s.store.unarchived + n)).reportLost

/-- FLUSH (R457): the flush that a class 0 record, 2,048 waiting records or the host's write started. -/
def execFlush : State → Host.Outcome State Fault Refusal :=
  done fun s => if s.powered && !s.sys.saving && (s.rcd.flushDue || s.rcd.flushing) then s.flush else s

/-- REC_FLUSH_CMD (R457): a write of FLUSH in REC_CTL starts a flush. -/
def execRecFlushCmd : State → Host.Outcome State Fault Refusal :=
  done fun s => if s.powered && !s.sys.saving then { s with rcd.flushing := true } else s

/-- The next page of the archive (R458): up to 8 records into the newest sector, or into a new one where it is full. -/
def archivePage (fault : Bool) (todo : List Record) (sectors : List ArchiveSector) (next : Nat) :
    List Record × List ArchiveSector × Nat :=
  let fresh : ArchiveSector := ⟨next, true, []⟩
  let open_ := match sectors with
    | x :: xs => if x.records.length < 2046 then (x, xs, next) else (fresh, sectors.take 127, next + 1)
    | [] => (fresh, [], next + 1)
  let x := open_.1
  let room := min (8 - (x.records.length + 2) % 8) (2046 - x.records.length)
  if fault then
    (todo, (⟨open_.2.2, true, []⟩ : ArchiveSector) :: ((x :: open_.2.1).take 127), open_.2.2 + 1)
  else (todo.drop room, { x with records := (todo.take room).reverse ++ x.records } :: open_.2.1, open_.2.2)

/-- Pages of the archive, at most a number of them, until nothing is left (R458); a page that fails its read-back is recorded and the archive
goes on in the next sector. -/
def State.archiveGo : Nat → List Bool → List Record → State → State
  | 0, _, _, s => s
  | k + 1, faults, todo, s =>
    if todo = [] then s
    else
      let fault := faults.head?.getD false
      let r := archivePage fault todo s.store.sectors s.store.nextSequence
      let s' := { s with store.sectors := r.2.1, store.nextSequence := r.2.2
                         store.unarchived := r.1.length
                         rcd.cntArchived := s.rcd.cntArchived + BitVec.ofNat 32 (todo.length - r.1.length) }
      let s' := if fault then ({ s' with rcd.events := s'.rcd.events ||| 16#32 }).reportNow 0x1004 [(4, ((r.2.2 - 2) % 128 : Nat))] else s'
      State.archiveGo k (faults.drop 1) r.1 s'

/-- ARCHIVE (R458): the archive in progress, or one that 24,576 waiting records start, with the pages whose read-back
fails; in service modes only. With `pages` it writes that many pages and is still in progress where records are left, so that a save can stop it
at its last page (Table 17-7). -/
def execArchive (pageFaults : List Bool) (pages : Option Nat) : State → Host.Outcome State Fault Refusal :=
  done fun s =>
    if !s.inService || s.sys.saving || !(s.rcd.archiving || decide (24576 ≤ s.store.unarchived)) then s
    else
      let todo := (s.store.ring.take s.store.unarchived).reverse
      let s := State.archiveGo (min (pages.getD (todo.length + pageFaults.length)) (todo.length + pageFaults.length)) pageFaults todo s
      { s with rcd.archiving := decide (s.store.unarchived ≠ 0) }

/-- An archive starts (R458). -/
def State.startArchive (s : State) : State := if s.inService && !s.sys.saving then { s with rcd.archiving := true } else s

/-- REC_ARCHIVE_CMD (R458): a write of ARCHIVE in REC_CTL. -/
def execRecArchiveCmd : State → Host.Outcome State Fault Refusal := done State.startArchive

/-- ARCHIVE_HOURLY (R458): a whole hour of GPS time. -/
def execArchiveHourly : State → Host.Outcome State Fault Refusal :=
  done fun s => if s.time.running then (s.mark markHour (3600 * perSec)).startArchive else s

/-- A record as its 32 octets (Table 17-1). -/
def Record.octets (r : Record) : List Octet :=
  leBytes 2 r.code.toNat ++ [r.flags, r.unit] ++ leBytes 4 r.optime ++ leBytes 3 r.pwrcyc ++ leBytes 1 r.seq ++
    leBytes 4 r.sec ++ leBytes 4 r.ns ++ padTo 12 r.data

/-- The record of a tier counted back from its newest (R459); none where the slot is empty or its sector's header
fails. -/
def State.recordAt (tier index : Nat) (s : State) : Option Record :=
  match tier with
  | 0 => s.rcd.buffer[index]?
  | 1 => s.store.ring[index]?
  | 2 => (s.store.sectors.flatMap (fun x => x.records.map (fun r => (x.headerOk, r))))[index]? |>.bind (fun p => if p.1 then some p.2 else none)
  | _ => none

/-- A write of REC_RD_SEL (R459): the selection, and with LATCH the copy of the record. -/
def State.writeRdSel (v : Nat) (s : State) : State :=
  let s := { s with rcd.selTier := bits v 0 2, rcd.selIndex := bits v 8 18 }
  if bit v 31 then
    match s.recordAt s.rcd.selTier s.rcd.selIndex with
    | some r => { s with rcd.rdValid := true, rcd.rd := r.octets }
    | none => { s with rcd.rdValid := false, rcd.rd := [] }
  else s

/-- REC_READ_LATCH (R459). -/
def execRecReadLatch (value : Word) : State → Host.Outcome State Fault Refusal :=
  done fun s => if s.powered then s.writeRdSel (value.toNat ||| 0x80000000) else s

end Sys2Proof.Machine
end

