-- ==== Sys2Proof/Machine/Modes.lean ====
section
/-! DEFINITION. Changing modes (R35–R37), entering START (R44), becoming degraded (R23, R39), releasing the claim (R339),
and what a mode change brings about in other chapters. -/

namespace Sys2Proof.Machine

/-- The number of ones among `n` bits from `lo`. -/
def ones (v lo n : Nat) : Nat := ((List.range n).filter (fun i => bit v (lo + i))).length

/-- The life-cycle state of the fused word (R371). -/
def Fuse.life (f : Fuse) : LifeCycle :=
  if bit f.word 2 then .retired
  else if ones f.word 11 8 < ones f.word 3 8 then .service
  else if bit f.word 1 then .field
  else if bit f.word 0 then .provision
  else .vendor

/-- The code of a life-cycle state (Table 13-7). -/
def LifeCycle.code : LifeCycle → Nat
  | .vendor => 0 | .provision => 1 | .field => 2 | .service => 3 | .retired => 4

/-- The life-cycle state of the unit. -/
def State.life (s : State) : LifeCycle := s.keys.fuse.life

/-- MEASn extended with an item (R40). -/
def State.extend (n : Nat) (item : List Octet) (s : State) : State :=
  { s with sys.meas := updAt s.sys.meas n (fun m =>
      Config.sha384 (beBytes 48 m.toNat ++ beBytes 48 (Config.sha384 item).toNat)) }

/-- Radio 0 is RADIO_A, 1 RADIO_B. -/
def State.radio (i : Nat) (s : State) : Radio := if i = 0 then s.rad.a else s.rad.b

/-- Radio `i` changed. -/
def State.updRadio (i : Nat) (f : Radio → Radio) (s : State) : State :=
  if i = 0 then { s with rad.a := f s.rad.a } else { s with rad.b := f s.rad.b }

/-- A frame still on air at this instant is cut off (R46, R338). -/
def State.cutAir (s : State) : State :=
  s.each [0, 1] fun i s =>
    match (s.radio i).onAir with
    | some (a, finish) =>
      let s := s.updRadio i (fun (r : Radio) => { r with onAir := none })
      if s.now < finish then s.send (.air { a with cut := true }) else s
    | none => s

/-- The claim is released (R339): CLAIM_OUT goes low, the gate closes, STOP_ST is no longer driven. -/
def State.releaseClaim (s : State) : State :=
  let s := s.cutAir
  { s with pair.claim := false, pair.decided := none, pair.swapDue := false }

/-- The standby stops being mirrored, at the lead as at the standby itself (R345): NOT_MIRRORED with its cause, 0 missing
delta, 1 digest, 2 link, 3 a CEILING not acknowledged (log 50), and a full resync begins. -/
def State.notMirrored (cause : Nat) (s : State) : State :=
  if !s.pair.mirrored then s
  else ({ s with pair.mirrored := false, pair.events := s.pair.events ||| 64#32, pair.resync := some s.ns, pair.resyncBlocks := 0
                 pair.cntResyncs := incr s.pair.cntResyncs, pair.imageTick := none }).report 0x0B09 [(1, cause)]

/-- The gate of R338 is open. -/
def State.gateOpen (s : State) : Bool := s.pair.claim && !s.pair.forceIn

/-- Every injection point returns to normal (R464). -/
def Diag.normal (d : Diag) : Diag :=
  { d with active := none, tempOffset := 0, stopHold := none, satChannel := none, biasSense := none, viaCorrupt := none
           loopDelay := none, authCut := none, synthFault := none, paFault := none, eccArmed := none, timedEnd := none }

/-- The active injection is cancelled (R464). -/
def State.cancelInjection (s : State) : State :=
  match s.diag.active with
  | some i => ({ s with diag := { s.diag.normal with resDetector := i.detector, resOutcome := 4, resReason := 0, resLatency := 0 } }).compare
  | none => s

/-- The diagnostic session closes (R461); causes: 0 message, 1 idle, 2 mode, 3 START. -/
def State.diagClose (cause : Nat) (s : State) : State :=
  if s.diag.session then
    let s := s.cancelInjection
    ({ s with diag.session := false, diag.host := 0 }).report 0x1202 [(1, cause)]
  else s

/-- An injection that START does not end: its response is a START, or its check record has arrived (Table 17-6, Table 17-7). -/
def Injection.outlives (i : Injection) : Bool :=
  [4, 5, 7].contains i.detector || (decide (i.detector = 1) && decide (i.target = 7)) || i.seen.isSome

/-- START closes the diagnostic session with what it has of DIAG that START does not end (R461). -/
def State.diagStart (s : State) : State :=
  if s.diag.session then
    let s := if s.diag.active.elim true Injection.outlives then s else s.cancelInjection
    ({ s with diag.session := false, diag.host := 0 }).report 0x1202 [(1, 3)]
  else s

/-- A pending step of device time ends with an entry to SURVEY or LEAD (R187). -/
def State.cancelStep (s : State) : State :=
  match s.time.step with
  | some st => ({ s with time.step := none }).report 0x0507 [(4, ssat 32 st.amount), (1, s.sys.mode.code)]
  | none => s

/-- The unit enters a service mode (R36) with what follows from it: a pending step, the diagnostic session of a standby
(R461), the trial window (R405), the hold-off of a new standby (R352). -/
def State.toMode (m : Mode) (trigger : Nat) (s : State) : State :=
  let old := s.sys.mode
  let s := s.setMode m trigger
  let s := s.when (decide (m = Mode.survey ∨ m = Mode.lead)) State.cancelStep
  let s := if m = Mode.survey then
      { s with meas.airQueue := [], meas.airOffset := 0, meas.job := s.meas.job.map (fun j => { j with udp := [], uart := [] }) } else s
  let s := s.when (decide (old = Mode.shadow ∧ m ≠ Mode.shadow) && decide (s.life = .field)) (State.diagClose 2)
  let s := if s.upd.journal.state = 4 ∧ s.ureg.opened = none ∧ (m = Mode.lead ∨ m = Mode.shadow) then
      { s with ureg.opened := some s.ns } else s
  if m = Mode.shadow then
    { s with pair.holdFrom := s.ns, pair.asked := none, pair.mirrored := false, pair.windows := 0
             pair.imageTick := none, pair.resync := some s.ns, pair.resyncBlocks := 0, pair.handover := none
             pair.unapplied := false, pair.heard := [], stop.cellSince := none, stop.since := [], meas.shadowSince := s.ns, meas.frozen := false
             meas.align := [], meas.alignState := 0, meas.required := 0, meas.clkRun := [], meas.clkOffset := 0, meas.clkError := 0
             time.pairAligned := false, time.pairGood := 0, time.pairBad := 0, time.viaSum := 0, time.viaCount := 0
             pub := {}, tick := none }
  else s

/-- What outlives an entry to START: the always-on domain, MRAM, flash, fuses and key store, the free-running counter
while VDD_CORE stays (R178), the strap and pins, and an armed stall of START (Table 17-6). -/
def State.fresh (s : State) : State :=
  { free := s.free, out := s.out, pending := s.pending, ao := s.ao, flash := s.flash, store := s.store, kept := s.kept, mets := s.mets
    saved := s.saved, keys := s.keys, upd := s.upd
    kreg := { live := s.kreg.live, temp := s.kreg.temp, vbat := s.kreg.vbat, vbatRun := s.kreg.vbatRun }
    cfg := { selected := s.cfg.selected, active := s.cfg.selected, pending := s.cfg.pending, selectorLost := s.cfg.selectorLost }
    time := { frc := s.time.frc, fAnchor := s.time.frc }
    diag := { stallStep := s.diag.stallStep, active := s.diag.active.filter Injection.outlives, resDetector := s.diag.resDetector
              resOutcome := s.diag.resOutcome, resReason := s.diag.resReason, resLatency := s.diag.resLatency }
    clk := { system := s.clk.system }
    rad := { stored := s.rad.stored, lastCounter := s.rad.lastCounter }
    fleet := { counters := s.rad.lastCounter }
    pair := { peerClaim := s.pair.peerClaim, peerFree := s.pair.peerFree, forceIn := s.pair.forceIn }
    stop := { rawA := s.stop.rawA, rawB := s.stop.rawB, runA := s.stop.runA, runB := s.stop.runB }
    sys := { mode := s.sys.mode, pairSel := s.sys.pairSel, cause := s.sys.cause, succession := s.sys.succession
             saveSeq := s.sys.saveSeq, degradedInSave := s.sys.degradedInSave
             vsenseOk := s.sys.vsenseOk, resetHeld := s.sys.resetHeld } }

/-- Entry to START with a cause of Table 2-5 (R44, R54): the claim is released, everything that START resets is reset,
the entry is counted and MODE_CHANGE recorded. START itself then runs from t = 0. -/
def State.enterStart (cause trigger : Nat) (s : State) : State :=
  let hosts := (s.host.sessions.filter (fun (h : HostSess) => h.inUse && h.authed)).map (·.host)
  let session := s.diag.session
  let steps := if s.isLead then s.time.step.toList else []
  let s := if s.diag.active.elim true Injection.outlives then s else s.cancelInjection
  let s := s.releaseClaim.fresh
  let s := { s with sys.cause := cause, sys.startT0 := s.ns
                    ao.pwrcyc := if cause = 1 then min (s.ao.pwrcyc + 1) 0xFFFFFF else s.ao.pwrcyc
                    ao.restarts := if cause = 1 then s.ao.restarts else min (s.ao.restarts + 1) 0xFFFF
                    sys.succession := if cause = 1 ∨ cause = 2 then 0
                      else if cause = 4 then min (s.sys.succession + 1) 3 else s.sys.succession }
  let s := s.setMode .start trigger
  let s := s.each steps (fun t s => s.report 0x0507 [(4, ssat 32 t.amount), (1, Mode.start.code)])
  let s := s.each hosts (fun h s => s.report 0x1102 [(1, h), (1, 3)])
  if session then s.report 0x1202 [(1, 3)] else s

/-- Host session slot `k`. -/
def State.hs (k : Nat) (s : State) : HostSess := (s.host.sessions[k]?).getD {}

/-- Host session slot `k` changed. -/
def State.updHs (k : Nat) (f : HostSess → HostSess) (s : State) : State := { s with host.sessions := updAt s.host.sessions k f }

/-- A host session closes (R476); causes: 0 message, 1 idle, 2 CLOSE_OTHERS, 3 START. The diagnostic session that it holds
closes with it (Table 18-9); a pending session is dropped without a record. -/
def State.closeHost (k cause : Nat) (s : State) : State :=
  let h := s.hs k
  if !h.inUse then s
  else
    let s := s.updHs k (fun _ => {})
    let s := if h.authed then s.report 0x1102 [(1, h.host), (1, cause)] else s
    if s.diag.session && decide (s.diag.slot = k) then s.diagClose 0 else s

/-- A restart that the unit orders itself (R44, R457): the claim goes first, then every record waiting is flushed. -/
def State.restart (cause : Nat) (s : State) : State :=
  let trigger := if s.sys.mode = Mode.start ∧ cause = 4 then 4 else 12
  (((s.releaseClaim.diagStart).each (List.range 8) (fun k s => s.closeHost k 3)).drain.flush).enterStart cause trigger

/-- The lead has a standby in SHADOW that would take over (R23). -/
def State.hasStandby (s : State) : Bool := s.paired && decide (s.pair.peerMode = 4) && !s.pair.viaDown

/-- The unit stays in START, degraded, in restricted host service (R39). -/
def State.lockStart (s : State) : State := { s with sys.restricted := 3, sys.degraded := true, sys.startStep := 13 }

/-- A degraded unit restarts START with cause 0x04, at most three times in succession; at the fourth it stays in START,
released and with its radios off (R39): a unit that is in START does not enter it again, one in a service mode enters it. -/
def State.degradedRestart (s : State) : State :=
  if s.sys.succession < 3 then s.restart 4
  else if s.sys.mode = Mode.start then s.releaseClaim.lockStart
  else (s.restart 4).lockStart

/-- The unit becomes degraded (R23, R39): causes 0 frozen masters, 1 memory, 2 self-test, 3 reference, 4 tamper,
5 transmit failure, 6 key use; `row` is the row of Table 1-4. -/
def State.degrade (cause row : Nat) (s : State) : State :=
  if s.sys.degraded ∨ !s.powered then s
  else
    let s := ({ s with sys.degraded := true, sys.degradedRow := row, sys.serviceSince := none
                       sys.events := s.sys.events ||| 4#32 }).reportNow 0x000D [(1, cause), (1, row)]
    if s.sys.saving then { s with sys.degradedInSave := true }
    else
      match s.sys.mode with
      | .start | .shadow => s.degradedRestart
      | .survey | .lead | .hold =>
        if s.hasStandby then s.degradedRestart
        else
          let s := s.setCell causeDegraded cause
          if s.sys.mode = Mode.survey then { s with sys.surveyStopped := true }
          else if s.sys.mode = Mode.lead then s.toMode .hold 7
          else s
      | .dormant => s

/-- A frame that arrives with a bad CRC-32C is discarded and counted (R341). -/
def State.crcDrop (s : State) : State := { s with pair.cntCrc := incr s.pair.cntCrc }

/-- A Viaduct frame of a type of Table 12-2 arrives while the link is up; an injection corrupts the next of its type (Table 17-6). -/
def State.viaFrame (kind : Nat) (dropped f : State → State) (s : State) : State :=
  if !s.powered || s.sys.saving || !s.pair.viaUp then s
  else if s.diag.viaCorrupt = some kind then
    let s := dropped ({ s with diag.viaCorrupt := none }).crcDrop
    if kind = 2 then s else s.injectSeen 0x0E
  else f s

/-- The PAIR_HEALTH word (Table 12-12), `protocol` the Viaduct version of the firmware. -/
def State.health (protocol : Nat) (s : State) : Nat :=
  s.tres.frozen.toNat + 2 ^ 13 * flag s.sys.degraded + 2 ^ 14 * flag s.pair.tamperSeen + 2 ^ 15 * flag s.pair.eccSeen +
  2 ^ 16 * flag (match s.pair.radioAt with
    | some t => decide (s.ns < t + 1000000000 * (s.unitRec.map (·.holdoff)).getD 60)
    | none => false) +
  2 ^ 17 * flag (match s.time.servo with | .tracking | .locked => true | _ => false) +
  2 ^ 18 * flag s.ureg.startedTrial + 2 ^ 19 * flag s.pair.refSeen + 2 ^ 24 * (protocol % 256)

end Sys2Proof.Machine
end

