-- ==== Sys2Proof/Machine/Signals.lean ====
section
/-! DEFINITION. The supported signals (Table 4-1), satellites (Table 4-2), components (Table 5-3) and the band paths
(Table 4-4) as the arithmetic of the Lake, the channels and the observations uses them. -/

namespace Sys2Proof.Machine

/-- One row of Table 4-1: system code (Table 4-2), band (0 Upper, 1 Mid, 2 Low), carrier in 0.5 kHz and its step per
k, chip rate in 500 chip/s, primary period in ms, search rate in kS/s, code step as the divisor of a chip. -/
structure SignalRow where
  system : Nat
  band : Nat
  carrier : Nat
  kStep : Nat
  chips : Nat
  period : Nat
  fs : Nat
  stepDiv : Nat
deriving DecidableEq, Repr

/-- Table 4-1. -/
def signalRow (code : Nat) : Option SignalRow :=
  match code with
  | 0 => some ⟨0, 0, 3150840, 0, 2046, 1, 2046, 2⟩
  | 1 => some ⟨0, 0, 3150840, 0, 2046, 10, 4092, 4⟩
  | 2 => some ⟨0, 1, 2455200, 0, 1023, 20, 1023, 2⟩
  | 3 => some ⟨0, 2, 2352900, 0, 20460, 1, 20460, 2⟩
  | 4 => some ⟨1, 0, 3150840, 0, 2046, 4, 4092, 4⟩
  | 5 => some ⟨1, 2, 2352900, 0, 20460, 1, 20460, 2⟩
  | 6 => some ⟨1, 2, 2414280, 0, 20460, 1, 20460, 2⟩
  | 7 => some ⟨2, 0, 3122196, 0, 4092, 1, 4092, 2⟩
  | 8 => some ⟨2, 0, 3150840, 0, 2046, 10, 4092, 4⟩
  | 9 => some ⟨2, 2, 2352900, 0, 20460, 1, 20460, 2⟩
  | 10 => some ⟨2, 2, 2414280, 0, 20460, 1, 20460, 2⟩
  | 11 => some ⟨3, 0, 3204000, 1125, 1022, 1, 1022, 2⟩
  | 12 => some ⟨3, 1, 2492000, 875, 1022, 1, 1022, 2⟩
  | 13 => some ⟨4, 0, 3150840, 0, 2046, 1, 2046, 2⟩
  | 14 => some ⟨4, 0, 3150840, 0, 2046, 10, 4092, 4⟩
  | 15 => some ⟨4, 1, 2455200, 0, 1023, 20, 1023, 2⟩
  | 16 => some ⟨4, 2, 2352900, 0, 20460, 1, 20460, 2⟩
  | 17 => some ⟨5, 0, 3150840, 0, 2046, 1, 2046, 2⟩
  | 18 => some ⟨5, 2, 2352900, 0, 20460, 1, 20460, 2⟩
  | _ => none

/-- The row of a code, with a row of zeros for a code of no signal. -/
def sigRow (code : Nat) : SignalRow := (signalRow code).getD ⟨0, 0, 1, 0, 0, 1, 0, 1⟩

/-- The carrier of a signal in 0.5 kHz, GLONASS by its frequency number. -/
def carrierOf (g : SigId) : Int := ((sigRow g.signal).carrier : Int) + (sigRow g.signal).kStep * g.k

/-- Whole chips of a signal's primary period. -/
def periodChips (code : Nat) : Nat := (sigRow code).chips * (sigRow code).period / 2

/-- The LO of a band in 0.5 kHz (Table 4-4). -/
def bandLo (band : Nat) : Int := match band with | 0 => 3169000 | 1 => 2472000 | _ => 2382000

/-- The SV numbers of a system (Table 4-2). -/
def svOk (system sv : Nat) : Bool :=
  match system with
  | 0 => decide (1 ≤ sv ∧ sv ≤ 32)
  | 1 => decide (1 ≤ sv ∧ sv ≤ 36)
  | 2 => decide (1 ≤ sv ∧ sv ≤ 63)
  | 3 => decide (sv ≤ 24)
  | 4 => decide (193 ≤ sv ∧ sv ≤ 202)
  | 5 => decide (120 ≤ sv ∧ sv ≤ 158)
  | _ => false

/-- The signal identity is one of Tables 4-1 and 4-2. -/
def sigOk (g : SigId) : Bool :=
  match signalRow g.signal with
  | some r => decide (r.system = g.system) && svOk g.system g.sv &&
      (if g.system = 3 then decide (-7 ≤ g.k ∧ g.k ≤ 6) else decide (g.k = 0))
  | none => false

/-- Two identities name one satellite and signal; GLONASS is identified by k (R84, R102). -/
def sameSignal (a b : SigId) : Bool :=
  decide (a.signal = b.signal) && (if a.system = 3 then decide (b.system = 3 ∧ a.k = b.k) else decide (a.system = b.system ∧ a.sv = b.sv))

/-- Two identities name one satellite. -/
def sameSat (a b : SigId) : Bool :=
  decide (a.system = b.system) && (if a.system = 3 then decide (a.k = b.k) else decide (a.sv = b.sv))

/-- A channel is on a data component alone (Table 5-3). -/
def dataOnly (code : Nat) : Bool := [0, 7, 10, 11, 12, 13, 17].contains code

/-- BeiDou satellites with 2 ms bits (Table 5-3). -/
def shortBit (g : SigId) : Bool := decide (g.signal = 7) && (decide (g.sv ≤ 5) || decide (59 ≤ g.sv))

/-- The coherent interval before synchronisation, ms (Table 5-3). -/
def cohBefore (code : Nat) : Nat := match code with | 1 | 14 | 8 => 10 | 2 | 15 => 20 | 4 => 4 | _ => 1

/-- The longest coherent interval after synchronisation, ms (Table 5-3). -/
def cohMax (g : SigId) : Nat :=
  if shortBit g then 2 else match g.signal with | 17 => 2 | 10 => 1 | 11 | 12 => 10 | _ => 20

/-- Candidate boundary phases counted for bit, symbol or meander synchronisation, in ms (Table 5-3); 0 where the
signal synchronises by a code, or needs none. -/
def bitPeriod (g : SigId) : Nat :=
  if shortBit g then 2 else match g.signal with | 0 | 13 | 7 => 20 | 17 => 2 | 11 | 12 => 10 | _ => 0

/-- The length in ms of what synchronisation resolves (Table 5-3): the bit, symbol or meander, the secondary, overlay or CL code. -/
def syncMs (g : SigId) : Nat :=
  match g.signal with
  | 1 | 8 | 14 => 18000
  | 2 | 15 => 1500
  | 3 | 16 | 18 => 20
  | 4 | 5 | 6 | 9 => 100
  | 10 => 1
  | _ => bitPeriod g

/-- The chips of the secondary or overlay code of the pilot (Table 5-3); 0 where the signal has none. -/
def secondaryLen (code : Nat) : Nat := match code with | 1 | 8 | 14 => 1800 | 3 | 16 | 18 => 20 | 4 => 25 | 5 | 6 | 9 => 100 | _ => 0

/-- The pilot of L2C is CL, found by its phase (Table 5-3). -/
def hasCl (code : Nat) : Bool := decide (code = 2) || decide (code = 15)

/-- The spacing in ms of the symbol or secondary-code boundaries at which a longer interval starts (R121); of the 1,800-chip codes every chip
bounds a symbol. -/
def boundaryMs (g : SigId) : Nat :=
  match g.signal with
  | 1 | 8 | 14 => 10
  | 2 | 15 => 20
  | _ => max 1 (syncMs g)

/-- HALF is cleared by synchronisation itself (Table 5-3, last column). -/
def halfBySync (code : Nat) : Bool := !dataOnly code

/-- The greatest n, below 2^bits, with 10^n * den^100 ≤ num^100: the level of num/den in 0.1 dB, rounded down. -/
def deciBelGo (num den : Nat) : Nat → Nat → Nat
  | 0, r => r
  | k + 1, r => if 10 ^ (r + 2 ^ k) * den ^ 100 ≤ num ^ 100 then deciBelGo num den k (r + 2 ^ k) else deciBelGo num den k r

/-- 10 log10(num/den) in 0.1 dB, rounded down, 0 for a ratio at or below 1, at most 1,023 (log 22). -/
def deciBel (num den : Nat) : Nat := if num ≤ den then 0 else deciBelGo num den 10 0

end Sys2Proof.Machine
end

