-- ==== Sys2Proof/Machine/Lake.lean ====
section
/-! DEFINITION. The antenna bias (R87, R88), the band paths' AGC, notches, blanker and spectrum monitor (R91–R99),
and the Lake: requests, slots, verification, handover, aiding (R101–R113). -/

namespace Sys2Proof.Machine

/-- An unused slot's value. -/
def LakeSlot.reset : LakeSlot := {}

/-- Slot `n`. -/
def State.slot (s : State) (n : Nat) : LakeSlot := Tab.get LakeSlot.reset s.lake.slots n

/-- Slot `n` changed. -/
def State.setSlot (n : Nat) (v : LakeSlot) (s : State) : State := { s with lake.slots := Tab.set LakeSlot.reset s.lake.slots n v }

/-- An unused channel's value. -/
def Channel.reset : Channel := {}

/-- Channel `c`. -/
def State.chan (s : State) (c : Nat) : Channel := Tab.get Channel.reset s.trk.channels c

/-- Channel `c` changed. -/
def State.setChan (c : Nat) (v : Channel) (s : State) : State := { s with trk.channels := Tab.set Channel.reset s.trk.channels c v }

/-- The number of 1-Lake events latched. -/
def State.lakeEvent (n : Nat) (s : State) : State := { s with lake.events := s.lake.events ||| BitVec.ofNat 32 (2 ^ n) }

/-! ### Antenna bias (Table 4-3) -/

/-- The sense readings of the bias switch; in PASSIVE and OFF nothing is sensed (R87, R89). -/
def State.antSense (current voltage : Nat) (s : State) : State :=
  if s.lake.ant = .passive ∨ s.lake.ant = .off then s else { s with lake.antCurrent := current, lake.antVoltage := voltage }

/-- The bias switch enters a state; the instant is kept for the times of Table 4-3. -/
def State.setAnt (a : AntState) (s : State) : State := { s with lake.ant := a, lake.antSince := s.ns }

/-- The mode field of the UNIT record, 0 with no image. -/
def State.biasMode (s : State) : Nat := (s.unitRec.map (·.bias)).getD 0

/-- The voltage of the bias mode in mV (R86). -/
def State.biasMv (s : State) : Nat := match s.biasMode with | 1 => 3300 | 2 => 5000 | _ => 0

/-- ANT_BIAS_SUP, in mV, lies within ±10 % of the mode voltage (Table 4-3; DESIGN CHOICE, log 173: the unit of mV). -/
def State.biasSupplyOk (mv : Nat) (s : State) : Bool := decide (9 * s.biasMv ≤ 10 * mv) && decide (10 * mv ≤ 11 * s.biasMv)

/-- The current is at the limit or the output, read in 2 mV, below 50 % of the mode voltage (Table 4-3). -/
def State.biasShorted (current voltage : Nat) (s : State) : Bool :=
  decide (s.unitRec.elim 0 (·.biasLimit) ≤ current) || decide (4 * voltage < s.biasMv)

/-- What the state left is numbered in ANT_RESTORED: as LAKE_ANT_STATUS numbers it. -/
def AntState.code : AntState → Nat
  | .passive => 0 | .off => 1 | .on => 2 | .openCircuit => 3 | .shortWait => 4 | .latchedOff => 5 | .supplyFault => 6

/-- A return to ON is recorded with the state left and the current (R88). -/
def State.antRestore (s : State) : State :=
  (s.setAnt .on).report 0x0105 [(1, s.lake.ant.code), (1, s.lake.antCurrent)]

/-- The switch opens on a fault of the supply, recorded with the voltage of ANT_BIAS_SUP (R88). -/
def State.antSupply (supply : Nat) (s : State) : State := ((s.setAnt .supplyFault).lakeEvent 3).report 0x0104 [(4, supply)]

/-- PASSIVE is left when the image has been read (R88): OFF in mode 0, else ON or SUPPLY_FAULT by the supply. -/
def State.antImageRead (supply : Nat) (s : State) : State :=
  if s.lake.ant ≠ .passive then s
  else if s.biasMode = 0 then s.setAnt .off
  else if s.biasSupplyOk supply then s.setAnt .on
  else s.antSupply supply

/-- PASSIVE again at entry to START or loss of VDD_IO33 (R87). -/
def State.antPassive (s : State) : State := s.setAnt .passive

/-- ANT_OPEN (R88): the current has stayed below 2 mA for 1 s; the switch stays closed. -/
def execAntOpen (current : BitVec 8) (voltage : BitVec 12) : State → Host.Outcome State Fault Refusal :=
  done fun s =>
    let s := s.antSense current.toNat voltage.toNat
    if s.lake.ant = .on ∧ current.toNat < 2 then ((s.setAnt .openCircuit).lakeEvent 1).report 0x0102 [(1, current.toNat)] else s

/-- ANT_OPEN_RESTORED (R88): the current has stayed at or above 4 mA for 1 s. -/
def execAntOpenRestored (current : BitVec 8) (voltage : BitVec 12) : State → Host.Outcome State Fault Refusal :=
  done fun s =>
    let s := s.antSense current.toNat voltage.toNat
    if s.lake.ant = .openCircuit ∧ 4 ≤ current.toNat then s.antRestore else s

/-- ANT_SHORT (R88): the switch opens and the consecutive-short count increments. -/
def execAntShort (current : BitVec 8) (voltage : BitVec 12) : State → Host.Outcome State Fault Refusal :=
  done fun s =>
    let s := s.antSense current.toNat voltage.toNat
    if (s.lake.ant = .on ∨ s.lake.ant = .openCircuit) ∧ s.biasShorted current.toNat voltage.toNat = true then
      let n := sat 3 (s.lake.shorts + 1)
      ((({ s with lake.shorts := n }).setAnt .shortWait).lakeEvent 0).report 0x0101
        [(1, current.toNat), (2, voltage.toNat), (1, n)]
    else s

/-- ANT_SHORT_WAIT_END (R88): 1 s after the short ON again, or LATCHED_OFF at the fifth consecutive short. -/
def execAntShortWaitEnd (current : BitVec 8) (voltage : BitVec 12) : State → Host.Outcome State Fault Refusal :=
  done fun s =>
    if s.lake.ant = .shortWait then
      let s := (s.atLeast (s.lake.antSince + 1000000000)).antSense current.toNat voltage.toNat
      if s.lake.shorts ≤ 4 then s.antRestore
      else ((s.setAnt .latchedOff).lakeEvent 2).report 0x0103 [(1, current.toNat), (2, voltage.toNat)]
    else s.antSense current.toNat voltage.toNat

/-- ANT_SHORT_COUNT_RESET (R88): the switch has been in ON for 60 s. -/
def execAntShortCountReset : State → Host.Outcome State Fault Refusal :=
  done fun s => if s.lake.ant = .on then { s.atLeast (s.lake.antSince + 60000000000) with lake.shorts := 0 } else s

/-- ANT_SUPPLY_FAULT (R88): ANT_BIAS_SUP has been out of range for 10 ms and the switch opens. -/
def execAntSupplyFault (current : BitVec 8) (voltage : BitVec 12) (supply : Nat) : State → Host.Outcome State Fault Refusal :=
  done fun s =>
    let s := s.antSense current.toNat voltage.toNat
    if (s.lake.ant = .on ∨ s.lake.ant = .openCircuit) ∧ s.biasSupplyOk supply = false then s.antSupply supply else s

/-- ANT_SUPPLY_RESTORED (R88): ANT_BIAS_SUP has been within its range for 1 s. -/
def execAntSupplyRestored (current : BitVec 8) (voltage : BitVec 12) (supply : Nat) : State → Host.Outcome State Fault Refusal :=
  done fun s =>
    let s := s.antSense current.toNat voltage.toNat
    if s.lake.ant = .supplyFault ∧ s.biasSupplyOk supply = true then s.antRestore else s

/-- RETRY written to LAKE_ANT_CTL (R88). -/
def State.antRetry (s : State) : State :=
  if s.lake.ant = .latchedOff then ({ s with lake.shorts := 0 }).antRestore else s

/-- ANT_RETRY (R88). -/
def execAntRetry : State → Host.Outcome State Fault Refusal := done State.antRetry

/-- VDD_IO33_LOSS (R87). -/
def execVddIo33Loss : State → Host.Outcome State Fault Refusal := done State.antPassive

/-! ### Bands: AGC, notches, blanker, monitor -/

/-- Band `b`. -/
def State.band (s : State) (b : Nat) : Band := (s.lake.bands[b]?).getD {}

/-- Band `b` changed. -/
def State.updBand (b : Nat) (f : Band → Band) (s : State) : State := { s with lake.bands := updAt s.lake.bands b f }

/-- A flag of Table 4-5 raised or cleared is recorded: band, flag by its row, and on a raise AGC gain and line margin. -/
def State.interfEvent (raised : Bool) (b flagNo : Nat) (s : State) : State :=
  if raised then s.report 0x0109 [(1, b), (1, flagNo), (1, (s.band b).gain), (2, (s.band b).margin)]
  else s.report 0x010A [(1, b), (1, flagNo)]

/-- Any flag of Table 4-5 stands for the band. -/
def State.bandFlagged (s : State) (b : Nat) : Bool :=
  let x := s.band b
  x.narrowband || x.wideband || x.unmitigated || (decide (b = 2) && (s.lake.pulsed || s.lake.lowJammed))

/-- WIDEBAND raised or cleared against the reference gain (Table 4-5); gain in 0.5 dB, threshold in 0.25 dB. -/
def State.wideEval (b : Nat) (s : State) : State :=
  let x := s.band b
  if x.reference = 0xFF then s
  else if !x.wideband then
    if 2 * x.gain + s.lake.monWideband ≤ 2 * x.reference then
      ((s.updBand b (fun x => { x with wideband := true, wideClear := 0 })).lakeEvent (14 + b)).interfEvent true b 2
    else s
  else if 2 * x.reference ≤ 2 * x.gain + (s.lake.monWideband - 4) then
    if 9 ≤ x.wideClear then (s.updBand b (fun x => { x with wideband := false, wideClear := 0 })).interfEvent false b 2
    else s.updBand b (fun x => { x with wideClear := x.wideClear + 1 })
  else s.updBand b (fun x => { x with wideClear := 0 })

/-- The GNSS domain runs, from START's self-test to a save (R26, Table 2-6): the effect `f`; nothing otherwise. -/
def State.gnssRuns (f : State → State) (s : State) : State := if s.clk.gnss then f s else s

/-- The AGC's loop (R91; DEDUCED, log 168: 1 s after the last update, a hundred time constants, it has settled): it holds the fraction of
full samples at 38/256 with the gain `need`, in 0.5 dB, that this takes, from 0 to 60 dB; a signal beyond that range leaves the gain at its
bound and the fraction at `full`. It holds its gain while the blanker is blanking. -/
def agcStep (need : Int) (full : Nat) (hold : Bool) (x : Band) : Band :=
  if hold then { x with full := full }
  else if need < 0 then { x with gain := 0, full := full }
  else if 120 < need then { x with gain := 120, full := full }
  else { x with gain := need.toNat, full := 38 }

/-- The AGC's reference gain (R91): the mean gain of the first 600 flag-free seconds, then it follows the gain with a 24 h time constant
while no flag stands (log 21). -/
def agcLearn (x : Band) : Band :=
  if x.reference = 0xFF then
    let sum := x.learnSum + x.gain
    if x.learnCount + 1 = 600 then { x with learnSum := sum, learnCount := 600, reference := sum / 600, scaled := sum * 144 }
    else { x with learnSum := sum, learnCount := x.learnCount + 1 }
  else
    let sc := x.scaled + x.gain - x.scaled / 86400
    { x with scaled := sc, reference := sc / 86400 }

/-- AGC_REFERENCE_UPDATE (R91, R99), at each whole second: the gain, its reference, and WIDEBAND against it. `blanking` says that the
Low-band blanker is blanking at this instant. -/
def execAgcReferenceUpdate (band : Fin 3) (need : Int) (full : BitVec 8) (blanking : Bool) : State → Host.Outcome State Fault Refusal :=
  done <| State.gnssRuns fun s =>
    let b := band.val
    let s := s.mark (markAgc b) perSec
    let s := s.updBand b (agcStep need full.toNat (blanking && s.lake.blankEn && decide (b = 2)))
    (s.updBand b (if s.bandFlagged b then id else agcLearn)).wideEval b

/-- The width of a notch in kHz (LAKE_NOTCH_CTL). -/
def notchKhz (w : Nat) : Nat := match w with | 0 => 50 | 1 => 100 | 2 => 250 | 3 => 500 | 4 => 1000 | _ => 2000

/-- A notch of a band changed. -/
def State.updNotch (b n : Nat) (f : Notch → Notch) (s : State) : State :=
  s.updBand b (fun x => { x with notches := updAt x.notches n f })

/-- The band has a notch change (R95): latched for the epoch and in LAKE_EVENTS. -/
def State.notchChange (b : Nat) (s : State) : State := (s.updBand b (fun x => { x with changed := true })).lakeEvent (6 + b)

/-- A notch is released (R93, R94). -/
def State.releaseNotch (b n : Nat) (s : State) : State :=
  match (s.band b).notches[n]? with
  | some v => if v.state = 0 then s
      else ((s.updNotch b n (fun _ => {})).notchChange b).report 0x0107 [(1, b), (1, n)]
  | none => s

/-- Of two engaged notches within one width of each other the higher-numbered one is released (R94). -/
def State.closeNotches (b : Nat) (s : State) : State :=
  s.each [1, 2, 3] (fun m s =>
    let v := ((s.band b).notches[m]?).getD {}
    if decide (v.state = 2) && (enum (s.band b).notches).any (fun p => decide (p.1 < m ∧ p.2.state = 2) &&
        decide ((p.2.offset - v.offset).natAbs ≤ notchKhz s.lake.notchWidth))
    then s.releaseNotch b m else s)

/-- An engaged notch follows its line, by at most 100 kHz for each millisecond since it last moved (R93); a move of more than its width
since the last epoch is a notch change (R95). -/
def State.followLine (b n : Nat) (offset : Int) (depth : Nat) (v : Notch) (s : State) : State :=
  let reach : Int := 100 * max 1 ((s.ns - v.instant) / 1000000)
  let at_ := max (v.offset - reach) (min offset (v.offset + reach))
  let s := s.updNotch b n (fun v => { v with offset := ssat 16 at_, depth := depth, instant := s.ns })
  if notchKhz s.lake.notchWidth < (at_ - v.epochAt).natAbs then s.notchChange b else s

/-- NOTCH_ENGAGED (R93): an acquiring notch is engaged; the centre that an engaged one reports again is where it has followed its line to
(DESIGN CHOICE, log 170). -/
def execNotchEngaged (band : Fin 3) (notch : Fin 4) (offset : Int) (depth : BitVec 6) : State → Host.Outcome State Fault Refusal :=
  done <| State.gnssRuns fun s =>
    let b := band.val
    let n := notch.val
    let v := ((s.band b).notches[n]?).getD {}
    if v.state = 1 then
      let o := ssat 16 offset
      let s := (s.updNotch b n (fun v => { v with state := 2, offset := o, depth := depth.toNat, epochAt := o, instant := s.ns })).notchChange b
      (s.report 0x0106 [(1, b), (1, n), (2, o), (1, depth.toNat)]).closeNotches b
    else if v.state = 2 then (s.followLine b n offset depth.toNat v).closeNotches b
    else s

/-- A line of a spectrum: runs of adjacent bins at or above the threshold, as (bin of the peak, its power). The centre of a line of
several bins is that of its strongest (DESIGN CHOICE, log 162). -/
def spectrumLines (threshold : Int) : Nat → List Int → Option (Nat × Int) → List (Nat × Int)
  | _, [], none => []
  | _, [], some l => [l]
  | i, p :: ps, cur =>
    if threshold ≤ p then
      spectrumLines threshold (i + 1) ps
        (match cur with | none => some (i, p) | some (j, q) => if q < p then some (i, p) else some (j, q))
    else match cur with
      | none => spectrumLines threshold (i + 1) ps none
      | some l => l :: spectrumLines threshold (i + 1) ps none

/-- Insertion into a list falling by power. -/
def insertLine (l : Nat × Int) : List (Nat × Int) → List (Nat × Int)
  | [] => [l]
  | m :: ms => if m.2 < l.2 then l :: m :: ms else m :: insertLine l ms

/-- Insertion into a rising list. -/
def insertInt (x : Int) : List Int → List Int
  | [] => [x]
  | y :: ys => if x ≤ y then x :: y :: ys else y :: insertInt x ys

/-- The median bin of a spectrum: of an even count the lower of the two middle ones (log 20). -/
def medianOf (l : List Int) : Int := ((l.foldr insertInt [])[(l.length - 1) / 2]?).getD 0

/-- The centre of a bin relative to the LO in kHz, rounded down (R98; DESIGN CHOICE, log 162). -/
def binKhz (band bin : Nat) : Int := if band = 1 then ((bin : Int) * 78125 - 160000000) / 10000 else ((bin : Int) * 156250 - 320000000) / 10000

/-- A line lies within the width of a notch. -/
def Notch.covers (w : Nat) (khz : Int) (v : Notch) : Bool := decide ((v.offset - khz).natAbs * 2 ≤ w)

/-- The power of the strongest line that a notch stands on, none where it stands on no line; lines come in falling power. -/
def Notch.power (w b : Nat) (lines : List (Nat × Int)) (v : Notch) : Option Int :=
  (lines.find? (fun l => v.covers w (binKhz b l.1))).map (·.2)

/-- The notch that a stronger line displaces: it stands on no line, or on the weakest of all that are weaker (R94). -/
def weakestNotch (w b : Nat) (lines : List (Nat × Int)) (power : Int) (ns : List Notch) : Option Nat :=
  (leastBy (fun (x y : Nat × Int) => decide (x.2 < y.2))
    ((enum ns).filterMap (fun p => match p.2.power w b lines with
      | none => some (p.1, (-2 ^ 20 : Int))
      | some q => if q < power then some (p.1, q) else none))).map (·.1)

/-- A line takes the lowest-numbered free notch unless it lies within the width of an engaged one (R93); with no notch free the one on
the weakest line is released for it (R94). -/
def State.assignNotch (b : Nat) (lines : List (Nat × Int)) (line : Nat × Int) (s : State) : State :=
  let w := notchKhz s.lake.notchWidth
  let khz := binKhz b line.1
  let ns := (s.band b).notches
  let acquire := fun (n : Nat) (s : State) => s.updNotch b n (fun _ => { state := 1, offset := ssat 16 khz })
  if !bit s.lake.notchEn b || ns.any (fun v => decide (v.state = 2) && v.covers w khz) then s
  else match (enum ns).find? (fun p => decide (p.2.state = 0)) with
    | some p => acquire p.1 s
    | none => match weakestNotch w b lines line.2 ns with
      | some n => acquire n (s.releaseNotch b n)
      | none => s

/-- A notch whose line has stayed more than 3 dB below the threshold for five runs is released (R93). -/
def State.ageNotch (b n : Nat) (lines : List (Nat × Int)) (s : State) : State :=
  match (s.band b).notches[n]? with
  | none => s
  | some v =>
    if v.state = 0 then s
    else
      let w := notchKhz s.lake.notchWidth
      if lines.any (fun l => decide ((v.offset - binKhz b l.1).natAbs * 2 ≤ w)) then s.updNotch b n (fun v => { v with below := 0 })
      else if 4 ≤ v.below then s.releaseNotch b n
      else s.updNotch b n (fun v => { v with below := v.below + 1 })

/-- The flags NARROWBAND and UNMITIGATED after a run that found so many lines (Table 4-5). -/
def State.lineFlags (b lines : Nat) (s : State) : State :=
  let x := s.band b
  let s :=
    if decide (lines ≠ 0) && !x.narrowband then
      ((s.updBand b (fun x => { x with narrowband := true })).lakeEvent (11 + b)).interfEvent true b 0
    else if x.narrowband && decide (5 ≤ x.noLine) then (s.updBand b (fun x => { x with narrowband := false })).interfEvent false b 0
    else s
  if decide (4 < lines) && !x.unmitigated then (s.updBand b (fun x => { x with unmitigated := true })).interfEvent true b 1
  else if x.unmitigated && decide (lines ≤ 4) then (s.updBand b (fun x => { x with unmitigated := false })).interfEvent false b 1
  else s

/-- A run's averaged bins, in 0.01 dB, give floor, lines, notches and flags (R98, R93, R94, R99). -/
def State.monitorBand (b : Nat) (power : List Int) (s : State) : State :=
  let floor := medianOf power
  let rel := power.map (fun p => ssat 16 (p - floor))
  let engage : Int := 50 * s.lake.monEngage
  let lines := (spectrumLines engage 0 rel none).foldr insertLine []
  let held := spectrumLines (engage - 300) 0 rel none
  let top := lines.head?
  let s := s.updBand b (fun x => { x with
    spectrum := rel, runs := x.runs + 1, runPending := false
    margin := match top with | some l => sat 16 l.2.toNat | none => 0
    lineOffset := match top with | some l => ssat 16 (binKhz b l.1) | none => 0
    noLine := if lines.isEmpty then x.noLine + 1 else 0 })
  let s := s.each (List.range 4) (fun n s => s.ageNotch b n held)
  (s.each lines (fun l s => s.assignNotch b lines l)).lineFlags b lines.length

/-- A run of the spectrum monitor reaches band `b`: 100, 200 or 300 ms after a whole second that is a multiple of the period (R98;
DESIGN CHOICE, log 172). Pending since that second it has woken the Lake domain; the bands after it are pending still. -/
def State.monitorDue (b : Nat) (s : State) : State :=
  let s := s.markOfs (markMonitor b) (s.lake.monPeriod * perSec) (((b + 1) * 100 * perMs : Nat) : Int)
  { s with clk.lake := true, lake.idleSince := s.ns
           lake.bands := (enum s.lake.bands).map (fun p => { p.2 with runPending := decide (b < p.1) }) }

/-- SPECTRUM_MONITOR_RUN (R98): one band's part of a run over its 4,096 bins; a list of another length is no run. -/
def execSpectrumMonitorRun (band : Fin 3) (power : List Int) : State → Host.Outcome State Fault Refusal :=
  done <| State.gnssRuns fun s => if power.length ≠ 4096 then s else (s.monitorDue band.val).monitorBand band.val power

/-! ### The Lake's slots and FIFO -/

/-- A search ends with an outcome (Table 4-7): the slot returns to IDLE and keeps its last values. -/
def State.endSearch (n outcome : Nat) (s : State) : State :=
  let s := s.setSlot n { s.slot n with state := .idle, outcome := outcome, channel := none }
  let c := s.lcnt
  { s with lake.idleSince := s.ns, lcnt := { c with
      done := incr c.done
      confirmed := if outcome = 1 then incr c.confirmed else c.confirmed
      notFound := if outcome = 2 then incr c.notFound else c.notFound
      verifyFailed := if outcome = 3 then incr c.verifyFailed else c.verifyFailed
      xcorr := if outcome = 4 then incr c.xcorr else c.xcorr
      noChannel := if outcome = 5 then incr c.noChannel else c.noChannel } }

/-- The waiting request that is served first: the lowest priority number, the oldest among those (R103). -/
def firstRequest : List SearchReq → Option SearchReq
  | [] => none
  | q :: qs => match firstRequest qs with
    | none => some q
    | some r => if r.priority < q.priority then some r else some q

/-- One free slot, if any, takes the next request (R103): SLOT_TAKE_REQUEST. Its last outcome stays in the slot view (R115). -/
def State.takeOne (s : State) : State :=
  match (List.range 96).find? (fun n => decide ((s.slot n).state = .idle)), firstRequest s.lake.fifo with
  | some n, some q =>
    let s := s.setSlot n { LakeSlot.reset with
      req := q, state := .search, doppler := q.doppler, outcome := (s.slot n).outcome, since := s.ns }
    { s with lake.fifo := s.lake.fifo.erase q }
  | _, _ => s

/-- While the Lake domain runs, free slots take waiting requests in ascending slot number while both last (R103, R111). -/
def State.takeRequests (s : State) : State :=
  if s.clk.lake && s.domReady domLake then s.each (List.range (min 32 s.lake.fifo.length)) (fun _ s => s.takeOne) else s

/-- A request has woken the Lake domain: once it runs, 30 µs later, the slots take what waits (R111, log 175). -/
def State.lakeUp (s : State) : State :=
  if s.clk.lake && !s.lake.fifo.isEmpty then (s.whenReady domLake).takeRequests else s

/-- The satellite and signal are tracked, occupy a slot, or wait in the FIFO (R102). -/
def State.duplicate (g : SigId) (s : State) : Bool :=
  s.trk.channels.any (fun c => decide (c.2.state ≠ .free) && sameSignal c.2.sig g) ||
  s.lake.slots.any (fun n => decide (n.2.state ≠ .idle) && sameSignal n.2.req.sig g) ||
  s.lake.fifo.any (fun q => sameSignal q.sig g)

/-- The search parameters of a kind (Table 4-8): code width per candidate in 1/16 chip, 0 the full period; Doppler half-width in Hz; t_c in
ms; n_nc. -/
structure SearchParams where
  width : Nat
  halfWidth : Nat
  tc : Nat
  nnc : Nat
deriving DecidableEq, Repr

/-- The aided search parameters of a signal (Table 4-8). -/
def aidedParams (code : Nat) : SearchParams :=
  match code with
  | 1 | 8 | 14 => ⟨128, 50, 5, 4⟩
  | 2 | 15 => ⟨128, 50, 20, 3⟩
  | 4 => ⟨128, 50, 4, 3⟩
  | 3 | 5 | 6 | 9 | 10 | 16 | 18 => ⟨512, 50, 1, 10⟩
  | _ => ⟨128, 50, 1, 10⟩

/-- The signals that cold and warm searches acquire (Tables 4-1 and 4-8). -/
def coldSearched (code : Nat) : Bool := [0, 4, 7, 11, 13, 17].contains code

/-- Table 4-8: the default parameters of a kind, 0 cold, 1 warm, 2 aided, 3 reacquisition, for a signal; none where it has no row. Half of
an odd n_nc is rounded down (DESIGN CHOICE, log 160). -/
def searchParams (kind code : Nat) : Option SearchParams :=
  let a := aidedParams code
  match kind with
  | 0 => if coldSearched code then some ⟨0, 6000, a.tc, a.nnc⟩ else none
  | 1 => if coldSearched code then some ⟨0, 500, a.tc, a.nnc⟩ else none
  | 2 => some a
  | 3 => some ⟨if (sigRow code).band = 2 then 1024 else 256, 100, a.tc, max 1 (a.nnc / 2)⟩
  | _ => none

/-- A request with the default parameters of its kind in place of firmware's own (R104). -/
def SearchReq.withDefaults (q : SearchReq) : SearchReq :=
  match searchParams q.kind q.sig.signal with
  | some p => { q with codeWidth := p.width, halfWidth := p.halfWidth, tc := p.tc, nnc := p.nnc }
  | none => q

/-- The fields of a request in the layout of Table 4-6. -/
def searchReqOf (b : List Octet) : SearchReq :=
  { sig := ⟨getLe b 0 1, getLe b 1 1, getLe b 2 1, getLeS b 3 1⟩, kind := getLe b 4 1, priority := getLe b 5 1, target := getLe b 6 2
    codeStart := getLe b 8 4, codeWidth := getLe b 12 4, candidates := getLe b 16 2, spacing := getLe b 18 2, doppler := getLeS b 20 4
    halfWidth := getLe b 24 2, step := getLe b 26 2, tc := getLe b 28 1, nnc := getLe b 29 1, tag := getLe b 30 2 }

/-- The samples of a record, t_c × f_s (R100). -/
def SearchReq.samples (q : SearchReq) : Nat := q.tc * (sigRow q.sig.signal).fs

/-- The code phases of a search: the window of each candidate in code steps (R100). -/
def SearchReq.phases (q : SearchReq) : Nat :=
  let w := if q.codeWidth = 0 then 16 * periodChips q.sig.signal else q.codeWidth
  ceilDiv (w * (sigRow q.sig.signal).stepDiv) 16 * q.candidates

/-- The Doppler bins of a search; the step is 1 / (2 × t_c) unless the request gives another (R100). -/
def SearchReq.bins (q : SearchReq) : Nat :=
  2 * (if q.step = 0 then ceilDiv (2 * q.tc * q.halfWidth) 1000 else ceilDiv q.halfWidth q.step) + 1

/-- The time in ns of a search that replays so many groups and bins per record (R100). -/
def SearchReq.time (q : SearchReq) (groups bins : Nat) : Nat :=
  let tc := 1000000 * q.tc
  let rep := groups * bins * (2 * (q.samples + 32))
  if q.samples ≤ 10240 then tc + rep + (q.nnc - 1) * max tc rep else q.nnc * (tc + rep)

/-- The time of a search in ns (R100). -/
def SearchReq.searchNs (q : SearchReq) : Nat := q.time (ceilDiv q.phases 256) q.bins

/-- The time of a verification in ns: one group and three bins (R105, Table 4-11). -/
def SearchReq.verifyNs (q : SearchReq) : Nat := q.time 1 3

/-- A quotient rounded to the nearest (log 20). -/
def roundDiv (a b : Int) : Int := (2 * a + b) / (2 * b)

/-- A code phase in 1/1,024 chip, carried on by its Doppler over `ns` (R108). -/
def advancePhase (g : SigId) (phase : Nat) (doppler : Int) (ns : Nat) : Nat :=
  let c := carrierOf g * 500000
  ((phase + roundDiv (ns * (sigRow g.signal).chips * 512 * (c + doppler)) (1000000 * c)) %
    (1024 * max 1 (periodChips g.signal) : Nat)).toNat

/-- A request whose code start is carried on by its Doppler over `ns`. -/
def SearchReq.carried (ns : Nat) (q : SearchReq) : SearchReq :=
  { q with codeStart := advancePhase q.sig (64 * q.codeStart) q.doppler ns / 64 }

/-- The fields of a request lie in range and the record fits its region of the ring (R100, R101); cold and warm searches acquire only the
signals that Table 4-1 marks so (DEDUCED, log 171). -/
def reqInRange (q : SearchReq) : Bool :=
  sigOk q.sig && decide (q.kind ≤ 3) && (decide (2 ≤ q.kind) || coldSearched q.sig.signal) && decide (q.priority ≤ 3) &&
  (decide (q.target ≤ 287) || decide (q.target = 0xFFFF)) &&
  decide (q.codeStart < 16 * periodChips q.sig.signal) && decide (1 ≤ q.candidates ∧ q.candidates ≤ 20) &&
  decide (1 ≤ q.spacing ∧ q.spacing ≤ 20) && decide (q.halfWidth ≤ 20000) && decide (1 ≤ q.tc ∧ q.tc ≤ 20) &&
  decide (1 ≤ q.nnc ∧ q.nnc ≤ 200) && decide (q.samples ≤ 20480)

/-- The refusal of a request, in the order of Table 4-7; none where the Lake takes it. -/
def State.searchRefusal (q : SearchReq) (s : State) : Option Nat :=
  if 32 ≤ s.lake.fifo.length then some 1
  else if !reqInRange q then some 2
  else if !bit s.lake.sigEn q.sig.signal then some 3
  else if s.duplicate q.sig then some 4
  else if decide ((sigRow q.sig.signal).band = 2) && s.lake.lowJammed then some 5
  else none

/-- The Lake domain wakes when a request or a run is pending (R111). -/
def State.wakeLake (s : State) : State := if s.clk.lake then s else ({ s with clk.lake := true }).wake domLake

/-- A request is submitted (R102): refused and counted, or placed in the FIFO, whence a free slot takes it; the Lake
domain wakes (R111). Answers whether it was refused, and how. The satellite of a LAKE_FIFO_FULL record is the SV number (DESIGN CHOICE,
log 161). -/
def State.submitSearch (q : SearchReq) (s : State) : Option Nat × State :=
  match s.searchRefusal q with
  | some r =>
    let s := { s with lcnt.refused := incr s.lcnt.refused }
    (some r, if r = 1 then (s.lakeEvent 4).report 0x010C [(1, q.sig.signal), (1, q.sig.sv), (1, q.kind)] else s)
  | none => (none, ({ s with lake.fifo := s.lake.fifo ++ [q] }).wakeLake.takeRequests)

/-- SEARCH_REQUEST (R102): the 32 octets of Table 4-6, with firmware's own parameters or the defaults of Table 4-8 (R104). -/
def execSearchRequest (request : List Octet) (defaults : Bool) : State → Host.Outcome State Fault Refusal :=
  done fun s =>
    let q := searchReqOf request
    if s.clk.gnss then (s.submitSearch (if defaults then q.withDefaults else q)).2 else s

/-- SEARCH_RECORD_DONE (R107): a parity error discards the record and counts it; otherwise the record is accumulated
and the best cell so far stands in the slot view. -/
def execSearchRecordDone (slot : Fin 96) (parityError : Option Nat) (doppler : Int) (ratio : Nat) : State → Host.Outcome State Fault Refusal :=
  done fun s =>
    let s := s.lakeUp
    let v := s.slot slot.val
    let armed := match s.diag.eccArmed with
      | some (10, a) => some (bits a 8 24)
      | _ => none
    let s := if armed.isSome ∧ (v.state = .search ∨ v.state = .verify) then { s with diag.eccArmed := none } else s
    if v.state ≠ .search ∧ v.state ≠ .verify then s
    else match armed.or parityError with
      | some a => (({ s with lcnt.parity := incr s.lcnt.parity }).lakeEvent 5).report 0x010B [(1, slot.val), (4, a)]
      | none =>
        let best := decide (v.peak ≤ ratio)
        s.setSlot slot.val { v with
          ncDone := min (v.ncDone + 1) v.req.nnc
          doppler := if v.state = .search ∧ best then doppler else v.doppler
          peak := if v.state = .search ∧ best then sat 16 ratio else v.peak
          ratio := if v.state = .search then ratio else v.ratio }

/-- SEARCH_DONE (R100, R105): after n_nc records the detection ratio, in 0.01 dB, decides between VERIFY and NOT_FOUND. -/
def execSearchDone (slot : Fin 96) : State → Host.Outcome State Fault Refusal :=
  done fun s =>
    let v := s.slot slot.val
    if v.state ≠ .search ∨ v.ncDone < v.req.nnc then s
    else
      let s := s.atLeast (v.since + v.req.searchNs)
      if 10 * s.lake.detect ≤ v.ratio then s.setSlot slot.val { v with state := .verify, ncDone := 0, since := s.ns }
      else (s.endSearch slot.val 2).takeRequests

/-- The lowest-numbered free channel that no slot in HANDOVER has been given. -/
def State.freeChannel (s : State) : Option Nat :=
  (List.range 288).find? (fun c => decide ((s.chan c).state = .free) &&
    !s.lake.slots.any (fun n => decide (n.2.state = .handover ∧ n.2.channel = some c)))

/-- The channel a handover goes to: the target when it is free, else the lowest-numbered free one (R108). -/
def State.handoverChannel (q : SearchReq) (s : State) : Option Nat :=
  if decide (q.target ≤ 287) && decide ((s.chan q.target).state = .free) &&
     !s.lake.slots.any (fun n => decide (n.2.state = .handover ∧ n.2.channel = some q.target))
  then some q.target else s.freeChannel

/-- The Doppler of two signals agrees within ±20 Hz modulo 1 kHz (R106), in mHz. -/
def nearModKhz (a b : Int) : Bool := let d := (a - b) % 1000000; decide (d ≤ 20000) || decide (980000 ≤ d)

/-- The families among which cross-correlation is checked (R106). -/
def xcorrFamily (code : Nat) : Nat := match code with | 0 | 13 | 17 => 1 | 7 => 2 | 11 => 3 | _ => 0

/-- The candidate is rejected as a cross-correlation of a tracked signal (R106); C/N0 in 0.1 dB-Hz. -/
def State.isXcorr (g : SigId) (cn0 : Nat) (doppler : Int) (s : State) : Bool :=
  s.lake.xcorrCheck && decide (xcorrFamily g.signal ≠ 0) &&
  s.trk.channels.any (fun c => decide (c.2.state ≠ .free) && decide (xcorrFamily c.2.sig.signal = xcorrFamily g.signal) &&
    decide (cn0 + 180 ≤ c.2.cn0) && nearModKhz c.2.doppler doppler)

/-- VERIFY_DONE (R105, R106, R107, R108): VERIFY_FAILED, XCORR, HANDOVER to a channel, or WAIT_CHANNEL. -/
def execVerifyDone (slot : Fin 96) (ratio cn0 codePhase : Nat) (doppler : Int) : State → Host.Outcome State Fault Refusal :=
  done fun s =>
    let n := slot.val
    let v := s.slot n
    if v.state ≠ .verify ∨ v.ncDone < v.req.nnc then s
    else
      let s := s.atLeast (v.since + v.req.verifyNs)
      if ratio < 10 * s.lake.verify then (s.endSearch n 3).takeRequests
      else if s.isXcorr v.req.sig cn0 doppler then (s.endSearch n 4).takeRequests
      else
        let v := { v with cn0 := cn0, codePhase := codePhase, doppler := doppler, instant := s.ns, since := s.ns }
        match s.handoverChannel v.req with
        | some c => s.setSlot n { v with state := .handover, channel := some c }
        | none => s.setSlot n { v with state := .waitChannel }

/-- The values that a slot hands over, carried on to the FRC instant `t` by the Doppler (R108). -/
def LakeSlot.carried (t : Nat) (v : LakeSlot) : LakeSlot :=
  { v with codePhase := advancePhase v.req.sig v.codePhase v.doppler (t - v.instant), instant := t }

/-- A waiting slot is given the channel that has become free, in ascending slot number, with its code phase carried on to this instant
(R107, R108). -/
def State.offerChannel (s : State) : State :=
  match (List.range 96).find? (fun n => decide ((s.slot n).state = .waitChannel)) with
  | some n => match s.handoverChannel (s.slot n).req with
    | some c => s.setSlot n { (s.slot n).carried s.ns with state := .handover, channel := some c }
    | none => s
  | none => s

/-- NO_CHANNEL (R107): 200 ms have passed in WAIT_CHANNEL. -/
def execNoChannel (slot : Fin 96) : State → Host.Outcome State Fault Refusal :=
  done fun s =>
    if (s.slot slot.val).state = .waitChannel then
      ((s.atLeast ((s.slot slot.val).since + 200000000)).endSearch slot.val 5).takeRequests
    else s

/-- A slot's search is cancelled (R109). -/
def State.cancelSlot (n : Nat) (s : State) : State :=
  match (s.slot n).state with
  | .search | .verify | .waitChannel => s.endSearch n 6
  | .idle | .handover => s

/-- Every search that `p` names is cancelled, in the slots and in the FIFO (R109). -/
def State.cancelWhere (p : SearchReq → Bool) (s : State) : State :=
  let s := s.each ((List.range 96).filter (fun n => p (s.slot n).req)) (fun n s => s.cancelSlot n)
  { s with lake.fifo := s.lake.fifo.filter (fun q => !p q), lake.idleSince := s.ns }

/-- The save cancels every search, in HANDOVER too, and empties the FIFO (R109, R113). -/
def State.cancelForSave (s : State) : State :=
  let s := s.each ((List.range 96).filter (fun n => decide ((s.slot n).state ≠ .idle))) (fun n s => s.endSearch n 6)
  { s with lake.fifo := [], lake.requeue := [] }

/-- SEARCH_CANCEL (R109). -/
def execSearchCancel (tag : BitVec 16) : State → Host.Outcome State Fault Refusal :=
  done fun s => (s.cancelWhere (fun q => decide (q.tag = tag.toNat))).takeRequests

/-- LAKE_DOMAIN_STOP (R111): 10 ms with no slot busy, no request waiting and no run pending. -/
def execLakeDomainStop : State → Host.Outcome State Fault Refusal :=
  done fun s =>
    if s.clk.lake && s.lake.fifo.isEmpty && s.lake.slots.all (fun n => decide (n.2.state = .idle)) && s.lake.bands.all (fun b => !b.runPending)
    then { s.atLeast (s.lake.idleSince + 10000000) with clk.lake := false } else s

/-- The blanker over one millisecond of 64,000 samples (R96), from the samples that reach the threshold: how far blanking lasts in samples,
the samples blanked and the pulses so far. The stream is delayed by 0.5 µs, so that a sample at `i` blanks from `i`, in the delayed count,
for 0.5 µs, itself and the post-guard, of 1/16 µs or 4 samples each (DEDUCED, log 169). -/
def blankGo (post : Nat) : List Nat → Nat × Nat × Nat → Nat × Nat × Nat
  | [], r => r
  | i :: is, (stop, n, p) =>
    let last := i + 33 + 4 * post
    if i ≤ stop ∧ stop ≠ 0 then blankGo post is (max stop last, n + (last - stop), p) else blankGo post is (last, n + (last - i), p + 1)

/-- The aided request of a Low-band verification that LOW_JAMMED cancels is kept for its source, if that is still locked (R110, R113). -/
def State.keepAided (q : SearchReq) (s : State) : State :=
  if q.kind ≠ 2 then s
  else match s.trk.channels.find? (fun c => (decide (c.2.state = ChanState.locked) || decide (c.2.state = ChanState.synced)) && sameSat c.2.sig q.sig) with
    | some c => { s with lake.requeue := s.lake.requeue ++ [(q, c.1)] }
    | none => s

/-- LOW_JAMMED is raised: every Low-band search is cancelled, and the aided ones return when the flag clears (R109, R113). -/
def State.jamLow (s : State) : State :=
  let low := fun (q : SearchReq) => decide ((sigRow q.sig.signal).band = 2)
  let gone := (((List.range 96).filter (fun n => decide ((s.slot n).state ≠ .idle ∧ (s.slot n).state ≠ .handover))).map (fun n => (s.slot n).req) ++
    s.lake.fifo).filter low
  let s := (({ s with lake.lowJammed := true, lake.blankClear := 0 }).lakeEvent 10).interfEvent true 2 4
  ((s.cancelWhere low).each gone (fun q s => s.keepAided q)).takeRequests

/-- LOW_JAMMED after a millisecond, from the samples blanked in the last 100 ms of 6,400,000 (R97). -/
def State.jamEval (s : State) : State :=
  let last := s.lake.blankMs.take 100
  let sum := last.foldl (· + ·) 0
  if !s.lake.lowJammed then (if 100 ≤ last.length ∧ 3200000 < sum then s.jamLow else s)
  else if sum ≤ 1920000 then
    if 999 ≤ s.lake.blankClear then ({ s with lake.lowJammed := false, lake.blankClear := 0 }).interfEvent false 2 4
    else { s with lake.blankClear := s.lake.blankClear + 1 }
  else { s with lake.blankClear := 0 }

/-- The fraction of the last whole second and PULSED, from the samples blanked of 64,000,000 (Table 4-5). -/
def State.pulseEval (s : State) : State :=
  let sum : Nat := s.lake.blankMs.foldl (· + ·) 0
  let s := { s with lake.blankFraction := sat 20 (roundDiv sum 64).toNat }
  if !s.lake.pulsed && decide (640000 ≤ sum) then ({ s with lake.pulsed := true }).interfEvent true 2 3
  else if s.lake.pulsed && decide (sum < 320000) then ({ s with lake.pulsed := false }).interfEvent false 2 3
  else s

/-- The samples blanked in a millisecond enter the history; more than 20 % raise BLANK_SAT (R97). -/
def State.countBlanked (carry n pulses : Nat) (s : State) : State :=
  let satMs := if 12800 < n then s.lake.blankSatMs + 1 else 0
  let s := { s with lake.blankMs := (n :: s.lake.blankMs).take 1000, lake.blankCount := s.lake.blankCount + 1, lake.blankSatMs := satMs
                    lake.blankCarry := carry, lake.blankPulses := s.lake.blankPulses + BitVec.ofNat 32 pulses }
  if 12800 < n then (s.lakeEvent 9).report 0x0108 [(4, roundDiv (125 * n) 8), (4, satMs)] else s

/-- BLANK_EVAL (R96, R97, R99): a whole millisecond of the Low band, from its samples at or above the lowest threshold as (sample, |I| + |Q|
in levels). -/
def execBlankEval (hits : List (Nat × Nat)) : State → Host.Outcome State Fault Refusal :=
  done <| State.gnssRuns fun s =>
    let s := s.mark markBlank perMs
    let high := (hits.filter (fun h => s.lake.blankEn && decide (h.1 < 64000 ∧ s.lake.blankThreshold ≤ h.2))).map (·.1)
    let carry := s.lake.blankCarry
    let r := blankGo s.lake.blankPost high (carry, carry, 0)
    let s := (s.countBlanked (r.1 - 64000) (r.2.1 - (r.1 - 64000)) r.2.2).jamEval
    s.when (decide (s.lake.blankCount % 1000 = 0)) State.pulseEval

/-- The value written to LAKE_SPEC_SEL: the band, and with LATCH its last run copied (R98). -/
def State.writeSpecSel (v : Nat) (s : State) : State :=
  let b := bits v 0 2
  let s := { s with lake.specBand := b }
  if bit v 8 then
    { s with lake.spec := (s.band b).spectrum, lake.specSeq := (s.band b).runs % 65536
             lake.specWidth := if b = 1 then 15625 else 31250 }
  else s

/-- SPEC_LATCH (R98). -/
def execSpecLatch (value : Word) : State → Host.Outcome State Fault Refusal := done fun s => s.writeSpecSel value.toNat

/-! ### Aiding (R110) -/

/-- The rate of a channel's code NCO in µchip/s: carrier-aided, with the code loop's correction (R129). -/
def Channel.chipRate (ch : Channel) : Int :=
  let c := carrierOf ch.sig * 500000
  roundDiv (500000000 * (sigRow ch.sig.signal).chips * (c + ch.doppler)) c + ch.codeRate

/-- The span within which a channel's code phase is known, in 2^-32 chip: the primary period until synchronisation. -/
def Channel.span (ch : Channel) : Nat :=
  2 ^ 32 * max 1 ((sigRow ch.sig.signal).chips * (if ch.spanMs = 0 then (sigRow ch.sig.signal).period else ch.spanMs) / 2)

/-- The travel of a channel's code replica over `ns`, in 2^-32 chip. -/
def Channel.travel (ch : Channel) (ns : Nat) : Int := roundDiv (ch.chipRate * ns * 2 ^ 32) (10 ^ 15)

/-- A channel's code phase at the FRC instant `t`. -/
def Channel.phaseAt (ch : Channel) (t : Nat) : Nat := ((ch.codePhase + ch.travel (t - ch.instant)) % (ch.span : Int)).toNat

/-- The NCOs of a channel run on to the FRC instant `t`. -/
def Channel.advanceTo (t : Nat) (ch : Channel) : Channel :=
  { ch with codePhase := ch.phaseAt t, instant := t
            carrPhase := ch.carrPhase + roundDiv (ch.doppler * (t - ch.instant : Nat) * 2 ^ 32) (10 ^ 12) }

/-- The carrier phase that a channel reports, in 2^-32 cycle: with the half cycles due since the last epoch latch (R127, R142). -/
def Channel.reported (ch : Channel) : Int := ch.carrPhase + ch.halfDone * 2 ^ 31

/-- The lower edge of a window centred on a phase, both in 1/16 chip, within the target's primary period. -/
def windowStart (code phase width : Nat) : Nat :=
  let span := 16 * max 1 (periodChips code)
  (phase + span - (width / 2) % span) % span

/-- The aided request at the FRC instant `t` for signal `code` of the satellite that a channel tracks (R110): the code phase is the source's
carried to the target's code through the transmit time that both share, known within the source's primary period until synchronisation and
within 20 ms after that. -/
def State.aidedReq (t : Nat) (ch : Channel) (code : Nat) : SearchReq :=
  let src := sigRow ch.sig.signal
  let dst := sigRow code
  let g : SigId := ⟨dst.system, ch.sig.sv, code, if dst.system = 3 then ch.sig.k else 0⟩
  let known := if ch.spanMs = 0 then src.period else 20
  let p := aidedParams code
  let phase := ch.phaseAt t * dst.chips / (2 ^ 28 * src.chips) % (16 * max 1 (periodChips code))
  { sig := g, kind := 2, priority := 1, target := 0xFFFF, codeStart := windowStart code phase p.width
    codeWidth := p.width, candidates := max 1 (dst.period / known), spacing := known
    doppler := roundDiv (ch.doppler * carrierOf g) (carrierOf ch.sig)
    halfWidth := p.halfWidth, step := 0, tc := p.tc, nnc := p.nnc, tag := 0 }

/-- A channel that reports lock queues an aided request for every other enabled signal of its satellite that is not
tracked, waiting or searching, in ascending code; those refused as FIFO_FULL or JAMMED are kept for the next second. -/
def State.autoAid (c : Nat) (s : State) : State :=
  if !s.lake.autoAid then s
  else
    let ch := s.chan c
    let codes := (List.range 19).filter (fun n => decide (n ≠ ch.sig.signal) && decide ((sigRow n).system = ch.sig.system) && bit s.lake.sigEn n)
    s.each codes (fun n s =>
      let q := State.aidedReq s.ns ch n
      if s.duplicate q.sig then s
      else
        let r := s.submitSearch q
        if r.1 = some 1 ∨ r.1 = some 5 then { r.2 with lake.requeue := r.2.lake.requeue ++ [(q, c)] } else r.2)

/-- AID_REQUEUE (R110): at a whole second, each request refused as FIFO_FULL or JAMMED is queued again while its
source stays locked and its target is not tracked. -/
def execAidRequeue : State → Host.Outcome State Fault Refusal :=
  done fun s =>
    let l := s.lake.requeue
    ({ s with lake.requeue := [] }).each l (fun p s =>
      let ch := s.chan p.2
      let live := (decide (ch.state = ChanState.locked) || decide (ch.state = ChanState.synced)) && sameSat ch.sig p.1.sig
      if !live || s.duplicate p.1.sig then s
      else
        let r := s.submitSearch (State.aidedReq s.ns ch p.1.sig.signal)
        if r.1 = some 1 ∨ r.1 = some 5 then { r.2 with lake.requeue := r.2.lake.requeue ++ [p] } else r.2)

end Sys2Proof.Machine
end

