-- ==== Sys2Proof/Machine/LoopEng.lean ====
section
/-! DEFINITION. The loop engine (R129–R138): the filters, clamps and limits of the 580 loop objects, whole-period and
fixed-phase timing, set-points, lock detectors and the engine's load. -/

namespace Sys2Proof.Machine

/-- An object that has not run. -/
def LoopObj.reset : LoopObj := {}

/-- Object `o`. -/
def State.obj (s : State) (o : Nat) : LoopObj := Tab.get LoopObj.reset s.loop.objects o

/-- Object `o` changed. -/
def State.setObj (o : Nat) (v : LoopObj) (s : State) : State := { s with loop.objects := Tab.set LoopObj.reset s.loop.objects o v }

/-- The kind of an object (Table 5-5). -/
def objKind (o : Nat) : Nat := if o < 576 then o % 2 else match o with | 576 => 3 | 577 => 2 | 578 => 4 | _ => 5

/-- The parameters of a loop kind. -/
structure LoopParams where
  order : Nat
  k : Nat
  fixed : Bool
  bandwidth : Nat
  clamp1 : Nat
  clamp2 : Nat
  offset : Nat
  defaulted : Bool
deriving DecidableEq, Repr

/-- The defaults of Table 5-7; bandwidth in mHz. -/
def loopDefault (kind : Nat) : LoopParams :=
  match kind with
  | 0 => ⟨3, 0, false, 10000, 10000, 1000, 0, true⟩
  | 1 => ⟨2, 10, false, 500, 1000, 0, 0, true⟩
  | 2 => ⟨2, 4, false, 10, 1000, 0, 0, true⟩
  | 3 => ⟨2, 0, false, 50, 5000, 0, 0, true⟩
  | 4 => ⟨2, 0, true, 2000000, 58982, 0, 256, true⟩
  | _ => ⟨2, 50, false, 20000, 6000, 0, 0, true⟩

/-- The parameters of a kind as the image or Table 5-7 sets them (R137); kind 5's clamp 1 is at most the boost
maximum of the UNIT record, which is in units of 100 mV and the clamp in 10 mV. -/
def State.loopParams (s : State) (kind : Nat) : LoopParams :=
  let p := match (s.cfg.image.map (·.loops)).bind (fun l => l.find? (fun r => decide (r.kind = kind))) with
    | some r => ⟨r.order, r.ratio, decide (r.timing = 1), r.bandwidth, r.clamp % 65536, r.clamp / 65536, r.offset, false⟩
    | none => loopDefault kind
  if kind = 5 then
    match s.unitRec with
    | some u => { p with clamp1 := min p.clamp1 (10 * u.boostMax) }
    | none => p
  else p

/-- The period of an object in µs (Table 5-5). -/
def State.objPeriod (s : State) (o : Nat) : Nat :=
  let k := max 1 (s.loopParams (objKind o)).k
  match objKind o with
  | 0 => 1000 * (s.chan (o / 2)).coh
  | 1 => 1000 * k * (s.chan (o / 2)).coh
  | 2 => 1000000 * k
  | 3 => 1000000
  | 4 => 10
  | _ => 10 * k

/-- The effective bandwidth in mHz: the configured one, at most 0.1 / t (R132). -/
def bwEff (bw periodUs : Nat) : Nat := min bw (100000000 / max 1 periodUs)

/-- What the unit of a kind's output is, per second, in its error's unit (Table 5-5). -/
def kindGain (kind : Nat) : Int := match kind with | 0 => 1000 | 1 => 1000000 | _ => 1

/-- The unit of clamp 1 and of clamp 2 in output units (Table 5-7). -/
def clampUnit (kind : Nat) : Int × Int :=
  match kind with | 0 => (1000, 100) | 1 => (1000, 1000) | 2 | 3 => (1000, 10) | 4 => (1, 1000) | _ => (10, 1000)

/-- A value held within ± its clamp (R131). -/
def clampInt (c v : Int) : Int := max (-c) (min v c)

/-- Object values are held in 2^-20 of their unit (log 23). -/
def loopOne : Int := 2 ^ 20

/-- One computation of an object's filter (R130, R131) from the error `e`, both in 2^-20 of their units: the new
integrators and output with the clamp flags. -/
def loopFilter (p : LoopParams) (kind periodUs : Nat) (e extra : Int) (v : LoopObj) : LoopObj :=
  let b : Int := bwEff p.bandwidth periodUs
  let t : Int := periodUs
  let c1 := (clampUnit kind).1 * p.clamp1 * loopOne
  let c2 := (clampUnit kind).2 * p.clamp2 * loopOne
  let f := kindGain kind * e
  -- no update that would drive the output further into its limit
  let hold := v.limited && ((decide (0 < f) && decide (0 < v.output)) || (decide (f < 0) && decide (v.output < 0)))
  let r2 := if p.order = 3 then v.i2 + 8 * f * t * b * b * b / (1000000 * 1569 * 1569 * 1569) else 0
  let n2 := if hold then v.i2 else clampInt c2 r2
  let r1 := if p.order = 3 then v.i1 + t * n2 / 1000000 + 44 * f * t * b * b / (10 * 1000000 * 1569 * 1569) + extra
            else v.i1 + f * t * b * b / (1000000 * 530 * 530) + extra
  let n1 := if hold then v.i1 else clampInt c1 r1
  let raw := if p.order = 3 then n1 + 48 * f * b / (10 * 1569) else n1 + 1414 * f * b / (1000 * 530)
  let u := clampInt c1 raw
  { v with i1 := n1, i2 := n2, error := e, due := some u, bwEff := bwEff p.bandwidth periodUs
           reduced := decide (bwEff p.bandwidth periodUs < p.bandwidth), periods := incr v.periods, ran := true
           clamp1 := decide (n1 = c1 ∨ n1 = -c1), clamp2 := decide (p.order = 3) && decide (n2 = c2 ∨ n2 = -c2)
           limited := decide (u ≠ raw) }

/-- The error limits of a kind's lock detector (Table 5-6), in 2^-20 units: locked within, unlocked beyond, and the
periods each must last. -/
def lockLimits (kind : Nat) (setpoint : Int) : Int × Int × Nat × Nat :=
  match kind with
  | 1 => (loopOne / 20, loopOne * 3 / 20, 10, 10)
  | 2 => (100000 * loopOne, 200000 * loopOne, 10, 3)
  | 3 => (1000 * loopOne, 5000 * loopOne, 10, 3)
  | 4 => (setpoint.natAbs / 50, setpoint.natAbs / 20, 100, 100)
  | _ => (200 * loopOne, 500 * loopOne, 10, 10)

/-- The lock detector of objects that judge their own error (Table 5-6); kind 1 judges the mean of its last ten
periods and the channel's C/N0. -/
def lockEval (kind : Nat) (cn0Lock cn0Loss : Bool) (v : LoopObj) : LoopObj :=
  let l := lockLimits kind v.setpoint
  if kind = 1 then
    let r := (v.error :: v.recent).take 10
    let mean := r.foldl (· + ·) 0 / 10
    let v := { v with recent := r }
    if 10 ≤ r.length then
      if mean.natAbs ≤ l.1.toNat ∧ cn0Lock then { v with lock := true }
      else if l.2.1.toNat < mean.natAbs ∨ cn0Loss then { v with lock := false } else v
    else if cn0Loss then { v with lock := false } else v
  else
    let g := if v.error.natAbs ≤ l.1.toNat then v.good + 1 else 0
    let b := if l.2.1.toNat < v.error.natAbs then v.bad + 1 else 0
    { v with good := g, bad := b, lock := if l.2.2.1 ≤ g then true else if l.2.2.2 ≤ b then false else v.lock }

/-- Engine cycles of one computation (Table 5-8). -/
def loopCost (kind : Nat) : Nat := match kind with | 0 => 80 | 1 => 56 | 2 | 3 => 96 | 4 => 40 | _ => 48

/-- The engine's load grows by one computation: over the second and over the millisecond it falls in. -/
def State.loopLoad (kind : Nat) (s : State) : State :=
  let ms := s.ns / 1000000
  let cm := if ms = s.loop.msMark then s.loop.cyclesMs + loopCost kind else loopCost kind
  { s with loop.cycles := s.loop.cycles + loopCost kind, loop.cyclesMs := cm, loop.msMark := ms
           loop.peak := max s.loop.peak (sat 10 (cm / 512)) }

/-- At a whole second LOOP_STATUS takes the last second's load. -/
def State.loopSecond (s : State) : State :=
  { s with loop.util := sat 10 (s.loop.cycles / 512000), loop.cycles := 0
           loop.active := (s.loop.objects.filter (fun p => p.2.ran)).length
           loop.objects := Tab.mapVals LoopObj.reset (fun _ v => { v with ran := false }) s.loop.objects }

/-- An output reaches what it steers: the carrier NCO, the inner loop's set-point, the rate, the gate duty; the carrier object applies its
code-rate set-point to the code NCO with it (Table 5-5, R135). `fell` says that it is applied under R134. -/
def State.applyOutput (o : Nat) (u : Int) (fell : Bool) (s : State) : State :=
  let s := s.setObj o { s.obj o with output := u, fellBack := fell }
  match objKind o with
  | 0 => if (s.chan (o / 2)).state = .free then s
      else s.setChan (o / 2) { (s.chan (o / 2)).advanceTo s.ns with doppler := u / loopOne, codeRate := (s.obj o).setpoint / loopOne }
  | 1 => s.setObj (o - 1) { s.obj (o - 1) with setpoint := u }
  | 2 => s.setObj 576 { s.obj 576 with setpoint := max (-1000000 * loopOne) (min u (1000000 * loopOne)) }
  | 5 =>
    -- the set-point ramps at no more than 1 V/ms in SOFT_START (R441)
    let was := (s.obj 578).setpoint
    let ramp : Int := s.objPeriod 579 * loopOne
    s.setObj 578 { s.obj 578 with setpoint := if s.lum.boost = .softStart then max (was - ramp) (min u (was + ramp)) else u }
  | _ => s

/-- The object takes part now: its domain runs, its channel is held and not coasting, the servo is not holding it. -/
def State.objRuns (s : State) (o : Nat) : Bool :=
  s.clk.gnss &&
  (if o < 576 then decide ((s.chan (o / 2)).state ≠ .free) && decide ((s.chan (o / 2)).state ≠ .coast)
   else if o < 578 then decide (s.time.servo = .tracking) || decide (s.time.servo = .locked)
   else s.clk.lighting && decide (s.lum.boost = .softStart ∨ s.lum.boost = .run) && (decide (o = 578) || s.lum.regulated))

/-- The error of an object's period (Table 5-5): the stored discriminators for a channel, target minus measured for
the others (log 24), for object 579 the lowest sink voltage of its period (R440); `sample` is the measured input where the block has no register
of it: the frequency in ppt, BST_FB in mV. -/
def State.objError (s : State) (o : Nat) (sample : Int) : Int :=
  match objKind o with
  | 0 => (s.chan (o / 2)).phaseError
  | 1 => let c := s.chan (o / 2); if c.discCount = 0 then 0 else c.discSum / c.discCount
  | 2 => -(s.time.loopOffset * 100) * loopOne
  | 3 => (s.obj o).setpoint - sample * loopOne
  | 4 => (s.obj o).setpoint - sample * loopOne
  | _ => ((s.lum.minSink : Int) - 600) * loopOne

/-- The frequency assist of FLL_TIME: the frequency discriminator, in mHz, enters the carrier's first
integrator with a second-order response of 20 Hz (R124, log 24). -/
def State.fllAssist (s : State) (o : Nat) : Int :=
  if objKind o = 0 ∧ (s.chan (o / 2)).fll then (s.chan (o / 2)).freqError * loopOne * s.objPeriod o * 1414 * 20000 / (1000000 * 530000) else 0

/-- An object at a clamp or at its output limit shows CLAMPED (R131). -/
def LoopObj.clamped (v : LoopObj) : Bool := v.clamp1 || v.clamp2 || v.limited

/-- An object of no channel that enters CLAMPED, or loses lock, is recorded (R131, R136): the integrator that stands at its clamp, or 0 for
the output at its limit, with its value. -/
def State.objEvents (o : Nat) (before after : LoopObj) (s : State) : State :=
  let s := if !before.clamped && after.clamped then
      let s := { s with loop.clamp := incr s.loop.clamp }
      let e : Nat × Int := if after.clamp1 then (1, after.i1) else if after.clamp2 then (2, after.i2) else (0, after.due.getD 0)
      if 576 ≤ o then
        ({ s with loop.events := s.loop.events ||| 4#32 }).report 0x0303 [(2, o), (1, e.1), (4, e.2 / loopOne)]
      else s
    else s
  if before.lock && !after.lock && decide (576 ≤ o) then
    ({ s with loop.events := s.loop.events ||| 8#32 }).report 0x0304 [(2, o), (4, after.error / loopOne)]
  else s

/-! ### The lanes (R138); instants in 1/32 ns, an engine cycle of 256 MHz is 125 of them -/

/-- This instant in 1/32 ns. -/
def State.ns32 (s : State) : Nat := 32 * s.ns

/-- Whole-period computations start in the order of their application boundary, and in ascending object number among equals. -/
def jobBefore (a b : Nat × Nat × Nat) : Bool := decide (a.1 < b.1) || (decide (a.1 = b.1) && decide (a.2.1 < b.2.1))

/-- The computation of object `o` starts at `t` on a lane and runs to its end. -/
def State.startJob (o t cost : Nat) (lane1 : Bool) (s : State) : State :=
  let s := if lane1 then { s with loop.lane1 := t + cost } else { s with loop.lane0 := t + cost }
  s.setObj o { s.obj o with finish := some (t + cost) }

/-- The lanes take waiting computations up to the instant `t`, at most `n` of them. -/
def State.runJobs : Nat → Nat → State → State
  | 0, _, s => s
  | n + 1, t, s =>
    match leastBy jobBefore s.loop.jobs with
    | none => s
    | some j =>
      let lane1 := decide (s.loop.lane1 < s.loop.lane0)
      let at_ := max (32 * (s.obj j.2.1).boundary) (if lane1 then s.loop.lane1 else s.loop.lane0)
      if t ≤ at_ then s
      else State.runJobs n t (({ s with loop.jobs := s.loop.jobs.erase j }).startJob j.2.1 at_ j.2.2 lane1)

/-- The engine has run on to this instant. -/
def State.engineNow (s : State) : State := State.runJobs s.loop.jobs.length s.ns32 s

/-- An injected delay of the object's next computation, in engine cycles (Table 17-6). -/
def State.loopInjected (o : Nat) (s : State) : Nat := match s.diag.loopDelay with | some (t, a) => if t = o then a else 0 | none => 0

/-- The object's computation is handed to the engine at its boundary: in fixed-phase timing to lane 0 ahead of every queued one, otherwise
to the queue of both lanes (R138). An injected delay makes it longer. -/
def State.schedule (o : Nat) (s : State) : State :=
  let k := objKind o
  let cost := 125 * (loopCost k + s.loopInjected o)
  let s := if s.loopInjected o = 0 then s else { s with diag.loopDelay := none }
  let s := s.setObj o { s.obj o with boundary := s.ns, finish := none }
  if (s.loopParams k).fixed then s.startJob o (max s.ns32 s.loop.lane0) cost false
  else { s with loop.jobs := s.loop.jobs ++ [(s.ns32 + 32000 * s.objPeriod o, o, cost)] }

/-- The computation in hand of an object has finished. -/
def State.finished (o : Nat) (s : State) : Bool := (s.obj o).finish.elim false (fun t => decide (t ≤ s.ns32))

/-- The outer object of an inner one, and the other way round (Table 5-5). -/
def outerOf (o : Nat) : Option Nat := if o < 576 then (if o % 2 = 0 then some (o + 1) else none) else match o with | 576 => some 577 | 578 => some 579 | _ => none

/-- The object's computation of one period from its input (R130–R132, R136); an inner one counts for its outer one. -/
def State.compute (o : Nat) (sample : Int) (s : State) : State :=
  let k := objKind o
  let v := s.obj o
  let n := loopFilter (s.loopParams k) k (s.objPeriod o) (s.objError o sample) (s.fllAssist o) v
  let c := s.chan (o / 2)
  let n := if k = 0 then n
    else lockEval k (decide (5 * s.trk.lockCn0 ≤ c.cn0)) (decide (o < 576) && decide (c.cn0 < 5 * s.trk.lossCn0)) n
  let s := s.setObj o (if (outerOf o).isNone then { n with inner := 0 } else n)
  let s := match outerOf o with
    | some p => s.setObj p { s.obj p with inner := (s.obj p).inner + 1 }
    | none => s
  let s := if o < 576 then s.setChan (o / 2) (if o % 2 = 1 then { c with discSum := 0, discCount := 0 } else { c with fresh := false }) else s
  ((s.schedule o).loopLoad k).objEvents o v n

/-- A late output is applied at the boundary that follows, whatever becomes of the next one (R134). -/
def State.applyLate (o : Nat) (s : State) : State :=
  match (s.obj o).lateDue with
  | some w => let s := s.applyOutput o w true; s.setObj o { s.obj o with lateDue := none }
  | none => s

/-- At a boundary an output whose computation has finished is applied; a late one is kept for the following boundary, and the previous
output stays in force (R133, R134). Where a late output and the next one fall due together the late one is applied first and the newer stays
in force (DESIGN CHOICE, log 167). `fell` says that a fixed-phase output has fallen back to this boundary. -/
def State.applyDue (o : Nat) (fell : Bool) (s : State) : State :=
  let on := s.finished o
  let s := s.applyLate o
  let v := s.obj o
  match v.due with
  | none => s
  | some u =>
    if on then let s := s.applyOutput o u fell; s.setObj o { s.obj o with due := none }
    else
      ({ s.setObj o { v with due := none, lateDue := some u } with
          loop.overrun := incr s.loop.overrun, loop.events := s.loop.events ||| 2#32, loop.jobs := s.loop.jobs.filter (fun j => decide (j.2.1 ≠ o)) }).report
        0x0302 [(2, o), (4, v.periods.toNat)]

/-- The input of the object's period is there (R129): a coherent interval has ended for a carrier object; the inner object has run k periods
for an outer one. -/
def State.inputReady (o : Nat) (s : State) : Bool :=
  if (outerOf o).isNone then decide (max 1 (s.loopParams (objKind o)).k ≤ (s.obj o).inner)
  else decide (576 ≤ o) || (s.chan (o / 2)).fresh

/-- The boundary of an object (Table 5-5): the epochs of its channel, whole seconds of device time, or 10 µs of the lighting domain. -/
def State.objBoundary (o : Nat) (s : State) : State :=
  if o < 576 then s
  else if o < 578 then s.mark (markLoop (o - 576)) perSec
  else if (s.obj o).periods = 0#32 then s else s.atLeast ((s.obj o).boundary + 1000 * s.objPeriod o)

/-- LOOP_PERIOD_BOUNDARY (R133, R134, R135): the output computed from the period before is applied, then the output
of the period just ended is computed. -/
def execLoopPeriodBoundary (object : Fin 580) (sample : Int) : State → Host.Outcome State Fault Refusal :=
  done fun s =>
    let o := object.val
    if s.objRuns o && s.inputReady o then
      let s := (s.objBoundary o).engineNow
      (s.applyDue o (s.loopParams (objKind o)).fixed).compute o sample
    else s

/-- FIXED_PHASE_APPLY (R133, R134): the output is applied at its fixed phase, so many engine cycles after its boundary; unfinished, it falls
back to whole-period timing for this period. -/
def execFixedPhaseApply (object : Fin 580) : State → Host.Outcome State Fault Refusal :=
  done fun s =>
    let o := object.val
    let p := s.loopParams (objKind o)
    match (s.obj o).due with
    | some u =>
      if s.objRuns o && p.fixed then
        let s := s.atLeast ((s.obj o).boundary + ceilDiv (125 * p.offset) 32)
        if s.finished o then let s := s.applyOutput o u false; s.setObj o { s.obj o with due := none }
        else
          ({ s with loop.fallback := incr s.loop.fallback, loop.events := s.loop.events ||| 1#32 }).report 0x0301
            [(2, o), (4, ceilDiv ((s.obj o).finish.getD 0 - 32 * (s.obj o).boundary) 125)]
      else s
    | none => s

/-- Either object of a channel has its bandwidth reduced (R132). -/
def State.bwLimited (c : Nat) (s : State) : Bool := (s.obj (2 * c)).reduced || (s.obj (2 * c + 1)).reduced

end Sys2Proof.Machine
end

