-- ==== Sys2Proof/Machine/Time.lean ====
section
/-! DEFINITION. Device time (R178–R198): the anchor and rate, the sources and the servo, the initial set, the host
step, PPS outputs, edge capture, the PTP ports, and the standby's time alignment. -/

namespace Sys2Proof.Machine

/-- A TIME event latched. -/
def State.timeEvent (n : Nat) (s : State) : State := { s with treg.events := s.treg.events ||| BitVec.ofNat 32 (2 ^ n) }

/-- A device time as a record carries a time without a unit: µs in 4 octets, saturating (R450). -/
def usItem (t : Nat) : Nat × Int := (4, (sat 32 (t / perUs) : Nat))

/-- A signed value in 4 octets, saturating. -/
def sItem (v : Int) : Nat × Int := (4, ssat 32 v)

/-- The jump threshold in 0.1 ns; its default without an image (Table 3-8). -/
def State.jumpThreshold (s : State) : Nat := 10 * (s.station.map (·.jumpThreshold)).getD 1000

/-- The error bound in 0.1 ns in HOLDOVER (R185). -/
def State.holdBound (s : State) : Nat := s.time.e0 + 10 * (s.station.map (·.stability)).getD 0 * s.time.holdS

/-- TIME_ERR_BOUND (R185, Table 7-7). -/
def State.timeBound (s : State) : Nat :=
  match s.time.servo with
  | .provisional => 0xFFFFFFFF
  | .holdover => sat 32 (s.holdBound / 10)
  | _ => sat 32 (s.time.lastOffset.natAbs / 10)

/-- ALIGNED (R186), renewed. -/
def State.refreshAligned (s : State) : State :=
  { s with time.aligned := match s.time.servo with
      | .tracking | .locked => decide (s.time.lastOffset.natAbs ≤ 1000)
      | .holdover => decide (s.holdBound ≤ 1000)
      | .provisional | .slew => false }

/-- The uncertainty u of a source in 0.1 ns (R185). -/
def sourceU (source : Nat) : Nat := match source with | 1 => 200 | 4 => 50 | _ => 500

/-- The rate of object 576's output in 2^-52 (R179). -/
def rhoOf (ppt : Int) : Int := ppt * 2 ^ 52 / 10 ^ 12

/-- Object 576's output in ppt. -/
def State.servoF (s : State) : Int := (s.obj 576).output / loopOne

/-- A move of device time by `amount`, in 2^-16 ns, at this instant (R187): the anchor, the boundaries, captured
edges, the base ring and the count of steps; an offset history or SLEW ends, and the correction age does not jump. -/
def State.moveTime (amount : Int) (uncertainty : Nat) (s : State) : State :=
  let t := ((s.now : Int) + amount).toNat
  let s := { s with time.tAnchor := t, time.fAnchor := s.time.frc, time.stepped := true, time.history := []
                    treg.steps := incr s.treg.steps, meas.ring := [], meas.stepped := some s.ns, meas.prevClock := none, meas.prevDrift := none
                    meas.lastValid := s.meas.lastValid.map (fun v => ((v : Int) + amount).toNat)
                    meas.lastValidDue := s.meas.lastValidDue.map (fun (v : Nat × Nat) => (((v.1 : Int) + amount).toNat, ((v.2 : Int) + amount).toNat))
                    meas.airFrom := ((s.meas.airFrom : Int) + amount).toNat
                    time.evt := s.time.evt.map (fun (i : CaptureIn) => { i with fifo := i.fifo.map (fun (e : EdgeEntry) => { e with step := true }) }) }
  let s := s.rearm amount
  match s.time.servo with
  | .slew => { s with time.servo := .tracking }
  | .holdover => { s with time.e0 := 10 * uncertainty, time.holdS := 0 }
  | _ => s

/-- The slew term of the unit's own servo for the next whole second, in ppt (R184). -/
def State.nextSlew (s : State) : Int :=
  if s.time.servo = .slew then -(max (-1000000) (min (100 * s.time.lastOffset + s.time.slewTerm) 1000000)) else 0

/-- The rate and anchor at a whole second (R179, R184, R185): a standby adds the lead's slew term to its own, which removes the residual
(R193). -/
def State.renewAnchor (s : State) : State :=
  let own := s.nextSlew
  let sigma := own + (if s.sys.mode = Mode.shadow && !s.pair.viaDown then s.time.viaSigma else 0)
  let s := { s with time.slewTerm := own }
  let rho := match s.time.servo with
    | .provisional => 0
    | .holdover => s.time.frozenRho
    | _ => rhoOf (s.servoF + sigma)
  { s with time.sigma := sigma, time.tAnchor := s.now, time.fAnchor := s.time.frc, time.rho := rho }

/-- GNSS is usable in this second: at least 4 satellites keep a signal and no station check fails (Table 7-1). -/
def State.gnssUsable (s : State) : Bool := decide (4 ≤ s.meas.sats) && decide (s.meas.failing = 0)

/-- The bands of the last epoch's signals that are not excluded, as a mask. -/
def State.bandsUsed (s : State) : Nat :=
  (List.range 3).foldl (fun m b => m + 2 ^ b * flag (s.meas.last.any (fun o => decide (o.cause = 0 ∧ (sigRow o.sig.signal).band = b)))) 0

/-- The unit's own GNSS offset (Table 7-1): the clock bias less the antenna cable delay, which the UNIT record gives in ps, and the factory
group delay of the bands used (log 191). -/
def State.gnssOffset (o : SecondOffsets) (s : State) : Option Int :=
  if s.gnssUsable then
    o.gnss.map (fun b => b - ((s.unitRec.map (fun u => u.cableDelay / 100)).getD 0 : Nat) - Config.groupDelay s.keys.fuse.calibration s.bandsUsed)
  else none

/-- The NET record of a MAC. -/
def State.netRec (mac : Nat) (s : State) : Option NetRec := (s.cfg.image.map (·.nets)).bind (fun l => l.find? (fun n => decide (n.mac = mac)))

/-- The PTP role of a MAC: 0 unless bit 3 of its NET record is set (R190). -/
def State.ptpRole (mac : Nat) (s : State) : Nat :=
  match s.netRec mac with
  | some n => if bit n.flags 3 then n.ptpRole else 0
  | none => 0

/-- PTP port `m`. -/
def State.port (m : Nat) (s : State) : PtpPort := (s.time.ptp[m]?).getD {}

/-- Port `m` changed. -/
def State.setPort (m : Nat) (v : PtpPort) (s : State) : State := { s with time.ptp := updAt s.time.ptp m (fun _ => v) }

/-- The mean offset of a PTP port's second, when usable (Table 7-1), in 0.1 ns. -/
def State.ptpOffset (m : Nat) (s : State) : Option Int :=
  let p := s.port m
  if s.ptpRole m = 2 ∧ p.state = .slave ∧ (p.master.clockClass = 6 ∨ p.master.clockClass = 7) ∧ p.offsets ≠ [] then
    some (p.offsets.foldl (· + ·) 0 * 10 / (65536 * (p.offsets.length : Int)))
  else none

/-- The Viaduct's offset, when usable (Table 7-1): the mean of the second's two-way exchanges, at least 1,000 of which are complete. -/
def State.viaductOffset (s : State) : Option Int :=
  if 1000 ≤ s.time.viaCount then some (nearest (s.time.viaSum * 10) (65536 * s.time.viaCount)) else none

/-- The usable offset of the second with its source as TIME_QUALITY numbers it (R181, Table 7-1, R195): a unit in SHADOW takes the Viaduct's
and no other, or GNSS minus its frozen bias. -/
def State.usable (o : SecondOffsets) (s : State) : Option (Nat × Int) :=
  let shadow := decide (s.sys.mode = Mode.shadow)
  if shadow && !s.time.biasFrozen then s.viaductOffset.map (fun v => (4, v))
  else
    match (if s.time.ctlGnss then s.gnssOffset o else none) with
    | some v => some (1, v - (if s.time.biasFrozen then s.time.bias else 0))
    | none =>
      if s.time.ctlPtp && !shadow then
        match s.ptpOffset 0, s.ptpOffset 1 with
        | some v, _ => some (2, v)
        | none, some v => some (3, v)
        | none, none => none
      else none

/-- The source changes: recorded (Table 7-6). -/
def State.setSource (n : Nat) (s : State) : State :=
  if s.time.source = n then s else ({ s with time.source := n }).report 0x0508 [(1, s.time.source), (1, n)]

/-- All offsets agree within `d`. -/
def agree (d : Nat) (l : List Int) : Bool := l.all (fun a => l.all (fun b => decide ((a - b).natAbs ≤ d)))

/-- The history of consecutive offsets beyond the threshold with `v` added: those of one sign (R182). -/
def jumpHistory (v : Int) (h : List Int) : List Int := if h.all (fun a => decide (0 < a) == decide (0 < v)) then (v :: h).take 3 else [v]

/-- TRACKING and LOCKED by the locks of objects 576 and 577 (Table 7-2). -/
def State.servoLock (s : State) : State :=
  let both := (s.obj 576).lock && (s.obj 577).lock
  match s.time.servo, both with
  | .tracking, true => ({ s with time.servo := .locked }).report 0x050F [(1, 0), sItem s.time.lastOffset, sItem s.servoF]
  | .locked, false => ({ s with time.servo := .tracking }).report 0x050F [(1, 1), sItem s.time.lastOffset, sItem s.servoF]
  | _, _ => s

/-- Three consecutive offsets beyond the threshold that agree take the servo to SLEW (Table 7-2). -/
def State.servoJump (source : Nat) (o : Int) (discard : Bool) (s : State) : State :=
  let h := jumpHistory o s.time.history
  if 3 ≤ h.length && agree s.jumpThreshold h then
    (({ s with time.servo := .slew, time.history := [], time.slewSeconds := 0 }).timeEvent 1).report 0x0502 [(1, source), sItem o]
  else { s with time.history := h, treg.discarded := if discard then incr s.treg.discarded else s.treg.discarded }

/-- The conditions of the initial set (R183): the first that holds orders it for the next whole second. -/
def State.initialCondition (weekKnown : Bool) (source : Nat) (o : Int) (s : State) : State :=
  let g := if source = 1 then (o :: s.time.gnssRun).take 3 else []
  let v := if source = 4 then s.time.viaRun + 1 else 0
  let s := { s with time.gnssRun := g, time.viaRun := v }
  if s.time.initDue ≠ none then s
  else if 3 ≤ g.length && agree 1000 g && weekKnown then { s with time.initDue := some (1, o) }
  else if 10 ≤ v then { s with time.initDue := some (4, o) }
  else s

/-- The servo takes a usable offset (R182). -/
def State.servoOffset (weekKnown : Bool) (source : Nat) (o : Int) (s : State) : State :=
  let s := s.setSource source
  let s := { s with time.lastOffset := o, time.noOffset := 0, time.rhoAtUsable := rhoOf s.servoF }
  match s.time.servo with
  | .provisional => s.initialCondition weekKnown source o
  | .tracking | .locked =>
    if o.natAbs ≤ s.jumpThreshold then ({ s with time.history := [], time.loopOffset := o }).servoLock
    else (s.servoJump source o true).servoLock
  | .slew =>
    let s := { s with time.slewSeconds := s.time.slewSeconds + 1, treg.slewS := incr s.treg.slewS }
    if o.natAbs ≤ 1000 then
      ({ s with time.servo := .tracking, time.history := [], time.loopOffset := o }).report 0x0503
        [(4, s.time.slewSeconds), sItem o]
    else s
  | .holdover =>
    let s := { s with treg.holdSCount := incr s.treg.holdSCount }
    if o.natAbs ≤ s.jumpThreshold then
      ({ s with time.servo := .tracking, time.history := [], time.loopOffset := o, time.holdS := 0 }).report 0x0505
        [(4, s.time.holdS), (4, sat 32 (s.holdBound / 10)), sItem o]
    else ({ s with time.e0 := o.natAbs + sourceU source, time.holdS := 0 }).servoJump source o false

/-- A whole second without a usable offset (R182, R185). -/
def State.servoMissing (s : State) : State :=
  let s := { s with time.noOffset := s.time.noOffset + 1, time.history := [], time.gnssRun := [], time.viaRun := 0 }
  match s.time.servo with
  | .holdover => { s with time.holdS := sat 24 (s.time.holdS + 1), treg.holdSCount := incr s.treg.holdSCount }
  | .provisional => s
  | _ =>
    let s := if s.time.servo = Servo.slew then
        { s with time.slewSeconds := s.time.slewSeconds + 1, treg.slewS := incr s.treg.slewS } else s
    if 3 ≤ s.time.noOffset then
      (({ s with time.servo := .holdover, time.frozenRho := s.time.rhoAtUsable, time.holdS := s.time.noOffset
                 time.e0 := s.time.lastOffset.natAbs + sourceU s.time.source }).timeEvent 2).report 0x0504
        [sItem s.time.lastOffset, sItem (s.time.rhoAtUsable * 10 ^ 12 / 2 ^ 52)]
    else s.servoLock

/-- The initial set, when ordered (R183): one move, TRACKING, TIME_SET. -/
def State.initialSet (s : State) : State :=
  match s.time.initDue with
  | some (src, o) =>
    let before := s.now
    let s := s.moveTime (-(o * 65536 / 10)) 0
    let s := { s with time.initDue := none, time.servo := .tracking, time.lastOffset := 0, time.loopOffset := 0
                      time.gnssRun := [], time.viaRun := 0 }
    ((s.timeEvent 0).report 0x0501 [(1, src), usItem before, usItem s.now]).closeGap
  | none => s

/-- The standby's time alignment and takeover bias (R194, R195). -/
def State.pairTime (o : SecondOffsets) (s : State) : State :=
  if s.sys.mode ≠ Mode.shadow then s
  else
    let s := if s.time.biasFrozen then s else
      let old := s.time.biasRun.filter (fun e => decide (secOf s.now < e.1 + 60))
      match s.gnssOffset o with
      | some v =>
        let r := (secOf s.now, v) :: old
        let b := nearest (r.foldl (fun a e => a + e.2) 0) r.length
        { s with time.biasRun := r, time.bias := b, time.gnssOwn := v - b }
      | none => { s with time.biasRun := old }
    let s := if s.pair.viaDown then { s with time.biasFrozen := true } else s
    match s.viaductOffset with
    | none => { s with time.pairGood := 0 }
    | some v =>
      let good := decide (v.natAbs ≤ 100)
      let g := if good then s.time.pairGood + 1 else 0
      let b := if good then 0 else s.time.pairBad + 1
      let s := { s with time.viaOffset := v, time.pairGood := g, time.pairBad := b }
      if !s.time.pairAligned && decide (10 ≤ g) then ({ s with time.pairAligned := true }).report 0x050D [sItem v]
      else if s.time.pairAligned && decide (3 ≤ b) then (({ s with time.pairAligned := false }).timeEvent 6).report 0x050E [sItem v]
      else s

/-! ### IEEE 1588 -/

/-- clockClass of a master port (Table 7-4). -/
def State.clockClass (s : State) : Nat :=
  match s.time.servo with
  | .tracking | .locked =>
    if !s.time.aligned then 248
    else if s.time.source = 1 then 6
    else if s.time.source = 2 then (s.port 0).master.clockClass
    else if s.time.source = 3 then (s.port 1).master.clockClass
    else 248
  | .holdover => if s.holdBound ≤ 10000 then 7 else 52
  | .provisional | .slew => 248

/-- clockAccuracy (Table 7-4). -/
def State.clockAccuracy (s : State) : Nat :=
  let b := s.timeBound
  if b ≤ 100 then 0x21 else if b ≤ 250 then 0x22 else if b ≤ 1000 then 0x23 else if b ≤ 2500 then 0x24
  else if b ≤ 10000 then 0x25 else if b ≤ 25000 then 0x26 else if b ≤ 100000 then 0x27 else if b ≤ 1000000 then 0x29
  else if b ≤ 10000000 then 0x2B else if b ≤ 1000000000 then 0x2F else 0xFE

/-- timeSource (Table 7-4, log 189). -/
def State.timeSource (s : State) : Nat :=
  match s.time.servo, s.time.source with
  | .holdover, _ | .provisional, _ => 0xA0
  | _, 1 => 0x20
  | _, 2 | _, 3 => 0x40
  | _, n => Config.timeSource n % 256

/-- The clock identity of a MAC's port: the EUI-64 of its MAC address (PRESUMED, log 190). -/
def State.clockIdentity (m : Nat) (s : State) : Nat :=
  let a := (s.netRec m).elim [] (·.macAddress)
  ofBe (a.take 3 ++ [0xFF#8, 0xFE#8] ++ (a.drop 3).take 3)

/-- The data set of the unit's own clock (Table 7-4). -/
def State.ownRank (m : Nat) (s : State) : PtpRank :=
  { priority1 := 128, clockClass := s.clockClass, accuracy := s.clockAccuracy, variance := Config.ptpVariance % 65536, priority2 := 128
    identity := s.clockIdentity m, steps := 0, sender := s.clockIdentity m }

/-- A PTP message leaves with the port's identity before its own fields. -/
def State.ptpSend (m kind : Nat) (octets : List Octet) (s : State) : State := s.send (.ptp m kind (beBytes 8 (s.clockIdentity m) ++ octets))

/-- A port's state changes: recorded with its master (Table 7-6). -/
def State.portState (m : Nat) (st : PtpState) (s : State) : State :=
  let p := s.port m
  if p.state = st then s
  else
    let n : Nat := match st with | .disabled => 0 | .listening => 1 | .master => 2 | .uncalibrated => 3 | .slave => 4 | .passive => 5
    (s.setPort m { p with state := st }).report 0x050C [(1, m), (1, n), (4, (p.masterId : Int))]

/-- The unit's master ports may send: it is in service and not in SHADOW (R192). -/
def State.mayMaster (s : State) : Bool := s.inService && decide (s.sys.mode ≠ .shadow)

/-- A port at a whole second (R190, R192): it starts or stops with the unit's mode, forgets the second's offsets, and
announces every 2 s as master with the fields of Table 7-4 (log 30). -/
def State.portSecond (m : Nat) (s : State) : State :=
  let s := s.setPort m { s.port m with offsets := [] }
  match s.ptpRole m, s.inService with
  | 0, _ => s.portState m .disabled
  | _, false => s.portState m .disabled
  | 1, true =>
    if !s.mayMaster then s.portState m .listening
    else
      let s := if (s.port m).state = .passive then s else s.portState m .master
      let r := s.ownRank m
      if (s.port m).state = .master ∧ secOf s.now % 2 = 0 then
        s.ptpSend m 0xB (beBytes 2 (s.time.leap + 19) ++ beBytes 1 (flag s.time.leapFromNav) ++ beBytes 1 r.priority1 ++ beBytes 1 r.clockClass ++
          beBytes 1 r.accuracy ++ beBytes 2 r.variance ++ beBytes 1 r.priority2 ++ beBytes 8 r.identity ++ beBytes 2 r.steps ++ beBytes 1 s.timeSource)
      else s
  | _, true => if (s.port m).state = .disabled then s.portState m .listening else s

/-- The leap-second count that navigation data supplies takes the place of the image's (R11). -/
def State.takeLeap (o : SecondOffsets) (s : State) : State :=
  o.leap.elim s (fun n => { s with time.leap := n, time.leapFromNav := true })

/-- ANCHOR_UPDATE (R11, R179, R181–R186, R194, R195): the whole second. -/
def execAnchorUpdate (offsets : SecondOffsets) : State → Host.Outcome State Fault Refusal :=
  done fun s =>
    if !s.time.running then s
    else
      let s := (s.mark markSecond perSec).takeLeap offsets
      let clean := s.clean
      let s := { s with time.pps := s.time.ppsNext }
      let s := s.renewAnchor.initialSet
      let s := s.loopSecond
      let s := match s.usable offsets with
        | some (src, o) => s.servoOffset offsets.weekKnown src o
        | none => s.servoMissing
      let s := { s.refreshAligned.pairTime offsets with time.viaSum := 0, time.viaCount := 0 }
      let s := s.when (!(clean && s.clean)) State.breakHealth
      ((s.portSecond 0).portSecond 1)

/-- STEP_APPLY (R187, R196): the pending step at its whole second w. -/
def execStepApply : State → Host.Outcome State Fault Refusal :=
  done fun s =>
    match s.time.step with
    | none => s
    | some st =>
      let s := s.reach (perSec * st.w)
      let s := { s with time.step := none }
      if s.sys.mode = Mode.hold ∨ s.sys.mode = Mode.shadow then
        let before := s.now
        let s := s.moveTime (perNs * st.amount) st.uncertainty
        let s := (s.refreshAligned.timeEvent 3).report 0x0506 [sItem st.amount, usItem before, usItem s.now]
        s.setSource 5
      else s.report 0x0507 [sItem st.amount, (1, s.sys.mode.code)]

/-- The period of a PPS output (TIME_PPSn_CFG). -/
def ppsPeriod (p : Pps) : Nat := match p.period with | 0 => perSec | 1 => 100 * perMs | _ => 10 * perMs

/-- The level of a PPS output's ball (R188): active from an edge for the width set, inactive otherwise and while the output is off or held. -/
def State.ppsLevel (n : Nat) (s : State) : Bool :=
  let p := (s.time.pps[n]?).getD {}
  let held := decide (p.mode = 0) || (decide (p.mode = 1) && decide (s.time.servo = .provisional)) || !s.time.running
  let edge := Tab.get 0 s.time.marks (markPps n)
  let active := !held && decide (edge ≠ 0) && decide (s.now < edge - 1 + p.width * perUs) && decide (edge - 1 ≤ s.now)
  active == decide (p.polarity = 0)

/-- PPS_EDGE (R188): the output's next edge, at a multiple of its period plus its offset of 0.25 ns steps; the pulse lasts the width set. -/
def execPpsEdge (output : Fin 2) : State → Host.Outcome State Fault Refusal :=
  done fun s =>
    let p := (s.time.pps[output.val]?).getD {}
    if !s.time.running || decide (p.mode = 0) || (decide (p.mode = 1) && decide (s.time.servo = .provisional)) then s
    else
      let s := s.markOfs (markPps output.val) (ppsPeriod p) (p.offset * 16384)
      let t := Tab.get 0 s.time.marks (markPps output.val) - 1
      s.send (.pulse output.val t (t + p.width * perUs) (decide (p.polarity = 0)))

/-- Device time `q` quarters of a nanosecond after the FRC's count, under the anchor in force (R179, R189). -/
def State.nowQuarter (q : Nat) (s : State) : Nat :=
  s.time.tAnchor + (((4 * (s.time.frc - s.time.fAnchor).toNat + q : Nat) : Int) * (2 ^ 52 + s.time.rho) / 2 ^ 38).toNat

/-- EVT_CAPTURE (R189): an edge `quarter` steps of 250 ps after the FRC's count. -/
def execEvtCapture (input : Fin 8) (rising : Bool) (quarter : Fin 4) : State → Host.Outcome State Fault Refusal :=
  done fun s =>
    let n := input.val
    let i := (s.time.evt[n]?).getD {}
    let set := fun (v : CaptureIn) (s : State) => { s with time.evt := updAt s.time.evt n (fun _ => v) }
    let sel := bits s.time.evtEdge (2 * n) 2
    if !s.time.running || !bit sel (if rising then 0 else 1) then s
    else if (i.last.map (fun l => decide (4 * s.ns + quarter.val < l + 160))).getD false then set { i with missed := sat 8 (i.missed + 1) } s
    else if 8 ≤ i.fifo.length then
      let s' := set { i with last := some (4 * s.ns + quarter.val), overflow := sat 8 (i.overflow + 1), dropRun := true } s
      if i.dropRun then s' else (s'.timeEvent 5).report 0x050B [(1, n)]
    else set { i with last := some (4 * s.ns + quarter.val), dropRun := false
                      fifo := i.fifo ++ [{ time := s.nowQuarter quarter.val, rising := rising, aligned := s.time.aligned, step := false }] } s

/-- A write of TIME_EVT_POP: the head entry of each input named leaves (R189). -/
def State.popEvt (v : Nat) (s : State) : State :=
  { s with time.evt := (enum s.time.evt).map (fun p => if bit v p.1 then { p.2 with fifo := p.2.fifo.drop 1 } else p.2) }

/-- EVT_POP (R189). -/
def execEvtPop (value : Word) : State → Host.Outcome State Fault Refusal := done fun s => s.popEvt value.toNat

/-- Lists of numbers in lexical order. -/
def lexBefore : List Nat → List Nat → Bool
  | a :: as, b :: bs => decide (a < b) || (decide (a = b) && lexBefore as bs)
  | _, _ => false

/-- A better master by the default algorithm (R190, PRESUMED, log 31): two grandmasters by priority1, class, accuracy, variance, priority2 and
identity, one grandmaster by the steps removed and the sender, lowest first. -/
def betterMaster (a b : PtpRank) : Bool :=
  if a.identity = b.identity then lexBefore [a.steps, a.sender] [b.steps, b.sender]
  else lexBefore [a.priority1, a.clockClass, a.accuracy, a.variance, a.priority2, a.identity]
    [b.priority1, b.clockClass, b.accuracy, b.variance, b.priority2, b.identity]

/-- A stamp at the MAC's resolution of 1 ns (R191). -/
def stamp1ns (t : Nat) : Nat := t / perNs * perNs

/-- The PHY delays of a MAC, 0.1 ns, in 2^-16 ns: transmit, receive (R191). -/
def State.phyDelay (mac : Nat) (s : State) : Nat × Nat :=
  match s.netRec mac with
  | some n => (n.txDelay * 65536 / 10, n.rxDelay * 65536 / 10)
  | none => (0, 0)

/-- The oldest queued stamp of a kind and sequence, taken by firmware (R191, R196). -/
def State.takeStamp (m kind sequence : Nat) (s : State) : Option Nat × State :=
  let p := s.port m
  match p.queue.find? (fun e => decide (e.kind = kind ∧ e.sequence = sequence)) with
  | some e => (some e.time, s.setPort m { p with queue := p.queue.erase e })
  | none => (none, s)

/-- A slave port's use of a message from its master or about one (R190). -/
def State.slaveRx (m : Nat) (g : PtpMsg) (s : State) : State :=
  let p := s.port m
  let t2 := stamp1ns g.received - (s.phyDelay m).2
  let mine := decide (g.sender = p.masterId) && (decide (p.state = .uncalibrated) || decide (p.state = .slave))
  match g.kind with
  | 0xB =>
    let new := decide (p.state = .listening) || betterMaster g.rank p.master
    if new && !mine then
      (s.setPort m { p with masterId := g.sender, master := g.rank, syncT1 := none, syncT2 := none, reqT3 := none }).portState m .uncalibrated
    else if mine then s.setPort m { p with master := g.rank }
    else s
  | 0x0 =>
    if !mine then s
    else s.setPort m { p with syncT2 := some t2, syncT1 := if g.oneStep then some g.time else none, syncSeq := g.sequence }
  | 0x8 => if mine && decide (g.sequence = p.syncSeq) then s.setPort m { p with syncT1 := some g.time } else s
  | 0x9 =>
    if mine && decide (g.sequence = p.reqSeq) then
      let r := s.takeStamp m 1 g.sequence
      let p := r.2.port m
      match r.1, p.syncT1, p.syncT2 with
      | some t3, some t1, some t2 =>
        (r.2.setPort m { p with offsets := p.offsets ++ [(((t2 : Int) - t1) - ((g.time : Int) - t3)) / 2] }).portState m .slave
      | _, _, _ => r.2
    else s
  | _ => s

/-- A master port's use of a message: a request is answered, a better master makes it passive (R190, R192). -/
def State.masterRx (m : Nat) (g : PtpMsg) (s : State) : State :=
  match g.kind with
  | 0x1 =>
    if (s.port m).state = .master ∧ s.mayMaster = true then
      s.ptpSend m 0x9 (beBytes 2 g.sequence ++ beBytes 12 (stamp1ns g.received - (s.phyDelay m).2) ++ beBytes 8 g.sender)
    else s
  | 0xB =>
    if betterMaster g.rank (s.ownRank m) && s.mayMaster then
      (s.setPort m { s.port m with masterId := g.sender, master := g.rank }).portState m .passive
    else s
  | _ => s

/-- PTP_MESSAGE_RX (R190, R191): another domain's message is not the port's; an unsupported option is ignored and
counted. -/
def execPtpMessageRx (mac : Fin 2) (message : PtpMsg) : State → Host.Outcome State Fault Refusal :=
  done fun s =>
    let m := mac.val
    let p := s.port m
    if p.state = .disabled ∨ (s.netRec m).map (·.ptpDomain) ≠ some message.domain then s
    else if !message.supported || [2, 3, 0xA].contains message.kind then s.setPort m { p with ignored := sat 15 (p.ignored + 1) }
    else if s.ptpRole m = 2 then s.slaveRx m message else s.masterRx m message

/-- A transmit stamp enters the MAC's queue, or is dropped when it is full (R191). -/
def State.queueStamp (m kind : Nat) (s : State) : State :=
  let p := s.port m
  let t := stamp1ns s.now + (s.phyDelay m).1
  if 16 ≤ p.queue.length then
    let s' := { s.setPort m { p with dropRun := true } with
                  treg.txtsOvf := updAt s.treg.txtsOvf m (fun n => (n + 1) % 65536) }
    if p.dropRun then s' else (s'.timeEvent 4).report 0x050A [(1, m), (1, kind), (2, p.txSeq)]
  else s.setPort m { p with queue := p.queue ++ [⟨t, kind, p.txSeq, s.ns⟩], dropRun := false }

/-- Firmware takes the stamp of Sync `n`, and its Follow_Up leaves; without a stamp there is none (R191). -/
def State.followUp (m n : Nat) (s : State) : State :=
  let r := s.takeStamp m 0 n
  match r.1 with
  | some t => r.2.ptpSend m 0x8 (beBytes 2 n ++ beBytes 12 t)
  | none => r.2

/-- PTP_TX (R190, R191, R192): a Sync of a master port or a Delay_Req of a slave port leaves, and its stamp is queued; or firmware takes the
stamp of the Sync `follow` and its Follow_Up leaves. -/
def execPtpTx (mac : Fin 2) (follow : Option Nat) : State → Host.Outcome State Fault Refusal :=
  done fun s =>
    let m := mac.val
    let st := (s.port m).state
    let next := fun (s : State) => s.setPort m { s.port m with txSeq := ((s.port m).txSeq + 1) % 65536 }
    let n := (s.port m).txSeq
    if s.ptpRole m = 1 ∧ st = .master ∧ s.mayMaster = true then
      match follow with
      | some k => s.followUp m k
      | none => next ((s.ptpSend m 0x0 (beBytes 2 n)).queueStamp m 0)
    else if s.ptpRole m = 2 ∧ (st = .uncalibrated ∨ st = .slave) ∧ follow = none then
      next (((s.ptpSend m 0x1 (beBytes 2 n)).queueStamp m 1).setPort m { ((s.ptpSend m 0x1 (beBytes 2 n)).queueStamp m 1).port m with reqSeq := n })
    else s

/-- TXTS_STALE (R191): the stamps not taken within 1 s. -/
def execTxtsStale (mac : Fin 2) : State → Host.Outcome State Fault Refusal :=
  done fun s =>
    let m := mac.val
    let p := s.port m
    let old := p.queue.filter (fun e => decide (1000000000 + e.queued ≤ s.ns))
    { s.setPort m { p with queue := p.queue.filter (fun e => decide (s.ns < 1000000000 + e.queued)) } with
        treg.txtsStale := updAt s.treg.txtsStale m (fun n => (n + old.length) % 65536) }

/-- PTP_ANNOUNCE_RECEIPT_TIMEOUT (R190): a slave port leaves its master and listens; a passive port is master again. -/
def execPtpAnnounceReceiptTimeout (mac : Fin 2) : State → Host.Outcome State Fault Refusal :=
  done fun s =>
    let m := mac.val
    match (s.port m).state with
    | .uncalibrated | .slave =>
      let s := s.portState m .listening
      s.setPort m { s.port m with masterId := 0, master := {}, syncT1 := none, syncT2 := none, reqT3 := none }
    | .passive => s.portState m .master
    | _ => s

end Sys2Proof.Machine
end

