-- ==== Sys2Proof/Machine/Chp.lean ====
section
/-! DEFINITION. CHP (R468–R477, R483–R485): frames, the checks of R473 in their order, replies, host sessions, OPEN, AUTH
and CLOSE, the SPI target port, reassembly and links. -/

namespace Sys2Proof.Machine

/-- The octets of a CHP frame without its MAC (Table 18-3). -/
def chpOctets (head : List Octet) (session sequence result index : Nat) (reserved : Nat) (body : List Octet) : List Octet :=
  head ++ leBytes 4 session ++ leBytes 4 sequence ++ leBytes 1 result ++ leBytes 1 index ++ leBytes 2 reserved ++ body

/-- The octets of a received request of type `kind`, those that its MAC covers (R474). -/
def ChpFrame.octets (kind : Nat) (f : ChpFrame) : List Octet :=
  chpOctets (leBytes 2 f.magic.toNat ++ [f.version, f.flags] ++ leBytes 2 kind ++ leBytes 2 f.length.toNat) f.session.toNat
    f.sequence.toNat f.result.toNat f.index.toNat f.reserved.toNat f.body

/-- The octets of a reply without its MAC (R472). -/
def replyOctets (kind session sequence result : Nat) (macced : Bool) (body : List Octet) : List Octet :=
  chpOctets ([0x43#8, 0x48#8, 1#8] ++ leBytes 1 (1 + 2 * flag macced) ++ leBytes 2 kind ++ leBytes 2 body.length) session
    sequence result 0 0 body

/-- A reply as it leaves the unit. -/
def Reply.octets (r : Reply) : List Octet :=
  replyOctets r.kind.toNat r.session.toNat r.sequence.toNat r.result.toNat r.mac.isSome r.body ++
    (r.mac.map (fun m => beBytes 16 m.toNat)).getD []

/-- The form of a request that holds for every type (R472, R473 check 1). -/
def ChpFrame.formed (f : ChpFrame) : Bool :=
  decide (f.magic = 0x4843#16) && decide (f.version = 1#8) && decide (f.flags = (if f.mac.isSome then 2#8 else 0#8)) &&
  decide (f.length.toNat = f.body.length) && decide (f.body.length ≤ 4316) && decide (f.result = 0#8) && decide (f.index = 0#8) &&
  decide (f.reserved = 0#16) && decide (f.session ≠ 0#32 ∨ f.mac = none)

/-- Octets of a body that must be 0. -/
def zeros (b : List Octet) (off n : Nat) : Bool := (slice b off n).all (fun o => decide (o = 0#8))

/-- ACCESS record of a host. -/
def State.accessRec (h : Nat) (s : State) : Option AccessRec := (s.recs (·.accesses)).find? (fun r => decide (r.host = h))

/-- A host's ACCESS record admits a transport and source (R473 check 3). -/
def State.admits (h : Nat) (src : ChpSource) (s : State) : Bool :=
  match s.accessRec h, src with
  | some r, .spi => bit r.transports 1
  | some r, .ethernet _ a _ => bit r.transports 0 && (decide (r.address = 0) || decide (r.address = a.toNat))
  | none, _ => false

/-- The key of a host: the material of its slot while that holds a valid HOST key (Table 13-4). -/
def State.hostKey (h : Nat) (s : State) : Option (List Octet) :=
  match s.accessRec h with
  | some r =>
    let k := s.keySlot r.slot
    if k.valid && decide (k.kind = 4) then some k.key else none
  | none => none

/-- HMAC under a host key (R474): with SHA-256 for 32 octets, with SHA-384 for 48. -/
def hostMac (key msg : List Octet) : BitVec 128 := if key.length = 48 then mac384 key msg else mac256 key msg

/-- The MAC of a session's frame (R474). -/
def State.sessMac (h : HostSess) (octets : List Octet) (s : State) : BitVec 128 :=
  hostMac ((s.hostKey h.host).getD []) (h.unitNonce ++ h.hostNonce ++ octets)

/-- Two sources are one transport and source: on Ethernet the MAC and the address, whatever the port (DEDUCED, log 40). -/
def sameSource (a b : ChpSource) : Bool :=
  match a, b with
  | .spi, .spi => true
  | .ethernet m x _, .ethernet n y _ => decide (m = n) && decide (x = y)
  | _, _ => false

/-- The slot of the session that a frame names: open, or pending where `authed` is false. -/
def State.slotOf (f : ChpFrame) (authed : Bool) (s : State) : Option Nat :=
  s.host.sessions.findIdx? (fun h => h.inUse && decide (h.authed = authed) && decide (h.sid = f.session) && sameSource h.source f.source)

/-- A transport runs (R468, R484, R485, Table 1-4). -/
def State.transports (src : ChpSource) (s : State) : Bool :=
  s.powered && !s.tres.frozen.getLsbD 8 &&
  match src with
  | .spi => s.cfg.image.isSome || decide (1 ≤ s.sys.restricted ∧ s.sys.restricted ≤ 5)
  | .ethernet m _ _ => s.cfg.image.isSome && !decide (1 ≤ s.sys.restricted ∧ s.sys.restricted ≤ 5) && (if m = 0 then s.clk.eth0 else s.clk.eth1) && s.domReady (domEth0 + m.val) &&
      ((s.netRec m.val).map (fun r => bit r.flags 0 && bit r.flags 1)).getD false

/-- CHP runs on a transport: no save has begun. -/
def State.carries (src : ChpSource) (s : State) : Bool := !s.sys.saving && s.transports src

/-- A message of a type is served in the unit's state (Table 18-1). -/
def State.serves (kind : Nat) (s : State) : Bool :=
  match s.sys.restricted with
  | 1 => [0x0010, 0x0090, 0x0091, 0x0012, 0x0050].contains kind
  | 2 => [0x0010, 0x0040, 0x0041, 0x0042, 0x0043, 0x0012].contains kind
  | 3 | 4 | 5 => decide (kind = 0x0010)
  | _ => true

/-- A reply leaves the unit (R469–R473): on SPI it waits in a reply buffer. With the host bridge frozen CHP has stopped (Table 1-4). -/
def State.sendReply (f : ChpFrame) (kind result : Nat) (body : List Octet) (mac : Option (BitVec 128)) (s : State) : State :=
  if s.tres.frozen.getLsbD 8 then s
  else
    let r : Reply := ⟨f.session, f.sequence, BitVec.ofNat 16 kind, BitVec.ofNat 8 result, body, mac, f.source⟩
    let s := { s with host.txFrames := incr s.host.txFrames
                      host.spiTx := if f.source = ChpSource.spi then s.host.spiTx ++ [r.octets] else s.host.spiTx }
    s.send (.reply r)

/-- A reply with the MAC of session slot `k`. -/
def State.sessReply (k : Nat) (f : ChpFrame) (kind result : Nat) (body : List Octet) (s : State) : State :=
  s.sendReply f kind result body
    (some (s.sessMac (s.hs k) (replyOctets kind f.session.toNat f.sequence.toNat result true body)))

/-- The reply that ends a request (R473, R475): with the session's MAC and remembered; dropped where the session has closed;
without a MAC to an anonymous request. -/
def State.finish (f : ChpFrame) (kind result : Nat) (body : List Octet) (s : State) : State :=
  if f.session = 0#32 then s.sendReply f kind result body none
  else
    match s.slotOf f true with
    | none => s
    | some k =>
      let mac := s.sessMac (s.hs k) (replyOctets kind f.session.toNat f.sequence.toNat result true body)
      let r : Reply := ⟨f.session, f.sequence, BitVec.ofNat 16 kind, BitVec.ofNat 8 result, body, some mac, f.source⟩
      let s := s.updHs k (fun (h : HostSess) => { h with
        remembered := (r :: h.remembered).take 16, processing := h.processing.filter (fun q => decide (q ≠ f.sequence.toNat)) })
      s.sendReply f kind result body (some mac)

/-- A reply with result REFUSED and a code of R481. -/
def State.refuse (f : ChpFrame) (kind code : Nat) (s : State) : State := s.finish f kind 0x0E (leBytes 1 code)

/-- RIGHT (R473 check 7): counted and recorded; an anonymous request has host 0xFF (DESIGN CHOICE, log 40). -/
def State.noRight (h kind : Nat) (s : State) : State :=
  ({ s with host.right := incr s.host.right, host.events := s.host.events ||| 4#32 }).report 0x1104 [(1, h), (2, kind)]

/-- A frame that CHP takes: one written on SPI leaves its receive buffer (R471). -/
def State.takeFrame (f : ChpFrame) (s : State) : State :=
  if f.source = .spi then { s with host.spiRx := s.host.spiRx.drop 1 } else s

/-- A frame that no state serves is discarded (R468); on SPI RX_ERROR is set. -/
def State.discardFrame (f : ChpFrame) (s : State) : State :=
  if f.source = .spi ∧ s.powered = true ∧ s.sys.saving = false ∧ s.tres.frozen.getLsbD 8 = false then
    { s with host.spiRx := s.host.spiRx.drop 1, host.spiRxError := true }
  else s

/-- A frame has passed every check of R473: it is counted, and its session is not idle (R476). -/
def State.passed (k : Option Nat) (s : State) : State :=
  let s := { s with host.rxFrames := incr s.host.rxFrames }
  match k with
  | some k => s.updHs k (fun (h : HostSess) => { h with lastFrame := s.ns })
  | none => s

/-- A request that no memory answers (R473, R475): its sequence number is taken, then the type must be served, the host must hold
its right, and a lead-only type needs the lead. -/
def State.chpRun (kind : Nat) (right : Option Nat) (lead : Bool) (f : ChpFrame) (run : Nat → State → State) (k : Nat) (s : State) : State :=
  let q := f.sequence.toNat
  let s := s.updHs k (fun (h : HostSess) => { h with lastSeq := q, processing := q :: h.processing })
  let host := (s.hs k).host
  let rights := (s.accessRec host).elim 0 (·.rights)
  if !s.serves kind then s.finish f kind 0x0D []
  else if !(right.map (bit rights)).getD true then (s.noRight host kind).finish f kind 0x06 []
  else if lead && !s.isLead then s.finish f kind 0x09 []
  else run host (s.passed (some k))

/-- A request whose sequence number was used already (R473, R477). -/
def State.chpReplay (kind : Nat) (f : ChpFrame) (k : Nat) (s : State) : State :=
  let s := { s with host.replay := incr s.host.replay, host.events := s.host.events ||| 2#32 }
  (s.report 0x1105 [(1, (s.hs k).host), (4, f.sequence.toNat)]).sessReply k f kind 0x05 []

/-- A request whose MAC is right (R473–R475): a remembered reply is sent again, a request in progress is let be, a ninth at once is
turned away. -/
def State.chpAuthed (kind : Nat) (right : Option Nat) (lead : Bool) (f : ChpFrame) (run : Nat → State → State) (k : Nat) (s : State) : State :=
  match (s.hs k).remembered.find? (fun r => decide (r.sequence = f.sequence)) with
  | some r => s.sendReply f r.kind.toNat r.result.toNat r.body r.mac
  | none =>
    if (s.hs k).processing.contains f.sequence.toNat then s
    else if 8 ≤ (s.hs k).processing.length then s.sessReply k f kind 0x0B []
    else if f.sequence.toNat ≤ (s.hs k).lastSeq then s.chpReplay kind f k
    else s.chpRun kind right lead f run k

/-- A request of a session: its transport must be admitted and its MAC right (R473). -/
def State.chpSession (kind : Nat) (right : Option Nat) (lead : Bool) (f : ChpFrame) (run : Nat → State → State) (k : Nat) (s : State) : State :=
  if !s.admits (s.hs k).host f.source then s.sendReply f kind 0x0F [] none
  else if f.mac ≠ some (s.sessMac (s.hs k) (f.octets kind)) then
    ({ s with host.authFail := incr s.host.authFail }).sendReply f kind 0x04 [] none
  else s.chpAuthed kind right lead f run k

/-- A request outside a session: served, admitted anonymously, and of the lead where it is lead-only (R473, R474). -/
def State.chpAnon (kind : Nat) (lead anon : Bool) (f : ChpFrame) (run : Nat → State → State) (s : State) : State :=
  if !s.serves kind then s.sendReply f kind 0x0D [] none
  else if !anon then (s.noRight 0xFF kind).sendReply f kind 0x06 [] none
  else if lead && !s.isLead then s.sendReply f kind 0x09 [] none
  else run 0xFF (s.passed none)

/-- The checks of R473 in their order, and R475: `right` is the right bit of the type, `lead` says that it is lead-only,
`anon` that the request is admitted anonymously, `ok` that its body has the type's layout. A request that passes runs with
its host's number, 0xFF for none. -/
def State.chpTaken (kind : Nat) (right : Option Nat) (lead anon ok : Bool) (f : ChpFrame) (run : Nat → State → State) (s : State) : State :=
  let s := s.takeFrame f
  if !(f.formed && ok) then s.sendReply f kind 0x01 [] none
  else if f.session = 0#32 then s.chpAnon kind lead anon f run
  else
    match s.slotOf f true with
    | none => s.sendReply f kind 0x03 [] none
    | some k => s.chpSession kind right lead f run k

/-- A request on a transport that runs CHP; elsewhere its frame is discarded. -/
def State.chp (kind : Nat) (right : Option Nat) (lead anon ok : Bool) (f : ChpFrame) (run : Nat → State → State) (s : State) : State :=
  if s.carries f.source then s.chpTaken kind right lead anon ok f run else s.discardFrame f

/-- The sessions open or pending (R476). -/
def State.hostSessions (s : State) : Nat := (s.host.sessions.filter (·.inUse)).length

/-- A free number is drawn for a session ID: nonzero (R474). -/
def drawSid (n : Nat) : Word := BitVec.ofNat 32 ((Config.freeWord n).toNat % (2 ^ 32 - 1) + 1)

/-- OPEN (R474, R476): a pending session with a random session ID and unit nonce, or TRANSPORT or SESSIONS_FULL. -/
def execOpen (frame : ChpFrame) : State → Host.Outcome State Fault Refusal :=
  done (State.chp 0x0001 none false true (decide (frame.body.length = 20) && zeros frame.body 1 3 && decide (getLe frame.body 0 1 < 16)) frame
    fun _ s =>
      let h := getLe frame.body 0 1
      if !s.admits h frame.source || (s.hostKey h).isNone || decide (Tab.get 0 s.host.lockout h ≠ 0) then s.finish frame 0x0001 0x0F []
      else
        match s.host.sessions.findIdx? (fun x => !x.inUse) with
        | none => ({ s with host.events := s.host.events ||| 8#32 }).finish frame 0x0001 0x0C []
        | some k =>
          let f := s.takeFree
          let sid := drawSid f.1
          let nonce := beBytes 16 (Config.freeNonce f.1).toNat
          let s := f.2.updHs k (fun _ => { inUse := true, source := frame.source, host := h, sid := sid
                                           hostNonce := slice frame.body 4 16, unitNonce := nonce, opened := s.ns, lastFrame := s.ns })
          s.finish frame 0x0001 0x00 (leBytes 4 sid.toNat ++ nonce ++ leBytes 8 s.keys.fuse.serial))

/-- A proof of R474. -/
def State.proof (label : List Octet) (h : HostSess) (s : State) : List Octet :=
  beBytes 16 (hostMac ((s.hostKey h.host).getD [])
    (label ++ leBytes 4 h.sid.toNat ++ h.hostNonce ++ h.unitNonce ++ leBytes 1 h.host)).toNat

/-- The transport of a source as records number it: 0 Ethernet, 1 SPI. -/
def ChpSource.transport : ChpSource → Nat
  | .ethernet _ _ _ => 0
  | .spi => 1

/-- The source address of a source; 0 on SPI. -/
def ChpSource.addr : ChpSource → Nat
  | .ethernet _ a _ => a.toNat
  | .spi => 0

/-- A failed AUTH (R476): counted and recorded; the fifth in a row bars the host for 60 s. -/
def State.authFailed (h : Nat) (src : ChpSource) (s : State) : State :=
  let n := Tab.get 0 s.host.failures h + 1
  let s := { s with host.authFail := incr s.host.authFail, host.events := s.host.events ||| 1#32
                    host.failures := Tab.set 0 s.host.failures h (if n < 5 then n else 0)
                    host.lockout := if n < 5 then s.host.lockout else Tab.set 0 s.host.lockout h (60000000000 + s.ns) }
  s.report 0x1103 [(1, h), (1, src.transport), (4, src.addr)]

/-- AUTH (R473, R474): the host's proof verified; the unit's proof and the host's rights go back under the session's MAC. -/
def execAuth (frame : ChpFrame) : State → Host.Outcome State Fault Refusal :=
  done fun s =>
    if !s.carries frame.source then s.discardFrame frame
    else
      let s := s.takeFrame frame
      if !(frame.formed && decide (frame.body.length = 16) && decide (frame.mac = none)) then s.sendReply frame 0x0002 0x01 [] none
      else
        match s.slotOf frame false with
        | none => s.sendReply frame 0x0002 0x03 [] none
        | some k =>
          let h := s.hs k
          if !s.admits h.host frame.source then s.sendReply frame 0x0002 0x0F [] none
          else if !s.serves 0x0002 then s.sendReply frame 0x0002 0x0D [] none
          else if frame.body ≠ s.proof (ascii "CMT-CHP-HOST") h ∨ (s.hostKey h.host).isNone = true then
            (s.authFailed h.host frame.source).sendReply frame 0x0002 0x04 [] none
          else
            let s := (s.updHs k (fun (h : HostSess) => { h with authed := true })).passed (some k)
            let s := { s with host.failures := Tab.set 0 s.host.failures h.host 0 }
            let s := s.report 0x1101 [(1, h.host), (1, frame.source.transport), (4, h.sid.toNat)]
            s.sessReply k frame 0x0002 0x00 (s.proof (ascii "CMT-CHP-UNIT") h ++ leBytes 2 ((s.accessRec h.host).elim 0 (·.rights) % 1024))

/-- CLOSE (R476). -/
def execClose (frame : ChpFrame) : State → Host.Outcome State Fault Refusal :=
  done (State.chp 0x0003 none false false (decide (frame.body = [])) frame fun _ s =>
    let k := s.slotOf frame true
    let s := s.finish frame 0x0003 0x00 []
    match k with
    | some k => s.closeHost k 0
    | none => s)

/-- AUTH_PENDING_TIMEOUT (R476): 5 s after OPEN. -/
def execAuthPendingTimeout (slot : Fin 8) : State → Host.Outcome State Fault Refusal :=
  done fun s =>
    let h := s.hs slot.val
    if s.powered && h.inUse && !h.authed then (s.atLeast (5000000000 + h.opened)).closeHost slot.val 1 else s

/-- SESSION_IDLE_TIMEOUT (R476): 120 s without a frame that passes R473. -/
def execSessionIdleTimeout (slot : Fin 8) : State → Host.Outcome State Fault Refusal :=
  done fun s =>
    let h := s.hs slot.val
    if s.powered && h.inUse && h.authed then (s.atLeast (120000000000 + h.lastFrame)).closeHost slot.val 1 else s

/-- LOCKOUT_END (R476): 60 s after the fifth failed AUTH of a host. -/
def execLockoutEnd (host : Fin 16) : State → Host.Outcome State Fault Refusal :=
  done fun s =>
    let t := Tab.get 0 s.host.lockout host.val
    if t = 0 then s else { s.atLeast t with host.lockout := Tab.set 0 s.host.lockout host.val 0 }

/-- Every session but one closes (R476). -/
def State.closeOthers (k : Option Nat) (s : State) : State :=
  s.each ((List.range 8).filter (fun j => decide (some j ≠ k))) (fun j s => s.closeHost j 2)

/-- CLOSE_OTHERS (R476): a write of CLOSE_OTHERS to HOST_CTL from session slot `writer`. -/
def execCloseOthers (writer : Fin 8) : State → Host.Outcome State Fault Refusal :=
  done fun s => if s.powered then s.closeOthers (some writer.val) else s

/-- REASSEMBLY_TIMEOUT (R469): a datagram of an Ethernet MAC is incomplete 500 ms after its first fragment; it is dropped
and counted (log 41: fragments are no commands, a datagram reaches the block whole). -/
def execReassemblyTimeout : State → Host.Outcome State Fault Refusal :=
  done fun s => if s.powered && s.cfg.image.isSome then { s with host.reassemblyDrop := incr s.host.reassemblyDrop } else s

/-- A frame in an SPI receive buffer, as its header names it (Table 18-3), with its type. -/
def spiFrame (b : List Octet) : ChpFrame × Nat :=
  ({ source := .spi, length := BitVec.ofNat 16 (getLe b 6 2), session := BitVec.ofNat 32 (getLe b 8 4), sequence := BitVec.ofNat 32 (getLe b 12 4)
     body := [], mac := none }, getLe b 4 2)

/-- The types of Table 18-5. -/
def chpTypes : List Nat :=
  [0x0001, 0x0002, 0x0003, 0x0010, 0x0011, 0x0012, 0x0020, 0x0021, 0x0022, 0x0030, 0x0031, 0x0032, 0x0040, 0x0041, 0x0042, 0x0043, 0x0050, 0x0060, 0x0061,
   0x0070, 0x0080, 0x0090, 0x0091]

/-- The octets of a written frame fail check 1 of R473 whatever their body: FORMAT for the header, TYPE for an unknown type; none where their type's
own command takes them. -/
def spiRefusal (b : List Octet) : Option Nat :=
  let flags := getLe b 3 1
  if b.length < 20 ∨ slice b 0 3 ≠ [0x43#8, 0x48#8, 1#8] ∨ (flags ≠ 0 ∧ flags ≠ 2) ∨ b.length ≠ 20 + getLe b 6 2 + 8 * flags ∨ zeros b 16 4 = false then some 0x01
  else if chpTypes.contains (getLe b 4 2) then none
  else some 0x02

/-- A written frame is held for the command of its type, or refused at once (R471, R473); a backbone frame gets no reply. -/
def State.spiTake (b : List Octet) (s : State) : State :=
  match spiRefusal b with
  | none => { s with host.spiRx := s.host.spiRx ++ [b] }
  | some result => if bit (getLe b 3 1) 2 then s else s.sendReply (spiFrame b).1 (spiFrame b).2 result [] none

/-- SPI_IRQ_N is driven low while a reply waits to be read (R470). -/
def State.spiIrq (s : State) : Bool := decide (s.host.spiTx ≠ [])

/-- SPI_WRITE_FRAME (R470, R471): `octets` were clocked in after a length of `length`, in quad mode or not. -/
def execSpiWriteFrame (quad : Bool) (length : BitVec 16) (octets : List Octet) : State → Host.Outcome State Fault Refusal :=
  done fun s =>
    if !s.powered || s.sys.saving || s.tres.frozen.getLsbD 8 then s
    else
      let s := { s with host.spiQuad := quad, host.spiLast := some s.ns }
      if octets.length ≠ length.toNat ∨ 4352 < octets.length ∨ 4 ≤ s.host.spiRx.length then
        ({ s with host.spiRxError := true, host.spiOvf := incr s.host.spiOvf
                  host.events := s.host.events ||| 16#32 }).report 0x1106 [(4, ((s.host.spiOvf.toNat + 1) % 2 ^ 32 : Nat))]
      else if !s.carries .spi then { s with host.spiRxError := true }
      else s.spiTake octets

/-- SPI_READ_REPLY (R471): the oldest reply is clocked out, `clocked` of its octets; it is removed with its last. -/
def execSpiReadReply (clocked : BitVec 16) : State → Host.Outcome State Fault Refusal :=
  done fun s =>
    if !s.powered || s.tres.frozen.getLsbD 8 then s
    else
      match s.host.spiTx with
      | r :: rest =>
        let s := s.send (.spi (leBytes 2 r.length ++ r.take clocked.toNat))
        if r.length ≤ clocked.toNat then { s with host.spiTx := rest } else s
      | [] => s.send (.spi [0#8, 0#8])

/-- The SPI status octet (Table 18-2). -/
def State.spiStatus (s : State) : Octet :=
  BitVec.ofNat 8 (flag s.spiIrq + 2 * flag (decide (4 ≤ s.host.spiRx.length)) + 4 * flag s.host.spiRxError +
    8 * flag (decide (s.sys.restricted ≠ 0)) + 16 * flag s.sys.saving + 32 * flag s.inService)

/-- SPI_READ_STATUS (R470, R471): the status octet; RX_ERROR is then clear. -/
def execSpiReadStatus : State → Host.Outcome State Fault Refusal :=
  done fun s => if s.powered && !s.tres.frozen.getLsbD 8 then { s.send (.spi [s.spiStatus]) with host.spiRxError := false } else s

/-- LINK_CHANGED (R489): the PHY link of a MAC goes up at a speed (0 10, 1 100, 2 1,000 Mb/s), or down. -/
def execLinkChanged (mac : Fin 2) (up : Bool) (speed : Fin 3) : State → Host.Outcome State Fault Refusal :=
  done fun s =>
    if !s.powered || s.host.linkUp.getLsbD mac.val == up then s
    else
      let s := { s with
        host.linkUp := if up then s.host.linkUp ||| BitVec.ofNat 2 (mac.val + 1) else s.host.linkUp &&& ~~~(BitVec.ofNat 2 (mac.val + 1))
        host.linkSpeed := updAt s.host.linkSpeed mac.val (fun _ => if up then speed.val else 0)
        host.events := s.host.events ||| 64#32 }
      s.report 0x1108 [(1, mac.val), (1, flag up), (1, if up then speed.val else 0)]

end Sys2Proof.Machine
end

