-- ==== Sys2Proof/Machine/Graph.lean ====
section
/-! DEFINITION. The graph and a robot's route on it (R272–R278): validation, positions along a route, holders of a span,
retreat paths. Positions along a route are in mm from the entry of its first span. -/

namespace Sys2Proof.Machine

/-- The route that a session travels: the adopted one, or before the first the JOIN span from-to (R283). -/
def State.routeOf (n : Nat) (s : State) : Route :=
  match (s.xs n).route with
  | some r => r
  | none => { id := 0xFF, spans := [((s.rs n).span, true)] }

/-- The length of route places before index `i`. -/
def State.startOf (r : Route) (i : Nat) (s : State) : Int := ((r.spans.take i).map (fun p => (s.spanLen p.1 : Int))).foldl (· + ·) 0

/-- The index of a span in a route. -/
def Route.indexOf (r : Route) (x : Nat) : Option Nat := r.spans.findIdx? (fun p => decide (p.1 = x))

/-- The position of an offset into a span of a route. -/
def State.along (r : Route) (x offset : Nat) (s : State) : Option Int :=
  (r.indexOf x).map (fun i => s.startOf r i + offset)

/-- The place of a route that contains a position: a point on a pier belongs to the span that ends there (R273). -/
def State.placeAt (r : Route) (pos : Int) (s : State) : Option Nat :=
  (List.range r.spans.length).find? (fun i => decide (pos ≤ s.startOf r (i + 1)))

/-- The movement authority of session `n` along its route (R279); none without a held run. -/
def State.authPos (n : Nat) (s : State) : Option Int :=
  let r := s.routeOf n
  match (s.xs n).held.getLast? with
  | some x => (r.indexOf x).map (fun i => s.startOf r (i + 1))
  | none => none

/-- The pier at which a route leaves the span at a place. -/
def State.exitPier (p : Nat × Bool) (s : State) : Option Nat :=
  (s.spanGeo p.1).map (fun g => if p.2 then g.toPier else g.fromPier)

/-- The pier at which a route enters the span at a place. -/
def State.entryPier (p : Nat × Bool) (s : State) : Option Nat :=
  (s.spanGeo p.1).map (fun g => if p.2 then g.fromPier else g.toPier)

/-- Travel on a span in a direction is permitted by its flags (Table 3-10). -/
def dirAllowed (g : SpanRec) (fromTo : Bool) : Bool := bit g.flags (if fromTo then 0 else 1)

/-- The piers that two spans share. -/
def sharedPiers (a b : SpanRec) : List Nat :=
  [a.fromPier, a.toPier].filter (fun p => decide (p = b.fromPier) || decide (p = b.toPier))

/-- The direction of a route's first span (R275). -/
def State.firstDir (n : Nat) (x : Nat) (next : Option Nat) (s : State) : Bool :=
  let prev := (((s.xs n).route.map (·.spans)).getD []).find? (fun p => decide (p.1 = x)) |>.map (·.2)
  match s.spanGeo x, next.bind (fun y => s.spanGeo y) with
  | some a, some b =>
    match sharedPiers a b with
    | [p] => decide (p = a.toPier)
    | _ => prev.getD true
  | _, _ => prev.getD true

/-- The directions of a route's later spans from the exit pier of the one before; the index of the first that does not
connect. -/
def State.walk (pier : Nat) : Nat → List Nat → State → Except Nat (List (Nat × Bool))
  | _, [], _ => .ok []
  | i, x :: xs, s =>
    match s.spanGeo x with
    | some g =>
      if g.fromPier = pier then (State.walk g.toPier (i + 1) xs s).map (fun l => (x, true) :: l)
      else if g.toPier = pier then (State.walk g.fromPier (i + 1) xs s).map (fun l => (x, false) :: l)
      else .error i
    | none => .error i

/-- The holders of a span: sessions by number, guests as 0x100 + g, orphan holds as 0x200 + n, rising (R272). -/
def State.holders (x : Nat) (s : State) : List Nat :=
  (s.fleet.xarb.sessions.filter (fun p => p.2.held.contains x || (p.2.retreat.map (fun t => t.spans.contains x)).getD false)).map (·.1) ++
  (s.fleet.xarb.guests.filter (fun p => decide (p.2.state ≠ 0 ∧ p.2.span = x))).map (fun p => 0x100 + p.1) ++
  (s.fleet.xarb.orphans.filter (fun p => (p.2.map (fun o => o.spans.contains x)).getD false)).map (fun p => 0x200 + p.1)

/-- A span in state ABSENT (Table 10-1): without a SPAN record in the image in use, and held by none. -/
def State.absent (x : Nat) (s : State) : Bool := decide (s.spanRec x = none) && decide (s.holders x = [])

/-- The validation of a completed route (R275): the route with directions, or the index of the failing span and the
reason, numbered in the order of the rule's list. -/
def State.validate (n id : Nat) (spans : List Nat) (s : State) : Except (Nat × Nat) Route :=
  match spans.findIdx? (fun x => decide (x = 0xFFFF)) with
  | some i => .error (i, 0)
  | none =>
    match spans.findIdx? (fun x => s.absent x) with
    | some i => .error (i, 1)
    | none =>
      match (List.range spans.length).find? (fun i => (spans.take i).contains ((spans[i]?).getD 0)) with
      | some i => .error (i, 2)
      | none =>
        match spans with
        | [] => .error (0, 0)
        | x :: xs =>
          let d := s.firstDir n x xs.head?
          match s.exitPier (x, d) with
          | none => .error (0, 1)
          | some p =>
            match State.walk p 1 xs s with
            | .error i => .error (i, 3)
            | .ok l =>
              let all := (x, d) :: l
              match all.findIdx? (fun q => !((s.spanGeo q.1).map (fun g => dirAllowed g q.2)).getD false) with
              | some i => .error (i, 4)
              | none => .ok { id := id, spans := all }

/-- The spans of a completed assembly, a place without a span counting as 0xFFFF (R218). -/
def RouteAsm.spans (a : RouteAsm) : List Nat := (List.range ((a.last.getD 0) + 1)).map (fun i => Tab.get 0xFFFF a.places i)

/-- The parts of an assembly cover it without a gap (R218). -/
def RouteAsm.complete (a : RouteAsm) : Bool :=
  match a.last with
  | some k => (List.range (k + 1)).all (fun i => a.places.any (fun p => decide (p.1 = i)))
  | none => false

/-- The covered spans of session `n`: from the last route index acted on, or reported, to the reference point's span. -/
def State.covered (n : Nat) (s : State) : List Nat :=
  let r := s.routeOf n
  match (s.rs n).report with
  | some p =>
    match r.indexOf p.span with
    | some j =>
      let i := if p.routeId = r.id then min p.index j else min (s.xs n).index j
      ((r.spans.drop i).take (j + 1 - i)).map (·.1)
    | none => [p.span]
  | none => [(s.rs n).span]

/-- The part of a pending route that it shares with the adopted one, from the rearmost held span on (R277). -/
def State.shared (n : Nat) (s : State) : List Nat :=
  let go := fun (a b : List (Nat × Bool)) => ((a.zip b).takeWhile (fun p => decide (p.1.1 = p.2.1))).map (fun p => p.1.1)
  match (s.xs n).route, (s.xs n).pending, (s.xs n).held.head? with
  | some r, some q, some x =>
    match r.indexOf x, q.indexOf x with
    | some i, some j => go (r.spans.drop i) (q.spans.drop j)
    | _, _ => []
  | _, _, _ => []

/-- A span of another cell's (R299). -/
def State.foreign (x : Nat) (s : State) : Bool :=
  (s.spanRec x).elim false (fun g => bit g.flags 2 && decide (g.owner ≠ s.cellNo))

/-- Checks 10, 11 and 13 of Table 10-2 for holder `n` entering `x` in a direction: the cause of the first that fails. -/
def State.spanCheck (n x : Nat) (fromTo : Bool) (s : State) : Option Nat :=
  match s.spanRec x with
  | none => some 10
  | some g =>
    if !dirAllowed g fromTo then some 11
    else if g.capacity ≤ ((s.holders x).filter (fun h => decide (h ≠ n))).length then some 12
    else none

/-- The lexicographic order of span sequences. -/
def seqLt : List Nat → List Nat → Bool
  | _, [] => false
  | [], _ :: _ => true
  | a :: as, b :: bs => decide (a < b) || (decide (a = b) && seqLt as bs)

/-- The lowest of the sequences, with its end. -/
def lowest {α : Type} : List (List Nat × α) → Option (List Nat × α)
  | [] => none
  | p :: ps =>
    match lowest ps with
    | none => some p
    | some q => if seqLt q.1 p.1 then some q else some p

/-- One step of the search from a pier: every span that leaves it and passes the checks for `n`, with the far pier. -/
def State.leaving (n pier : Nat) (avoid : List Nat) (s : State) : List (Nat × Nat) :=
  (s.recs (·.spans)).filterMap fun g =>
    if avoid.contains g.span then none
    else if g.fromPier = pier ∧ s.spanCheck n g.span true = none then some (g.span, g.toPier)
    else if g.toPier = pier ∧ s.spanCheck n g.span false = none then some (g.span, g.fromPier)
    else none

/-- The shortest path from the reached piers to the siding, lowest in span numbers among the shortest (R295): `room`
spans may still be added, the siding among them. The answer is the spans and the siding's far pier. -/
def State.sidingPath (n siding : Nat) (avoid : List Nat) : Nat → List (List Nat × Nat) → List Nat → State → Option (List Nat × Nat)
  | 0, _, _, _ => none
  | room + 1, front, seen, s =>
    let ends := front.filterMap (fun p =>
      ((s.leaving n p.2 avoid).find? (fun q => decide (q.1 = siding))).map (fun q => (p.1 ++ [siding], q.2)))
    match lowest ends with
    | some r => some r
    | none =>
      let steps := front.flatMap (fun p => ((s.leaving n p.2 (siding :: avoid)).filter (fun q => !seen.contains q.2)).map
        (fun q => (p.1 ++ [q.1], q.2)))
      let piers := (steps.map (·.2)).eraseDups
      let next := piers.filterMap (fun p => lowest (steps.filter (fun q => decide (q.2 = p))))
      State.sidingPath n siding avoid room next (piers ++ seen) s

/-- The retreat path of member `n` (R295): the siding, the spans beyond the covered ones with the siding last, and the
siding's far pier. -/
def State.retreatPath (n : Nat) (s : State) : Option (Nat × List Nat × Nat) :=
  let r := s.routeOf n
  let cov := s.covered n
  match (s.rs n).report with
  | none => none
  | some rep =>
    match s.spanRec rep.span with
    | none => none
    | some g =>
      let back := cov.all (fun x => match s.spanRec x, r.spans.find? (fun p => decide (p.1 = x)) with
        | some h, some p => dirAllowed h (!p.2)
        | _, _ => false)
      if (s.rs n).state ≠ 1 ∨ g.retreat = 0xFFFF ∨ back = false then none
      else
        match cov.head?.bind (fun x => r.spans.find? (fun p => decide (p.1 = x))) with
        | none => none
        | some first =>
          (s.entryPier first).bind (fun pier =>
            (s.sidingPath n g.retreat cov 8 [([], pier)] [pier]).map (fun p => (g.retreat, p.1, p.2)))

end Sys2Proof.Machine
end

