-- ==== Sys2Proof/Machine/Work.lean ====
section
/-! DEFINITION. The dispatcher (R239–R266): queues and credit, descriptors, submissions, trigger rules, asks, selection,
affinity, the dispatch stage. Device times are in ms. -/

namespace Sys2Proof.Machine

/-- The implement targets of a descriptor as octets. -/
def targetOctets (ts : List Int) : List Octet := ((ts ++ [0, 0, 0]).take 3).flatMap (fun v => leBytes 2 (sbits 16 v))

/-- A descriptor as its 64 octets (Table 9-2). -/
def Desc.octets (d : Desc) : List Octet :=
  leBytes 4 d.task ++ leBytes 2 d.flow ++ leBytes 1 d.mask ++ leBytes 1 d.queue ++ leBytes 2 d.origin ++ leBytes 2 d.dest ++
  leBytes 1 d.impl ++ leBytes 1 d.bound ++ targetOctets d.targets ++ leBytes 4 d.payload ++ leBytes 1 d.flags ++
  leBytes 1 d.progress ++ leBytes 1 d.interruptions ++ leBytes 1 d.source ++ leBytes 2 d.number ++ leBytes 2 d.lastSession ++
  leBytes 4 d.submitted ++ padTo 24 d.host ++ leBytes 4 d.sequence

/-- The host's fields of a submitted descriptor (Table 9-2). -/
def descOf (b : List Octet) : Desc :=
  { task := getLe b 0 4, flow := getLe b 4 2, mask := getLe b 6 1, queue := getLe b 7 1, origin := getLe b 8 2
    dest := getLe b 10 2, impl := getLe b 12 1, bound := getLe b 13 1
    targets := [getLeS b 14 2, getLeS b 16 2, getLeS b 18 2], payload := getLe b 20 4, host := slice b 36 24 }

/-- Every service: each worker's task and retreat. -/
def State.services (s : State) : List (Nat × Service) :=
  s.fleet.dsp.workers.flatMap (fun p => p.2.task.toList.map (fun t => (p.1, t)) ++ p.2.retreat.toList.map (fun t => (p.1, t)))

/-- The QUEUE record of a queue: of the image in use, or for one removed while it holds items the partner's
(Table 3-29). -/
def State.queueGeo (q : Nat) (s : State) : Option QueueRec :=
  match s.queueRec q with
  | some r => some r
  | none => if (s.queue q).closing then ((s.cfg.partner.map (·.queues)).getD []).find? (fun r => decide (r.queue = q)) else none

/-- The capacity of a queue (Table 9-1). -/
def State.capacity (q : Nat) (s : State) : Nat :=
  if 28 ≤ q then (if q < 32 then 256 else 0) else (s.queueGeo q).elim 0 (fun r => 2 ^ r.capLog)

/-- Descriptors stored that are not holes (R240). -/
def Queue.depth (q : Queue) : Nat := (q.ring.filter (fun d => decide (d ≠ none))).length

/-- Tasks in service from a queue whose slots the read pointer has freed (R240). -/
def State.reserve (q : Nat) (s : State) : Nat := (s.services.filter (fun p => decide (p.2.desc.queue = q ∧ p.2.slot = none))).length

/-- Credit (R240): capacity minus occupancy minus reserve; 0 while the queue is closing. -/
def State.credit (q : Nat) (s : State) : Nat :=
  if (s.queue q).closing then 0 else s.capacity q - (s.queue q).ring.length - s.reserve q

/-- The resolution queue (R239). -/
def State.resolutionQueue (s : State) : Nat := ((s.recs (·.queues)).find? (fun r => bit r.flags 1)).elim 24 (·.queue)

/-- A service's slot freed when the read pointer has passed it. -/
def Service.pass (q rd : Nat) (t : Service) : Service :=
  if t.desc.queue = q ∧ (t.slot.map (fun a => decide (a < rd))).getD false = true then { t with slot := none } else t

/-- The read pointer moves past the holes that have reached it, and those slots are free (R240). -/
def State.passHoles (q : Nat) (s : State) : State :=
  let v := s.queue q
  let n := (v.ring.takeWhile (fun d => decide (d = none))).length
  if n = 0 then s
  else
    let s := s.setQueue q { v with ring := v.ring.drop n, rd := v.rd + n }
    { s with fleet.dsp.workers := Tab.mapVals {} (fun _ (w : Worker) =>
        { w with task := w.task.map (Service.pass q (v.rd + n)), retreat := w.retreat.map (Service.pass q (v.rd + n)) }) s.fleet.dsp.workers }

/-- A queue removed in a MIXED pair disappears when it is empty (Table 3-29). -/
def State.closeEmpty (q : Nat) (s : State) : State :=
  if (s.queue q).closing && decide ((s.queue q).depth = 0) then
    (s.setQueue q { s.queue q with closing := false }).tickReport 0x080E [(1, q)]
  else s

/-- A descriptor stored at the tail with its storage time and its sequence, which counts over the fleet queues (R242). -/
def State.storeDesc (d : Desc) (ms : Nat) (s : State) : State :=
  let v := s.queue d.queue
  let fleet := decide (d.queue < 28)
  let d := { d with submitted := ms % 2 ^ 32, sequence := if fleet then s.fleet.dsp.sequence else 0 }
  let s := s.setQueue d.queue { v with ring := v.ring ++ [some d] }
  { s with fleet.dsp.sequence := if fleet then (s.fleet.dsp.sequence + 1) % 2 ^ 32 else s.fleet.dsp.sequence }

/-- The stored descriptor at a position of a queue leaves a hole there. -/
def State.hole (q i : Nat) (s : State) : State :=
  let v := s.queue q
  (s.setQueue q { v with ring := v.ring.set i none }).passHoles q

/-- Every task stored or in service in the cell, which the fleet queues and the robots hold (R243, R264). -/
def State.tasks (s : State) : List Nat :=
  (s.fleet.dsp.queues.filter (fun p => decide (p.1 < 28))).flatMap (fun p => (p.2.ring.filterMap id).map (·.task)) ++
    (s.services.filter (fun p => decide (p.1 < 256))).map (fun p => p.2.desc.task)

/-- The next free value of bits 15:0 after `n` (R243). -/
def nextFree (used : List Nat) : Nat → Nat → Nat
  | 0, n => n % 65536
  | k + 1, n => if used.contains ((n + 1) % 65536) then nextFree used k (n + 1) else (n + 1) % 65536

/-- The low halves of every task's ID. -/
def State.taskLows (s : State) : List Nat := s.tasks.map (· % 65536)

/-- The worker's task is CONFIRMED or done by these uplinks (R256, R257): the presented task. -/
def Worker.presented (w : Worker) : Option Service := match w.retreat with | some t => some t | none => w.task

/-- A flow is in service: some worker has a task of it (R251). -/
def State.flowBusy (f : Nat) (s : State) : Bool := s.services.any (fun p => decide (p.2.desc.flow = f))

/-- The wait of a descriptor given at `ms`: gift time minus submitted time, of which Table 9-2 keeps the low 32 bits (Table 9-8). -/
def Desc.waited (ms : Nat) (d : Desc) : Nat := (ms % 2 ^ 32 + 2 ^ 32 - d.submitted) % 2 ^ 32

/-- The session's task is DONE (R256, R257): its slot and flow are free; a retreat gives the suspended task again. -/
def State.taskDone (n ms : Nat) (s : State) : State :=
  let w := s.wk n
  match w.retreat, w.task with
  | some r, _ =>
    let s := s.setWk n { w with retreat := none, suspended := false, doneNow := true
                                task := w.task.map (fun (t : Service) => { t with confirmed := false, given := ms }) }
    let s := (s.tickReport 0x0802 [(2, n), (4, r.desc.task), (4, ((ms - r.given) / 1000 : Nat))]).news (.done n)
    let s := s.updXs n (fun (x : ArbSess) => { x with cause9 := false, retreat := none })
    match w.task with
    | some t => (s.tickReport 0x0801 [(2, n), (4, t.desc.task), (1, t.desc.queue), (1, 0)]).news (.given n t.desc.queue (t.desc.waited ms) false false)
    | none => s
  | none, some t =>
    let s := s.setWk n { w with task := none, doneNow := true }
    let s := if t.desc.flow = 1023 then s else s.setFlow t.desc.flow { s.flow t.desc.flow with last := some n }
    (s.tickReport 0x0802 [(2, n), (4, t.desc.task), (4, ((ms - t.given) / 1000 : Nat))]).news (.done n)
  | none, none => s

/-- One accepted uplink as the dispatcher reads it (R256, R257): progress, confirmation, DONE, TASK_MISMATCH. -/
def State.retire (ms n : Nat) (r : Report) (s : State) : State :=
  let w := s.wk n
  let w := if r.ask then w else { w with progress := r.progress }
  match w.presented with
  | none => s.setWk n w
  | some t =>
    let named := decide (r.tail % 65536 = t.desc.task % 65536)
    let conf := t.confirmed || (!r.ask && named)
    let t' := { t with confirmed := conf }
    let w := match w.retreat with | some _ => { w with retreat := some t' } | none => { w with task := some t' }
    let s := s.setWk n w
    if bit r.state 4 then
      if (if r.ask then t.confirmed else named) then s.taskDone n ms
      else (s.tickReport 0x0804 [(1, n), (2, if r.ask then 0xFFFF else (r.tail % 65536 : Nat)), (4, t.desc.task)]).fleetEvent 0x0804
    else s

/-- A task returns to its queue with the interrupted flag (R240, R260): to its own slot while that is a hole, else
before the read pointer. -/
def State.putBack (t : Service) (progress : Nat) (s : State) : State :=
  let d := { t.desc with flags := setBit t.desc.flags 0, progress := progress, interruptions := min 255 (t.desc.interruptions + 1) }
  let v := s.queue d.queue
  match t.slot with
  | some a => s.setQueue d.queue { v with ring := v.ring.set (a - v.rd) (some d) }
  | none => s.setQueue d.queue { v with ring := some d :: v.ring, rd := v.rd - 1 }

/-- A task returns to the head of its queue with the interrupted flag (R263). A slot of its own that is still a hole closes up behind it, so that
occupancy stays, and the slots before that one move on by one. -/
def State.putHead (t : Service) (progress : Nat) (s : State) : State :=
  match t.slot with
  | none => s.putBack t progress
  | some a =>
    let d := { t.desc with flags := setBit t.desc.flags 0, progress := progress, interruptions := min 255 (t.desc.interruptions + 1) }
    let v := s.queue d.queue
    let move := fun (u : Service) => if u.desc.queue = d.queue then { u with slot := u.slot.map (fun b => if b < a then b + 1 else b) } else u
    let s := s.setQueue d.queue { v with ring := some d :: v.ring.eraseIdx (a - v.rd) }
    { s with fleet.dsp.workers := Tab.mapVals {} (fun _ (w : Worker) => { w with task := w.task.map move, retreat := w.retreat.map move }) s.fleet.dsp.workers }

/-- A retreat task of a closed session is discarded wherever it is (R253, R260). -/
def State.dropRetreats (n : Nat) (s : State) : State :=
  let q := s.resolutionQueue
  let s := s.each (List.range (s.queue q).ring.length).reverse (fun i s =>
    match ((s.queue q).ring[i]?).join with
    | some d => if bit d.flags 2 ∧ d.number = n then s.setQueue q { s.queue q with ring := (s.queue q).ring.set i none } else s
    | none => s)
  (s.passHoles q).updWk n (fun (w : Worker) => { w with retreat := none })

/-- The work of a closed session (R260, R261). -/
def State.returnWork (n : Nat) (s : State) : State :=
  let s := s.dropRetreats n
  let w := s.wk n
  let s := match w.task with
    | some t =>
      let s := (s.putBack t w.progress)
      let s := if t.desc.flow = 1023 then s
        else s.setFlow t.desc.flow { s.flow t.desc.flow with locked := some n, spans := (s.xs n).held }
      ((s.tickReport 0x0803 [(2, n), (4, t.desc.task), (1, w.progress), (1, 0)]).fleetEvent 0x0803).news .returned
    | none => s
  s.setWk n { lastMask := w.lastMask, confirmedTasks := w.confirmedTasks }

/-- The locks of flows whose closed session's last span the previous tick released (R261). -/
def State.releaseFlows (fs : List (Nat × Flow)) (s : State) : State :=
  s.each fs fun p s =>
    match (s.flow p.1).locked with
    | some n =>
      let orphan := ((Tab.get none s.fleet.xarb.orphans n).map (·.spans)).getD []
      let left := (s.flow p.1).spans.filter (fun x => orphan.contains x || (s.xs n).held.contains x)
      if left = [] then
        (s.setFlow p.1 { s.flow p.1 with locked := none, spans := [] }).tickReport 0x080D [(2, p.1), (1, n)]
      else s.setFlow p.1 { s.flow p.1 with spans := left }
    | none => s

/-- A pier number of a descriptor is known or none. -/
def State.pierOk (p : Nat) (s : State) : Bool := decide (p = 0xFFFF) || decide (s.pierRec p ≠ none)

/-- The fields of a submitted descriptor keep to Table 9-2. -/
def State.descOk (b : List Octet) (s : State) : Bool :=
  let d := descOf b
  decide (d.task < 2 ^ 31) && decide (d.flow < 1024) && decide (0 < d.mask ∧ d.mask < 16) && decide (d.queue < 28) &&
  s.pierOk d.origin && s.pierOk d.dest && decide (d.impl < 8) && decide (d.bound ≠ 0xFE) &&
  (slice b 24 12).all (fun o => decide (o = 0#8)) && (slice b 60 4).all (fun o => decide (o = 0#8))

/-- The outcome of one submitted descriptor (Table 9-3). -/
def State.submitOutcome (b : List Octet) (s : State) : Nat :=
  let d := descOf b
  if !s.isLead then 1
  else if !s.descOk b then 2
  else if s.queueRec d.queue = none ∨ (s.queue d.queue).closing = true then 3
  else if s.tasks.contains d.task then 4
  else if s.taskLows.contains (d.task % 65536) then 7
  else if s.credit d.queue = 0 then 5
  else 0

/-- One descriptor of a submission is stored or refused; the reply's four octets are its outcome, queue and credit. -/
def State.submit1 (host ms : Nat) (b : List Octet) (s : State) : List Octet × State :=
  let d := descOf b
  let o := s.submitOutcome b
  let s := if o = 0 then (s.storeDesc { d with source := 0, number := host } ms).news .accepted
    else
      let s := s.news .refused
      if o = 5 then (s.tickReport 0x0805 [(1, d.queue), (4, d.task)]).fleetEvent 0x0805 else s
  (leBytes 1 o ++ leBytes 1 d.queue ++ leBytes 2 (s.credit d.queue), s)

/-- A whole submission with the octets of its reply after the tick (Table 18-5). -/
def State.submitAll (host ms : Nat) : List (List Octet) → State → List Octet × State
  | [], s => ([], s)
  | b :: bs, s =>
    let r := s.submit1 host ms b
    let t := State.submitAll host ms bs r.2
    (r.1 ++ t.1, t.2)

/-- A request taken by a tick's snapshot waits for its publication (R483). -/
def State.await (f : ChpFrame) (kind : Nat) (tick : Nat) (outcome : List Octet) (s : State) : State :=
  { s with host.awaiting := s.host.awaiting ++ [{ frame := f, kind := kind, refusal := 0, tick := tick, outcome := outcome }] }

/-- The submissions of a snapshot in order of receipt (R244). -/
def State.submissions (ms tick : Nat) (s : State) : State :=
  s.each s.inp.submissions fun p s =>
    let r := State.submitAll p.host ms p.tasks s
    r.2.await p.frame 0x0020 tick (leBytes 1 p.tasks.length ++ [0#8, 0#8] ++ r.1)

/-- An item meets a rule's comparison (R246); `old` is the last value of the item's quantity and sensor. -/
def meets (r : TriggerRec) (v : Int) (old : Option Int) : Bool :=
  match r.comparison with
  | 0 => decide (r.threshold < v)
  | 1 => decide (v < r.threshold)
  | 2 => decide (v = r.threshold)
  | _ => match old with | some o => decide (o ≠ v) | none => false

/-- The last value of a quantity and sensor from a node. -/
def NodeState.value (a : NodeState) (q i : Nat) : Option Int :=
  (a.values.find? (fun x => decide (x.quantity = q ∧ x.sensor = i))).map (·.value)

/-- A rule that fires builds its descriptor and stores, coalesces or drops it (R247). -/
def State.fire (ms a : Nat) (r : TriggerRec) (it : NodeItem) (s : State) : State :=
  let key := r.rule * 4096 + a
  let pier := (s.nodeRec a).elim 0xFFFF (·.pier)
  let flow := if r.flow = 0xFFFF then ((s.pierRec pier).map (·.flow)).getD 1023 else r.flow
  let flow := if 1023 < flow then 1023 else flow
  let fired := fun (s : State) => { s with fleet.dsp.triggers := Tab.set {} s.fleet.dsp.triggers key { fired := true, at_ := ms } }
  if (s.queue r.queue).ring.any (fun d => (d.map (fun d => decide (d.source = 1 ∧ d.number = r.rule ∧ d.payload / 65536 = a))).getD false) then
    (fired s).news .coalesced
  else if s.credit r.queue = 0 then (s.tickReport 0x0807 [(1, r.rule), (2, a), (1, r.queue)]).fleetEvent 0x0807
  else
    let n := nextFree s.taskLows 16384 (Tab.get 0xFFFF s.fleet.dsp.ruleN r.rule)
    let d : Desc := {
      task := 0x80000000 + r.rule * 65536 + n, flow := flow, mask := 0x0F, queue := r.queue, origin := r.origin
      dest := if r.dest = 0xFFFF then pier else r.dest, impl := 0, bound := 0xFF, targets := [0, 0, 0]
      payload := a * 65536 + it.quantity * 256 + it.sensor, flags := 2, source := 1, number := r.rule
      host := padTo 24 (leBytes 4 (sbits 32 it.value)) }
    let s := (fired s).storeDesc d ms
    let s := { s with fleet.dsp.ruleN := Tab.set 0xFFFF s.fleet.dsp.ruleN r.rule n }
    (s.tickReport 0x0806 [(1, r.rule), (2, a), (4, d.task)]).news .fired

/-- One rule at one report of a node (R246): re-arming, then evaluation. -/
def State.rule1 (ms a : Nat) (items : List NodeItem) (r : TriggerRec) (s : State) : State :=
  if a < r.firstNode ∨ r.lastNode < a then s
  else
    let key := r.rule * 4096 + a
    let f := Tab.get {} s.fleet.dsp.triggers key
    let mine := items.filter (fun x => decide (x.quantity = r.quantity))
    let hit := mine.find? (fun x => meets r x.value ((s.node a).value x.quantity x.sensor))
    let f := if f.fired ∧ f.at_ + 1000 * r.holdoff ≤ ms ∧ (3 ≤ r.comparison ∨ (mine ≠ [] ∧ hit = none)) then
        { f with fired := false } else f
    let s := { s with fleet.dsp.triggers := Tab.set {} s.fleet.dsp.triggers key f }
    match hit with
    | some it => if f.fired then s else s.fire ms a r it
    | none => s

/-- An accepted NODE_REPORT before the rules; its values are then the last ones (R246). -/
def State.triggers (ms : Nat) (s : State) : State :=
  s.each s.inp.reports fun p s =>
    let s := s.each (s.recs (·.triggers)) (State.rule1 ms p.1 p.2.1)
    let a := s.node p.1
    let vals := p.2.1.foldl (fun (vs : List NodeItem) x =>
      vs.filter (fun y => !decide (y.quantity = x.quantity ∧ y.sensor = x.sensor)) ++ [x]) a.values
    s.setNode p.1 { a with values := vals }

/-- The charging queues of the image (Table 3-14). -/
def State.chargingMask (s : State) : Nat := (s.recs (·.queues)).foldl (fun m r => if bit r.flags 0 then setBit m r.queue else m) 0

/-- The effective mask of an ask (R248). -/
def State.effMask (n raw : Nat) (s : State) : Nat :=
  let own := (((s.robotRec (s.rs n).identity).map (·.mask)).getD 0)
  let m := (if raw = 0 then own else raw) &&& own
  if s.fleet.dsp.energyMask then m &&& (m ^^^ (m &&& s.chargingMask)) else m

/-- An uplink parks, replaces or ends an ask (R248). -/
def State.park (tick n : Nat) (r : Report) (s : State) : State :=
  let w := s.wk n
  if !r.ask then s.setWk n { w with ask := none }
  else if w.task ≠ none ∨ w.retreat ≠ none then s
  else s.setWk n { w with ask := some (r.tail % 2 ^ 28, (w.ask.map (·.2)).getD tick), lastMask := s.effMask n (r.tail % 2 ^ 28) }

/-- The retreat tasks stored go to their sessions (R253). -/
def State.giveRetreats (ms : Nat) (s : State) : State :=
  let q := s.resolutionQueue
  s.each (((s.queue q).ring.filterMap id).filter (fun d => bit d.flags 2)) fun d s =>
    let v := s.queue q
    match v.ring.findIdx? (fun e => decide (e = some d)) with
    | none => s
    | some i =>
      let n := d.number
      let w := s.wk n
      if (s.rs n).state = 0 then s
      else
        let g : Gift := { worker := n, queue := q, task := d.task, before := w, flow := 1023, flowBefore := {} }
        let s := s.setWk n { w with
          retreat := some { desc := { d with lastSession := n }, slot := some (v.rd + i), given := ms }
          suspended := decide (w.task ≠ none)
          task := w.task.map (fun (t : Service) => { t with confirmed := false }) }
        let s := s.hole q i
        let s := { s with tick := s.tick.map (fun (t : TickOut) => { t with gifts := t.gifts ++ [g] }) }
        (s.tickReport 0x0801 [(2, n), (4, d.task), (1, q), (1, 0)]).news (.given n q (d.waited ms) false false)

/-- Worker `u` is expected to ask (R252). -/
def State.expected (u ms window : Nat) (s : State) : Bool :=
  let w := s.wk u
  decide ((s.rs u).state = 1) && (w.doneNow ||
    match w.task with
    | some t => t.confirmed && decide (1 ≤ w.progress ∧ w.progress ≤ 99 ∧ (ms - t.given) * (100 - w.progress) ≤ window * w.progress)
    | none => false)

/-- An affinity hold keeps a descriptor for the flow's last worker (R252). -/
def State.affHolds (d : Desc) (w ms : Nat) (r : QueueRec) (s : State) : Bool :=
  let f := s.flow d.flow
  match f.last with
  | some u =>
    decide (d.flow ≠ 1023) && decide (u ≠ w) && decide (r.affWait ≠ 0) && bit (s.wk u).lastMask r.queue &&
    bit d.mask (s.xs u).cls && decide (d.bound = 0xFF ∨ d.bound = u) &&
    (decide ((s.wk u).ask ≠ none) || s.expected u ms r.affWindow) &&
    decide (ms - f.holdSince.getD ms < r.affWait)
  | none => false

/-- A descriptor is eligible but for affinity (R251). -/
def State.fits (d : Desc) (w : Nat) (s : State) : Bool :=
  (decide (d.flow = 1023) || (!s.flowBusy d.flow && decide ((s.flow d.flow).locked = none))) &&
  bit d.mask (s.xs w).cls && decide (d.bound = 0xFF ∨ d.bound = w)

/-- The stored descriptors of a queue with their positions in the ring, from the head. -/
def Queue.stored (q : Queue) : List (Nat × Desc) := (enum q.ring).filterMap (fun p => p.2.map (fun d => (p.1, d)))

/-- The selection order (R251): the interrupted ones in ring order, then the others. -/
def selectionOrder (l : List (Nat × Desc)) : List (Nat × Desc) :=
  l.filter (fun p => bit p.2.flags 0) ++ l.filter (fun p => !bit p.2.flags 0)

/-- What a worker finds in a queue: the first eligible descriptor, the flows whose hold made it skip one, and whether
more were stored than it examined. -/
structure Found where
  rank : Nat
  queue : Nat
  hit : Option (Nat × Desc)
  skipped : List Nat
  beyond : Bool
deriving DecidableEq, Repr

/-- The scan of a selection order: the first eligible one, and the flows skipped on the way. -/
def State.scan (w ms : Nat) (r : QueueRec) : List (Nat × Desc) → State → Option (Nat × Desc) × List Nat
  | [], _ => (none, [])
  | p :: ps, s =>
    if s.fits p.2 w then
      if s.affHolds p.2 w ms r then
        let t := State.scan w ms r ps s
        (t.1, p.2.flow :: t.2)
      else (some p, [])
    else State.scan w ms r ps s

/-- What worker `w` finds in queue `q`. -/
def State.find (w ms : Nat) (r : QueueRec) (s : State) : Found :=
  let all := (s.queue r.queue).stored
  let t := State.scan w ms r (selectionOrder (all.take 64)) s
  { rank := r.priority, queue := r.queue, hit := t.1, skipped := t.2, beyond := decide (64 < all.length) }

/-- The order in which queues are considered (R251). -/
def Found.before (a b : Found) : Bool :=
  decide (b.rank < a.rank) || (decide (a.rank = b.rank) &&
    match a.hit, b.hit with
    | some x, some y => decide (x.2.sequence < y.2.sequence)
    | some _, none => true
    | none, _ => false)

/-- A descriptor is given to a worker (R251, R252, R256). -/
def State.give (w ms : Nat) (q i : Nat) (d : Desc) (s : State) : State :=
  let v := s.queue q
  let f := s.flow d.flow
  let wait := (s.queueGeo q).elim 0 (·.affWait)
  let spent := (f.holdSince.map (fun t => decide (t + wait ≤ ms))).getD false
  let held := decide (f.last = some w) && (f.holdSince.map (fun t => decide (ms < t + wait))).getD false
  let wo := s.wk w
  let g : Gift := { worker := w, queue := q, task := d.task, before := wo, flow := d.flow, flowBefore := f }
  let s := s.setWk w { wo with ask := none, task := some { desc := { d with lastSession := w }, slot := some (v.rd + i), given := ms }
                               confirmedTasks := wo.confirmedTasks + 1 }
  let s := if d.flow = 1023 then s else s.setFlow d.flow { f with last := some w, holdSince := none }
  let s := (s.hole q i).closeEmpty q
  let s := { s with tick := s.tick.map (fun (t : TickOut) => { t with gifts := t.gifts ++ [g] }) }
  (s.tickReport 0x0801 [(2, w), (4, d.task), (1, q), (1, flag held)]).news
    (.given w q (d.waited ms) held (decide (d.flow ≠ 1023) && spent))

/-- One parked ask is served (R250, R251). -/
def State.serve (ms w : Nat) (s : State) : State :=
  match (s.wk w).ask with
  | none => s
  | some (raw, _) =>
    let m := s.effMask w raw
    let found := sortBy Found.before (((List.range 28).filter (bit m)).filterMap (fun q => (s.queueGeo q).map (fun r => s.find w ms r)))
    let tried := found.takeWhile (fun (f : Found) => decide (f.hit = none))
    let hit := (found.drop tried.length).head?
    let s := s.each (tried.filter (·.beyond)) (fun _ s => s.news .lookahead)
    let s := s.each ((tried ++ hit.toList).flatMap (·.skipped)) (fun f s =>
      if (s.flow f).holdSince = none then s.setFlow f { s.flow f with holdSince := some ms } else s)
    match hit.bind (fun f => f.hit.map (fun p => (f.queue, p))) with
    | some (q, i, d) => s.give w ms q i d
    | none => s

/-- The order in which parked asks are served (R250). -/
def State.askOrder (s : State) : List Nat :=
  let l := (s.fleet.dsp.workers.filter (fun p => decide (p.1 < 256) && decide (p.2.ask ≠ none))).map
    (fun p => (p.1, (s.xs p.1).cls, (p.2.ask.map (·.2)).getD 0, (p.1 + 256 - s.fleet.dsp.pointer) % 256))
  (sortBy (fun (a b : Nat × Nat × Nat × Nat) =>
    decide (a.2.1 < b.2.1 ∨ (a.2.1 = b.2.1 ∧ (a.2.2.1 < b.2.2.1 ∨ (a.2.2.1 = b.2.2.1 ∧ a.2.2.2 < b.2.2.2))))) l).map (·.1)

/-- The energy-budget decision at a whole second (R265, R266). -/
def State.energyStage (s : State) : State :=
  match (s.cfg.image.bind (·.budget)) with
  | none => s
  | some b =>
    if !s.freg.energyValid then
      if s.freg.energyNoted then s
      else (({ s with freg.energyNoted := true }).tickReport 0x080C [(1, b.point)])
    else
      let l := s.freg.energy.take b.window
      let s := { s with freg.energyNoted := false }
      if l = [] then s
      else
        let avg : Int := l.foldl (· + ·) 0 / l.length
        if (b.cap : Int) < avg ∧ s.fleet.dsp.energyMask = false then
          (({ s with fleet.dsp.energyMask := true }).tickReport 0x080A [(4, avg), (4, b.cap)]).fleetEvent 0x080A
        else if avg < (b.cap : Int) - b.hysteresis ∧ s.fleet.dsp.energyMask = true then
          ({ s with fleet.dsp.energyMask := false }).tickReport 0x080B [(4, avg)]
        else s

/-- The dispatch stage of the tick numbered `tick` that opens at `ms` (R254). -/
def State.dispatchStage (tick ms : Nat) (s : State) : State :=
  let old := s.fleet.dsp.flows.filter (fun p => decide (p.2.locked ≠ none))
  let s := { s with fleet.dsp.workers := Tab.mapVals {} (fun _ (w : Worker) => { w with doneNow := false }) s.fleet.dsp.workers }
  let s := s.when (decide (tick % 100 = 0)) State.energyStage
  let s := s.each s.inp.reported (fun p s => s.retire ms p.1 p.2)
  let s := s.each s.inp.closed (fun p s => s.returnWork p.1)
  let s := s.releaseFlows old
  let s := s.submissions ms tick
  let s := s.triggers ms
  let s := s.each s.inp.reported (fun p s => s.park tick p.1 p.2)
  let s := s.each s.openSessions (fun n s => if (s.rs n).state = 2 then s.updWk n (fun (w : Worker) => { w with ask := none }) else s)
  let s := s.giveRetreats ms
  let s := s.each s.askOrder (State.serve ms)
  { s with fleet.dsp.pointer := (s.fleet.dsp.pointer + 1) % 256 }

end Sys2Proof.Machine
end

