-- ==== Sys2Proof/Machine/Cores.lean ====
section
/-! DEFINITION. Core work (R249, R256, R263), lost descriptors (R268), flushes (R267), wait and worker statistics, the
descriptor view (R271). -/

namespace Sys2Proof.Machine

/-- A worker's busy time begins (Table 9-8). -/
def State.busyOn (k ms : Nat) (s : State) : State :=
  { s with freg.works := Tab.upd {} s.freg.works k (fun (w : WorkStat) => if w.since.isSome then w else { w with since := some ms }) }

/-- A worker's busy time ends; what lies more than 60 s back is forgotten. -/
def State.busyOff (k ms : Nat) (s : State) : State :=
  { s with freg.works := Tab.upd {} s.freg.works k (fun (w : WorkStat) =>
      match w.since with
      | some t => { w with since := none, spans := (t, ms) :: w.spans.filter (fun p => decide (ms < p.2 + 60000)) }
      | none => w) }

/-- The bin of a wait in the histogram of a queue (Table 9-8). -/
def waitBin (ms : Nat) : Nat := ((List.range 15).filter (fun b => decide (100 * 2 ^ b ≤ ms))).length

/-- A gift in the statistics of its queue and worker. -/
def State.countGift (k q wait : Nat) (s : State) : State :=
  { s with
    freg.waits := Tab.upd {} s.freg.waits q (fun (w : WaitStat) => { w with
      count := w.count + 1, sum := w.sum + wait, max := max w.max wait
      bins := (w.bins ++ List.replicate (16 - w.bins.length) 0).mapIdx (fun b n => if b = waitBin wait then sat 16 (n + 1) else n) })
    freg.works := Tab.upd {} s.freg.works k (fun (w : WorkStat) => { w with given := sat 16 (w.given + 1) }) }

/-- The task of core worker `k` returns to the head of its queue (R263); causes: 1 FREEZE, 2 ECC (Table 9-7, log 112). -/
def State.returnCore (k cause : Nat) (s : State) : State :=
  let w := s.wk k
  match w.task with
  | some t =>
    let s := (s.setWk k { w with task := none }).putHead t w.progress
    ((s.reportNow 0x0803 [(2, k), (4, t.desc.task), (1, w.progress), (1, cause)]).fleetEvent 0x0803)
  | none => s

/-- A core that freezes: its ask is cancelled, its work returns (R22, R263). -/
def State.freezeCore (n : Nat) (s : State) : State :=
  ((s.updWk (256 + n) (fun (w : Worker) => { w with ask := none })).returnCore (256 + n) 1).busyOff (256 + n) (msOf s.now)

/-- A core asks with a mask over queues 28–31 and is given the first eligible descriptor, queues in descending number
(R239, R249). -/
def State.serveCore (n : Nat) (s : State) : State :=
  let k := 256 + n
  match (s.wk k).ask with
  | none => s
  | some (m, _) =>
    let ms := msOf s.now
    let pick := fun (q : Nat) => ((selectionOrder ((s.queue q).stored.take 64)).find? (fun p =>
      (decide (p.2.flow = 1023) || (!s.flowBusy p.2.flow && decide ((s.flow p.2.flow).locked = none))) &&
      decide (p.2.bound = 0xFF ∨ p.2.bound = k))).map (fun p => (q, p))
    match ([31, 30, 29, 28].filter (bit m)).findSome? pick with
    | none => s
    | some (q, i, d) =>
      let v := s.queue q
      let s := s.updWk k (fun (w : Worker) => { w with
        ask := none, task := some { desc := { d with lastSession := k }, slot := some (v.rd + i), given := ms }, progress := 0xFF })
      let s := ((s.hole q i).countGift k q (d.waited ms)).busyOn k ms
      let s := if s.clk.cores.getLsbD n then s else s.wakeIn domCore (if s.clk.corePll then 40 else domStart domCore)
      { s with clk.cores := s.clk.cores ||| BitVec.ofNat 8 (2 ^ n), clk.corePll := true }

/-- A core halts in its ask: its clock is gated, and with the last core the core PLL stops (Table 1-6). -/
def State.haltCore (n : Nat) (s : State) : State :=
  let running := s.clk.cores &&& ~~~(BitVec.ofNat 8 (2 ^ n))
  { s with clk.cores := running, clk.corePll := decide (running ≠ 0#8) }

/-- CORE_ASK (R249): a core asks with its mask, bit 0 for queue 28; with nothing eligible it halts in its ask. -/
def execCoreAsk (core : Fin 8) (mask : BitVec 4) : State → Host.Outcome State Fault Refusal :=
  done fun s =>
    let k := 256 + core.val
    if !s.powered || s.tres.frozen.getLsbD core.val || (s.wk k).task.isSome then s
    else
      let s := s.updWk k (fun (w : Worker) => { w with ask := some (mask.toNat * 2 ^ 28, tickOf s.now), lastMask := mask.toNat * 2 ^ 28 })
      let s := s.serveCore core.val
      if (s.wk k).ask.isSome then
        (s.busyOff k (msOf s.now)).haltCore core.val
      else s

/-- One core looks at its queues for the descriptor that came; the first that takes it is the last that looks (R249). -/
def State.wakeCore (acc : Bool × State) (n : Nat) : Bool × State :=
  if acc.1 then acc else (((acc.2.serveCore n).wk (256 + n)).ask.isNone, acc.2.serveCore n)

/-- The halted cores that wait for a queue look in turn, lowest number first. -/
def State.wakeCores (q : Nat) (s : State) : State :=
  (((List.range 8).filter (fun n => (((s.wk (256 + n)).ask).map (fun a => bit a.1 q)).getD false)).foldl State.wakeCore (false, s)).2

/-- CORE_DESCRIPTOR_ARRIVE (R249): firmware stores a descriptor in a core queue; the lowest-numbered halted core that can
take it wakes. -/
def execCoreDescriptorArrive (queue : Fin 4) (descriptor : List Octet) : State → Host.Outcome State Fault Refusal :=
  done fun s =>
    let q := 28 + queue.val
    if !s.powered ∨ s.credit q = 0 then s
    else (s.storeDesc { descOf (padTo 64 descriptor) with queue := q } (msOf s.now)).wakeCores q

/-- CORE_TASK_COMPLETE (R256): firmware completes a core's task; its slot and flow are free. -/
def execCoreTaskComplete (core : Fin 8) : State → Host.Outcome State Fault Refusal :=
  done fun s =>
    let k := 256 + core.val
    match (s.wk k).task with
    | some t =>
      let s := (s.whenReady domCore).updWk k (fun (w : Worker) => { w with task := none })
      if t.desc.flow = 1023 then s else s.setFlow t.desc.flow { s.flow t.desc.flow with last := some k }
    | none => s

/-- A stored descriptor is lost to an uncorrectable error (R268): its slot becomes a hole. `known` says that the word at
offsets 0–7 survives. -/
def State.discardDesc (q i : Nat) (known : Bool) (s : State) : State :=
  match ((s.queue q).ring[i]?).join with
  | some d =>
    let s := (s.hole q i).closeEmpty q
    let s := { s with
      freg.discarded := if q < 28 then incr s.freg.discarded else s.freg.discarded
      freg.waits := Tab.upd {} s.freg.waits q (fun (w : WaitStat) => { w with discarded := sat 16 (w.discarded + 1) }) }
    s.fleetReport 0x0808 [(1, q), (4, if known then d.task else 0xFFFFFFFF)]
  | none => s

/-- A gift of the tick in progress, not yet committed, is withdrawn (R267): the worker's ask stays parked. -/
def State.withdraw (g : Gift) (s : State) : State :=
  let s := s.setWk g.worker g.before
  let s := if g.flow = 1023 then s else s.setFlow g.flow g.flowBefore
  match s.tick with
  | some t => { s with tick := some { t with
      gifts := t.gifts.filter (fun h => !decide (h.worker = g.worker ∧ h.task = g.task))
      news := t.news.filter (fun n => match n with | .given w _ _ _ _ => !decide (w = g.worker) | _ => true)
      records := t.records.filter (fun r => !decide (r.1 = 0x0801 ∧ r.2 = (((2, (g.worker : Int)) :: (4, (g.task : Int)) :: r.2.drop 2) : List (Nat × Int)))) } }
  | none => s

/-- One queue is flushed (R267); `cut` says that a write was in progress. -/
def State.flushQueue (q : Nat) (s : State) : State :=
  if s.queueGeo q = none then s
  else
    let early := (s.tick.map (fun t => (t.gifts.filter (fun g => decide (g.queue = q)),
      decide (s.now < 10 * perMs * t.tick + 7 * perMs)))).getD ([], false)
    let gone := if early.2 then early.1 else []
    let s := s.each gone State.withdraw
    let v := s.queue q
    let s := s.setQueue q { v with ring := [], rd := v.rd + v.ring.length }
    let s := { s with fleet.dsp.workers := Tab.mapVals {} (fun _ (w : Worker) =>
        { w with task := w.task.map (Service.pass q (v.rd + v.ring.length)), retreat := w.retreat.map (Service.pass q (v.rd + v.ring.length)) }) s.fleet.dsp.workers }
    let s := s.fleetReport 0x0809 [(1, q), (4, (v.depth + gone.length : Nat)), (1, 0)]
    if v.closing then (s.setQueue q { s.queue q with closing := false }).report 0x080E [(1, q)] else s

/-- A write of DSP_FLUSH at the lead (R267). -/
def State.writeFlush (v : Nat) (s : State) : State := s.each (onesBelow 28 v) State.flushQueue

/-- DSP_FLUSH (R267). -/
def execDspFlush (value : Word) : State → Host.Outcome State Fault Refusal :=
  done fun s => if s.isLead then s.writeFlush value.toNat else s

/-- A write of DSP_STAT_CLR (R271). -/
def State.clearWaits (s : State) : State :=
  { s with freg.waits := Tab.mapVals {} (fun _ (w : WaitStat) => { w with count := 0, sum := 0, max := 0, bins := [] }) s.freg.waits }

/-- DSP_STAT_CLR (R271). -/
def execDspStatClr : State → Host.Outcome State Fault Refusal :=
  done fun s => if s.powered then s.clearWaits else s

/-- The published queue `q`: for a core queue the queue itself. -/
def State.shownQueue (q : Nat) (s : State) : Queue := if q < 28 then Tab.get {} s.pub.dsp.queues q else s.queue q

/-- A write of DSP_PEEK_SEL (R271); with LATCH the selected descriptor is copied. -/
def State.writePeekSel (v : Nat) (s : State) : State :=
  let s := { s with freg.peekQueue := bits v 0 5, freg.peekIndex := bits v 16 12 }
  if bit v 31 then
    let q := s.shownQueue s.freg.peekQueue
    match ((selectionOrder q.stored)[s.freg.peekIndex]?).map (·.2) with
    | some d => { s with freg.peekValid := true, freg.peekDepth := q.depth, freg.peek := d.octets }
    | none => { s with freg.peekValid := false, freg.peekDepth := q.depth, freg.peek := [] }
  else s

/-- PEEK_LATCH (R268, R271): LATCH of DSP_PEEK_SEL; `bad` says that the read meets an uncorrectable error, and whether the
word at offsets 0–7 survives. -/
def execPeekLatch (queue : Fin 32) (index : Fin 4096) (bad : Option Bool) : State → Host.Outcome State Fault Refusal :=
  done fun s =>
    if !s.powered then s
    else
      let i := ((selectionOrder (s.queue queue.val).stored)[index.val]?).map (·.1)
      let v := queue.val + 65536 * index.val + 0x80000000
      match bad, i with
      | some known, some i =>
        let s := s.discardDesc queue.val i known
        { s with freg.peekQueue := queue.val, freg.peekIndex := index.val, freg.peekValid := false, freg.peek := []
                 freg.peekDepth := (s.shownQueue queue.val).depth }
      | _, _ => s.writePeekSel v

end Sys2Proof.Machine
end

