-- ==== Sys2Proof/Machine/Track.lean ====
section
/-! DEFINITION. The tracking channels (R116–R128, R139, R140): taps and metrics of a coherent interval, lock,
synchronisation, coast, slips, half cycles, reacquisition, channel configuration. -/

namespace Sys2Proof.Machine

/-- A TRK event latched. -/
def State.trkEvent (n : Nat) (s : State) : State := { s with trk.events := s.trk.events ||| BitVec.ofNat 32 (2 ^ n) }

/-- The power of a complex sum. -/
def power (z : Int × Int) : Nat := (z.1 * z.1 + z.2 * z.2).toNat

/-- The code discriminator's output in 2^-20 chip (Table 5-2). -/
def codeDisc (cfg : ChanCfg) (t : TapSums) : Int :=
  let sp : Int := cfg.spacing
  let e := power t.early
  let l := power t.late
  let p := power t.prompt
  match cfg.disc with
  | 0 => if e + l = 0 then 0 else ((e : Int) - l) * 2 ^ 20 * (128 - sp) / (((e + l : Nat) : Int) * 128)
  | 1 => if p = 0 then 0 else
      ((t.early.1 - t.late.1) * t.prompt.1 + (t.early.2 - t.late.2) * t.prompt.2) * 2 ^ 20 * sp / ((p : Int) * 128)
  | _ => if p = 0 then 0 else
      (2 * ((isqrt e : Int) - isqrt l) - ((isqrt (power t.ve) : Int) - isqrt (power t.vl))) * 2 ^ 20 * sp / ((isqrt p : Int) * 128)

/-- The newest entries of a window that together last at most `ms`; `len` is the length of an entry in ms. -/
def takeMs {α : Type} (len : α → Nat) : Nat → List α → List α
  | _, [] => []
  | ms, e :: es => if len e ≤ ms ∧ len e ≠ 0 then e :: takeMs len (ms - len e) es else []

/-- The C/N0 of a window in 0.1 dB-Hz (R126); with no power in the noise tap it reads 1,023 (DESIGN CHOICE, log 164). -/
def cn0Of (w : List (Nat × Nat × Nat)) (coh : Nat) : Nat :=
  let p := w.foldl (fun a e => a + e.1) 0
  let n := w.foldl (fun a e => a + e.2.1) 0
  if p ≤ n then 0 else if n = 0 then 1023 else deciBel ((p - n) * 1000) (n * max 1 coh)

/-- The mean of M over a window (R120). -/
def mpOf (w : List (Int × Nat)) : Int :=
  if w.isEmpty then 0 else w.foldl (fun a e => a + e.1) 0 / (w.length : Int)

/-! ### The taps (R116–R118) -/

/-- The sample rate of a band in kS/s (Table 4-4). -/
def bandRate (band : Nat) : Nat := if band = 1 then 32000 else 64000

/-- The component that taps 0–4 follow (Table 5-3): 0 data, 1 pilot, 2 CL. -/
def Channel.codeComp (ch : Channel) : Nat :=
  if dataOnly ch.sig.signal || ch.onData then 0 else if hasCl ch.sig.signal then 2 else 1

/-- The whole chips of the code component's period: those of CL once the channel is on it, otherwise of the primary period. -/
def Channel.compChips (ch : Channel) : Nat := if ch.codeComp = 2 then 767250 else max 1 (periodChips ch.sig.signal)

/-- The chip, as ±1, of a component's replica at a code position in 2^-32 chip; after synchronisation without its secondary code (R122). -/
def Channel.replica (ch : Channel) (comp : Nat) (pos : Int) : Int :=
  let g := ch.sig
  let n := max 1 (periodChips g.signal)
  let at_ : Int := pos / 2 ^ 32
  let len := if comp = 2 then 767250 else n
  let chip := (at_ % (len : Int)).toNat
  let v := Config.codeChip g.system g.sv g.k g.signal comp chip
  let w := decide (ch.spanMs ≠ 0 ∧ secondaryLen g.signal ≠ 0 ∧ comp ≠ 3) &&
    Config.secondaryChip g.system g.sv g.signal comp (at_ / (n : Int) % ((max 1 (secondaryLen g.signal) : Nat) : Int)).toNat
  if v != w then -1 else 1

/-- The sum of one tap over the samples of an interval: each sample, unless it is blank, mixed with the carrier replica and correlated with the
component's code `offset`, in 1/1,024 chip, from the prompt (R116, R118, R96). -/
def Channel.tap (ch : Channel) (samples : List Sample) (comp : Nat) (offset : Int) : Int × Int :=
  let rate : Int := bandRate (sigRow ch.sig.signal).band
  let f := (carrierOf ch.sig - bandLo (sigRow ch.sig.signal).band) * 500000 + ch.doppler
  (enum samples).foldl (fun acc p =>
    if p.2.blank then acc
    else
      let c := Config.carrierReplica (BitVec.ofInt 32 (ch.carrPhase + f * p.1 * 2 ^ 32 / (1000000 * rate)))
      let r := ch.replica comp (ch.codePhase + ch.chipRate * p.1 * 2 ^ 32 / (10 ^ 9 * rate) + offset * 2 ^ 22)
      (acc.1 + r * (p.2.i * c.1 + p.2.q * c.2), acc.2 + r * (p.2.q * c.1 - p.2.i * c.2))) (0, 0)

/-- The seven taps of Table 5-1 over the samples of a coherent interval. Tap 5 is the data prompt, or the noise tap on a signal whose taps 0–4
are on the data of two components, or gated and 0; tap 6 is the noise tap, the pilot prompt, or before synchronisation of L2C the CL phase
it has stepped to (R117, R122). -/
def Channel.taps (ch : Channel) (samples : List Sample) : TapSums :=
  let comp := ch.codeComp
  let e : Int := 8 * ch.cfg.spacing
  let v : Int := 8 * ch.cfg.vspacing
  let cl : Int := ((ch.clStep % 75 + ch.clStep) % 75 * 10230 * 1024 : Nat)
  { ve := ch.tap samples comp (-v), early := ch.tap samples comp (-e), prompt := ch.tap samples comp 0
    late := ch.tap samples comp e, vl := ch.tap samples comp v
    dataPrompt := if dataOnly ch.sig.signal then (0, 0) else if ch.onData then ch.tap samples 3 0 else ch.tap samples 0 0
    pilotPrompt := if ch.noiseTap then ch.tap samples 3 0
      else if hasCl ch.sig.signal then ch.tap samples 2 (if ch.spanMs = 0 then cl else 0) else ch.tap samples 1 0 }

/-- The pilot's prompt. -/
def Channel.pilot (ch : Channel) (t : TapSums) : Int × Int := if ch.onData then t.pilotPrompt else t.prompt

/-- The settings break none of R118, R119 and Table 5-3 for the signal. -/
def chanCfgOk (g : SigId) (c : ChanCfg) : Bool :=
  decide (4 ≤ c.spacing ∧ c.spacing ≤ 64) && decide (c.spacing + 4 ≤ c.vspacing ∧ c.vspacing ≤ 127) && decide (c.disc ≤ 2) &&
  (decide (c.disc ≠ 2) || decide (c.vspacing = 2 * c.spacing)) &&
  decide (1 ≤ c.coh) && decide (c.coh % (sigRow g.signal).period = 0) && decide (c.coh ≤ cohMax g)

/-- The fields of TRK_SIGCFGn and TRK_CHc_CFG in a written word. -/
def chanCfgOf (v : Nat) : ChanCfg := ⟨bits v 0 7, bits v 8 7, bits v 16 2, bits v 18 1, bits v 20 5⟩

/-- Taps 0–4 are on the data component (Table 5-3, COMP). -/
def startsOnData (code comp : Nat) : Bool := dataOnly code || hasCl code || decide (comp = 1)

/-- A slip (R128): the flag, the count, the lock time; recorded with its detector. -/
def State.slip (c detector : Nat) (s : State) : State :=
  let ch := s.chan c
  let n := (ch.slips + 1) % 256
  (({ s.setChan c { ch with slip := true, slips := n, lockTime := 0 } with trk.slips := incr s.trk.slips }).trkEvent 3).report
    0x0204 [(2, c), (1, ch.sig.signal), (1, n), (1, detector)]

/-- A half-cycle slip: a slip, and ½ cycle for the reported phase from the next epoch latch (R127, R128). -/
def State.halfSlip (c detector : Nat) (s : State) : State :=
  let s := s.slip c detector
  let ch := s.chan c
  (({ s.setChan c { ch with halfDue := ch.halfDue + 1 } with trk.halfSlips := incr s.trk.halfSlips }).trkEvent 4).report
    0x0205 [(2, c), (1, ch.sig.signal)]

/-- The channel goes FREE: it holds nothing, its loop objects stop, and a waiting slot is offered it (R107). -/
def State.freeChan (c : Nat) (s : State) : State :=
  (((s.setChan c Channel.reset).setObj (2 * c) LoopObj.reset).setObj (2 * c + 1) LoopObj.reset).offerChannel

/-- The reacquisition request of a channel at the FRC instant `t`: its code phase and Doppler carried on to that instant (R125, Table 4-8;
half of an odd n_nc: log 160). -/
def reacqReq (t c : Nat) (ch : Channel) : SearchReq :=
  let p := (searchParams 3 ch.sig.signal).getD (aidedParams ch.sig.signal)
  let phase := ch.phaseAt t / 2 ^ 28 % (16 * max 1 (periodChips ch.sig.signal))
  { sig := ch.sig, kind := 3, priority := 0, target := c, codeStart := windowStart ch.sig.signal phase p.width, codeWidth := p.width
    candidates := 1, spacing := 1, doppler := ch.doppler, halfWidth := p.halfWidth, step := 0
    tc := p.tc, nnc := p.nnc, tag := 0 }

/-- A reacquisition request is submitted; refused as FIFO_FULL or JAMMED it is kept until its 60 s are over, with the instant for which its code
start stands (R125). -/
def State.submitReacq (q : SearchReq) (deadline : Nat) (s : State) : State :=
  let r := s.submitSearch q
  if r.1 = some 1 ∨ r.1 = some 5 then { r.2 with trk.requeue := r.2.trk.requeue ++ [(q, deadline, s.ns)] } else r.2

/-- The channel queues its reacquisition (R125). -/
def State.reacquire (c : Nat) (ch : Channel) (s : State) : State := s.submitReacq (reacqReq s.ns c ch) (60000000000 + s.ns)

/-- HANDOVER_ACCEPTED (R107, R108, R124, R127, R139): the channel is loaded with the code phase and Doppler carried on to this instant and
enters PULL_IN with frequency assist, HALF set and its signal's settings; the slot ends CONFIRMED. -/
def execHandoverAccepted (slot : Fin 96) : State → Host.Outcome State Fault Refusal :=
  done fun s =>
    let v := s.slot slot.val
    match v.state, v.channel with
    | .handover, some c =>
      if (s.chan c).state ≠ .free then
        (s.setSlot slot.val { v with state := .waitChannel, channel := none }).offerChannel
      else
        let v := v.carried s.ns
        let g := v.req.sig
        let cfg := (s.trk.sigcfg[g.signal]?).getD {}
        let onData := startsOnData g.signal cfg.comp
        let s := s.setChan c { Channel.reset with
          sig := g, state := .pullIn, half := true, onData := onData, noiseTap := dataOnly g.signal || !onData
          coh := cohBefore g.signal, cfg := cfg, cn0 := v.cn0, doppler := v.doppler, codePhase := v.codePhase * 2 ^ 22
          instant := s.ns, handed := (v.codePhase * 2 ^ 22, v.doppler, s.ns), kind := v.req.kind
          fll := true, entered := s.ns, tag := v.req.tag, changes := List.replicate (bitPeriod g) 0 }
        let s := s.setObj (2 * c) { LoopObj.reset with i1 := v.doppler * loopOne, output := v.doppler * loopOne }
        ((s.setObj (2 * c + 1) LoopObj.reset).endSearch slot.val 1).takeRequests
    | _, _ => s

/-- FLL_TIME_END (R124): FLL_TIME, in 10 ms, after the handover. -/
def execFllTimeEnd (c : Fin 288) : State → Host.Outcome State Fault Refusal :=
  done fun s =>
    let ch := s.chan c.val
    if ch.state = .pullIn then (s.atLeast (ch.entered + 10000000 * s.trk.fllTime)).setChan c.val { ch with fll := false } else s

/-- PULLIN_FAILED (R124, R125): PULLIN_MAX, in 10 ms, after the handover. -/
def execPullinFailed (c : Fin 288) : State → Host.Outcome State Fault Refusal :=
  done fun s =>
    let ch := s.chan c.val
    if ch.state = .pullIn then
      let s := s.atLeast (ch.entered + 10000000 * s.trk.pullinMax)
      let s := ({ s.freeChan c.val with trk.pullinFailed := incr s.trk.pullinFailed }).trkEvent 0
      (s.report 0x0201 [(2, c.val), (1, ch.sig.system), (1, ch.sig.sv), (1, ch.sig.signal)]).reacquire c.val ch
    else s

/-- A channel is dropped to FREE: recorded with its cause, 0 COAST_MAX, 1 disabled, 2 ECC (Table 5-11). -/
def State.dropChan (c cause : Nat) (s : State) : State :=
  let ch := s.chan c
  let s := s.freeChan c
  let s := if ch.state = ChanState.coast then s.trkEvent 2 else s
  s.report 0x0203 [(2, c), (1, ch.sig.signal), (1, cause)]

/-- The instant at which COAST_MAX, in 100 ms, ends for a channel that coasts (R124). -/
def State.coastEnd (ch : Channel) (s : State) : Nat := ch.entered + 100000000 * s.trk.coastMax

/-- CH_DROPPED (R124, R125). -/
def execChDropped (c : Fin 288) : State → Host.Outcome State Fault Refusal :=
  done fun s =>
    let ch := s.chan c.val
    if ch.state = .coast then ((s.atLeast (s.coastEnd ch)).dropChan c.val 0).reacquire c.val ch else s

/-- The channels whose signal is no longer enabled go FREE, with no request (R124, LAKE_SIG_EN). -/
def State.releaseDisabled (s : State) : State :=
  s.each (s.trk.channels.filter (fun p => decide (p.2.state ≠ .free) && !bit s.lake.sigEn p.2.sig.signal))
    (fun p s => s.dropChan p.1 1)

/-- What a reacquisition after an error of the correlator state starts from: in PULL_IN the handover values (Table 5-9). -/
def Channel.forEcc (ch : Channel) : Channel :=
  if ch.state = ChanState.pullIn then { ch with codePhase := ch.handed.1, doppler := ch.handed.2.1, instant := ch.handed.2.2, codeRate := 0 } else ch

/-- An uncorrectable error in the channel's correlator state (R25, R124, R125, R140). -/
def State.chanEcc (c address : Nat) (s : State) : State :=
  let ch := s.chan c
  if ch.state = ChanState.free then s
  else
    let s := (({ s with trk.ecc := incr s.trk.ecc }).trkEvent 5).report 0x0206 [(2, c), (4, address)]
    (s.dropChan c 2).reacquire c ch.forEcc

/-- REACQ_REQUEUE (R125): each refused request is queued again within its 60 s, carried on to this instant, unless another signal of the
satellite is locked. -/
def execReacqRequeue : State → Host.Outcome State Fault Refusal :=
  done fun s =>
    let l := s.trk.requeue
    ({ s with trk.requeue := [] }).each l (fun p s =>
      let other := s.trk.channels.any (fun c => (decide (c.2.state = ChanState.locked) || decide (c.2.state = ChanState.synced)) && sameSat c.2.sig p.1.sig)
      if other || decide (p.2.1 < s.ns) then s else s.submitReacq (p.1.carried (s.ns - p.2.2)) p.2.1)

/-- POLARITY_REPORT (R127, R128). -/
def execPolarityReport (c : Fin 288) (inverted : Bool) : State → Host.Outcome State Fault Refusal :=
  done fun s =>
    let ch := s.chan c.val
    if ch.state = .free ∨ (halfBySync ch.sig.signal = true ∧ ch.half = true) then s
    else if ch.half then
      s.setChan c.val { ch with half := false, polarity := some inverted, halfDue := ch.halfDue + flag inverted }
    else match ch.polarity with
      | some p => if p ≠ inverted then (s.setChan c.val { ch with polarity := some inverted }).halfSlip c.val 2 else s
      | none => s.setChan c.val { ch with polarity := some inverted }

/-- A write of TRK_CHc_CFG: refused when the channel is FREE or a value breaks R118, R119 or Table 5-3; answers
whether it was taken (R139). -/
def State.writeChCfg (c v : Nat) (s : State) : Bool × State :=
  let ch := s.chan c
  let cfg := chanCfgOf v
  if ch.state = ChanState.free ∨ chanCfgOk ch.sig cfg = false then (false, s)
  else (true, s.setChan c { ch with cfgNext := some cfg })

/-- TRK_CH_CFG_WRITE (R139). -/
def execTrkChCfgWrite (c : Fin 288) (value : Word) : State → Host.Outcome State Fault Refusal :=
  done fun s => (s.writeChCfg c.val value.toNat).2

/-- The phase discriminator in 2^-20 cycle: four-quadrant on the pilot after synchronisation, otherwise two-quadrant (R122). -/
def Channel.phaseDisc (ch : Channel) (t : TapSums) : Int :=
  if ch.spanMs ≠ 0 && !dataOnly ch.sig.signal && !ch.onData then angle4 t.prompt else angle2 t.prompt

/-- The frequency discriminator in mHz: the turn of the prompt since the last interval (R124). -/
def Channel.freqDisc (ch : Channel) (t : TapSums) : Int :=
  let dot := t.prompt.1 * ch.prompt.1 + t.prompt.2 * ch.prompt.2
  let cross := t.prompt.2 * ch.prompt.1 - t.prompt.1 * ch.prompt.2
  angle2 (dot, cross) * 1000000 / (2 ^ 20 * max 1 ch.coh)

/-- The PLI's filter over an interval of `coh` ms: first order of 20 ms, stepped by coh / 20 of the difference, at most all of it
(DESIGN CHOICE, log 163). -/
def pliStep (pli x : Int) (coh : Nat) : Int := pli + (x - pli) * (min coh 20 : Nat) / 20

/-- The metrics of a coherent interval: C/N0 over its sliding window (R126), PLI (R124), M over the last second (R120; a single interval's M
is held within its 16 bits, DESIGN CHOICE, log 166), discriminators, lock time. -/
def Channel.measure (t : TapSums) (ch : Channel) : Channel :=
  let p := power t.prompt
  let n := power (if ch.noiseTap then t.pilotPrompt else t.dataPrompt)
  let m : Int := if p = 0 then 0 else ssat 16 (((power t.vl : Int) - power t.ve) * 4096 / p)
  let span := match ch.state with | .pullIn | .coast => 100 | .free | .locked | .synced => 1000
  let w := takeMs (fun e => e.2.2) span ((p, n, ch.coh) :: ch.window)
  let mw := takeMs (fun e => e.2) 1000 ((m, ch.coh) :: ch.mpWin)
  let x : Int := if p = 0 then 0 else (t.prompt.1 * t.prompt.1 - t.prompt.2 * t.prompt.2) * 65536 / p
  { ch with
    window := w, cn0 := cn0Of w ch.coh, pli := pliStep ch.pli x ch.coh, mpWin := mw, mp := mpOf mw
    phaseError := ch.phaseDisc t, freqError := ch.freqDisc t, prompt := t.prompt, fresh := true
    discSum := ch.discSum + codeDisc ch.cfg t, discCount := ch.discCount + 1
    lockTime := match ch.state with
      | .locked | .synced => sat 32 (ch.lockTime + ch.coh)
      | .free | .pullIn | .coast => ch.lockTime }

/-- The times for which the PLI has stayed at or above PLI_LOCK, and below PLI_SLIP, in ms (Table 5-4). -/
def Channel.pliTimes (lockAt slipAt : Nat) (ch : Channel) : Channel :=
  { ch with
    pliGood := if (256 * lockAt : Int) ≤ ch.pli then ch.pliGood + ch.coh else 0
    pliBad := if ch.pli < (256 * slipAt : Int) then ch.pliBad + ch.coh else 0
    pli10 := ((ch.pli, ch.coh) :: ch.pli10).take (max 1 (10 / max 1 ch.coh)) }

/-- The 10 ms average of the PLI. -/
def Channel.pliMean (ch : Channel) : Int := if ch.pli10.isEmpty then 0 else ch.pli10.foldl (fun a e => a + e.1) 0 / (ch.pli10.length : Int)

/-- MULTIPATH raised and cleared against the threshold (R120). -/
def State.evalMultipath (c : Nat) (s : State) : State :=
  let ch := s.chan c
  if !ch.multipath && decide (16 * s.trk.mpThreshold ≤ ch.mp.natAbs) then
    ((s.setChan c { ch with multipath := true }).trkEvent 6).report 0x0207 [(2, c), (1, ch.sig.signal), (2, ch.mp)]
  else if ch.multipath && decide (ch.mp.natAbs < 8 * s.trk.mpThreshold) then s.setChan c { ch with multipath := false }
  else s

/-- The channel synchronises (CHANNEL_SYNCED, R122, R127) with its code phase `periods` primary periods into what is resolved: the configured
interval from the next boundary on (R121), HALF where synchronisation resolves it, and for L2C the move to CL with the noise tap on tap 6. -/
def State.channelSynced (c periods : Nat) (s : State) : State :=
  let ch := s.chan c
  let onData := if hasCl ch.sig.signal then decide (ch.cfg.comp = 1) else ch.onData
  let v := { ch with
    state := .synced, prior := .synced, cohNext := some (min ch.cfg.coh (cohMax ch.sig)), spanMs := syncMs ch.sig, onData := onData
    noiseTap := dataOnly ch.sig.signal || !onData
    half := if halfBySync ch.sig.signal then false else ch.half
    polarity := if halfBySync ch.sig.signal then some false else ch.polarity }
  s.setChan c { v with codePhase := (ch.codePhase + 2 ^ 32 * periodChips ch.sig.signal * periods) % v.span }

/-- The channel enters LOCKED (CHANNEL_LOCKED): lock time starts at 0, the Lake queues its aided requests (R110);
code 10 is synchronised at once (R122). The windows of C/N0 and M run on (DESIGN CHOICE, log 165). -/
def State.channelLocked (c : Nat) (s : State) : State :=
  let s := s.setChan c { s.chan c with state := .locked, prior := .locked, lockTime := 0 }
  let s := if (s.chan c).sig.signal = 10 then s.channelSynced c 0 else s
  ({ s with trk.locks := incr s.trk.locks }).autoAid c

/-- Sign changes counted at the candidate boundary phases (R122). -/
def Channel.countChange (t : TapSums) (ch : Channel) : Channel :=
  let n := bitPeriod ch.sig
  let sign := decide (0 ≤ t.prompt.1)
  let i := (ch.phaseIndex + 1) % n
  { ch with phaseIndex := i, lastSign := sign, changes := if sign = ch.lastSign then ch.changes else updAt ch.changes i (· + 1) }

/-- The periods whose pilot signs an alignment of the secondary code must match: two whole periods of a code of at most 100 chips, 100 chips of
a longer one (R122). -/
def syncSpan (code : Nat) : Nat := if secondaryLen code ≤ 100 then 2 * secondaryLen code else 100

/-- What a channel collects towards its synchronisation in an interval of LOCKED (R122): sign changes, pilot signs, or powers of CL phases. -/
def Channel.collect (t : TapSums) (ch : Channel) : Channel :=
  if ch.state ≠ ChanState.locked then ch
  else if bitPeriod ch.sig ≠ 0 then ch.countChange t
  else if hasCl ch.sig.signal then
    { ch with clStep := ch.clStep + 1
              clPower := updAt (if ch.clPower = [] then List.replicate 75 0 else ch.clPower) (ch.clStep % 75) (· + power t.pilotPrompt) }
  else { ch with signs := (decide (0 ≤ (ch.pilot t).1) :: ch.signs).take (syncSpan ch.sig.signal) }

/-- How many of the pilot's signs, newest first, an alignment of the secondary code matches, up to a sign common to all (DEDUCED, log 178):
`a` is the chip of the oldest. -/
def Channel.matches (ch : Channel) (a : Nat) : Nat :=
  let l := ch.signs.reverse
  let n := max 1 (secondaryLen ch.sig.signal)
  let m := ((enum l).filter (fun p => p.2 == Config.secondaryChip ch.sig.system ch.sig.sv ch.sig.signal 1 ((a + p.1) % n))).length
  max m (l.length - m)

/-- One candidate's power over 3 visits exceeds every other by 6 dB, a power ratio of 10^0.6 (R122). -/
def clFound (l : List Nat) : Option Nat :=
  (List.range l.length).find? (fun i => (List.range l.length).all (fun j =>
    decide (i = j) || decide (1000 * (l[j]?.getD 0) ^ 5 < (l[i]?.getD 0) ^ 5)))

/-- The primary periods into the bit, meander, secondary, overlay or CL code at which a channel that meets its criterion stands (R122). -/
def Channel.syncAt (ch : Channel) : Option Nat :=
  let n := bitPeriod ch.sig
  if n ≠ 0 then
    let all := ch.changes.foldl (· + ·) 0
    ((enum ch.changes).find? (fun p => decide (20 ≤ p.2) && decide (9 * all ≤ 10 * p.2))).map (fun p => (ch.phaseIndex + n - p.1 + 1) % n)
  else if hasCl ch.sig.signal then
    if ch.clStep < 225 then none else (clFound ch.clPower).map (fun k => (k + ch.clStep) % 75)
  else
    let len := secondaryLen ch.sig.signal
    let need := syncSpan ch.sig.signal
    if ch.signs.length < need ∨ len = 0 then none
    else ((List.range len).find? (fun a => decide (ch.matches a = need) &&
      (List.range len).all (fun b => decide (a = b) || decide (5 * ch.matches b ≤ 4 * need)))).map (fun a => (a + need) % len)

/-- The carrier object's Doppler rate in mHz/s: its second integrator, in order 3. -/
def State.carrierRate (c : Nat) (s : State) : Int := if (s.loopParams 0).order = 3 then (s.obj (2 * c)).i2 / loopOne else 0

/-- The channel coasts (CH_COAST): integrators frozen, the carrier on its last Doppler and Doppler rate; recorded (R124). -/
def State.coast (c : Nat) (s : State) : State :=
  let ch := s.chan c
  (({ s.setChan c { ch with state := .coast, prior := ch.state, pliGood := 0, pliDip := false, entered := s.ns
                            doppler0 := ch.doppler, rate := s.carrierRate c } with
      trk.coasts := incr s.trk.coasts }).trkEvent 1).report 0x0202
    [(2, c), (1, ch.sig.signal), (2, ch.cn0), (1, ch.pli / 512)]

/-- A written configuration takes effect at the period boundary; COMP only at handover or the move to CL (R139). A coherent interval applies
from synchronisation on, held in COAST too. -/
def Channel.applyCfg (ch : Channel) : Channel :=
  match ch.cfgNext with
  | none => ch
  | some c =>
    { ch with cfg := { c with comp := if ch.spanMs ≠ 0 then ch.cfg.comp else c.comp }, cfgNext := none, cfgChanged := true
              cohNext := if ch.spanMs ≠ 0 then some (min c.coh (cohMax ch.sig)) else none }

/-- The new coherent interval starts at a symbol or secondary-code boundary (R121); the C/N0 window restarts with it (DESIGN CHOICE,
log 165). -/
def Channel.applyCoh (ch : Channel) : Channel :=
  match ch.cohNext with
  | none => ch
  | some n =>
    if n = ch.coh then { ch with cohNext := none }
    else if ch.codePhase * 2 / (2 ^ 32 * max 1 (sigRow ch.sig.signal).chips) % boundaryMs ch.sig = 0 then
      { ch with coh := n, cohNext := none, window := [] }
    else ch

/-- The lock detectors of a channel's objects (Table 5-6): the carrier's by the PLI, and the code's lost with the C/N0. -/
def State.chanLocks (c : Nat) (s : State) : State :=
  let ch := s.chan c
  let a := s.obj (2 * c)
  let b := s.obj (2 * c + 1)
  let s := s.setObj (2 * c) { a with lock := if 100 ≤ ch.pliGood then true else if 100 ≤ ch.pliBad then false else a.lock }
  if ch.cn0 < 5 * s.trk.lossCn0 then s.setObj (2 * c + 1) { b with lock := false } else s

/-- The state transitions at the end of an interval (Table 5-4, R128). -/
def State.chanTransition (c : Nat) (s : State) : State :=
  let ch := s.chan c
  let lockOk := decide (100 ≤ ch.pliGood) && decide (5 * s.trk.lockCn0 ≤ ch.cn0)
  match ch.state with
  | .free => s
  | .pullIn => if !ch.fll && lockOk then s.channelLocked c else s
  | .coast =>
    if lockOk ∧ s.ns ≤ s.coastEnd ch then
      let s := s.setChan c { ch with state := ch.prior, opposite := 0 }
      if 3 ≤ ch.opposite then s.halfSlip c 3 else s.slip c 3
    else s
  | .locked | .synced =>
    let spans := decide (1000 ≤ ch.window.foldl (fun a e => a + e.2.2) 0)
    if (spans && decide (ch.cn0 < 5 * s.trk.lossCn0)) || decide (100 ≤ ch.pliBad) then s.coast c
    else
      let dip := decide (ch.pliMean < (256 * s.trk.pliSlip : Int))
      let s := s.setChan c { ch with pliDip := dip }
      let s := if ch.pliDip && !dip then s.slip c 0 else s
      let s := if ch.state = .synced ∧ 3 ≤ ch.opposite then
          (s.setChan c { s.chan c with opposite := 0 }).halfSlip c 1 else s
      match ch.syncAt with
      | some p => if ch.state = .locked then s.channelSynced c p else s
      | none => s

/-- The time in ns to the end of the coherent interval in progress, when the code replica reaches its epoch (Table 5-5). -/
def Channel.toEpoch (ch : Channel) : Nat :=
  let chips := (sigRow ch.sig.signal).chips
  let left := 2 ^ 32 * chips * ch.coh / 2 - ch.codePhase % (2 ^ 32 * max 1 (periodChips ch.sig.signal))
  ceilDiv (left * 10 ^ 15) (max 1 ch.chipRate.toNat * 2 ^ 32)

/-- Intervals in a row whose pilot stands, after synchronisation, opposite to the wiped secondary code (R128). -/
def Channel.countOpposite (t : TapSums) (ch : Channel) : Channel :=
  { ch with opposite := if ch.spanMs ≠ 0 ∧ dataOnly ch.sig.signal = false ∧ (ch.pilot t).1 < 0 then ch.opposite + 1 else 0 }

/-- In COAST the carrier runs on its last Doppler and Doppler rate (R124). -/
def Channel.drift (t : Nat) (ch : Channel) : Channel :=
  if ch.state = ChanState.coast then { ch with doppler := ch.doppler0 + ch.rate * (t - ch.entered : Nat) / 10 ^ 9 } else ch

/-- One coherent interval of a channel: the NCOs have run to its end, and its taps give metrics and counts. -/
def Channel.interval (now lockAt slipAt : Nat) (samples : List Sample) (ch : Channel) : Channel :=
  let t := ch.taps samples
  (((((ch.advanceTo now).measure t).pliTimes lockAt slipAt).collect t).countOpposite t).drift now

/-- A symbol enters the FIFO (R123); firmware has taken what earlier instants left there (DESIGN CHOICE, log 176). -/
def State.symbol (c : Nat) (positive : Bool) (magnitude : Nat) (s : State) : State :=
  let l := s.trk.fifo.filter (fun e => decide (e.instant = s.ns))
  { s with trk.fifo := if l.length < 64 then l ++ [⟨c, s.ns, positive, magnitude % 16⟩] else l }

/-- COHERENT_INTERVAL_END (R116–R128): `samples` are those of the interval, `symbol` the sign and magnitude of a data symbol that ends with
it. -/
def execCoherentIntervalEnd (c : Fin 288) (samples : List Sample) (symbol : Option (Bool × Nat)) : State → Host.Outcome State Fault Refusal :=
  done fun s =>
    let n := c.val
    let ch := s.chan n
    if ch.state = .free ∨ s.clk.gnss = false then s
    else
      let s := s.atLeast (ch.instant + ch.toEpoch)
      let s := s.setChan n (ch.interval s.ns s.trk.pliLock s.trk.pliSlip samples)
      let s := ((s.evalMultipath n).chanLocks n).chanTransition n
      let s := s.setChan n (s.chan n).applyCfg.applyCoh
      match symbol with
      | some (pos, mag) => s.symbol n pos mag
      | none => s

end Sys2Proof.Machine
end

