-- ==== Sys2Proof/Machine/Trestle.lean ====
section
/-! DEFINITION. Trestle (R17–R22), the response to frozen masters (Table 1-4), ECC findings (R24, R25). -/

namespace Sys2Proof.Machine

/-- The fixed quotas of the masters (Table 1-3). -/
def quotas : List Nat := [160, 160, 160, 160, 160, 160, 160, 160, 64, 256, 32, 96, 128]

/-- The master that holds on to a bank (R19). -/
def Trestle.holder (bank : Nat) (t : Trestle) : Option BankHold := Tab.get none t.holds bank

/-- The master that a bank cycle serves (R18): in round-robin order from the pointer, the first that asks with quota left,
else the first that asks. A bank that is held serves its holder (R19). A scrubber comes after every master (R24). -/
def Trestle.serve (c : BankCycle) (t : Trestle) : Option Nat :=
  let p := (t.pointer[c.bank.val]?).getD 0
  let order := (List.range 13).map (fun i => (p + i) % 13)
  let asks := order.filter (fun m => c.asking.getLsbD m && !t.frozen.getLsbD m)
  match t.holder c.bank.val with
  | some h => some h.master
  | none => (asks.find? (fun m => decide (0 < (t.quota[m]?).getD 0))).orElse (fun _ => asks.head?)

/-- What the served master does with the bank (R19): it holds on, and its writes wait in the bank's write buffer, or it releases the
bank, and they reach the array (log 158). -/
def Trestle.settle (at_ m : Nat) (c : BankCycle) (t : Trestle) : Trestle :=
  let h := (t.holder c.bank.val).getD { master := m, since := at_ }
  match c.keep with
  | some ws => { t with holds := Tab.set none t.holds c.bank.val (some { h with writes := h.writes ++ ws }) }
  | none => { t with holds := Tab.set none t.holds c.bank.val none, sram := h.writes.foldl (fun a w => Tab.set 0#8 a w.1 w.2) t.sram }

/-- One bank cycle that begins at `at_` (R18): the served master spends quota, the bank's pointer advances past it. In a cycle that
serves none, a scrubber's access is made; it spends no quota and moves no pointer (R24). -/
def Trestle.cycle (at_ : Nat) (c : BankCycle) (t : Trestle) : Trestle :=
  match t.serve c with
  | some m => { t with quota := updAt t.quota m (· - 1), pointer := updAt t.pointer c.bank.val (fun _ => (m + 1) % 13) }.settle at_ m c
  | none => if c.scrub then { t with scrubs := Tab.upd {} t.scrubs 0 (fun (p : Scrub) => { p with next := p.next + 1 }) } else t

/-- The bank cycles of a window that begins at `t0`: at most 125 at each bank, 8 Trestle cycles each (R18). -/
def Trestle.window (t0 : Nat) (cycles : List BankCycle) (t : Trestle) : Trestle :=
  (cycles.foldl (fun (acc : Tab Nat × Trestle) c =>
    let k := Tab.get 0 acc.1 c.bank.val
    if k < 125 then (Tab.set 0 acc.1 c.bank.val (k + 1), acc.2.cycle (t0 + 8 * k) c) else acc) ([], t)).2

/-- TRESTLE_WINDOW (R18): the quotas reload at the whole microsecond of the FRC, and the window's bank cycles follow. -/
def execTrestleWindow (cycles : List BankCycle) : State → Host.Outcome State Fault Refusal :=
  done fun s =>
    if !s.powered then s
    else
      let s := s.atLeast ((s.ns / 1000 + 1) * 1000)
      { s with tres := { s.tres with quota := quotas }.window s.ns cycles }

/-- A cause of a freeze as its record carries it (Table 17-4). -/
def FreezeCause.code : FreezeCause → Nat
  | .overstay => 0 | .window => 1 | .parity => 2

/-- The response to the masters frozen so far, after master `m` (R22, Table 1-4). -/
def State.freezeResponse (m : Nat) (s : State) : State :=
  if bits s.tres.frozen.toNat 9 4 ≠ 0 then s.degrade 0 0
  else if 3 ≤ ones s.tres.frozen.toNat 0 8 then s.degrade 0 1
  else if m < 8 then s.freezeCore m
  else s

/-- A master is frozen (R21): its clock is gated (a core's in Domains), its Trestle port isolated, so that it holds no bank; it is
recorded, shown, and answered by R22. -/
def State.freeze (m : Nat) (secure : Bool) (address : Nat) (cause : FreezeCause) (s : State) : State :=
  if !s.powered || s.tres.frozen.getLsbD m then s
  else
    let s := { s with tres.frozen := s.tres.frozen ||| BitVec.ofNat 13 (2 ^ m), sys.events := s.sys.events ||| 2#32
                      clk.cores := s.clk.cores &&& ~~~(BitVec.ofNat 8 (2 ^ m))
                      tres.holds := s.tres.holds.filter (fun p => p.2.elim true (fun h => decide (h.master ≠ m))) }
    let s := s.reportNow 0x000C [(1, m), (4, address), (1, flag (!secure)), (1, cause.code)]
    s.breakHealth.freezeResponse m

/-- The world of an access: DMA masters and the host bridge have theirs fixed (Table 1-3). -/
def worldOf (m : Nat) (secure : Bool) : Bool := if m < 8 then secure else decide (m = 11)

/-- The last instant that a master may still hold the bank it has held longest (R19), where it holds one. -/
def Trestle.holdEnd (m : Nat) (t : Trestle) : Nat :=
  (t.holds.filterMap (fun p => p.2.bind (fun h => if h.master = m then some (h.since + 257) else none))).foldl min
    (2 ^ 64) % 2 ^ 64

/-- BANK_OVERSTAY (R19): past 256 cycles the bank is released, the write buffer of the sequence is discarded, the master frozen. -/
def execBankOverstay (master : Fin 13) (secure : Bool) (address : Nat) : State → Host.Outcome State Fault Refusal :=
  done fun s => (s.atLeast (s.tres.holdEnd master.val)).freeze master.val (worldOf master.val secure) address .overstay

/-- An access (0 read, 1 write, 2 execute) lies in a window of a master's world that permits it (R20, Table 13-6, log 150). -/
def State.inWindow (m : Nat) (secure : Bool) (access address : Nat) (s : State) : Bool :=
  s.tres.windows.any (fun w => decide (w.master = m) && (w.secure == secure) && bit w.perms access &&
    decide (w.base ≤ address ∧ address < w.base + w.size))

/-- WORLD_WINDOW_VIOLATION (R20): an access outside every window of its master's current world is not performed, and the
master is frozen: a write has no effect, a read returns 0 and no further transfer follows. One inside a window is no violation. -/
def execWorldWindowViolation (master : Fin 13) (secure : Bool) (access : Fin 3) (address : Nat) : State → Host.Outcome State Fault Refusal :=
  done fun s =>
    let w := worldOf master.val secure
    if !s.powered || s.tres.frozen.getLsbD master.val || s.inWindow master.val w access.val address then s
    else (s.when (decide (access.val ≠ 1)) (State.send (.readEnd master.val 0))).freeze master.val w address .window

/-- The memories as records and injections number them (Table 17-6). -/
def EccSite.memory : EccSite → Nat
  | .sram _ => 0 | .queue _ _ => 1 | .correlator _ => 2 | .session _ => 3 | .span _ => 4 | .profiler _ => 5
  | .recorder _ => 6 | .mram _ => 7 | .l1d _ => 8 | .l1i _ => 9

/-- The words of a memory that a scrubber walks and its pass in ns (Table 1-5); none where it has no scrub pass by period. -/
def scrubPass (memory : Nat) : Option (Nat × Nat) :=
  match memory with
  | 0 => some (1572864, 60000000000)
  | 1 | 2 => some (65536, 10000000000)
  | 3 => some (32768, 1000000000)
  | 4 => some (16384, 1000000000)
  | 5 => some (8192, 1000000000)
  | 6 => some (16384, 10000000000)
  | _ => none

/-- The scrubber of a memory comes to the word at `address` (R24): in this pass, or in the next where it has gone past it; word w of pass
p falls due at p + w / words periods after START. -/
def State.scrub (memory address : Nat) (s : State) : State :=
  match scrubPass memory with
  | none => s
  | some (words, period) =>
    let w := address / 8 % words
    let p := Tab.get {} s.tres.scrubs memory
    let n := if p.next ≤ w then p.passes else p.passes + 1
    let s := s.atLeast (s.sys.startT0 + period * n + period * w / words)
    { s with tres.scrubs := Tab.set {} s.tres.scrubs memory { next := w + 1, passes := n } }

/-- A correctable error: corrected, written back, counted per memory, in queue memory against the queue (R24, R241). -/
def State.eccCorrect (site : EccSite) (s : State) : State :=
  let s := { s with sys.ecc := Tab.upd 0 s.sys.ecc site.memory (· + 1) }
  match site with
  | .queue q _ => { s with freg.waits := Tab.upd {} s.freg.waits q.val (fun (w : WaitStat) => { w with corrected := sat 16 (w.corrected + 1) }) }
  | _ => s

/-- What an uncorrectable error brings about, by its memory (R25). -/
def State.eccResponse (site : EccSite) (address : Nat) (s : State) : State :=
  match site with
  | .queue q i => s.discardDesc q.val i (decide (8 ≤ address % 64))
  | .correlator c => s.chanEcc c.val address
  | .session _ => s.degrade 1 0xFF
  | .span _ => s.degrade 1 0xFF
  | .profiler _ => s.degrade 1 0xFF
  | .recorder i => { s with rcd.buffer := updAt s.rcd.buffer i (fun (r : Record) => { r with code := 0x1001#16, data := padTo 12 [1#8] }) }
  | .sram (some m) => if m.val < 8 then s.returnCore (256 + m.val) 2 else s.send (.transferError m.val address)
  | .sram none => s
  | .l1d _ => s
  | .l1i _ => s
  | .mram a => { s with saved.valid := if bit s.saved.valid a.val then s.saved.valid - 2 ^ a.val else s.saved.valid }

/-- An uncorrectable error: recorded, and answered by R25. -/
def State.eccFail (site : EccSite) (address : Nat) (s : State) : State :=
  let s := ({ s with sys.events := s.sys.events ||| 8#32, pair.eccSeen := true }).reportNow 0x000E [(1, site.memory), (4, address)]
  s.breakHealth.eccResponse site address

/-- The finding of a read: an injection armed at the word inverts 1 or 2 of its bits (Table 17-6). -/
def State.eccFinding (site : EccSite) (finding : EccFinding) (address : Nat) (s : State) : EccFinding :=
  match s.diag.eccArmed with
  | some (m, a) =>
    let core := match site with
      | .l1d c | .l1i c => decide (bits a 2 3 = c.val)
      | .mram _ | .sram _ | .queue _ _ | .correlator _ | .session _ | .span _ | .profiler _ | .recorder _ => true
    if m = site.memory ∧ bits a 8 24 = address % 2 ^ 24 ∧ core = true then (if bits a 0 2 = 1 then .correctable else .uncorrectable) else finding
  | none => finding

/-- A parity error in an L1 instruction cache: the line is invalidated and fetched again (Table 1-5). -/
def EccSite.refetches : EccSite → Bool
  | .l1i _ => true
  | .l1d _ | .mram _ | .sram _ | .queue _ _ | .correlator _ | .session _ | .span _ | .profiler _ | .recorder _ => false

/-- SCRUB_ACCESS (R24, R25): the scrubber, or another access, reads a word. -/
def execScrubAccess (scrubber : Bool) (site : EccSite) (finding : EccFinding) (address : Nat) : State → Host.Outcome State Fault Refusal :=
  done fun s =>
    if !s.powered then s
    else
      let s := s.when scrubber (State.scrub site.memory address)
      let found := s.eccFinding site finding address
      let s := if found = finding then s else { s with diag.eccArmed := none }
      match found with
      | .clean => s
      | .correctable => if site.refetches then s else (s.eccCorrect site).injectSeen 0x01
      | .uncorrectable => if site.refetches then s else s.eccFail site address

end Sys2Proof.Machine
end

