-- ==== Sys2Proof/Machine/Keys.lean ====
section
/-! DEFINITION. Keys, worlds and tamper (R360–R387): identity, the monotonic counter, key update messages, crypto jobs, the
key epoch, tamper, the life cycle. -/

namespace Sys2Proof.Machine

/-- The private scalar of the device identity (R361). -/
def State.identityScalar (s : State) : List Octet :=
  beBytes 48 (ofBe (kdf s.keys.fuse.keystone (ascii "CMT-IDENTITY") (leBytes 8 s.keys.fuse.serial) 64) % (p384n - 1) + 1)

/-- The unit has an identity: its Keystone is committed and not burnt out (R361, R373). -/
def State.hasIdentity (s : State) : Bool := s.keys.fuse.committed && decide (s.life ≠ .retired) && decide (s.life ≠ .vendor)

/-- A coordinate of the identity public key; 0 in VENDOR and RETIRED (Table 13-19). -/
def State.identityX (s : State) : BitVec 384 := if s.hasIdentity then Config.publicX s.identityScalar else 0#384
/-- The y coordinate of the identity public key. -/
def State.identityY (s : State) : BitVec 384 := if s.hasIdentity then Config.publicY s.identityScalar else 0#384

/-- The SHA-384 of the identity public key X ‖ Y (Table 13-9). -/
def State.identityDigest (s : State) : List Octet := sha384 (beBytes 48 s.identityX.toNat ++ beBytes 48 s.identityY.toNat)

/-! ### Mordant -/

/-- Mordant (R363): the Keystone KDF with the context of a key's own octets, its measurements and the life-cycle word. -/
def mordant (keystone label own : List Octet) (measures : List (BitVec 384)) (word octets : Nat) : List Octet :=
  kdf keystone label (own ++ sha384 (measures.flatMap (fun m => beBytes 48 m.toNat)) ++ leBytes 3 word) octets

/-- A row of Table 13-2: its label, the registers of its mask (MEAS0 to MEASn) and its octets. The table gives a key no context octets of its own
(DEDUCED, log 193). -/
def classRow (k : Nat) : List Octet × Nat × Nat :=
  match k with
  | 0 => (ascii "CMT-CTR", 1, 48)
  | 1 => (ascii "CMT-SEAL-FW", 4, 32)
  | _ => (ascii "CMT-SEAL-CFG", 6, 32)

/-- A Class I key as the measurements and the life-cycle word stand (R363, R364). -/
def State.classKey (k : Nat) (s : State) : List Octet :=
  let r := classRow k
  mordant s.keys.fuse.keystone r.1 [] (s.sys.meas.take r.2.1) s.keys.fuse.word r.2.2

/-- START has extended the registers of a key's mask: the key enters the key cache (R364). -/
def State.deriveClass (k : Nat) (s : State) : State := { s with kreg.cache := s.kreg.cache.take k ++ [s.classKey k] }

/-- The HMAC of a counter record under a counter key (R378). -/
def recordMac (key : List Octet) (counter kind arg : Nat) (digest : BitVec 384) : BitVec 384 :=
  Config.hmacSha384 key (leBytes 4 counter ++ beBytes 48 digest.toNat ++ leBytes 1 kind ++ leBytes 1 arg)

/-- A record verifies under a counter key. -/
def CounterRec.verifies (key : List Octet) (r : CounterRec) : Bool := decide (r.mac = recordMac key r.counter r.kind r.argument r.digest)

/-- A record sealed under a counter key. -/
def CounterRec.seal (key : List Octet) (r : CounterRec) : CounterRec := { r with mac := recordMac key r.counter r.kind r.argument r.digest }

/-- The stored counter (R378): of the counter records that verify, the highest whose bits 31:22 equal the fused floor. -/
def State.storedCounter (s : State) : Nat :=
  let l := s.keys.records.filter (fun (r : CounterRec) => decide (r.counter / 2 ^ 22 = s.keys.fuse.floor) && r.verifies (s.classKey 0))
  (l.map (·.counter)).foldl max (s.keys.fuse.floor * 2 ^ 22)

/-- A legal thermometer of the counter floor (R378). -/
def thermometer (t : Nat) : Bool := (List.range 11).any (fun k => decide (t = 2 ^ k - 1))

/-- A message's counter is acceptable (R378). -/
def State.counterOk (c : Nat) (s : State) : Bool :=
  thermometer (c / 2 ^ 22) && decide (s.storedCounter < c) && decide (c / 2 ^ 22 = s.keys.fuse.floor ∨ 1 ≤ c % 2 ^ 22)

/-- Slots 16–63 hold no valid key, so key updates are taken from any session (R377). -/
def State.openUpdate (s : State) : Bool := s.keys.slots.all (fun p => !(decide (16 ≤ p.1) && p.2.valid))

/-- The key epoch in force (Table 13-4). -/
def State.epoch (s : State) : Nat := (s.keySlot 0).epoch

/-- A key slot set. -/
def State.setKey (n : Nat) (v : KeySlot) (s : State) : State := { s with keys.slots := Tab.set {} s.keys.slots n v }

/-- The type, lengths and permitted operations of a slot (Table 13-4); none for a reserved one. -/
def slotType (n : Nat) : Option (Nat × List Nat × Nat) :=
  if n < 2 then some (1, [32], 16) else if n < 4 then some (2, [32], 16) else if n < 6 then some (3, [32], 12)
  else if 16 ≤ n ∧ n < 64 then some (4, [32, 48], 12) else none

/-- The slot that a WRITE payload gives (Table 13-3), with its check value; none where the payload is not valid (R366,
Table 13-11). -/
def newSlot (n counter : Nat) (p : List Octet) : Option KeySlot :=
  match slotType n with
  | none => none
  | some (kind, lengths, ops) =>
    let len := getLe p 2 1
    let key := slice p 24 len
    if p.length = 72 ∧ getLe p 1 1 = kind ∧ lengths.contains len ∧ zeros p 0 1 = true ∧ zeros p 3 1 = true ∧
        (kind ≤ 2 ∨ getLe p 4 2 = 0) ∧ getLe p 6 2 < 2 ^ 13 ∧ getLe p 8 1 < 4 ∧ getLe p 10 1 &&& ops = getLe p 10 1 ∧
        zeros p 11 1 = true ∧ zeros p 16 8 = true ∧ zeros p (24 + len) (48 - len) = true then
      some { valid := true, kind := kind, length := len, epoch := getLe p 4 2, masters := getLe p 6 2, worlds := getLe p 8 1
             states := getLe p 9 1, ops := getLe p 10 1, id := getLe p 12 4, counter := counter
             check := ofLe ((beBytes 32 (Config.hmacSha256 key (ascii "CMT-KCV")).toNat).take 4), material := slice p 24 48 }
    else none

/-- The parts of a key update message (Table 13-9). -/
structure KeyMsg where
  kind : Nat
  arg : Nat
  n : Nat
  counter : Nat
  raw : List Octet
deriving DecidableEq, Repr

/-- A key update message read; none where its magic, version or lengths are wrong (Table 13-10 step 2). -/
def keyMsg (b : List Octet) : Option KeyMsg :=
  let n := getLe b 10 2
  if slice b 0 4 = [0x43#8, 0x4D#8, 0x4B#8, 0x55#8] ∧ getLe b 4 2 = 1 ∧ n ≤ 72 ∧ getLe b 6 2 = 380 + n ∧ b.length = 380 + n then
    some ⟨getLe b 8 1, getLe b 9 1, n, getLe b 12 4, b⟩
  else none

/-- A big-endian coordinate of a message. -/
def KeyMsg.coord (m : KeyMsg) (off : Nat) : BitVec 384 := BitVec.ofNat 384 (ofBe (slice m.raw off 48))

/-- The authority's public key as octets X ‖ Y. -/
def KeyMsg.authority (m : KeyMsg) : List Octet := slice m.raw 64 96

/-- Step 4: the authority key (Table 13-10). -/
def State.authorityOk (m : KeyMsg) (s : State) : Bool :=
  if m.kind = 0 then !s.keys.fuse.authProg
  else s.keys.fuse.authProg && decide (Config.sha384 m.authority = s.keys.fuse.auth)

/-- Step 5: the signature. -/
def KeyMsg.signed (m : KeyMsg) : Bool :=
  Config.ecdsaVerify (m.coord 64) (m.coord 112) (m.coord (284 + m.n)) (m.coord (332 + m.n)) (m.raw.take (284 + m.n))

/-- Step 7: the kind in the life-cycle state (Table 13-7) and the unit's role (R377); none where it is accepted. -/
def State.kindRefusal (m : KeyMsg) (s : State) : Option Nat :=
  let accepted := match s.life with
    | .provision => decide (m.kind < 8) && !decide (m.kind = 6 ∧ m.arg = 3)
    | .field => decide (0 < m.kind ∧ m.kind < 8)
    | .service => decide (m.kind = 6)
    | .vendor => false
    | .retired => false
  if !accepted then some 0x06
  else if m.kind = 3 then
    if s.sys.mode = Mode.shadow then some 0x09
    else if s.isLead ∧ s.pair.mirrored = true ∧
        ((s.pair.checks[1]?).getD 0 ≠ (s.keySlot 1).check ∨ (s.pair.checks[3]?).getD 0 ≠ (s.keySlot 3).check) then some 0x09
    else none
  else none

/-- Step 8: the payload in clear (R374). -/
def State.keyPayload (m : KeyMsg) (s : State) : Option (List Octet) :=
  let shared := Config.ecdh s.identityScalar (m.coord 160) (m.coord 208)
  let key := kdf shared (ascii "CMT-KU") (leBytes 4 m.counter ++ slice m.raw 16 48) 32
  Config.gcmOpen key (slice m.raw 256 12) (m.raw.take 268) (slice m.raw 268 (m.n + 16))

/-- A digest's bits burnt into a fuse field: a field that holds a 1 where the digest holds 0 cannot be completed (R362). -/
def burnable (field digest : BitVec 384) : Bool := decide (field ||| digest = digest)

/-- A life-cycle transition and its condition (Table 13-8), for a LIFECYCLE message. -/
def State.lifeMove (target : Nat) (s : State) : Bool :=
  let f := s.keys.fuse
  match s.life, target with
  | .provision, 2 => f.committed && f.authProg && decide (f.cfgProg ≠ 0)
  | .field, 3 => decide (ones f.word 3 8 < 8)
  | .service, 2 => true
  | .provision, 4 => true
  | .field, 4 => true
  | .service, 4 => true
  | _, _ => false

/-- Step 9: the payload and argument of a kind (Table 13-11). -/
def State.payloadOk (m : KeyMsg) (p : List Octet) (s : State) : Bool :=
  match m.kind with
  | 0 => decide (m.arg = 0) && decide (p = []) && burnable s.keys.fuse.auth (Config.sha384 m.authority)
  | 1 => (newSlot m.arg m.counter p).isSome && !(decide (m.arg = 0 ∨ m.arg = 2) && (s.keySlot m.arg).valid)
  | 2 => (slotType m.arg).isSome && decide (p = [])
  | 3 =>
    let e := getLe p 0 2
    let at_ := getLe p 2 4
    decide (m.arg = 0) && decide (p.length = 6) && decide (e = (s.epoch + 1) % 65536) &&
    decide (10 ≤ at_ - secOf s.now ∧ at_ - secOf s.now ≤ 3600) &&
    [1, 3].all (fun n => (s.keySlot n).valid && decide ((s.keySlot n).epoch = e))
  | 4 => decide (m.arg < 4) && !bit s.keys.fuse.cfgProg m.arg && decide (p.length = 48) &&
      burnable ((s.keys.fuse.cfg[m.arg]?).getD 0#384) (BitVec.ofNat 384 (ofBe p))
  | 5 => decide (m.arg < 4) && decide (p = [])
  | 6 => decide (p = []) && s.lifeMove m.arg
  | _ => decide (m.arg = 0) && decide (p = [])

/-- The checks of Table 13-10 in order: the code of the first that fails, or the payload. -/
def State.keyChecks (b : List Octet) (s : State) : Except Nat (KeyMsg × List Octet) :=
  match keyMsg b with
  | none => .error 0x01
  | some m =>
    if slice b 16 48 ≠ s.identityDigest then .error 0x02
    else if !s.authorityOk m then .error 0x03
    else if !m.signed then .error 0x04
    else if !s.counterOk m.counter then .error 0x05
    else
      match s.kindRefusal m with
      | some c => .error c
      | none =>
        match s.keyPayload m with
        | none => .error 0x07
        | some p => if s.payloadOk m p then .ok (m, p) else .error 0x08

/-- Steps 1 and 2 of Table 13-12: the floor bits burnt, and the counter record written. -/
def State.commitCounter (m : KeyMsg) (s : State) : State :=
  let old := s.keys.fuse.floor
  let new := m.counter / 2 ^ 22
  let s := if new = old then s
    else ({ s with keys.fuse.floor := new }).report 0x0C0D [(2, old), (2, new)]
  let r : CounterRec := ⟨m.counter, Config.sha384 m.raw, m.kind, m.arg, 0, true⟩
  { s with keys.records := (r.seal (s.classKey 0) :: s.keys.records).take 2 }

/-- The effect of a kind (Table 13-11). -/
def State.keyEffect (m : KeyMsg) (p : List Octet) (s : State) : State :=
  match m.kind with
  | 0 => { s with keys.fuse.auth := Config.sha384 m.authority, keys.fuse.authProg := true }
  | 1 =>
    match newSlot m.arg m.counter p with
    | some v => if m.arg = 0 then { s.setKey 0 v with keys.latch := none } else s.setKey m.arg v
    | none => s
  | 2 => s.setKey m.arg {}
  | 3 => { s with kreg.switch := some (getLe p 0 2, getLe p 2 4) }
  | 4 => { s with keys.fuse.cfg := updAt s.keys.fuse.cfg m.arg (fun _ => BitVec.ofNat 384 (ofBe p))
                  keys.fuse.cfgProg := setBit s.keys.fuse.cfgProg m.arg }
  | 5 => { s with keys.fuse.cfgRevoked := setBit s.keys.fuse.cfgRevoked m.arg }
  | 6 => { s with keys.pendingLc := some m.arg }
  | _ => s

/-- The reply of KEY_UPDATE: the code and the stored counter (Table 18-5). -/
def State.keyReply (f : ChpFrame) (code : Nat) (s : State) : State :=
  s.finish f 0x0050 0x00 (leBytes 1 code ++ [0#8, 0#8, 0#8] ++ leBytes 4 s.storedCounter)

/-- KEY_LAST and the counters after a message. -/
def State.keyLast (b : List Octet) (code : Nat) (s : State) : State :=
  { s with kreg.lastResult := code, kreg.lastKind := getLe b 8 1, kreg.lastArg := getLe b 9 1
           kreg.updates := if code = 0 then incr s.kreg.updates else s.kreg.updates
           kreg.refused := if code = 0 then s.kreg.refused else incr s.kreg.refused
           kreg.events := s.kreg.events ||| (if code = 0 then 2#32 else 4#32) }

/-- A key update message processed (R375, R379): refused with its code, or committed in the order of Table 13-12. A digest
that cannot be completed costs a configuration key index its revoked bit (R362). -/
def State.keyUpdate (f : ChpFrame) (s : State) : State :=
  match s.keyChecks f.body with
  | .error c =>
    let m := keyMsg f.body
    let s := match m with
      | some m =>
        if c = 0x08 ∧ m.kind = 4 ∧ m.arg < 4 ∧ bit s.keys.fuse.cfgProg m.arg = false ∧
            ((s.keyPayload m).map (fun (p : List Octet) => decide (p.length = 48) && !burnable ((s.keys.fuse.cfg[m.arg]?).getD 0#384) (BitVec.ofNat 384 (ofBe p)))).getD false = true then
          { s with keys.fuse.cfgRevoked := setBit s.keys.fuse.cfgRevoked m.arg }
        else s
      | none => s
    (((s.keyLast f.body c).report 0x0C04 [(1, c), (1, getLe f.body 8 1), (4, getLe f.body 12 4)])).keyReply f c
  | .ok (m, p) =>
    let s := ((s.commitCounter m).keyEffect m p).extend 6 m.raw
    let s := (s.keyLast f.body 0).report 0x0C03 [(1, m.kind), (1, m.arg), (4, m.counter)]
    if m.kind = 6 then
      let s := (s.report 0x0C0A [(1, s.life.code), (1, m.arg)]).keyReply f 0
      s.restart 3
    else s.keyReply f 0

/-- A key update that arrives after a save has begun is refused with SAVING (R48, Table 13-10 step 1, Table 13-17). -/
def State.keySaving (f : ChpFrame) (s : State) : State :=
  ((s.keyLast f.body 0x0A).report 0x0C04 [(1, 0x0A), (1, getLe f.body 8 1), (4, getLe f.body 12 4)]).keyReply f 0x0A

/-- The key update message of a frame is of a row's kind; a message that is too short for a kind, or has none, is row 0's. -/
def ofKind (k : Nat) (f : ChpFrame) : Bool :=
  let n := getLe f.body 8 1
  decide (n = k) || (decide (k = 0) && decide (8 ≤ n))

/-- KEY_UPDATE (R375–R379): the frame passes R473 with right bit 5, or without it while R377 takes it from any session. A transport that
still runs in a save takes it too, to be refused (R48). -/
def State.keyRow (k : Nat) (f : ChpFrame) (s : State) : State :=
  if ofKind k f then
    let right := if s.openUpdate then none else some 5
    let anon := s.openUpdate || decide (s.sys.restricted = 1)
    if s.sys.saving && s.transports f.source then s.chpTaken 0x0050 right false anon true f (fun _ s => s.keySaving f)
    else s.chp 0x0050 right false anon true f (fun _ s => s.keyUpdate f)
  else s

/-- KEY_UPDATE_AUTHORITY (R376). -/
def execKeyUpdateAuthority (frame : ChpFrame) : State → Host.Outcome State Fault Refusal := done (State.keyRow 0 frame)
/-- KEY_UPDATE_WRITE (R366, R376). -/
def execKeyUpdateWrite (frame : ChpFrame) : State → Host.Outcome State Fault Refusal := done (State.keyRow 1 frame)
/-- KEY_UPDATE_ERASE (R376). -/
def execKeyUpdateErase (frame : ChpFrame) : State → Host.Outcome State Fault Refusal := done (State.keyRow 2 frame)
/-- KEY_UPDATE_EPOCH_SWITCH (R381). -/
def execKeyUpdateEpochSwitch (frame : ChpFrame) : State → Host.Outcome State Fault Refusal := done (State.keyRow 3 frame)
/-- KEY_UPDATE_CONFIG_KEY (R362, R376). -/
def execKeyUpdateConfigKey (frame : ChpFrame) : State → Host.Outcome State Fault Refusal := done (State.keyRow 4 frame)
/-- KEY_UPDATE_CONFIG_REVOKE (R376). -/
def execKeyUpdateConfigRevoke (frame : ChpFrame) : State → Host.Outcome State Fault Refusal := done (State.keyRow 5 frame)
/-- KEY_UPDATE_LIFECYCLE (R373). -/
def execKeyUpdateLifecycle (frame : ChpFrame) : State → Host.Outcome State Fault Refusal := done (State.keyRow 6 frame)
/-- KEY_UPDATE_FLOOR (R376). -/
def execKeyUpdateFloor (frame : ChpFrame) : State → Host.Outcome State Fault Refusal := done (State.keyRow 7 frame)

/-- The attributes of a key that a job names: its masters, worlds, life-cycle states and operations (R370); keys 0–63 are
the slots, 64–66 the Class I keys of Table 13-2. -/
def State.keyUse (key : Nat) (s : State) : Nat × Nat × Nat × Nat :=
  if key < 64 then
    let k := s.keySlot key
    if k.valid then (k.masters, k.worlds, k.states, k.ops &&& ((slotType key).elim 0 (fun t => t.2.2))) else (0, 0, 0, 0)
  else if key - 64 < s.kreg.cache.length then (0x8FF, 1, 0x1F, if key = 64 then 12 else 3)
  else (0, 0, 0, 0)

/-- CRYPTO_JOB (R364, R370): a master in its world invokes a key for an operation (bit of Table 13-3's operation mask). The job wakes the crypto
domain, which reaches its frequency 0.2 µs later and stops with its queue empty (R26). -/
def execCryptoJob (master : Fin 13) (secure : Bool) (key : Fin 67) (op : Fin 5) : State → Host.Outcome State Fault Refusal :=
  done fun s =>
    if !s.powered then s
    else
      let w := worldOf master.val secure
      let u := s.keyUse key.val
      if bit u.1 master.val && bit u.2.1 (flag (!w)) && bit u.2.2.1 s.life.code && bit u.2.2.2 op.val then
        let f := ((s.wake domCrypto).whenReady domCrypto).takeFree
        { f.2 with kreg.jobs := incr f.2.kreg.jobs, kreg.jobTill := max f.2.kreg.jobTill (f.2.ns + (Config.freeWord f.1).toNat) }
      else
        let s := { s with kreg.violations := incr s.kreg.violations, kreg.events := s.kreg.events ||| 8#32 }
        (s.reportNow 0x0C06 [(1, master.val), (1, flag (!w)), (1, key.val)]).freeze master.val w 0 .window

/-- The key store is zeroed (R385, Table 13-5). -/
def State.zeroStore (s : State) : State := { s with keys.slots := [] }

/-- The sources detect a tamper (R385, R386): the key store is zeroed and the event latched; a powered unit records it, aborts the crypto job
that runs and stops the fleet. -/
def State.tamper (sources : BitVec 9) (s : State) : State :=
  let mode := s.sys.mode
  let job := s.powered && decide (s.ns < s.kreg.jobTill)
  let latch : TamperLatch := match s.keys.latch with
    | some l => { l with sources := l.sources ||| sources.toNat, aborted := l.aborted || job }
    | none => ⟨sources.toNat, mode.code, s.ao.optime, job, false⟩
  let s := { s.zeroStore with keys.latch := some latch, kreg.live := sources.toNat }
  if !s.powered then s
  else
    let s := { s with kreg.cache := [], kreg.previous := none, kreg.tampers := incr s.kreg.tampers
                      kreg.jobs := if job then s.kreg.jobs - 1#32 else s.kreg.jobs, kreg.jobTill := 0
                      kreg.aborted := if job then incr s.kreg.aborted else s.kreg.aborted
                      kreg.events := s.kreg.events ||| 1#32, pair.tamperSeen := true }
    let s := State.setCell causeTamper sources.toNat (s.reportNow 0x0C07 [(2, sources.toNat), (1, mode.code), (1, flag job)]).breakHealth
    if s.inService && !s.sys.saving then s.degrade 4 0xFF else s

/-- TAMPER (R383–R386): the sources that detect, Table 13-14; the crystal's check waits until it is armed (R508). -/
def execTamper (sources : BitVec 9) : State → Host.Outcome State Fault Refusal :=
  done fun s =>
    let sources := if s.ao.crystalArmed || s.powered then sources else sources &&& 0xFF#9
    if sources = 0#9 then { s with kreg.live := 0 } else s.tamper sources

/-- VBAT_LOW (R383): VBAT in mV falls below 1.9 V; recorded once for each run with VDD_IO33 in range. -/
def execVbatLow (vbat : Nat) : State → Host.Outcome State Fault Refusal :=
  done fun s =>
    let s := { s with kreg.vbat := sat 16 vbat }
    if vbat < 1900 ∧ s.powered = true ∧ s.kreg.vbatRun = false then
      ({ s with kreg.vbatRun := true, ao.vbatLow := true }).report 0x0C0E [(2, sat 16 vbat), (1, 1)]
    else if 1900 ≤ vbat then { s with kreg.vbatRun := false, ao.vbatLow := false }
    else s

/-- The switch due at a cycle boundary S (R381): slots 1 and 3 move into 0 and 2, the old masters stay for 10 s, the new
keys' frame counters start from their ceilings. -/
def State.applySwitch (e at_ : Nat) (s : State) : State :=
  let old := s.epoch
  let fleet := s.keySlot 0
  let node := s.keySlot 2
  let s := (((s.setKey 0 (s.keySlot 1)).setKey 2 (s.keySlot 3)).setKey 1 {}).setKey 3 {}
  let s := { s with kreg.switch := none, kreg.previous := some (old, fleet.key, node.key, at_ + 10)
                    kreg.events := s.kreg.events ||| 32#32 }
  s.report 0x0C0C [(2, old), (2, e)]

/-- EPOCH_SWITCH_APPLY (R381): the cycle boundary S of the pending switch. -/
def execEpochSwitchApply : State → Host.Outcome State Fault Refusal :=
  done fun s =>
    match s.kreg.switch with
    | some (e, at_) =>
      if !s.powered then s
      else
        let s := s.reach (perSec * at_)
        if (s.keySlot 1).valid && (s.keySlot 3).valid then s.applySwitch e at_ else { s with kreg.switch := none }
    | none => s

/-- The previous epoch is cleared. -/
def State.endPrevious (s : State) : State := { s with kreg.previous := none }

/-- PREVIOUS_EPOCH_CLEAR (R381): S + 10 s. -/
def execPreviousEpochClear : State → Host.Outcome State Fault Refusal :=
  done fun s =>
    match s.kreg.previous with
    | some (_, _, _, till) => (s.reach (perSec * till)).endPrevious
    | none => s

/-- MANUFACTURING_MESSAGE (R372, Table 13-8): Ranlek moves the life-cycle state from VENDOR to RETIRED or to PROVISION. -/
def execManufacturingMessage (retire : Bool) : State → Host.Outcome State Fault Refusal :=
  done fun s =>
    if s.life = .vendor then
      if retire then { s.zeroStore with keys.fuse.word := setBit s.keys.fuse.word 2, keys.fuse.keystone := [], keys.fuse.wrapped := 2 ^ 448 - 1 }
      else { s with keys.fuse.word := setBit s.keys.fuse.word 0 }
    else s

end Sys2Proof.Machine
end

