-- ==== Sys2Proof/Machine/Frames.lean ====
section
/-! DEFINITION. Radio frames as octets (R199, R201, R209–R211, Table 8-8): PHR, header families, security header, MIC, FCS, keys (R380), and
the front-end lines (R204). Bit places that the rules name by IEEE 802.15.4 alone are PRESUMED (log 192). -/

namespace Sys2Proof.Machine

/-- The cell's short address (R209). -/
def State.cellShort (s : State) : Nat := 0xF000 + s.cellNo

/-- The cell's extended address (R209). -/
def State.cellExt (s : State) : Nat := 0xC960 * 2 ^ 48 + s.siteId * 2 ^ 16 + s.cellNo

/-- The cell's PAN ID. -/
def State.panId (s : State) : Nat := (s.cfg.image.map (·.site.pan)).getD 0

/-- The octets of a radio address. -/
def RadioAddr.octets : RadioAddr → List Octet
  | .short a => leBytes 2 a
  | .ext e => leBytes 8 e

/-- The addressing mode of IEEE 802.15.4: 2 short, 3 extended. -/
def RadioAddr.mode : RadioAddr → Nat
  | .short _ => 2
  | .ext _ => 3

/-- The auxiliary security header: security control with key identifier mode 1, frame counter, key index (R210). -/
def securityHeader (level counter index : Nat) : List Octet := leBytes 1 (8 + level) ++ leBytes 4 counter ++ leBytes 1 index

/-- The CCM* key of a robot or node under the masters of an epoch (R380). -/
def State.uplinkKey (i identity epoch : Nat) (fleet node : List Octet) (s : State) : List Octet :=
  kdf (if i = 0 then fleet else node) (ascii (if i = 0 then "CMT-ROBOT" else "CMT-NODE"))
    (leBytes 8 identity ++ leBytes 4 s.siteId ++ leBytes 2 epoch) 16

/-- A radio's cell broadcast key (R380). -/
def State.broadcastKey (i : Nat) (s : State) : List Octet :=
  kdf (s.keySlot (if i = 0 then 0 else 2)).key (ascii (if i = 0 then "CMT-BCAST-A" else "CMT-BCAST-B"))
    (leBytes 4 s.siteId ++ leBytes 1 s.cellNo ++ leBytes 2 s.epoch) 16

/-- The identity of a frame's destination. -/
def State.destIdentity (a : AirFrame) (d : Nat) (s : State) : Nat :=
  if a.radio = 1 then (s.nodeRec d).elim 0 (·.identity) else if a.extended then d else (s.rs d).identity

/-- The security level of a frame: 2 for a broadcast, 6 otherwise (R211). -/
def AirFrame.level (a : AirFrame) : Nat := if a.dest.isNone then 2 else 6

/-- The MAC header of a frame that the unit sends: family UB, UU or UX (Table 8-8). -/
def State.macHeader (a : AirFrame) (s : State) : List Octet :=
  match a.dest with
  | none => leBytes 2 (1 + 8 + 64 + 2 ^ 8 + 2 * 2 ^ 12 + 2 * 2 ^ 14) ++ leBytes 2 s.cellShort
  | some d =>
    let dest : RadioAddr := if a.extended then .ext d else .short d
    leBytes 2 (1 + 8 + 32 + 64 + 2 ^ 10 * dest.mode + 2 * 2 ^ 12 + 2 * 2 ^ 14) ++ leBytes 1 (a.seq.getD 0) ++ leBytes 2 s.panId ++ dest.octets ++
      leBytes 2 s.cellShort

/-- The FCS: CRC-32 of IEEE 802.3 over the PSDU before it. -/
def frameCheck (psdu : List Octet) : List Octet := leBytes 4 (crc32 psdu)

/-- The PSDU of a frame that the unit sends (R210, R211): header, security header, the payload in clear or encrypted, MIC, FCS. -/
def State.psduOf (a : AirFrame) (s : State) : List Octet :=
  let head := s.macHeader a ++ securityHeader a.level a.counter (s.epoch % 256)
  let nonce := beBytes 8 s.cellExt ++ beBytes 4 a.counter ++ leBytes 1 a.level
  let body := match a.dest with
    | none => a.payload ++ leBytes 8 (Config.ccmMic (s.broadcastKey a.radio) nonce (head ++ a.payload) []).toNat
    | some d =>
      let key := s.uplinkKey a.radio (s.destIdentity a d) s.epoch (s.keySlot 0).key (s.keySlot 2).key
      padTo a.payload.length (Config.ccmEncrypt key nonce a.payload) ++ leBytes 8 (Config.ccmMic key nonce head a.payload).toNat
  head ++ body ++ frameCheck (head ++ body)

/-- The centre frequency of a channel in kHz (Table 8-1). -/
def centreKHz (plan ch : Nat) : Nat := (match plan with | 0 => 902200 | 1 => 863200 | _ => 915200) + 400 * ch

/-- A frame with all that it has on air: PHR (R199), centre frequency and transmit power (R201), PSDU (R210, R211). -/
def State.sealFrame (band : Nat) (power : Int) (a : AirFrame) (s : State) : AirFrame :=
  let p := s.psduOf a
  { a with psdu := p, phr := { length := p.length }, kHz := centreKHz band a.channel, power := power }

/-- The PSDU of an acknowledgement (Table 8-8): on RADIO_B with one Time Correction header IE, signed 12 bits in µs (R222). -/
def ackPsdu (i seq : Nat) (more : Bool) (correction : Int) : List Octet :=
  let b := leBytes 2 (2 + 16 * flag more + 2 * 2 ^ 12 + (if i = 1 then 2 ^ 9 else 0)) ++ leBytes 1 seq ++
    (if i = 1 then leBytes 2 (2 + 0x1E * 2 ^ 7) ++ leBytes 2 (sbits 12 correction) else [])
  b ++ frameCheck b

/-- A PHR that the unit discards: FCS type 1 or mode switch 1 (R199). -/
def Phr.unsupported (p : Phr) : Bool := p.modeSwitch || decide (p.fcsType = 1)

/-- FEMx_TX and FEMx_RX at device time `t` (R204, Table 8-3): they change 20 µs before the modem transmits or receives and return 10 µs
after it stops; the transmit line is gated by the claim. -/
def State.femLines (i fem t : Nat) (s : State) : Bool × Bool :=
  let r := s.radio i
  let during := fun (lo hi : Nat) => decide (lo ≤ t + 20 * perUs ∧ t < hi + 10 * perUs)
  let tx := s.gateOpen && (r.onAir.any (fun p => during p.1.start p.2) || r.ackAir.any (fun p => during p.1 p.2))
  let rx := during r.rxFrom r.rx && decide (r.rxFrom < r.rx)
  match fem with
  | 0 => (false, false)
  | 1 => (tx, rx)
  | 2 => (tx, false)
  | _ => (!tx, !rx)

end Sys2Proof.Machine
end

