-- ==== Sys2Proof/Machine/Arbiter.lean ====
section
/-! DEFINITION. The crossing arbiter's stage (R275–R300): force-releases, orphan holds, seating, releases, adoption, class
changes, overstay, quotas, grants, guests. `t0` is the tick's device time; the stage follows the list of R285. -/

namespace Sys2Proof.Machine

/-- A GUEST_RELEASE to the owner of a border span, unanswered until result 3 (R300, R487). -/
def State.guestRelease (n x : Nat) (s : State) : State :=
  let owner := (s.spanGeo x).elim 0 (·.owner)
  let s := { s with guest.sentAt := if s.guest.releasing = [] then s.ns else s.guest.sentAt
                    guest.releasing := s.guest.releasing ++ [(owner, x, n)] }
  s.backbone 0x00F2 (leBytes 1 s.cellNo ++ leBytes 1 owner ++ leBytes 1 n ++ [0#8] ++ leBytes 2 x ++ [0#8, 0#8])

/-- The resolving marks of the circle of which `n` is a member end; with `record`, DEADLOCK_RESOLVED is written (R297). -/
def State.endCircle (n : Nat) (record : Bool) (t0 : Nat) (s : State) : State :=
  s.each (s.fleet.xarb.circles.filter (fun c => c.members.contains n && c.victim.isSome)) fun c s =>
    let s := { s with fleet.xarb.circles := s.fleet.xarb.circles.filter (fun d => decide (d ≠ c)) }
    let s := s.each c.members (fun m s =>
      s.updXs m (fun (x : ArbSess) => { x with resolving := s.fleet.xarb.circles.any (fun d => d.members.contains m && d.victim.isSome) }))
    if record then s.tickReport 0x0909 [(1, (c.victim.getD 0xFF : Nat)), (4, (secBetween c.since t0 : Nat))] else s

/-- Session `n` gives spans of its held run up: what leaves is dropped from its tables, border spans are released to their
owner, and a circle it is a member of is resolved. -/
def State.lose (n : Nat) (left : List Nat) (t0 : Nat) (s : State) : State :=
  let x := s.xs n
  let gone := x.held.filter (fun a => !left.contains a)
  let s := s.setXs n { x with held := left, expected := x.expected.filter (fun p => left.contains p.1) }
  if gone = [] then s
  else (s.each (gone.filter (fun a => s.foreign a)) (fun a s => s.guestRelease n a)).endCircle n true t0

/-- A NO_ESCAPE hold ends (R296): for every circle, or for those that have `n` as a member. -/
def State.endNoEscape (n : Option Nat) (s : State) : State :=
  let ends := fun (c : Circle) => c.victim.isNone && (n.elim true c.members.contains)
  let gone := s.fleet.xarb.circles.filter ends
  let s := s.each (gone.flatMap (·.members)) (fun m s => s.updXs m (fun (x : ArbSess) => { x with noEscape := false }))
  let left := s.fleet.xarb.circles.filter (fun c => !ends c)
  { s with fleet.xarb.circles := left, fleet.xarb.alarm := left.any (fun c => c.victim.isNone) }

/-- Session `n` loses spans by force (R298): its held run keeps what stays contiguous from its rearmost covered span, its
go bit clears, and with no span under its reference point it must seat again. -/
def State.forceSession (n : Nat) (xs : List Nat) (host t0 : Nat) (s : State) : List Nat × State :=
  let x := s.xs n
  let left := x.held.takeWhile (fun a => !xs.contains a)
  let gone := x.held.filter (fun a => !left.contains a)
  let ret := (x.retreat.map (fun r => r.spans.filter xs.contains)).getD []
  if gone = [] ∧ ret = [] then ([], s)
  else
    let s := (s.lose n left t0).endNoEscape (some n)
    let s := s.updXs n (fun (x : ArbSess) => { x with
      retreat := x.retreat.map (fun (r : Retreat) => { r with spans := r.spans.filter (fun a => !xs.contains a) })
      first := x.first || !left.contains ((s.rs n).report.elim (s.rs n).span (·.span)) })
    (gone ++ ret, s.setSess n sessForce host)

/-- A guest slot is freed, and its cell is told (R298–R300, Table 18-8). -/
def State.freeGuest (g result : Nat) (s : State) : State :=
  let v := Tab.get {} s.fleet.xarb.guests g
  let body := leBytes 1 s.cellNo ++ leBytes 1 v.cell ++ leBytes 1 v.session ++ leBytes 1 result ++ leBytes 2 v.span ++ leBytes 1 g ++ [0#8]
  { s with fleet.xarb.guests := Tab.set {} s.fleet.xarb.guests g {}
           tick := s.tick.map (fun (t : TickOut) => { t with guestOut := t.guestOut ++ [(0x00F1, body)] }) }

/-- Spans of an orphan hold are released. -/
def State.freeOrphan (n : Nat) (xs : List Nat) (s : State) : List Nat × State :=
  match Tab.get none s.fleet.xarb.orphans n with
  | none => ([], s)
  | some o =>
    let gone := o.spans.filter xs.contains
    let left := o.spans.filter (fun a => !xs.contains a)
    let s := { s with fleet.xarb.orphans := Tab.set none s.fleet.xarb.orphans n (if left = [] then none else some { o with spans := left }) }
    (gone, s.each (gone.filter (fun a => s.foreign a)) (fun a s => s.guestRelease n a))

/-- The holders as XARB numbers them: an orphan hold is 0x1FE. -/
def holderCode (h : Nat) : Nat := if 0x200 ≤ h then 0x1FE else h

/-- The holders that an order releases, each with its spans (R298): kinds 0 span, 1 session, 2 orphan hold, 3 guest slot. -/
def State.forceHolders (o : HostOrder) (s : State) : List (Nat × List Nat) :=
  match o.scope with
  | 0 => (s.holders o.target).map (fun h => (h, [o.target]))
  | 1 => [(o.target, (s.xs o.target).held ++ ((s.xs o.target).retreat.map (·.spans)).getD [])]
  | 2 => [(0x200 + o.target, ((Tab.get none s.fleet.xarb.orphans o.target).map (·.spans)).getD [])]
  | _ => if (Tab.get {} s.fleet.xarb.guests o.target).state ≠ 0 then [(0x100 + o.target, [(Tab.get {} s.fleet.xarb.guests o.target).span])]
         else []

/-- One holder is released: the spans freed with their holder, and the number of sessions that lost one, so far. -/
def State.forceOne (t0 host : Nat) (acc : (List (Nat × Nat) × Nat) × State) (p : Nat × List Nat) : (List (Nat × Nat) × Nat) × State :=
  if 0x200 ≤ p.1 then
    let q := acc.2.freeOrphan (p.1 - 0x200) p.2
    ((acc.1.1 ++ q.1.map (fun a => (a, p.1)), acc.1.2), q.2)
  else if 0x100 ≤ p.1 then ((acc.1.1 ++ p.2.map (fun a => (a, p.1)), acc.1.2), acc.2.freeGuest (p.1 - 0x100) 2)
  else
    let q := acc.2.forceSession p.1 p.2 host t0
    ((acc.1.1 ++ q.1.map (fun a => (a, p.1)), acc.1.2 + (if q.1 = [] then 0 else 1)), q.2)

/-- The holders are released one after another. -/
def State.forceAll (t0 host : Nat) (hs : List (Nat × List Nat)) (s : State) : (List (Nat × Nat) × Nat) × State :=
  hs.foldl (State.forceOne t0 host) (([], 0), s)

/-- The spans that a force-release freed: the tick holds them as forced, and each is recorded with its number of holders (R298). -/
def State.forceNote (host : Nat) (freed : List (Nat × Nat)) (s : State) : State :=
  let spans := (freed.map (·.1)).eraseDups
  let s := { s with fleet.xarb.forced := s.fleet.xarb.forced ++ spans }
  (s.when (decide (spans ≠ [])) (State.news (.forced spans.length))).each spans (fun a s =>
    (s.tickReport 0x090B [(2, a), (1, ((freed.filter (fun p => decide (p.1 = a))).length : Nat)), (1, host)]).fleetEvent 0x090B)

/-- A reply that waits for the end of the tick. -/
def State.awaitNow (f : ChpFrame) (tick : Nat) (s : State) : State :=
  { s with host.awaiting := s.host.awaiting ++ [⟨f, 0x0080, 1, tick, []⟩] }

/-- One force-release (R298). -/
def State.force (t0 tick : Nat) (o : HostOrder) (s : State) : State :=
  let r := s.forceAll t0 o.host (s.forceHolders o)
  let s := r.2.forceNote o.host r.1.1
  match o.frame with
  | some f => if r.1.1 = [] then s.awaitNow f tick else s.await f 0x0080 tick (leBytes 1 r.1.2 ++ [0#8, 0#8, 0#8])
  | none => s

/-- The held spans of a closed session become its orphan hold (R289); a retreat reservation takes no part in it. -/
def State.orphan (n identity : Nat) (s : State) : State :=
  let x := s.xs n
  let s := if x.held = [] then s else
    { s with fleet.xarb.orphans := Tab.set none s.fleet.xarb.orphans n (some { identity := identity, spans := x.held }) }
  s.setXs n { retreat := x.retreat.bind (fun r => if r.taken then none else some r), serial := x.serial }

/-- A span whose holders exceed its capacity after seating is recorded (R283). -/
def State.seatCheck (n x : Nat) (s : State) : State :=
  let h := (s.holders x).length
  if (s.spanGeo x).elim 0 (·.capacity) < h then (s.tickReport 0x0903 [(2, x), (1, h), (1, n)]).fleetEvent 0x0903 else s

/-- A session opened in the previous tick is seated on its JOIN span; the orphan hold it left joins it (R283, R289). -/
def State.seat (n : Nat) (s : State) : State :=
  let r := s.rs n
  if r.state = 0 then s
  else
    let mine := (Tab.get none s.fleet.xarb.orphans n).bind (fun o => if o.identity = r.identity then some o.spans else none)
    let s := if mine = none then s else { s with fleet.xarb.orphans := Tab.set none s.fleet.xarb.orphans n none }
    let held := r.span :: ((mine.getD []).filter (fun a => decide (a ≠ r.span)))
    let s := s.setXs n { seated := true, cls := r.cls, held := held, serial := (s.xs n).serial, retreat := (s.xs n).retreat }
    s.seatCheck n r.span

/-- The index in the adopted route of the span at the route index that a report names, where it names the adopted route or
a pending one over the shared part (R282). -/
def State.rearNamed (n : Nat) (s : State) : Option Nat :=
  let x := s.xs n
  match (s.rs n).report, x.route with
  | some p, some r =>
    if p.routeId = r.id then (r.spans[p.index]?).map (fun _ => p.index)
    else
      match x.pending with
      | some q =>
        if p.routeId = q.id then
          (q.spans[p.index]?).bind (fun a =>
            if (s.shared n).contains a.1 then r.indexOf a.1 else none)
        else none
      | none => none
  | _, _ => none

/-- Spans behind the rearmost covered span are released (R282). -/
def State.releaseBehind (t0 n : Nat) (s : State) : State :=
  match s.rearNamed n with
  | some i =>
    let x := s.xs n
    if i < x.index then s
    else
      let s := s.updXs n (fun (x : ArbSess) => { x with index := i })
      s.lose n (x.held.filter (fun b => ((s.routeOf n).indexOf b).elim true (fun j => decide (i ≤ j)))) t0
  | none => s

/-- A completed route is taken up (R275): rejected with the failing index and the reason, or pending. -/
def State.takeRoute (n : Nat) (s : State) : State :=
  match (s.rs n).done with
  | none => s
  | some a =>
    let s := s.updRs n (fun (r : RadioSess) => { r with done := none })
    match s.validate n a.id a.spans with
    | .error (i, why) => (s.tickReport 0x0901 [(1, n), (1, a.id), (1, i), (1, why)]).fleetEvent 0x0901
    | .ok r => s.updXs n (fun (x : ArbSess) => { x with pending := some r })

/-- The span that the reference point of session `n` occupies. -/
def State.refSpan (n : Nat) (s : State) : Nat :=
  match (s.xs n).route, (s.rs n).report with
  | some _, some p => p.span
  | _, _ => (s.rs n).span

/-- A pending route reverses (R277): it travels the occupied span opposite to the present direction. -/
def State.reverses (n : Nat) (q : Route) (s : State) : Bool :=
  let a := s.refSpan n
  match q.spans.find? (fun p => decide (p.1 = a)), (s.routeOf n).spans.find? (fun p => decide (p.1 = a)) with
  | some p, some o => decide (p.2 ≠ o.2)
  | _, _ => false

/-- The last published profile of session `n` has no segment still to run at `ms`. -/
def State.profileRun (n ms : Nat) (s : State) : Bool :=
  match (s.ps n).latest with
  | some p => decide (p.segs = []) || decide (p.start + planMs p.segs ≤ ms)
  | none => true

/-- The adoption condition of R277, and of R283 for a first route. -/
def State.adoptable (n ms : Nat) (q : Route) (s : State) : Bool :=
  let x := s.xs n
  let names := q.spans.map (·.1)
  let a := s.refSpan n
  if s.reverses n q then
    let need := if x.first then [a] else (s.covered n).reverse
    decide (((s.rs n).report.map (·.speed)) = some 0) && s.profileRun n ms && decide (names.take need.length = need)
  else if x.first then names.contains a
  else
    let r := s.routeOf n
    let stop := match (s.ps n).stopPos with
      | some v => ((s.placeAt r v).bind (fun i => r.spans[i]?)).map (·.1)
      | none => some a
    match stop with
    | none => false
    | some z =>
      let run := x.held
      let need := run.takeWhile (fun b => decide (b ≠ z)) ++ [z]
      run.contains z && decide (names.take need.length = need)

/-- A stored profile counted along the new route. -/
def Profile.shift (d : Int) (p : Profile) : Profile := { p with along := p.along + d }

/-- The profiler's positions of a session counted along the new route (R277, R278): shifted by the part left behind, or
after a reversal awaiting the first report of the new reference point. -/
def ProfSess.readopt (back : Bool) (first : Bool) (d : Int) (id : Nat) (p : ProfSess) : ProfSess :=
  if back then
    { p with reverse := if first then p.reverse else !p.reverse, awaitRef := some id, rest := none
             planEnd := none, stopPos := none, authority := none, cand := none, earlier := []
             base := { p.base with segs := [], along := 0 } }
  else
    { p with base := p.base.shift d, earlier := p.earlier.map (Profile.shift d), cand := p.cand.map (Profile.shift d)
             latest := p.latest.map (Profile.shift d), rest := p.rest.map (· + d), planEnd := p.planEnd.map (· + d)
             stopPos := p.stopPos.map (· + d), authority := p.authority.map (· + d) }

/-- A pending route becomes the session's route (R277, R278). -/
def State.adopt (n t0 : Nat) (q : Route) (s : State) : State :=
  let x := s.xs n
  let old := s.routeOf n
  let back := s.reverses n q
  let d : Int := match q.spans.head? with
    | some p => -(match old.indexOf p.1 with
      | some i => s.startOf old i
      | none => -(s.startOf q ((q.indexOf (s.refSpan n)).getD 0)))
    | none => 0
  let names := q.spans.map (·.1)
  let isRetreat := match x.retreat with
    | some r => let whole := (s.covered n).reverse ++ r.spans; !r.taken && decide (names.take whole.length = whole)
    | none => false
  let extra := (if isRetreat then (x.retreat.map (·.spans)).getD [] else []) ++
    (if x.first then names.take (((q.indexOf (s.refSpan n)).getD 0) + 1) else [])
  let have_ := x.held ++ extra
  let run := names.takeWhile have_.contains
  let seats := if x.first then extra.filter (fun a => !x.held.contains a) else []
  let s := s.setXs n { x with
    held := x.held ++ run.filter (fun a => !x.held.contains a)
    route := some q, pending := none, index := 0, first := false
    retreat := if isRetreat then x.retreat.map (fun (r : Retreat) => { r with spans := [], taken := true }) else x.retreat }
  let s := s.lose n run t0
  let s := s.each seats (fun a s => s.seatCheck n a)
  let s := s.updPs n (ProfSess.readopt back x.first d q.id)
  s.news .routed

/-- The route step of the stage for one session: take up, adopt, or leave pending (R275, R277). -/
def State.routeStep (t0 n : Nat) (s : State) : State :=
  let fresh := (s.rs n).done.isSome
  let s := s.takeRoute n
  match (s.xs n).pending with
  | none => s
  | some q =>
    if s.adoptable n (msOf t0) q then s.adopt n t0 q
    else if fresh then
      let k := match (s.shared n).getLast? with
        | some a => (q.indexOf a).getD 0xFF
        | none => 0xFF
      s.tickReport 0x0902 [(1, n), (1, q.id), (1, k)]
    else s

/-- A class change (R292). -/
def State.classChange (n c : Nat) (s : State) : State :=
  if (s.rs n).state = 0 then s
  else
    let old := (s.xs n).cls
    (s.updXs n (fun (x : ArbSess) => { x with cls := c, override := true })).tickReport 0x090F [(1, n), (1, old), (1, c)]

/-- Overstay (R293, R294): spans whose expected release has passed suspend the session until each is released. -/
def State.overstay (t0 n : Nat) (s : State) : State :=
  let x := s.xs n
  let stay := x.overdue.filter x.held.contains
  let late := if goBit s.fleet.go n then
      x.expected.filter (fun p => decide (p.2 < msOf t0) && x.held.contains p.1 && !stay.contains p.1) else []
  let s := s.setXs n { x with overdue := stay ++ late.map (·.1), overstayed := decide (stay ++ late.map (·.1) ≠ []) }
  let s := s.each late (fun p s =>
    ((s.tickReport 0x0905 [(1, n), (2, p.1), (2, (sat 16 ((msOf t0 - p.2) / 1000) : Nat))]).fleetEvent 0x0905).news .overstayed)
  if x.overstayed && decide (stay ++ late.map (·.1) = []) then s.tickReport 0x0906 [(1, n)] else s

/-- Quota windows that have begun since the tick last published, this tick included (R291). -/
def State.rollQuotas (tick : Nat) (s : State) : State :=
  let last := tick - (tick % 2 ^ 32 + 2 ^ 32 - s.pub.tick % 2 ^ 32) % 2 ^ 32
  s.each [0, 1] fun c s =>
    match s.classRec c with
    | some r =>
      if r.window ≠ 0 ∧ last / (100 * r.window) ≠ tick / (100 * r.window) then
        { s with fleet.xarb.used := s.fleet.xarb.used.set c 0, fleet.xarb.masked := s.fleet.xarb.masked.set c false }
      else s
    | none => s

/-- The spans of a session's request with their directions (R276): of the adopted route, or of the pending one. -/
def State.request (n : Nat) (s : State) : List (Nat × Bool) :=
  let x := s.xs n
  match (s.rs n).report with
  | some p =>
    if (s.rs n).state = 0 ∨ x.first ∨ p.ahead = 0 then []
    else if (x.route.map (·.id)) = some p.routeId then ((x.route.elim [] (·.spans)).drop p.index).take p.ahead
    else if (x.pending.map (·.id)) = some p.routeId then ((x.pending.elim [] (·.spans)).drop p.index).take p.ahead
    else []
  | none => []

/-- The checks of Table 10-2 that concern the session: the cause of the first that fails. -/
def State.sessCheck (n : Nat) (s : State) : Option Nat :=
  let x := s.xs n
  if s.sys.mode = Mode.survey then some 1
  else if (s.rs n).state = 2 then some 2
  else if bit (s.causes n) sessRemoved then some 3
  else if (s.rs n).audit.hold then some 4
  else if x.overstayed then some 5
  else if (s.fleet.xarb.masked[x.cls]?).getD false then some 6
  else if x.noEscape then some 8
  else if x.cause9 then some 9
  else none

/-- The checks of Table 10-2 for one span that the session does not hold. -/
def State.grantCheck (n : Nat) (p : Nat × Bool) (s : State) : Option Nat :=
  let x := s.xs n
  match s.sessCheck n with
  | some c => some c
  | none =>
    if x.pending.isSome && !(s.shared n).contains p.1 then some 7
    else
      match s.spanCheck n p.1 p.2 with
      | some 12 => if s.foreign p.1 then some (if x.guestRefused then 14 else 13) else some 12
      | some c => some c
      | none =>
        if s.foreign p.1 then some (if x.guestRefused then 14 else 13)
        else if s.fleet.xarb.forced.contains p.1 then some 15
        else none

/-- Whether some session or guest of a greater class number waits for a span (R290). -/
def State.contestedSpan (n x : Nat) (s : State) : Bool :=
  let c := (s.xs n).cls
  s.fleet.xarb.sessions.any (fun p => decide (p.1 ≠ n ∧ c < p.2.cls ∧ p.2.blocked = some x ∧ (s.rs p.1).state ≠ 0)) ||
  s.fleet.xarb.asks.any (fun a => a.tried && decide (c < a.cls ∧ a.span = x))

/-- The longest prefix that passes (R284): what was granted, and where and why the prefix ended. -/
def State.grantGo (n : Nat) : List (Nat × Bool) → List Nat → State → (List Nat × Option (Nat × Nat)) × State
  | [], got, s => ((got, none), s)
  | p :: ps, got, s =>
    if (s.xs n).held.contains p.1 then State.grantGo n ps got s
    else
      match s.grantCheck n p with
      | some c => ((got, some (p.1, c)), s)
      | none => State.grantGo n ps (got ++ [p.1]) (s.updXs n (fun (x : ArbSess) => { x with held := x.held ++ [p.1] }))

/-- One contested grant of a class; the one that reaches the quota masks the class (R290, R291). -/
def State.spend (c tick : Nat) (s : State) : State :=
  if 2 ≤ c then s
  else
    let n := (s.fleet.xarb.used[c]?).getD 0 + 1
    let r := s.classRec c
    let s := { s with fleet.xarb.used := s.fleet.xarb.used.set c n }
    if r.elim 0 (·.quota) ≤ n then
      let w := r.elim 1 (·.window)
      (({ s with fleet.xarb.masked := s.fleet.xarb.masked.set c true }).tickReport 0x0904
        [(1, c), (4, ((tick / 100 / w * w) % 2 ^ 32 : Nat))]).fleetEvent 0x0904
    else s

/-- One session's evaluation (R284, R287, R288, R290). -/
def State.evaluate (tick n : Nat) (s : State) : State :=
  let before := s.xs n
  let req := s.request n
  let clash := req.filter (fun p => s.contestedSpan n p.1) |>.map (·.1)
  let r := State.grantGo n req [] s
  let s := r.2
  let cause := (r.1.2.map (·.2)).getD 0
  let s := s.updXs n (fun (x : ArbSess) => { x with
    cause := cause
    age := if cause ≠ 0 ∧ before.cause ≠ 0 then min 65535 (before.age + 1) else 0
    blocked := if 12 ≤ cause ∧ cause ≤ 14 then r.1.2.map (·.1) else none
    ahead := req.length, waits := 0x1FF })
  let s := if r.1.1 = [] then s else s.news (.granted r.1.1.length)
  if r.1.1.any clash.contains then (s.news .contested).spend before.cls tick else s

/-- The order of R286. -/
def State.requestOrder (s : State) : List Nat :=
  let l := s.openSessions.map (fun n => (n, (s.xs n).cls, (s.xs n).age, (n + 256 - s.fleet.xarb.pointer) % 256))
  (sortBy (fun (a b : Nat × Nat × Nat × Nat) =>
    decide (a.2.1 < b.2.1 ∨ (a.2.1 = b.2.1 ∧ (b.2.2.1 < a.2.2.1 ∨ (a.2.2.1 = b.2.2.1 ∧ a.2.2.2 < b.2.2.2))))) l).map (·.1)

/-- An answer of another cell's owner (R299, R300, Table 18-8): session, span, result. -/
def State.guestAnswer (t0 : Nat) (a : Nat × Nat × Nat) (s : State) : State :=
  let x := s.xs a.1
  let owner := (s.spanGeo a.2.1).elim 0 (·.owner)
  match a.2.2 with
  | 0 =>
    let r := s.routeOf a.1
    let next : Option Nat := match x.held.getLast?.bind r.indexOf with
      | some i => (r.spans[i + 1]?).map (·.1)
      | none => none
    if x.held.contains a.2.1 then s
    else if (s.rs a.1).state ≠ 0 ∧ next = some a.2.1 then s.setXs a.1 { x with held := x.held ++ [a.2.1] }
    else s.guestRelease a.1 a.2.1
  | 1 => ((s.setXs a.1 { x with guestRefused := true }).tickReport 0x090C [(2, a.2.1), (1, owner), (1, a.1)]).fleetEvent 0x090C
  | 2 =>
    let q := s.forceSession a.1 [a.2.1] 0xFF t0
    let s := { q.2 with guest.releasing := q.2.guest.releasing.filter (fun p => !decide (p.2 = (a.2.1, a.1))) }
    if q.1 = [] then s
    else ((s.tickReport 0x090B [(2, a.2.1), (1, 1), (1, 0xFF)]).fleetEvent 0x090B).news (.forced q.1.length)
  | _ => { s with guest.releasing := s.guest.releasing.filter (fun p => !decide (p.2 = (a.2.1, a.1))) }

/-- One guest request at the owner (R299): granted, refused, or waiting for the next tick. R299's
checks for guests are 10, 11 and 13, so SURVEY, of which R35 says that it grants nothing, stops the
session requests and no guest (DESIGN CHOICE, log 159). -/
def State.guestAsk (t0 : Nat) (a : GuestAsk) (s : State) : State :=
  let answer := fun (result slot : Nat) (s : State) =>
    let body := leBytes 1 s.cellNo ++ leBytes 1 a.cell ++ leBytes 1 a.session ++ leBytes 1 result ++ leBytes 2 a.span ++ leBytes 1 slot ++ [0#8]
    { s with tick := s.tick.map (fun (t : TickOut) => { t with guestOut := t.guestOut ++ [(0x00F1, body)] })
             fleet.xarb.asks := s.fleet.xarb.asks.filter (fun b => !decide (b.cell = a.cell ∧ b.session = a.session ∧ b.span = a.span)) }
  let mine := s.fleet.xarb.guests.find? (fun p => decide (p.2.state ≠ 0 ∧ p.2.cell = a.cell ∧ p.2.session = a.session ∧ p.2.span = a.span))
  match mine with
  | some p => answer 0 p.1 s
  | none =>
    let free := (List.range 16).find? (fun g => decide ((Tab.get {} s.fleet.xarb.guests g).state = 0))
    match s.spanCheck 0x300 a.span a.forward, free with
    | some 10, _ => answer 1 0xFF s
    | some 11, _ => answer 1 0xFF s
    | _, none => answer 1 0xFF s
    | some _, some _ => s
    | none, some g =>
      if s.fleet.xarb.forced.contains a.span then s
      else
        let s := { s with fleet.xarb.guests := Tab.set {} s.fleet.xarb.guests g
                            { state := 1, span := a.span, cell := a.cell, session := a.session, cls := a.cls, since := t0 } }
        (answer 0 g s).news .guestIn

/-- The guest requests received, by class, wait age, arrival (R299); those that stay are waiting. -/
def State.guestAsks (t0 : Nat) (s : State) : State :=
  let order := sortBy (fun (a b : GuestAsk) => decide (a.cls < b.cls ∨ (a.cls = b.cls ∧ b.age < a.age))) s.fleet.xarb.asks
  let s := s.each order (State.guestAsk t0)
  { s with fleet.xarb.asks := s.fleet.xarb.asks.map (fun (a : GuestAsk) => { a with tried := true }) }

/-- A guest's release frees its slot, and is answered with result 3; a LOST slot ends by the owner's force-release only, so a release of its span
stays unanswered and the guest's cell goes on sending it (R300, R487). -/
def State.guestFreed (a : Nat × Nat × Nat) (s : State) : State :=
  match s.fleet.xarb.guests.find? (fun p => decide (p.2.state ≠ 0 ∧ p.2.cell = a.1 ∧ p.2.span = a.2.1 ∧ p.2.session = a.2.2)) with
  | some p => if p.2.state = 2 then s else s.freeGuest p.1 3
  | none =>
    let body := leBytes 1 s.cellNo ++ leBytes 1 a.1 ++ leBytes 1 a.2.2 ++ leBytes 1 3 ++ leBytes 2 a.2.1 ++ [0xFF#8, 0#8]
    { s with tick := s.tick.map (fun (t : TickOut) => { t with guestOut := t.guestOut ++ [(0x00F1, body)] }) }

/-- Guest requests for the border spans at which prefixes ended (R299, R300). -/
def State.sendGuestAsks (s : State) : State :=
  s.each s.openSessions fun n s =>
    let x := s.xs n
    match x.blocked, x.cause with
    | some a, 13 =>
      let owner := (s.spanGeo a).elim 0 (·.owner)
      if s.guest.lost.contains owner then s
      else
        let fwd := ((s.request n).find? (fun p => decide (p.1 = a))).elim true (·.2)
        (s.backbone 0x00F0 (leBytes 1 s.cellNo ++ leBytes 1 owner ++ leBytes 1 n ++ leBytes 1 x.cls ++ leBytes 2 a ++
          leBytes 1 (flag (!fwd)) ++ [0#8] ++ leBytes 2 x.age ++ [0#8, 0#8])).news .guestOut
    | _, _ => s

/-- A retreat whose descriptor was discarded: the reservation is released and the circle's marks clear (R297). `alive` are
the tasks that stood at the snapshot. -/
def State.cancelRetreats (alive : List Nat) (t0 : Nat) (s : State) : State :=
  s.each (s.fleet.xarb.sessions.filterMap (fun p => p.2.retreat.map (fun r => (p.1, r)))) fun p s =>
    if alive.contains p.2.task then s
    else (s.updXs p.1 (fun (x : ArbSess) => { x with retreat := none, cause9 := false })).endCircle p.1 false t0

end Sys2Proof.Machine
end

