-- ==== Sys2Proof/Machine/Deadlock.lean ====
section
/-! DEFINITION. Circular waits (R295–R297) and the arbiter's stage as a whole (R285). -/

namespace Sys2Proof.Machine

/-- A session is blocked (R288). -/
def State.isBlocked (n : Nat) (s : State) : Bool := (s.xs n).blocked.isSome

/-- The wait-for pointer of a session, and what WAITS_ON names (R295). -/
def State.waitsFor (n : Nat) (s : State) : Option Nat × Nat :=
  match (s.xs n).blocked with
  | none => (none, 0x1FF)
  | some a =>
    let hs := (s.holders a).filter (fun h => decide (h ≠ n))
    let orphans := hs.filter (fun h => decide (0x200 ≤ h))
    let guests := hs.filter (fun h => decide (0x100 ≤ h) && decide (h < 0x200))
    let running := hs.filter (fun h => decide (h < 0x100) && !s.isBlocked h)
    if orphans ≠ [] then (none, 0x1FE)
    else
      match guests.head?, running.head?, hs.head? with
      | some g, _, _ => (none, g)
      | none, some m, _ => (none, m)
      | none, none, some m => (some m, m)
      | none, none, none => (none, 0x1FF)

/-- The chain of pointers from a session: the circle that it closes, if any, and the sessions it visits. -/
def follow (next : Nat → Option Nat) : Nat → List Nat → List Nat → Nat → List Nat × List Nat
  | 0, path, seen, _ => ([], path ++ seen)
  | k + 1, path, seen, n =>
    if path.contains n then (path.dropWhile (fun m => decide (m ≠ n)), path ++ seen)
    else if seen.contains n then ([], path ++ seen)
    else
      match next n with
      | some m => follow next k (path ++ [n]) seen m
      | none => ([], (path ++ [n]) ++ seen)

/-- The circles of a wait-for graph, found from each blocked session in turn. -/
def circlesFrom (next : Nat → Option Nat) : List Nat → List Nat → List (List Nat)
  | [], _ => []
  | n :: ns, seen =>
    if seen.contains n then circlesFrom next ns seen
    else
      let r := follow next 257 [] seen n
      if r.1 = [] then circlesFrom next ns r.2 else r.1 :: circlesFrom next ns r.2

/-- The least element of a list of numbers. -/
def leastOf (l : List Nat) : Nat := l.foldl min (l.headD 0)

/-- The members in pointer order, starting with `n`. -/
def rotateTo (n : Nat) (l : List Nat) : List Nat :=
  l.dropWhile (fun m => decide (m ≠ n)) ++ l.takeWhile (fun m => decide (m ≠ n))

/-- The members in the order in which they are tried as victim (R295). -/
def State.victimOrder (l : List Nat) (s : State) : List Nat :=
  sortBy (fun a b =>
    let x := s.xs a
    let y := s.xs b
    decide (y.cls < x.cls ∨ (x.cls = y.cls ∧ (x.age < y.age ∨ (x.age = y.age ∧ b < a))))) l

/-- The data of DEADLOCK and NO_ESCAPE: length and the first eight members (Table 10-6). -/
def circleData (l : List Nat) : List (Nat × Int) := (2, (l.length : Int)) :: (l.take 8).map (fun m => (1, (m : Int)))

/-- The retreat descriptor of a victim (R296). -/
def State.retreatDesc (n : Nat) (path : List Nat) (far : Nat) (s : State) : Desc × Nat :=
  let k := nextFree s.taskLows 16384 (Tab.get 0xFFFF s.fleet.dsp.retreatN n)
  let rear := ((s.covered n).head?.bind (fun x => (s.routeOf n).spans.find? (fun p => decide (p.1 = x)))).bind (fun p => s.entryPier p)
  ({ task := 0xC0000000 + n * 65536 + k, flow := 1023, mask := 0x0F, queue := s.resolutionQueue, origin := rear.getD 0xFFFF
     dest := far, impl := 0, bound := 0xFE, targets := [0, 0, 0], payload := 0, flags := 4, source := 2, number := n
     host := padTo 24 ((padTo 16 (path.flatMap (leBytes 2)) |>.mapIdx (fun i b => if i < 2 * path.length then b else 0xFF#8)) ++
       leBytes 1 path.length) }, k)

/-- One circle is resolved (R295, R296). -/
def State.resolve (t0 : Nat) (l : List Nat) (s : State) : State :=
  let order := s.victimOrder l
  let s := s.news .cycled
  match order.findSome? (fun n => (s.retreatPath n).map (fun p => (n, p))) with
  | none =>
    let ms := rotateTo (order.headD 0) l
    let s := s.each l (fun n s => s.updXs n (fun (x : ArbSess) => { x with noEscape := true }))
    let s := { s with fleet.xarb.alarm := true, fleet.xarb.cycle := ms, fleet.xarb.cycleVictim := none, fleet.xarb.cycleState := 2
                      fleet.xarb.circles := s.fleet.xarb.circles ++ [(⟨l, none, t0⟩ : Circle)] }
    ((s.tickReport 0x090A (circleData ms)).fleetEvent 0x090A).news .noEscape
  | some (n, siding, path, far) =>
    let ms := rotateTo n l
    let s := { s with fleet.xarb.cycle := ms }
    let s := (s.tickReport 0x0907 (circleData ms)).fleetEvent 0x0907
    if s.credit s.resolutionQueue = 0 then { s with fleet.xarb.cycleVictim := none, fleet.xarb.cycleState := 0 }
    else
      let d := s.retreatDesc n path far
      let s := s.storeDesc d.1 (msOf t0)
      let s := { s with fleet.dsp.retreatN := Tab.set 0xFFFF s.fleet.dsp.retreatN n d.2
                        fleet.xarb.cycleVictim := some n, fleet.xarb.cycleState := 1
                        fleet.xarb.circles := s.fleet.xarb.circles ++ [(⟨l, some n, t0⟩ : Circle)] }
      let s := s.each l (fun m s => s.updXs m (fun (x : ArbSess) => { x with resolving := true }))
      let s := s.updXs n (fun (x : ArbSess) => { x with cause9 := true, retreat := some { spans := path, task := d.1.task } })
      (s.tickReport 0x0908 [(1, n), (2, siding), (4, d.1.task)]).news .retreated

/-- The wait-for pointers are set, and circles that are not all resolving are resolved (R295). -/
def State.deadlocks (t0 : Nat) (s : State) : State :=
  let blocked := s.openSessions.filter (fun n => s.isBlocked n)
  let ptr := blocked.map (fun n => (n, s.waitsFor n))
  let s := s.each ptr (fun p s => s.updXs p.1 (fun (x : ArbSess) => { x with waits := p.2.2 }))
  let next := fun (n : Nat) => (ptr.find? (fun p => decide (p.1 = n))).bind (fun p => p.2.1)
  let found := sortBy (fun (a b : List Nat) => decide (leastOf a < leastOf b)) (circlesFrom next blocked [])
  s.each found (fun l s => if l.all (fun n => (s.xs n).resolving) then s else s.resolve t0 l)

/-- The end of a session's held run, for the comparison of R279. -/
def State.authEnd (n : Nat) (s : State) : Option (Nat × Bool) :=
  let x := s.xs n
  x.held.getLast?.map (fun a => (a, (((s.routeOf n).spans.find? (fun p => decide (p.1 = a))).map (·.2)).getD true))

/-- Authority serials and the authority sequence after the stage (R279). -/
def State.authSerials (before : State) (s : State) : State :=
  let ch := s.openSessions.filter (fun n => decide (s.authEnd n ≠ before.authEnd n))
  let s := s.each ch (fun n s => s.updXs n (fun (x : ArbSess) => { x with serial := (x.serial + 1) % 256 }))
  if ch = [] then s else { s with fleet.xarb.authSeq := (s.fleet.xarb.authSeq + 1) % 65536 }

/-- The arbiter's stage of the tick numbered `tick` that opens at `t0` (R285); `alive` are the tasks that stood at its
snapshot. -/
def State.arbiterStage (tick t0 : Nat) (alive : List Nat) (s : State) : State :=
  let before := s
  let s := { s with fleet.xarb.forced := [] }
  let s := { s with fleet.xarb.sessions := Tab.mapVals {} (fun _ (x : ArbSess) => { x with guestRefused := false }) s.fleet.xarb.sessions }
  let s := s.each s.inp.forces (State.force t0 tick)
  let s := if s.inp.alarmClr then s.endNoEscape none else s
  let s := s.each s.inp.guestReleases State.guestFreed
  let s := s.each s.inp.answers (State.guestAnswer t0)
  let s := s.each s.inp.closed (fun p s => s.orphan p.1 p.2)
  let s := s.cancelRetreats alive t0
  let s := s.each (s.inp.opened.map (·.1)) State.seat
  let ns := s.openSessions
  let s := s.each ns (State.releaseBehind t0)
  let s := s.each ns (State.routeStep t0)
  let s := s.each s.inp.classes (fun p s => s.classChange p.1 p.2)
  let s := s.each ns (State.overstay t0)
  let s := s.rollQuotas tick
  let s := s.each s.requestOrder (State.evaluate tick)
  let s := s.guestAsks t0
  let s := s.deadlocks t0
  let s := s.sendGuestAsks
  let s := { s with fleet.xarb.pointer := (s.fleet.xarb.pointer + 1) % 256 }
  s.authSerials before

end Sys2Proof.Machine
end

