-- ==== Sys2Proof/Machine/Profiler.lean ====
section
/-! DEFINITION. The profiler (R305–R320): limits, stopping points, plans, base and candidate, session states, supervision,
and the check of R281. Positions are in mm along the session's route, times in ms of device time, unless nm are named. -/

namespace Sys2Proof.Machine

/-- One Deck entry (Table 8-4): start and length in 100 µs, kind, channel rule, session, flags. -/
structure DeckEntry where
  start : Nat
  length : Nat
  kind : Nat
  rule : Nat
  session : Nat
  flags : Nat
deriving DecidableEq, Repr

/-- A Deck entry from its eight octets (Table 8-4). -/
def deckEntry (b : List Octet) : DeckEntry :=
  { start := getLe b 0 2, length := getLe b 2 2, kind := getLe b 4 1, rule := getLe b 5 1, session := getLe b 6 1, flags := getLe b 7 1 }

/-- The entries of a tick 0–9 of a Deck, which keys them 64 × tick + index. -/
def deckTick (d : Tab (List Octet)) (tick : Nat) : List DeckEntry :=
  (d.filter (fun p => decide (p.1 / 64 = tick))).map (fun p => deckEntry p.2)

/-- The end, in 100 µs of device time, of the first Deck A DOWN entry that begins at or after `u` (in 100 µs) and within
the next second (R314). -/
def State.downEnd (u : Nat) (s : State) : Option Nat :=
  let begins := (List.range 11).flatMap (fun k =>
    let b := (u / 1000 + k) * 1000
    ((deckTick s.rad.a.deck ((b / 1000) % 10)).filter (fun e => decide (e.kind = 4 ∧ u ≤ b + e.start ∧ b + e.start < u + 10000))).map
      (fun e => (b + e.start, b + e.start + e.length)))
  (leastBy (fun (a b : Nat × Nat) => decide (a.1 < b.1)) begins).map (·.2)

/-- The start time of a profile of the tick that opens at `ms` (R314); for a resume plan of session `n` in its group
(R327). -/
def State.startTime (ms : Nat) (resume : Option Nat) (s : State) : Option Nat :=
  (s.downEnd ((ms + 8) * 10)).map fun e =>
    let t := ceilDiv e 1000
    match resume with
    | some n => (t + (n % 10 + 10 - t % 10) % 10) * 100
    | none => t * 100

/-- A class's limits (Table 3-13). -/
def classLimits (r : ClassRec) : Limits := ⟨r.speed, r.accel, r.decel, r.jerk, r.shape⟩

/-- The effective limits that session `n`'s class and derating give now (R305; a percentage rounds down, DESIGN CHOICE, log 195). -/
def State.wanted (n : Nat) (s : State) : Limits :=
  let c := (s.xs n).cls
  let w := (s.freg.derate[c]?).getD 0x64646464
  match s.classRec c with
  | some r => ⟨r.speed * bits w 0 8 / 100, r.accel * bits w 8 8 / 100, r.decel * bits w 16 8 / 100, r.jerk * bits w 24 8 / 100, r.shape⟩
  | none => (s.ps n).limits

/-- The plan deceleration (R305). -/
def ProfSess.decel (p : ProfSess) (l : Limits) : Nat := min l.decel p.join.decel

/-- The plan jerk (R305): the smallest of those of the two classes that use shape 1. -/
def ProfSess.jerk (p : ProfSess) (l : Limits) : Nat :=
  match l.shape, p.join.shape with
  | 1, 1 => min l.jerk p.join.jerk
  | 1, _ => l.jerk
  | _, 1 => p.join.jerk
  | _, _ => 0

/-- The stopping distance in nm under limits `l` (R306): the larger of the join one and the effective one. -/
def ProfSess.stopNm (p : ProfSess) (l : Limits) (v a : Int) : Int :=
  max (stopDist p.join.shape v a p.join.decel p.join.jerk) (stopDist l.shape v a l.decel l.jerk)

/-- The profile in force at an instant: the newest that has started, or the oldest. -/
def ProfSess.inForce (p : ProfSess) (ms : Nat) : Profile :=
  match (p.base :: p.earlier).find? (fun q => decide (q.start ≤ ms)) with
  | some q => q
  | none => (p.earlier.getLast?).getD p.base

/-- A profile at an instant: position in nm along the route, speed in nm/s, acceleration in nm/s². -/
def Profile.at_ (q : Profile) (ms : Nat) : PlanAt :=
  let r := planAt q.segs (ms - q.start)
  ⟨q.along * 1000000 + r.pos, if ms < q.start then 0 else r.speed, if ms < q.start then 0 else r.accel⟩

/-- The planned motion of a session at an instant. -/
def ProfSess.motion (p : ProfSess) (ms : Nat) : PlanAt := (p.inForce ms).at_ ms

/-- The planned stopping point at an instant, in mm (R306). -/
def ProfSess.stopAt (p : ProfSess) (ms : Nat) : Int :=
  let m := p.motion ms
  ceilI (m.pos + p.stopNm p.limits m.speed m.accel) 1000000

/-- The planned stopping point as the session's state gives it (R306, R326). -/
def ProfSess.stopNow (p : ProfSess) (ms : Nat) : Int :=
  match p.state with
  | .stopping => p.stopPos.getD (p.stopAt ms)
  | .stopped => p.rest.getD (p.stopAt ms)
  | _ => p.stopAt ms

/-- The lowest speed limit of the spans from the rearmost held one to a position (R305). -/
def State.spanSpeed (n : Nat) (stop : Int) (l : Limits) (s : State) : Nat :=
  let r := s.routeOf n
  let i := ((s.xs n).held.head?.bind r.indexOf).getD 0
  let j := (s.placeAt r stop).getD (r.spans.length - 1)
  ((r.spans.drop i).take (j + 1 - i)).foldl (fun v p => min v ((s.spanGeo p.1).elim v (·.speed))) l.speed

/-- The destination pier of the task presented to session `n` (R308). -/
def State.destPier (n : Nat) (s : State) : Nat := ((s.wk n).presented.map (·.desc.dest)).getD 0xFFFF

/-- The plan end of session `n` from position `pos` (R308); none without an authority. -/
def State.planEnd (n : Nat) (pos : Int) (s : State) : Option Int :=
  let x := s.xs n
  let r := s.routeOf n
  match s.authPos n with
  | none => none
  | some auth =>
    if x.pending.isSome then
      let e := (s.shared n).getLast?.bind (fun a => (r.indexOf a).map (fun i => s.startOf r (i + 1)))
      some (min auth (e.getD pos))
    else
      let d := s.destPier n
      let i := (s.placeAt r pos).getD r.spans.length
      let hit := if d = 0xFFFF then none else
        (List.range r.spans.length).find? (fun k => decide (i ≤ k) && decide ((r.spans[k]?).bind (fun p => s.exitPier p) = some d) &&
          decide (pos < s.startOf r (k + 1)))
      match hit with
      | some k => some (min auth (s.startOf r (k + 1)))
      | none => some auth

/-- The first instant at which a profile has covered `dist` nm; its end where rounding leaves it short. -/
def Profile.reachMs (q : Profile) (dist : Int) : Nat :=
  let total := planMs q.segs
  if dist ≤ 0 then q.start
  else
    match bisect (fun k => if dist ≤ (planAt q.segs (total - k)).pos then some (total - k) else none) 17 0 total none with
    | some t => q.start + t
    | none => q.start + total

/-- The expected release times of the held run under a published profile with plan end `e` (R293). -/
def State.setExpected (n : Nat) (q : Profile) (e : Int) (s : State) : State :=
  let x := s.xs n
  let r := s.routeOf n
  let margin := (s.classRec x.cls).elim 0 (·.overstay)
  let reach := max e (q.along + planDist q.segs / 1000000)
  let times := (x.held.zip (x.held.drop 1)).filterMap (fun p =>
    (r.indexOf p.2).bind (fun i =>
      let z := s.startOf r (i + 1)
      if z ≤ reach then some (p.1, q.reachMs ((z - q.along) * 1000000) + margin) else none))
  s.setXs n { x with expected := times }

/-- The gift fields of a frame for session `n` (R258): gift, serial, implement mask and targets, end pier. -/
def State.frameOf (n : Nat) (q : Profile) (s : State) : Profile :=
  let p := s.ps n
  let q := { q with reverse := p.reverse, endPier := s.destPier n, authSerial := (s.xs n).serial
                    authDist := (((s.authPos n).getD q.along) - q.along).toNat }
  match (s.wk n).presented with
  | some t =>
    let q := { q with impl := t.desc.impl, targets := (t.desc.targets ++ [0, 0, 0]).take 3 }
    if t.confirmed then { q with serial := (p.serial + 1) % 65536, gift := false }
    else { q with serial := t.desc.task % 65536, gift := true }
  | none => { q with serial := (p.serial + 1) % 65536, gift := false, impl := 0
                     targets := (p.latest.map (·.targets)).getD [0, 0, 0] }

/-- A profile of the tick is published with it: it is the latest, and one without segments is the base at once (R315). -/
def State.publish (n : Nat) (q : Profile) (e : Int) (s : State) : State :=
  let s := s.updPs n (fun (p : ProfSess) =>
    let p := { p with latest := some q, serial := q.serial, due := false }
    if q.segs = [] then { p with base := q, earlier := [], cand := none } else p)
  let s := s.setExpected n q e
  let s := { s with tick := s.tick.map (fun (t : TickOut) => { t with profiles := (t.profiles.filter (fun m => decide (m ≠ n))) ++ [n] }) }
  s.news .planned

/-- Start span and offset of a position (R273). -/
def State.spanAt (r : Route) (pos : Int) (s : State) : Nat × Nat :=
  let i := (s.placeAt r pos).getD (r.spans.length - 1)
  ((((r.spans[i]?).map (·.1)).getD 0xFFFF), (pos - s.startOf r i).toNat)

/-- The shape of a session's frames: segment tables where its ROBOT record asks for them, else its class's (R311). -/
def State.frameShape (n : Nat) (s : State) : Nat :=
  if bit ((s.robotRec (s.rs n).identity).elim 0 (·.flags)) 1 then 2 else (s.ps n).limits.shape

/-- A standstill profile at a position (R283, R317). -/
def State.standstill (n : Nat) (pos : Int) (start : Nat) (s : State) : Profile :=
  let a := if (s.xs n).route = none then ((s.rs n).span, (s.rs n).offset) else s.spanAt (s.routeOf n) pos
  let q := s.frameOf n { start := start, span := a.1, offset := a.2, along := pos, shape := s.frameShape n }
  if (s.xs n).route = none then { q with authDist := 0, reverse := false } else q

/-- A standstill profile of the tick is published with its start time; without a DOWN entry within 1 s it waits (R314). -/
def State.publishStill (n : Nat) (pos : Int) (ms : Nat) (s : State) : State :=
  match s.startTime ms none with
  | some t => s.publish n (s.standstill n pos t) pos
  | none => s.updPs n (fun (p : ProfSess) => { p with due := true })

/-- A moving plan for session `n` (R307–R313, R318), published when it keeps R307. -/
def State.plan (n ms : Nat) (resume : Bool) (s : State) : State :=
  let p := s.ps n
  match s.startTime ms (if resume then some n else none) with
  | none => s.updPs n (fun (q : ProfSess) => { q with due := true })
  | some start =>
    let m := if resume then (⟨(p.rest.getD 0) * 1000000, 0, 0⟩ : PlanAt) else p.motion start
    let pos := ceilI m.pos 1000000
    match s.planEnd n pos, s.authPos n with
    | some e, some auth =>
      let l := p.limits
      let v := s.spanSpeed n e l
      let q0 := s.frameOf n { start := start, along := pos }
      let old := (p.latest.map (·.targets)).getD [0, 0, 0]
      let sync := if q0.targets = old then 0 else
        (List.range 3).foldl (fun t a =>
          let w := (s.freg.imp[3 * (s.xs n).cls + a]?).getD 0
          if bit q0.impl a then max t (implMs (((q0.targets[a]?).getD 0) - ((old[a]?).getD 0)).natAbs (bits w 0 16) (bits w 16 16)) else t) 0
      let D := (e - pos) * 1000000
      let S := fun (v a : Int) => p.stopNm l v a
      let r := makePlan l.shape (m.speed / 1000000) (m.accel.tdiv 1000000) D ((auth - pos) * 1000000) v l.accel (p.decel l) l.jerk
        (p.jerk l) S sync
      let a := s.spanAt (s.routeOf n) pos
      let q := { q0 with segs := r.segs, span := a.1, offset := a.2, shape := s.frameShape n }
      if (auth - pos) * 1000000 < planReach S r.segs ∧ r.segs ≠ [] then s.updPs n (fun (q : ProfSess) => { q with due := true })
      else
        let goal := if r.cut then pos + planDist r.segs / 1000000 else e
        let s := s.publish n q goal
        let s := s.updPs n (fun (p : ProfSess) => { p with
          planEnd := some e, authority := some auth, vlimit := v, behind := r.behind, implLate := r.late
          replan := if r.cut then some (start + 30000) else none, rejected := false })
        if r.behind then
          ((s.tickReport 0x0A02 [(1, n), (4, e - pos), (4, ceilI (stopDist l.shape m.speed m.accel (p.decel l) (p.jerk l)) 1000000)]).fleetEvent 0x0A02).news .behind
        else s
    | _, _ => s

/-- The limits of a session after a change (R319, Table 11-2): those in force and the deferred ones, each with old and new
value. `calm` says that the session is STANDING or STOPPED; `ok` that the plan meets R307 with given limits. -/
def nextLimits (calm : Bool) (ok : Limits → Bool) (old new : Limits) : Limits × List (Nat × Nat × Nat) :=
  if calm then (new, [])
  else
    let l := { old with speed := new.speed, accel := new.accel, decel := max old.decel new.decel, jerk := max old.jerk new.jerk }
    let l1 := { l with decel := new.decel }
    let l := if new.decel < l.decel ∧ ok l1 then l1 else l
    let l2 := { l with jerk := new.jerk }
    let l := if new.jerk < l.jerk ∧ ok l2 then l2 else l
    (l, (if l.decel ≠ new.decel then [(2, l.decel, new.decel)] else []) ++ (if l.jerk ≠ new.jerk then [(3, l.jerk, new.jerk)] else []))

/-- Which limits differ, as a mask. -/
def limitMask (a b : Limits) : Nat :=
  flag (decide (a.speed ≠ b.speed)) + 2 * flag (decide (a.accel ≠ b.accel)) + 4 * flag (decide (a.decel ≠ b.decel)) +
  8 * flag (decide (a.jerk ≠ b.jerk)) + 16 * flag (decide (a.shape ≠ b.shape))

/-- The limit changes of a tick for one session (R319); true where the session needs a plan for it. -/
def State.limitStep (n ms : Nat) (s : State) : Bool × State :=
  let p := s.ps n
  let new := s.wanted n
  if new = p.limits then (false, if p.deferred = [] then s else s.setPs n { p with deferred := [] })
  else
    let at_ := (s.startTime ms none).getD ms
    let m := p.motion at_
    let auth := ((s.authPos n).getD 0) * 1000000
    let ok := fun (l : Limits) => decide (0 ≤ m.accel) && decide (m.pos + p.stopNm l m.speed m.accel ≤ auth)
    let r := nextLimits (decide (p.state = .standing ∨ p.state = .stopped)) ok p.limits new
    let fresh := r.2.filter (fun d => !p.deferred.contains (d.1, d.2.2))
    let s1 := s.setPs n { p with limits := r.1, deferred := r.2.map (fun d => (d.1, d.2.2)) }
    let s1 := s1.each fresh (fun d s =>
      ((s.tickReport 0x0A01 [(1, n), (1, d.1), (2, d.2.1), (2, d.2.2)]).fleetEvent 0x0A01).news .deferred)
    if r.1 = p.limits then (false, s1)
    else (true, s1.tickReport 0x0A06 [(1, n), (1, (s.xs n).cls), (1, limitMask p.limits r.1)])

/-- Base and candidate at a tick (R315): a published profile not acknowledged by its start time is a candidate; what the
base has overtaken is forgotten. -/
def ProfSess.settle (ms : Nat) (p : ProfSess) : ProfSess :=
  let p := if p.base.start ≤ ms then { p with earlier := [] } else p
  match p.latest with
  | some q => if p.cand = none ∧ q ≠ p.base ∧ q.segs ≠ [] ∧ q.start ≤ ms ∧ !p.earlier.contains q ∧ !p.rejected then
      { p with cand := some q } else p
  | none => p

/-- The position that a report gives along the session's route. -/
def State.reportPos (n : Nat) (r : Report) (s : State) : Option Int := s.along (s.routeOf n) r.span r.offset

/-- The transition of Table 11-1 at a tick, at most one. -/
def State.profTransition (n ms : Nat) (s : State) : State :=
  let p := s.ps n
  let go := s.goCond n
  let stop := fun (p : ProfSess) =>
    let tb := (if p.cleared = 0 then ms else p.cleared) + 61
    { p with state := .stopping, stopPos := some (p.stopAt tb), cand := none, rest := none }
  match p.state with
  | .none => s
  | .standing => if go then s else s.setPs n (stop p)
  | .moving =>
    if !go then s.setPs n (stop p)
    else if p.cand = none ∧ p.base.start + planMs p.base.segs ≤ ms ∧ p.earlier = [] ∧
        (p.rejected ∨ (p.latest.map (fun q => decide (q.start + planMs q.segs ≤ ms))).getD true = true) then s.setPs n { p with state := .standing } else s
  | .resuming =>
    if !go then s.setPs n (stop p)
    else
      match p.latest with
      | some q => if q.segs = [] then s.setPs n { p with state := .standing } else if q.start ≤ ms then s.setPs n { p with state := .moving } else s
      | none => s
  | .stopping =>
    match (s.rs n).report with
    | some r =>
      if r.speed = 0 ∧ p.cleared ≤ msOf r.time then
        match s.reportPos n r with
        | some pos => s.setPs n { p with
            state := .stopped, rest := some pos, stopPos := some pos, cand := none, earlier := []
            base := { p.base with segs := [], along := pos, start := ms } }
        | none => s
      else s
    | none => s
  | .stopped => if go then s.setPs n { p with state := .resuming } else s

/-- A session opened in the previous tick is STANDING under a standstill profile (R283, Table 11-1). -/
def State.profOpen (n ms : Nat) (s : State) : State :=
  let r := s.rs n
  if r.state = 0 then s
  else
    let join := (s.classRec r.cls).elim {} classLimits
    let s := s.setPs n { state := .standing, join := join, limits := s.wanted n, serial := (s.ps n).serial }
    let s := s.updPs n (fun (p : ProfSess) => { p with limits := s.wanted n })
    let q := s.standstill n r.offset ms
    (s.updPs n (fun (p : ProfSess) => { p with base := q })).publishStill n r.offset ms

/-- A session that comes to a stop or stands stopped: a new authority or a task gives it a new standing profile (R316). -/
def State.profHalted (n : Nat) (gift : Bool) (auth : Option Int) (ms : Nat) (s : State) : State :=
  let p := s.ps n
  (s.when (gift || p.due || decide (auth ≠ p.authority)) (fun s =>
    s.publishStill n ((p.rest.orElse (fun _ => p.stopPos)).getD p.base.along) ms)).updPs n
      (fun (q : ProfSess) => { q with authority := auth })

/-- A stopped session resumes: RESUMED is recorded when its profile is published (R316). -/
def State.profResume (n ms : Nat) (s : State) : State :=
  let s := s.plan n ms true
  match (s.ps n).latest with
  | some q =>
    if (s.ps n).due then s
    else (s.tickReport 0x0A05 [(1, n), (4, (q.start % 2 ^ 32 : Nat)), (4, ((s.ps n).planEnd.getD q.along) - q.along)]).news .resumed
  | none => s

/-- A standing or moving session needs a new plan (R316). -/
def State.profNeeds (n : Nat) (gift limits : Bool) (auth : Option Int) (ms : Nat) (s : State) : Bool :=
  let p := s.ps n
  let m := p.motion ((s.startTime ms none).getD ms)
  let e := s.planEnd n (ceilI m.pos 1000000)
  let vl := s.spanSpeed n (e.getD 0) p.limits
  p.due || gift || limits || p.rejected || decide (auth ≠ p.authority) || decide (e ≠ p.planEnd) || decide (vl ≠ p.vlimit) ||
    (p.replan.map (fun t => decide (t ≤ ms))).getD false ||
    (decide (p.state = .standing) && decide (ceilI m.pos 1000000 + 20 < e.getD 0))

/-- A new plan of a standing or moving session; a standing one that gets segments moves. -/
def State.profPlan (n ms : Nat) (s : State) : State :=
  let p := s.ps n
  let s := s.plan n ms false
  s.when (decide (p.state = .standing ∧ ((s.ps n).latest.map (fun q => decide (q.segs ≠ []))).getD false = true ∧ (s.ps n).latest ≠ p.latest))
    (fun s => s.updPs n (fun (q : ProfSess) => { q with state := .moving }))

/-- The plan of a session whose reference is known and that holds a route; `before` is its state before the stage. -/
def State.profStage (n : Nat) (before : ProfState) (gift limits : Bool) (ms : Nat) (s : State) : State :=
  let p := s.ps n
  let auth := s.authPos n
  match p.state with
  | .stopping | .stopped => s.profHalted n gift auth ms
  | .resuming =>
    if before = .stopped ∨ (p.due ∧ p.cand = none) then s.profResume n ms
    else if p.cand.isSome then s.updPs n (fun (q : ProfSess) => { q with due := true })
    else if auth ≠ p.authority ∨ gift ∨ limits then s.plan n ms true
    else s
  | _ =>
    if !s.profNeeds n gift limits auth ms then s
    else if p.cand.isSome then s.updPs n (fun (q : ProfSess) => { q with due := true })
    else s.profPlan n ms

/-- One session's part of the profiler stage (R316). `gifted` says that the tick gave it a task. -/
def State.profSession (ms : Nat) (gifted : List Nat) (n : Nat) (s : State) : State :=
  if (s.ps n).state = .none then s
  else
    let l := ((s.updPs n (ProfSess.settle ms)).profTransition n ms).limitStep n ms
    let gift := gifted.contains n
    let p := l.2.ps n
    if p.awaitRef.isSome ∨ (l.2.xs n).route = none then
      l.2.when (gift || (p.due && decide ((l.2.xs n).route = none))) (fun s => s.publishStill n p.base.along ms)
    else l.2.profStage n (s.ps n).state gift l.1 ms

/-- What PROF_SESSn shows of a session's plan at the tick, and its planned stopping point (Table 11-9, R277). -/
def State.profView (ms n : Nat) (s : State) : State :=
  let p := s.ps n
  if p.state = .none ∨ p.awaitRef.isSome then s
  else
    let m := p.motion ms
    let stop := p.stopNow ms
    s.setPs n { p with stopPos := some stop, margin := ((s.authPos n).getD stop) - stop, planPos := m.pos / 1000000
                       planSpeed := m.speed / 1000000, planAccel := m.accel.tdiv 1000000 }

/-- The check of R281 at commit; an injection may shorten the authority it sees (Table 17-6). -/
def State.authCheck (s : State) : State :=
  let cut := fun (n : Nat) => match s.diag.authCut with | some (m, d) => if m = n then some d else none | none => none
  let s1 := s.each s.openSessions fun n s =>
    let p := s.ps n
    let tested := goBit s.fleet.go n || (cut n).isSome
    match p.stopPos, s.authPos n with
    | some stop, some auth =>
      let auth := auth - ((cut n).getD 0 : Nat)
      if tested && decide (p.state ≠ .none) && decide (p.awaitRef = none) && decide ((s.xs n).route ≠ none) && decide (auth < stop) then
        ((s.setSess n sessAuthority 0).tickReport 0x090E [(1, n), (4, stop), (4, auth)]).fleetEvent 0x090E
      else s
    | _, _ => s
  { s1 with diag.authCut := none }

/-- The profiler stage of the tick that opens at `ms` (R316); its completion time is a free value of at most 6 ms. -/
def State.profilerStage (ms : Nat) (s : State) : State :=
  let gifted := ((s.tick.map (·.gifts)).getD []).map (·.worker)
  let s := { s with fleet.prof.sessions := Tab.mapVals {} (fun n (p : ProfSess) => if (s.rs n).state = 0 then { serial := p.serial } else p) s.fleet.prof.sessions }
  let s := s.each (s.inp.opened.map (·.1)) (fun n s => s.profOpen n ms)
  let s := s.each s.openSessions (State.profSession ms gifted)
  let s := s.each s.openSessions (State.profView ms)
  let f := s.takeFree
  let t := (Config.freeWord f.1).toNat % 6001
  { f.2 with freg.stageLast := t, freg.stageMax := max f.2.freg.stageMax t }

/-- The candidate resolved by an accepted report (R315). -/
def State.resolveCand (n : Nat) (r : Report) (s : State) : State :=
  let p := (s.ps n).settle (msOf r.time)
  match p.cand with
  | none => s
  | some q =>
    if msOf r.time < q.start then s
    else
      let env := ((s.classRec (s.xs n).cls).elim 0 (·.envelope) : Nat)
      let pos := s.reportPos n r
      let near := fun (g : Profile) => (pos.map (fun v => decide ((v - (g.at_ (msOf r.time)).pos / 1000000).natAbs ≤ env))).getD false
      let onCand := near q
      let onBase := near (p.inForce (msOf r.time))
      let applied := if q.gift then onCand && !onBase else decide (r.serial = q.serial)
      let lost := bit r.state 6 || (if q.gift then onBase && !onCand else !applied)
      if applied then s.setPs n { p with base := q, earlier := [], cand := none }
      else if lost then
        let s := s.setPs n { p with cand := none, rejected := true }
        ({ s with freg.late := incr s.freg.late }).fleetReport 0x0A04 [(1, n), (2, q.serial), (4, (q.start % 2 ^ 32 : Nat))]
      else s.setPs n p

/-- The first report that names a reversed route gives the new reference point's position (R273, R277). -/
def State.resolveRef (n : Nat) (r : Report) (s : State) : State :=
  let p := s.ps n
  match p.awaitRef with
  | none => s
  | some id =>
    if r.routeId ≠ id then s
    else
      match s.reportPos n r with
      | some pos => s.setPs n { p with awaitRef := none, base := { p.base with segs := [], along := pos, start := msOf r.time }
                                       rest := if p.state = .stopped then some pos else none, due := true
                                       stopPos := if p.state = .stopping ∨ p.state = .stopped then some pos else p.stopPos }
      | none => s

/-- The cause ENVELOPE with its record and counts. -/
def State.setEnvelope (n : Nat) (planned pos : Int) (s : State) : State :=
  if bit (s.causes n) sessEnvelope ∨ s.sys.mode = Mode.shadow then s
  else
    let s := (s.setSess n sessEnvelope 0).updPs n (fun (p : ProfSess) => { p with trips := min 255 (p.trips + 1) })
    ({ s with freg.envelope := incr s.freg.envelope }).fleetReport 0x0A03 [(1, n), (4, ssat 32 planned), (4, ssat 32 pos)]

/-- Whether the reported position `pos` breaks the envelope, the held spans or the authority (R320). -/
def State.outside (n : Nat) (r : Report) (p : ProfSess) (planned pos : Int) (s : State) : Bool :=
  let env : Int := ((s.classRec (s.xs n).cls).elim 0 (·.envelope) : Nat)
  let off := fun (v : Int) => decide (env < ((pos - v).natAbs : Int))
  let wrong := match p.state with
    | .stopping => decide (p.stopPos.getD planned + env < pos)
    | .stopped => off (p.rest.getD pos)
    | _ => off planned && (match p.cand with | some q => off ((q.at_ (msOf r.time)).pos / 1000000) | none => true)
  wrong || !(if (s.xs n).route = none then true else (s.xs n).held.contains r.span) ||
    (match s.authPos n with | some a => decide (a < pos) | none => decide ((s.xs n).route ≠ none))

/-- The supervision of a session whose reference is known (R320). -/
def State.superviseAt (n : Nat) (r : Report) (s : State) : State :=
  let p := (s.ps n).settle (msOf r.time)
  let planned := (p.motion (msOf r.time)).pos / 1000000
  match s.reportPos n r with
  | none => State.setEnvelope n planned 0x7FFFFFFF (s.resolveCand n r)
  | some pos =>
    ((s.resolveCand n r).updPs n (fun (p : ProfSess) => { p with error := ssat 16 (pos - planned) })).when (s.outside n r p planned pos)
      (fun s => s.setEnvelope n planned pos)

/-- Supervision of an accepted uplink (R320). -/
def State.supervise (n : Nat) (r : Report) (s : State) : State :=
  let s := (s.when (bit r.state 3) (fun s => s.setSess n sessFault 0)).when (bit r.state 2) (fun s => s.setSess n sessBeacon 0)
  if (s.ps n).state = .none then s
  else
    let s := s.resolveRef n r
    s.when (!(s.ps n).awaitRef.isSome) (fun s => s.superviseAt n r)

end Sys2Proof.Machine
end

