-- ==== Sys2Proof/Machine/Lighting.lean ====
section
/-! DEFINITION. Zone lighting (R433–R446): what zones and strings show, the boost, open strings, the adjacent-pin test, and
the data for the light towers. -/

namespace Sys2Proof.Machine

/-- The mirrored and committed arbiter, for the holders at the last publication. -/
def State.published (s : State) : State := { s with fleet.xarb := s.pub.xarb, fleet.dsp := s.pub.dsp, fleet.prof := s.pub.prof }

/-- The state of span `x` at the last publication (Table 10-1): 0 FREE, 1 RESERVED, 2 OCCUPIED, 3 ABSENT. -/
def State.spanState (x : Nat) (s : State) : Nat :=
  let p := s.published
  let hs := p.holders x
  if hs = [] then (if s.spanRec x = none then 3 else 0)
  else if s.pub.covered.contains x || hs.any (fun h => decide (0x100 ≤ h)) then 2
  else 1

/-- The state of a zone: OCCUPIED, RESERVED or FREE (R274). -/
def State.zoneState (z : Nat) (s : State) : Nat :=
  let l := ((s.recs (·.spans)).filter (fun r => decide (r.zone = z))).map (fun r => s.spanState r.span)
  if l.contains 2 then 2 else if l.contains 1 then 1 else 0

/-- Code 6 is forced (R436): in SURVEY and HOLD, and at a standby that is not mirrored. -/
def State.forceCode (s : State) : Bool :=
  match s.sys.mode with
  | .survey | .hold => true
  | .shadow => !s.pair.mirrored || decide (s.fleet.mode = .survey) || decide (s.fleet.mode = .hold)
  | _ => false

/-- The display code of a zone (R436). -/
def State.zoneCode (r : ZoneRec) (s : State) : Nat :=
  if s.forceCode then 6
  else match s.zoneState r.zone with | 0 => r.free | 1 => r.granted | _ => r.occupied

/-- A display code names a colour (Table 3-22): 1 green, 2 amber, 3 red. -/
def codeColour (code : Nat) : Nat := if code = 0 then 0 else (code - 1) % 3 + 1

/-- The blink phase is lit: ticks 0–4 of each second (R436). -/
def State.blinkOn (s : State) : Bool := decide (s.now % perSec < 500 * perMs)

/-- The lighting levels of a publication are in the shadow schedule, with its commit flag (R437). -/
def State.lightingPublish (s : State) : State :=
  let t := (s.recs (·.zones)).foldl (fun t r => Tab.set 0 t r.zone (64 + 4 * s.zoneCode r + s.zoneState r.zone)) ([] : Tab Nat)
  { s with lum.shadow := t, lum.override := s.forceCode, tables := s.tables.set 4 { ((s.tables[4]?).getD {}) with committed := some s.now } }

/-- A string's entry. -/
def State.lstr (n : Nat) (s : State) : LumString := Tab.get {} s.lum.strings n
/-- A string's entry set. -/
def State.setLstr (n : Nat) (v : LumString) (s : State) : State := { s with lum.strings := Tab.set {} s.lum.strings n v }
/-- STRING record `n`. -/
def State.strRec (n : Nat) (s : State) : Option StringRec := (s.recs (·.strings)).find? (fun r => decide (r.string = n))

/-- A string is lit now (R436, R441): the boost in RUN, not held off, its colour named by its zone's code in force, and
in the lit phase of a blinking code. -/
def State.lit (n : Nat) (s : State) : Bool :=
  match s.strRec n with
  | some r =>
    let code := (Tab.get 0 s.lum.active r.zone) / 4 % 16
    decide (s.lum.boost = .run) && !(s.lstr n).heldOv && !(s.lstr n).heldAdj && decide (r.level ≠ 0) &&
    decide (codeColour code = r.colour) && (decide (code ≤ 3) || s.blinkOn) && !s.sys.saving
  | none => false

/-- log2 of the number of sub-pulses of an on-time (R434). -/
def spreadGo (on : Nat) : Nat → Nat → Nat
  | 0, n => n
  | k + 1, n => if n < 6 ∧ 118 ≤ on / (2 * 2 ^ n) then spreadGo on k (n + 1) else n

/-- log2 n of R434. -/
def spread (on : Nat) : Nat := spreadGo on 6 0

/-- The sub-pulses of an on-time, each with its start in the base period and its length in clocks (R434). -/
def subPulses (on : Nat) : List (Nat × Nat) :=
  let n := 2 ^ spread on
  (List.range n).map (fun k => (k * 65536 / n, on / n + flag (decide (k < on % n))))

/-- The longest sub-pulse of an on-time, in clocks (R434). -/
def longest (on : Nat) : Nat := ((subPulses on).map (·.2)).foldl max 0

/-- Clocks of the lighting domain, 78.6432 MHz, in ns. -/
def lumNs (clocks : Nat) : Nat := ceilDiv (clocks * 1000000000) 78643200

/-- Where base period `k` of string `n` begins in the 10 ms from boundary `b`, as an FRC value in ns (R435). -/
def State.lumAt (n b k : Nat) (s : State) : Nat := (s.time.frcFor b).toNat + lumNs (2730 * n + 65536 * k)

/-- The arbitration boundary of the 10 ms in progress. -/
def State.tickStart (s : State) : Nat := tickOf s.now * (10 * perMs)

/-- The base period of string `n` in progress, of the twelve of its 10 ms, and the instant at which it ends: the twelfth ends where the next
base period 0 begins, however long that makes it (R435). -/
def State.lumGrid (n : Nat) (s : State) : Nat × Nat :=
  let b := s.tickStart
  if s.ns < s.lumAt n b 0 then (11, s.lumAt n b 0)
  else
    let p := ((List.range 11).filter (fun k => decide (s.lumAt n b (k + 1) ≤ s.ns))).length
    (p, if p < 11 then s.lumAt n b (p + 1) else s.lumAt n (b + 10 * perMs) 0)

/-- The clocks of a base period that ends now: 65,536, or for the twelfth what brings base period 0 back to its boundary (R435). -/
def LumString.lasted (p ends : Nat) (v : LumString) : Nat :=
  if p = 11 ∧ v.period = 10 then (nearest (((ends : Int) - v.ended) * 78643200) 1000000000).toNat else 65536

/-- The string is in the base period that an adjacent-pin test takes (R445). -/
def State.inTest (n : Nat) (s : State) : Bool := decide (s.lum.tested = some s.tickStart) && decide ((s.lumGrid n).1 = 0)

/-- The on-time of the base period a string is in, in clocks. -/
def State.onClocks (n : Nat) (s : State) : Nat :=
  if (s.lstr n).diag then 118 else if s.inTest n then 0
  else if s.lit n then 16 * (s.strRec n).elim 0 (·.level) else 0

/-- OPEN and the overvoltage hold from one evaluated period (R442, R444); `sink` in mV, `current` in µA. -/
def State.evalString (n sink current : Nat) (r : StringRec) (s : State) : State :=
  let v := s.lstr n
  let bad := decide (current < r.current * 500) && decide (sink < 300)
  let v := { v with fails := if bad then v.fails + 1 else 0, goods := if bad then 0 else v.goods + 1
                    overs := if 10000 < sink then v.overs + 1 else 0, idle := 0, stale := false
                    sink := sink, low := decide (current < r.current * 900) }
  let s1 := s.setLstr n v
  let s1 := if 3 ≤ v.fails ∧ v.opened = false then
      ({ s1.setLstr n { v with opened := true } with lum.opens := incr s1.lum.opens, lum.events := s1.lum.events ||| 1#32 }).report
        0x0F01 [(1, n), (2, sink), (4, current)]
    else if 8 ≤ v.goods ∧ v.opened = true then (s1.setLstr n { v with opened := false }).report 0x0F02 [(1, n)]
    else s1
  if 3 ≤ v.overs ∧ v.heldOv = false then
    ({ s1.setLstr n { s1.lstr n with heldOv := true } with lum.events := s1.lum.events ||| 4#32 }).report 0x0F03 [(1, n), (2, sink)]
  else s1

/-- LUM_BASE_PERIOD (R434, R435, R442–R444): the base period that a string is in ends, with these measurements at the end of its longest
sub-pulse. -/
def execLumBasePeriod (string : Fin 24) (sink current : Nat) : State → Host.Outcome State Fault Refusal :=
  done fun s =>
    let n := string.val
    match s.strRec n with
    | none => s
    | some r =>
      if !s.clk.lighting then s
      else
        let s := s.whenReady domLighting
        let on := s.onClocks n
        let v := s.lstr n
        let g := s.lumGrid n
        let s := (s.atLeast g.2).setLstr n { v with
          on := on, diag := false, sinceDiag := if v.diag then 0 else v.sinceDiag + 1, idle := v.idle + 1
          period := g.1, clocks := v.lasted g.1 g.2, ended := g.2 }
        if s.lum.boost = .run ∧ 118 ≤ longest on then s.evalString n sink current r
        else
          let v := s.lstr n
          if 2048 ≤ v.idle ∧ v.stale = false ∧ s.lum.boost = .run then
            ({ s.setLstr n { v with stale := true } with lum.events := s.lum.events ||| 64#32 }).report 0x0F08 [(1, n)]
          else s

/-- The next arbitration boundary whose base period 0 of string `n` has not begun; a test at it takes that period (Table 16-2). -/
def State.diagBoundary (n : Nat) (s : State) : Nat :=
  let b := if s.ns ≤ s.lumAt n s.tickStart 0 then s.tickStart else s.tickStart + 10 * perMs
  if s.lum.tested = some b then b + 10 * perMs else b

/-- DIAG_PULSE (R443): a diagnostic pulse of 118 clocks takes the place of the string's pulses in base period 0 at the first arbitration boundary
at or after its 1,024th base period. -/
def execDiagPulse (string : Fin 24) : State → Host.Outcome State Fault Refusal :=
  done fun s =>
    let n := string.val
    match s.strRec n with
    | none => s
    | some r =>
      let v := s.lstr n
      if s.clk.lighting ∧ bit r.flags 0 ∧ s.lum.boost = .run ∧ s.onClocks n < 118 ∧ v.heldOv = false ∧ v.heldAdj = false ∧ 1024 ≤ v.sinceDiag then
        (s.atLeast (s.lumAt n (s.diagBoundary n) 0)).setLstr n { v with diag := true }
      else s

/-- BOOST_HEADROOM_PERIOD (R440): the lit strings' sink voltages (mV) and currents (µA), and the measured output in
100 mV. -/
def execBoostHeadroomPeriod (sinks : List (Fin 24 × Nat × Nat)) (output : Nat) : State → Host.Outcome State Fault Refusal :=
  done fun s =>
    if !s.clk.lighting then s
    else
      let s := s.each sinks (fun p s =>
        s.setLstr p.1.val { s.lstr p.1.val with sink := p.2.1, low := (s.strRec p.1.val).elim false (fun r => decide (p.2.2 < r.current * 900)) })
      let ok := (sinks.filter (fun p => s.lit p.1.val && !(s.lstr p.1.val).opened && !(s.lstr p.1.val).low)).map (·.2.1)
      match ok with
      | [] => { s with lum.regulated := false, lum.output := output }
      | _ =>
        let low := leastOf ok
        let s := { s with lum.regulated := true, lum.minSink := low, lum.output := output }
        let sp := (s.obj 578).setpoint / (100 * 2 ^ 20)
        let top := (s.unitRec.map (·.boostMax)).getD 0
        if (top : Int) ≤ sp ∧ low < 600 then
          if s.lum.headroomRun then s
          else ({ s with lum.headroomRun := true, lum.events := s.lum.events ||| 32#32 }).report 0x0F07 [(2, low), (2, sp)]
        else { s with lum.headroomRun := false }

/-- BST_CS_TRIP (R439): the gate pulse of the cycle ends, counted in LUM_CNT_CURLIM. -/
def execBstCsTrip : State → Host.Outcome State Fault Refusal :=
  done fun s => if s.lum.boost = .off then s else { s with lum.curlim := incr s.lum.curlim }

/-- The boost enters SOFT_START: its set-point is 50 % of the boost maximum and object 578's integrator starts at 0
(R441). -/
def State.softStart (s : State) : State :=
  let top := (s.unitRec.map (·.boostMax)).getD 0
  { s with lum.boost := .softStart, lum.runSince := none
           loop.objects := Tab.set LoopObj.reset s.loop.objects 578 { LoopObj.reset with setpoint := (top * 50 * 2 ^ 20 : Nat) } }

/-- BOOST_FAULT (R441): an overvoltage, or an undervoltage, with the output in 100 mV. -/
def execBoostFault (excess : Bool) (output : Nat) : State → Host.Outcome State Fault Refusal :=
  done fun s =>
    match s.lum.boost with
    | .run | .softStart =>
      let n := s.lum.faults + 1
      ({ s with lum.boost := .faultWait, lum.faults := n, lum.faultAt := s.ns, lum.runSince := none, lum.output := output
                lum.boostFaults := incr s.lum.boostFaults, lum.events := s.lum.events ||| 8#32 }).report 0x0F05
        [(1, flag (!excess)), (2, output), (1, n)]
    | _ => s

/-- BOOST_FAULT_WAIT_END (R441): 1 s in FAULT_WAIT. -/
def execBoostFaultWaitEnd : State → Host.Outcome State Fault Refusal :=
  done fun s =>
    match s.lum.boost with
    | .faultWait =>
      let s := s.atLeast (s.lum.faultAt + 1000000000)
      if s.lum.faults ≤ 4 then s.softStart
      else ({ s with lum.boost := .latched, lum.events := s.lum.events ||| 16#32 }).reportNow 0x0F06 [(2, s.lum.output)]
    | _ => s

/-- An output in 100 mV lies within 5 % of the set-point of object 578. -/
def State.nearSetpoint (output : Nat) (s : State) : Bool :=
  let sp := (s.obj 578).setpoint
  decide (20 * ((100 * output : Nat) * 2 ^ 20 - sp : Int).natAbs ≤ sp.natAbs)

/-- BOOST_RUN (R441): the output is within 5 % of the set-point. -/
def execBoostRun (output : Nat) : State → Host.Outcome State Fault Refusal :=
  done fun s =>
    match s.lum.boost with
    | .softStart =>
      let s := { s with lum.output := output }
      if s.nearSetpoint output then { s with lum.boost := .run, lum.runSince := some s.ns } else s
    | _ => s

/-- BOOST_FAULT_COUNT_RESET (R441): 60 s in RUN. -/
def execBoostFaultCountReset : State → Host.Outcome State Fault Refusal :=
  done fun s =>
    match s.lum.boost, s.lum.runSince with
    | .run, some t => { s.atLeast (60000000000 + t) with lum.faults := 0 }
    | _, _ => s

/-- A write of LUM_CTL (R441, R444, R445). -/
def State.writeLumCtl (v : Nat) (s : State) : State :=
  let s := if bit v 0 then { s with lum.testDue := true } else s
  let s := if bit v 1 ∧ s.lum.boost = .latched then ({ s with lum.faults := 0 }).softStart else s
  if bit v 2 then { s with lum.strings := Tab.mapVals {} (fun _ (x : LumString) => { x with heldOv := false, overs := 0 }) s.lum.strings } else s

/-- BOOST_RETRY (R441). -/
def execBoostRetry : State → Host.Outcome State Fault Refusal := done fun s => if s.powered then s.writeLumCtl 2 else s

/-- STRING_RETRY (R444). -/
def execStringRetry : State → Host.Outcome State Fault Refusal := done fun s => if s.powered then s.writeLumCtl 4 else s

/-- LUM_TEST (R445). -/
def execLumTest : State → Host.Outcome State Fault Refusal := done fun s => if s.powered then s.writeLumCtl 1 else s

/-- ADJ_TEST_DUE (R445): a whole multiple of the short-test period; a test already due is not added. -/
def execAdjTestDue : State → Host.Outcome State Fault Refusal :=
  done fun s =>
    let p := (s.unitRec.map (·.shortTest)).getD 0
    if s.clk.lighting ∧ p ≠ 0 then { s.mark markShort (p * perSec) with lum.testDue := true } else s

/-- A pair of neighbouring strings is tested: both enabled, neither OPEN nor held off for overvoltage (R445). -/
def State.pairTested (n : Nat) (s : State) : Bool :=
  let ok := fun (m : Nat) => decide (s.strRec m ≠ none) && !(s.lstr m).opened && !(s.lstr m).heldOv
  ok n && ok (n + 1)

/-- The phase in which a pair reads shorted (R445): the pin that is off within 100 mV of the one that is on. -/
def shortPhase (n : Nat) (a b : List Nat) : Option (Nat × Nat × Nat) :=
  let near := fun (l : List Nat) => decide ((((l[n]?).getD 0 : Int) - ((l[n + 1]?).getD 0 : Int)).natAbs ≤ 100)
  if near a then some (0, (a[n]?).getD 0, (a[n + 1]?).getD 0) else if near b then some (1, (b[n]?).getD 0, (b[n + 1]?).getD 0) else none

/-- String `n` belongs to a pair of the set. -/
def inPair (pairs n : Nat) : Bool := bit pairs n || (decide (0 < n) && bit pairs (n - 1))

/-- ADJ_TEST (R445): the test at the next arbitration boundary, with the pins' voltages (mV) at 50 µs and at 100 µs. A pair that is not tested
stays as the last test of it left it. -/
def execAdjTest (phaseA phaseB : List Nat) : State → Host.Outcome State Fault Refusal :=
  done fun s =>
    if s.lum.testDue ∧ s.lum.boost = .run ∧ s.sys.saving = false then
      let s := s.reach (ceilDiv s.now (10 * perMs) * (10 * perMs))
      let found := ((List.range 23).filter (fun n => s.pairTested n)).map (fun n => (n, shortPhase n phaseA phaseB))
      let short := found.filterMap (fun p => p.2.map (fun q => (p.1, q)))
      let pairs := found.foldl (fun (m : Nat) p => if p.2.isSome then setBit m p.1 else clrBit m p.1) s.lum.adjHeld
      let s := { s with lum.testDue := false, lum.tested := some s.tickStart, lum.testTime := secOf s.now % 2 ^ 32
                        lum.adj := short.foldl (fun (m : Nat) (p : Nat × Nat × Nat × Nat) => setBit m p.1) 0, lum.adjHeld := pairs }
      let s := s.each (List.range 24) (fun n s =>
        if (s.lstr n).heldAdj ≠ inPair pairs n then s.setLstr n { s.lstr n with heldAdj := inPair pairs n } else s)
      s.each short (fun p s =>
        ({ s with lum.adjFails := incr s.lum.adjFails, lum.events := s.lum.events ||| 2#32 }).reportNow 0x0F04
          [(1, p.1), (1, p.2.1), (2, p.2.2.1), (2, p.2.2.2)])
    else s

/-- The lighting engine at the end of START (R438, R441): with a STRING record the boost starts and a test is due. -/
def State.lumStart (s : State) : State :=
  if s.recs (·.strings) = [] then s else { s.softStart.wake domLighting with clk.lighting := true, lum.testDue := true }

/-- Every sink is off and the boost is OFF (R438, R441). -/
def State.lumOff (s : State) : State := { s with lum.boost := .off, lum.runSince := none, lum.tested := none, clk.lighting := false }

/-- A unicast frame joins the queue (R225). -/
def State.queueFrame (u : Unicast) (s : State) : State := { s with fleet.unicast := s.fleet.unicast ++ [u] }

/-- A list cut in pieces of at most `n`. -/
def chunks {α : Type} (n : Nat) : Nat → List α → List (List α)
  | 0, _ => []
  | k + 1, l => if l = [] then [] else l.take n :: chunks n k (l.drop n)

/-- A tower commit whose tick has come is over (R234). -/
def State.towerExpire (s : State) : State :=
  match s.rad.tower.tick with
  | some t => if t * 100 * perMs ≤ s.now then { s with rad.tower := { s.rad.tower with opened := false, tick := none } } else s
  | none => s

/-- TOWER_DATA for each tower whose zones' codes changed, under a new serial unless one is open (R446). -/
def State.towerPublish (s : State) : State :=
  if !s.pair.claim ∨ s.rad.tower.opened then s
  else
    let zs := (s.recs (·.zones)).filter (fun r => decide (r.tower ≠ 0))
    let diff := zs.filter (fun r => decide (Tab.get 0 s.rad.shown r.zone ≠ s.zoneCode r + 1))
    let towers := (diff.map (·.tower)).eraseDups
    if towers = [] then s
    else
      let serial := (s.rad.tower.serial + 1) % 256
      let s := { s with rad.shown := zs.foldl (fun t (r : ZoneRec) => if towers.contains r.tower then Tab.set 0 t r.zone (s.zoneCode r + 1) else t) s.rad.shown }
      let frames : List (Nat × List ZoneRec) := towers.flatMap (fun a => (chunks 8 8 (zs.filter (fun (r : ZoneRec) => decide (r.tower = a)))).map (fun l => (a, l)))
      let s := { s with rad.tower := { serial := serial, opened := true, waiting := frames.map Prod.fst, tick := none } }
      s.each frames (fun p s =>
        s.queueFrame { radio := 1, kind := 0x22, dest := p.1, extended := false, tick := tickOf s.now, serial := serial
                       payload := [0x22#8] ++ leBytes 1 serial ++ leBytes 1 p.2.length ++
                         p.2.flatMap (fun r => leBytes 1 r.zone ++ leBytes 1 (s.zoneCode r)) })

end Sys2Proof.Machine
end

