-- ==== Sys2Proof/Machine/Tick.lean ====
section
/-! DEFINITION. One arbitration tick (R30–R34): snapshot, stages, commit, publication, and the sequenced tables (R28). -/

namespace Sys2Proof.Machine

/-- A published profile as the octets of its PROFILE frame (Tables 8-13 and 8-14, R311). -/
def Profile.octets (q : Profile) : List Octet :=
  let knots : List (List Octet) := if q.shape = 2 then
      (List.range q.segs.length).map (fun i =>
        let gs := q.segs.take (i + 1)
        let pos := planDist gs / 1000000
        leBytes 2 (planMs gs) ++ leBytes 4 (pos.toNat % 2 ^ 24) ++ leBytes 2 (sbits 16 (endSpeed 0 gs)))
    else q.segs.map (fun g => leBytes 2 g.ms ++ leBytes 2 (sbits 16 g.v) ++ leBytes 2 (sbits 16 g.a) ++ leBytes 2 (sbits 16 g.j))
  [0x05#8] ++ leBytes 2 q.serial ++ leBytes 1 q.authSerial ++ leBytes 4 q.start ++ leBytes 2 q.span ++ leBytes 3 q.offset ++
    leBytes 1 (q.shape + 4 * flag q.reverse + 8 * flag q.gift) ++ leBytes 4 q.authDist ++ leBytes 1 knots.length ++ leBytes 1 q.impl ++
    targetOctets q.targets ++ leBytes 2 q.endPier ++ knots.flatten

/-- The latest profile of a session is queued for its DOWN entry; it replaces one not yet sent (R225). -/
def State.queueProfile (tick n : Nat) (s : State) : State :=
  match (Tab.get {} s.pub.prof.sessions n).latest with
  | some q =>
    let s := { s with fleet.unicast := s.fleet.unicast.filter (fun (u : Unicast) => !decide (u.kind = 0x05 ∧ u.dest = n ∧ u.sent = 0)) }
    s.queueFrame { radio := 0, kind := 0x05, dest := n, extended := false, payload := q.octets, tick := tick }
  | none => s

/-- The age of the corrections at an instant, in ms: none before the first valid correction epoch (R166). -/
def State.corrAge (t : Nat) (s : State) : Option Nat := s.meas.lastValid.map (fun e => (t - e) / perMs)

/-- The correction age of a lead against its limit (R166). -/
def State.corrCheck (t0 : Nat) (s : State) : State :=
  let s := s.promoteValid t0
  let limit := 1000 * ((s.station.map (·.ageLimit)).getD 10)
  let old := (s.corrAge t0).elim true (fun a => decide (limit < a))
  if old then
    let s := if s.meas.ageLimit then s
      else ({ s with meas.ageLimit := true, mreg.events := s.mreg.events ||| 32#32 }).report 0x0408
        [(2, (((s.corrAge t0).map (fun a => min 0xFFFE (a / 100))).getD 0xFFFF : Nat)), (1, limit / 1000)]
    s.setCell causeCorrAge 0
  else ({ s with meas.ageLimit := false }).clearCell causeCorrAge false

/-- The session causes that clear by themselves (Table 11-3). -/
def State.selfClear (s : State) : State :=
  s.each s.openSessions fun n s =>
    let s := if bit (s.causes n) sessSilent && (s.inp.reported.any (fun p => decide (p.1 = n) && (s.xs n).held.contains p.2.span)) then
        s.clearSess n sessSilent false else s
    if bit (s.causes n) sessBeacon && decide ((s.ps n).state = ProfState.stopped) && ((s.rs n).report.map (fun r => !bit r.state 2)).getD false then
      s.clearSess n sessBeacon false
    else s

/-- GRAPH clears at the first profile tick whose plan keeps the stopping point within authority, and the go bit returns with that tick's
publication (Table 3-29, Table 11-3). -/
def State.clearGraph (s : State) : State :=
  s.each s.openSessions fun n s =>
    if bit (s.causes n) sessGraph && s.withinAuthority n then
      let s := s.clearSess n sessGraph false
      if s.goCond n && !goBit s.fleet.go n then
        { s with tick := s.tick.map (fun (t : TickOut) => { t with returns := t.returns ++ [n] }) }
      else s
    else s

/-- The releases of the snapshot (R324); their replies wait for the publication. -/
def State.takeReleases (tick : Nat) (s : State) : State :=
  s.each s.inp.releases fun o s =>
    let s := s.release o
    match o.frame with
    | some f => s.await f 0x0031 tick (leBytes 1 s.cellSet ++ [0#8] ++ leBytes 2 (if o.scope = 0 then 0 else s.causes o.target))
    | none => s

/-- LEAD and HOLD follow the cell set at a tick (R328, Table 2-2). -/
def State.holdOrLead (s : State) : State :=
  if s.sys.mode = Mode.lead ∧ s.cellSet ≠ 0 then s.toMode .hold 7
  else if s.sys.mode = Mode.hold ∧ s.cellSet = 0 then s.toMode .lead 6
  else s

/-- A standby in SHADOW with the Viaduct up receives deltas (R342). -/
def State.sendsDelta (s : State) : Bool := s.paired && s.pair.viaUp && !s.pair.viaDown && decide (s.pair.peerMode = 4)

/-- What a tick counts at a unit (R264, Tables 9-8, 10-7 and 11-9). -/
def State.countNews (n : TickNews) (s : State) : State :=
  match n with
  | .given w q wait held expired =>
    let s := { s with freg.given := incr s.freg.given
                      freg.affHeld := if held then incr s.freg.affHeld else s.freg.affHeld
                      freg.affExpired := if expired then incr s.freg.affExpired else s.freg.affExpired }
    s.countGift w q wait
  | .done _ => { s with freg.done := incr s.freg.done }
  | .returned => { s with freg.interrupted := incr s.freg.interrupted }
  | .fired => { s with freg.fired := incr s.freg.fired }
  | .coalesced => { s with freg.coalesced := incr s.freg.coalesced }
  | .lookahead => { s with freg.lookahead := incr s.freg.lookahead, freg.dspEvents := s.freg.dspEvents ||| 64#32 }
  | .accepted => { s with freg.submitted := incr s.freg.submitted }
  | .refused => { s with freg.refused := incr s.freg.refused }
  | .granted k => { s with freg.grants := s.freg.grants + BitVec.ofNat 32 k }
  | .contested => { s with freg.contested := incr s.freg.contested }
  | .routed => { s with freg.routes := incr s.freg.routes }
  | .overstayed => { s with freg.overstays := incr s.freg.overstays }
  | .cycled => { s with freg.cycles := incr s.freg.cycles }
  | .retreated => { s with freg.retreats := incr s.freg.retreats }
  | .noEscape => { s with freg.noEscapes := incr s.freg.noEscapes }
  | .forced k => { s with freg.forced := s.freg.forced + BitVec.ofNat 32 k }
  | .guestOut => { s with freg.guestOut := incr s.freg.guestOut }
  | .guestIn => { s with freg.guestIn := incr s.freg.guestIn }
  | .planned => { s with freg.plans := incr s.freg.plans }
  | .deferred => { s with freg.deferred := incr s.freg.deferred }
  | .behind => { s with freg.behind := incr s.freg.behind }
  | .resumed => { s with freg.resumes := incr s.freg.resumes }

/-- The busy time of the robots' workers follows their tasks in service (Table 9-8). -/
def State.syncBusy (ms : Nat) (s : State) : State :=
  let ks := ((s.freg.works.map (·.1)) ++ (s.fleet.dsp.workers.map (·.1))).eraseDups.filter (fun k => decide (k < 256))
  s.each ks (fun k s =>
    if (s.wk k).task.isSome || (s.wk k).retreat.isSome then s.busyOn k ms
    else if (Tab.get {} s.freg.works k).since.isSome then s.busyOff k ms else s)

/-- A go bit returns at a publication (R322). -/
def State.returnGo (n : Nat) (s : State) : State :=
  if s.goCond n then
    { s with fleet.go := goSet s.fleet.go n, stop.listed := goClear s.stop.listed n, stop.since := Tab.set 0 s.stop.since n 0 }
  else s

/-- The replies that a publication produces (R483). -/
def State.replies (tick : Nat) (mirrored : Bool) (s : State) : State :=
  let due := s.host.awaiting.filter (fun a => decide (a.tick ≤ tick))
  let s := { s with host.awaiting := s.host.awaiting.filter (fun a => !decide (a.tick ≤ tick)) }
  s.each due fun a s =>
    if a.refusal ≠ 0 then s.refuse a.frame a.kind a.refusal
    else
      s.finish a.frame a.kind 0x00
        (leBytes 4 tick ++ (if a.kind = 0x0020 then leBytes 1 (flag mirrored) else []) ++ a.outcome)

/-- The committed state becomes visible (R31, R32): status reads, frames, lighting, counters, records, go bits and
replies. -/
def State.publishTick (mirrored : Bool) (s : State) : State :=
  match s.tick with
  | none => s
  | some t =>
    let changed := s.openSessions.filter (fun n => decide ((s.xs n).serial ≠ (Tab.get {} s.pub.xarb.sessions n).serial))
    let s := { s with
      tick := none
      pub := { dsp := s.fleet.dsp, xarb := s.fleet.xarb, prof := s.fleet.prof
               covered := (s.openSessions.flatMap (fun n => s.covered n)).eraseDups, tick := t.tick % 2 ^ 32 }
      rad.changeMap := changed.foldl (fun m n => setBit m (n % 64)) s.rad.changeMap }
    let s := s.each t.news State.countNews
    let s := s.syncBusy (10 * t.tick)
    let s := s.each t.records (fun r s => s.reportNow r.1 r.2)
    let s := s.each t.returns State.returnGo
    let s := s.each t.profiles (State.queueProfile t.tick)
    let s := s.each t.guestOut (fun g s => s.backbone g.1 g.2)
    let s := s.replies t.tick mirrored
    s.lightingPublish.towerExpire.towerPublish

/-- In a resync that has sent no block yet, a lead sends the blocks of every table after the delta of tick `k`, stamped with it (R345). -/
def State.sendResync (k : Nat) (s : State) : State :=
  if s.pair.resync.isSome && decide (s.pair.resyncBlocks = 0) then
    { s.send (.resync k s.fleet) with pair.resyncBlocks := 1 }
  else s

/-- Commit, at t0 + 7 ms of the tick in progress (Table 1-8): its grants, profiles and digests are one committed state, and the lead
sends the tick's delta. -/
def State.commitTick (s : State) : State :=
  match s.tick with
  | none => s
  | some t =>
    if t.committed then s
    else
      let s := { s.reach (10 * perMs * t.tick + 7 * perMs) with tick := some { t with committed := true } }
      if s.sendsDelta then
        let s := { s with pair.sentTick := t.tick, pair.deltaDue := true }
        (s.send (.delta ⟨t.tick, true, true, s.fleet, t.news, s.kreg.switch⟩)).sendResync t.tick
      else s

/-- A tick whose commit instant has passed is committed. -/
def State.commitPast (s : State) : State :=
  match s.tick with
  | none => s
  | some t => if 10 * perMs * t.tick + 7 * perMs ≤ s.now then s.commitTick else s

/-- A tick not published by its deadline is published, and a standby that has not acknowledged it is not mirrored (R32). -/
def State.publishLate (s : State) : State :=
  let s := s.commitTick
  match s.tick with
  | none => s
  | some _ =>
    let s := if s.pair.deltaDue then ({ s with pair.deltaDue := false, pair.resyncBlocks := 0, pair.cntDeltaLate := incr s.pair.cntDeltaLate }).notMirrored 0 else s
    s.publishTick false

/-- The end of a cycle (R227): each session's cycles without an accepted frame; nodes that the image no longer lists are dropped
from the roster (Table 3-29). -/
def State.cycleEnd (s : State) : State :=
  let s := { s with fleet.nodes := s.fleet.nodes.filter (fun p => (s.nodeRec p.1).isSome) }
  s.each s.openSessions fun n s =>
    s.updRs n (fun (r : RadioSess) =>
      if r.heard then { r with heard := false, missed := 0 }
      else { r with missed := min 3 (r.missed + 1), silentCycles := if r.missed + 1 ≤ 2 then r.silentCycles else r.silentCycles + 1 })

/-- Tick `tick` at a lead (R30): snapshot, dispatcher and arbiter on it, profiler, commit. -/
def State.runTick (tick : Nat) (s : State) : State :=
  let t0 := 10 * perMs * tick
  let s := { s with tick := some { tick := tick } }
  let s := if tick % 100 = 0 then s.cycleEnd else s
  let s := ((s.corrCheck t0).takeReleases tick).selfClear.holdOrLead
  let alive := s.tasks
  let go := s.openSessions.filter (fun n => s.goCond n && !goBit s.fleet.go n)
  let s := { s with tick := s.tick.map (fun (t : TickOut) => { t with returns := go }) }
  let s := s.dispatchStage tick (10 * tick)
  let s := s.arbiterStage tick t0 alive
  let s := (s.profilerStage (10 * tick)).authCheck.clearGraph
  { s with inp := {}, fleet.mode := s.sys.mode }


/-- A tick that opened before a takeover and was never acknowledged is computed again and published (R34, R349): its snapshot holds
the robot frames heard before its t0, and what came later waits for the next. -/
def State.runMissed (tick : Nat) (s : State) : State :=
  let old := s.inp
  let early := fun (t : Nat) => decide (t < 10 * perMs * tick)
  let s := { s with inp := { reported := old.reported.filter (fun p => early p.2.time), opened := old.opened.filter (fun p => early p.2)
                             reports := old.reports.filter (fun p => early p.2.2) } }
  let s := (s.runTick tick).commitTick.publishTick false
  { s with inp := { old with reported := old.reported.filter (fun p => !early p.2.time), opened := old.opened.filter (fun p => !early p.2)
                             reports := old.reports.filter (fun p => !early p.2.2) } }

/-- Every tick after the last acknowledged one whose t0 passed before the tick now opening, in order. -/
def State.runMissedAll (s : State) : State :=
  if s.pair.unapplied then
    (List.range (tickOf s.now - (s.pair.ackTick + 1))).foldl (fun s i => State.runMissed (s.pair.ackTick + 1 + i) s)
      { s with pair.unapplied := false }
  else s

/-- ARBITRATION_TICK (R30): a whole 10 ms boundary of device time. A standby runs no tick. -/
def execArbitrationTick : State → Host.Outcome State Fault Refusal :=
  done fun s =>
    if !s.inService || !s.time.running then s
    else
      let s := s.publishLate
      let s := (s.mark markTick (10 * perMs)).epochPast
      if s.isLead && !s.sys.saving then
        s.runMissedAll.runTick (tickOf s.now)
      else s

/-- PUBLISH_DEADLINE (R32): t0 + 8 ms of the tick in progress. -/
def execPublishDeadline : State → Host.Outcome State Fault Refusal :=
  done fun s =>
    match s.tick with
    | some t => (s.commitTick.reach (10 * perMs * t.tick + 8 * perMs)).epochPast.publishLate
    | none => s

/-- A ceiling is in force: the lead may use the values above the old one (R224). -/
def State.freeCeiling (k : Nat) (s : State) : State :=
  let v := Tab.get {} s.rad.keys k
  match v.raised with
  | some c => { s with rad.keys := Tab.set {} s.rad.keys k { v with ceiling := c, raised := none } }
  | none => s

/-- The standby is mirrored, as the lead knows from its acknowledgement and as the standby itself (R345): the resync ends. -/
def State.becomeMirrored (s : State) : State :=
  if s.pair.mirrored then s
  else
    let us := ((s.pair.resync.map (fun t => (s.ns - t) / 1000)).getD 0 : Nat)
    ({ s with pair.mirrored := true, pair.resync := none, pair.resyncBlocks := 0 }).report 0x0B0A [(4, us)]

/-- DELTA_ACK (R32, R344): the standby's acknowledgement of a tick, with the digest of the delta as applied equal to the
lead's or not; or, of type 0x05, of the oldest CEILING frame not yet acknowledged (R224). A standby whose servo has left
PROVISIONAL, as its last HEARTBEAT says, is mirrored then (R345). -/
def execDeltaAck (tick : Nat) (digestOk : Bool) (ceiling : Bool) : State → Host.Outcome State Fault Refusal :=
  done (State.viaFrame 3 id fun s =>
    if ceiling then
      match s.pair.ceilingDue with
      | (k, _) :: rest => ({ s with pair.ceilingDue := rest }).freeCeiling k
      | [] => s
    else
    let s := s.when (s.isLead && decide (s.tick.map (·.tick) = some tick)) State.commitTick
    if !s.isLead ∨ !s.pair.deltaDue ∨ s.pair.sentTick ≠ tick then s
    else if digestOk then
      let s := { s with pair.ackTick := tick, pair.deltaDue := false }
      let s := if bit s.pair.peerReady 3 then s.becomeMirrored else s
      s.publishTick s.pair.mirrored
    else s.notMirrored 1)

/-- One sequenced table. -/
def State.table (n : Nat) (s : State) : SeqTable := (s.tables[n]?).getD {}

/-- Entries written to a table's shadow copy, keyed 64 × tick + index for a Deck (Table 1-7). -/
def writeEntries (entries : List (Nat × List Octet)) (t : Tab (List Octet)) : Tab (List Octet) :=
  entries.foldl (fun t (e : Nat × List Octet) => if e.1 < 640 then Tab.set [] t e.1 (padTo 8 e.2) else t) t

/-- The shadow copy of table `n` takes entries. -/
def State.writeShadow (n : Nat) (entries : List (Nat × List Octet)) (s : State) : State :=
  match n with
  | 0 => { s with rad.a.shadow := writeEntries entries s.rad.a.shadow }
  | 1 => { s with rad.b.shadow := writeEntries entries s.rad.b.shadow }
  | _ => { s with tables := s.tables.set n { s.table n with shadow := writeEntries entries (s.table n).shadow } }

/-- TABLE_COMMIT (R28): firmware writes entries of the shadow copy of a table and, with `commit`, sets its commit flag. After the flag a
write is refused with an error until the exchange. -/
def execTableCommit (table : Fin 5) (entries : List (Nat × List Octet)) (commit : Bool) : State → Host.Outcome State Fault Refusal :=
  done fun s =>
    let n := table.val
    if !s.powered then s
    else if (s.table n).committed ≠ none then s.send (.tableError n)
    else
      (s.writeShadow n entries).when commit fun s => { s with tables := s.tables.set n { s.table n with committed := some s.now } }

/-- The copies of a table change places and its exchange is counted (R28, Table 1-7). -/
def State.exchange (n : Nat) (s : State) : State :=
  let t := s.table n
  let s := { s with tables := s.tables.set n { committed := none, exchanges := (t.exchanges + 1) % 65536, active := t.shadow, shadow := t.active } }
  match n with
  | 0 => { s with rad.a.deck := s.rad.a.shadow, rad.a.shadow := s.rad.a.deck, rad.a.decks := (s.rad.a.decks + 1) % 65536 }
  | 1 => { s with rad.b.deck := s.rad.b.shadow, rad.b.shadow := s.rad.b.deck, rad.b.decks := (s.rad.b.decks + 1) % 65536 }
  | 4 => { s with lum.active := s.lum.shadow, lum.shadow := s.lum.active }
  | _ => s

/-- The exchange where the flag was set at least 50 µs before this instant. -/
def State.exchangeDue (n : Nat) (s : State) : State :=
  s.when (((s.table n).committed.map (fun c => decide (50 * perUs + c ≤ s.now))).getD false) (State.exchange n)

/-- TABLE_EXCHANGE (R28, Table 1-7): the boundary of a table; the copies are exchanged where the flag was set at least 50 µs
before. -/
def execTableExchange (table : Fin 5) : State → Host.Outcome State Fault Refusal :=
  done fun s =>
    if !s.powered || !s.time.running then s
    else (s.mark (20 + table.val) (if table.val = 4 then 10 * perMs else perSec)).exchangeDue table.val

/-- A write of XARB_CLASS_SET at the lead (R292, R304); refused for a FREE session. -/
def State.writeClassSet (v : Nat) (s : State) : Bool × State :=
  let n := bits v 0 8
  if (s.rs n).state = 0 then (false, s) else (true, { s with inp.classes := s.inp.classes ++ [(n, bits v 8 2)] })

/-- XARB_CLASS_SET (R292): taken at the next snapshot. -/
def execXarbClassSet (session : Fin 256) (cls : Fin 4) : State → Host.Outcome State Fault Refusal :=
  done fun s => if s.isLead then (s.writeClassSet (session.val + 256 * cls.val)).2 else s

/-- XARB_ALARM_CLR (R296): taken at the next snapshot. -/
def execXarbAlarmClr : State → Host.Outcome State Fault Refusal :=
  done fun s => if s.isLead then { s with inp.alarmClr := true } else s

end Sys2Proof.Machine
end

