-- ==== Sys2Proof/Machine/Guests.lean ====
section
/-! DEFINITION. Backbone messages between the leads of a site's cells (R486, R487) and the guest slots they serve
(R299, R300). -/

namespace Sys2Proof.Machine

/-- The first form checks of a backbone frame of the type with `n` body octets (Table 18-3); one that fails them gets no
reply and is not counted. -/
def backboneFormed (n : Nat) (f : ChpFrame) : Bool :=
  decide (f.magic = 0x4843#16) && decide (f.version = 1#8) && decide (f.flags = 6#8) && decide (f.length.toNat = n) &&
  decide (f.body.length = n) && decide (f.reserved = 0#16) && decide (f.result = 0#8)

/-- Why a backbone frame is rejected: 0 site, 1 MAC, 2 time, 3 order, in the order of R486. -/
def State.backboneReject (kind : Nat) (f : ChpFrame) (s : State) : Option Nat :=
  let cell := getLe f.body 0 1
  let own := tickOf s.now % 2 ^ 32
  let t := f.sequence.toNat
  let apart := min ((t + 2 ^ 32 - own) % 2 ^ 32) ((own + 2 ^ 32 - t) % 2 ^ 32)
  let octets := f.octets kind
  let fits := fun (n : Nat) => (s.keySlot n).valid && decide (f.mac = some (mac256 (s.keySlot n).key octets))
  if f.session.toNat ≠ s.siteId then some 0
  else if !(fits 4 || fits 5) then some 1
  else if 200 < apart then some 2
  else
    match Tab.get none s.host.backboneLast cell with
    | some p => if p.1 < t ∨ (p.1 = t ∧ p.2 < f.index.toNat) then none else some 3
    | none => none

/-- A backbone frame of the type arrives with `n` body octets: a lead whose servo is not PROVISIONAL checks it, and either
takes it as a message from its cell and acts on it, or counts and records it as rejected (R486). -/
def State.backboneIn (kind n : Nat) (f : ChpFrame) (run : State → State) (s : State) : State :=
  if !s.carries f.source || !s.isLead || decide (s.time.servo = .provisional) || !backboneFormed n f then s
  else
    let cell := getLe f.body 0 1
    match s.backboneReject kind f with
    | some why =>
      ({ s with host.backboneDrop := incr s.host.backboneDrop, host.events := s.host.events ||| 32#32 }).report 0x1107
        [(1, cell), (1, why)]
    | none =>
      let s := { s with
        host.backboneLast := Tab.set none s.host.backboneLast cell (some (f.sequence.toNat, f.index.toNat))
        host.backboneRx := incr s.host.backboneRx
        guest.heard := Tab.set 0 s.guest.heard cell s.ns
        guest.lost := s.guest.lost.filter (fun c => decide (c ≠ cell)) }
      run s

/-- The effect of GUEST_REQUEST at the owner: it waits for the next snapshot; a repeated request takes the place of the
first (R299). -/
def State.guestRequestIn (f : ChpFrame) (s : State) : State :=
  let b := f.body
  let a : GuestAsk := { cell := getLe b 0 1, span := getLe b 4 2, forward := decide (getLe b 6 1 = 0), session := getLe b 2 1
                        cls := getLe b 3 1, age := getLe b 8 2 }
  let same := fun (x : GuestAsk) => decide (x.cell = a.cell ∧ x.session = a.session ∧ x.span = a.span)
  if getLe b 1 1 ≠ s.cellNo then s
  else if s.fleet.xarb.asks.any same then
    { s with fleet.xarb.asks := s.fleet.xarb.asks.map (fun x => if same x then a else x) }
  else { s with fleet.xarb.asks := s.fleet.xarb.asks ++ [a] }

/-- The effect of GUEST_ANSWER at the guest's cell: it waits for the next tick (R299). -/
def State.guestAnswerIn (f : ChpFrame) (s : State) : State :=
  let b := f.body
  if getLe b 1 1 ≠ s.cellNo then s
  else { s with inp.answers := s.inp.answers ++ [(getLe b 2 1, getLe b 4 2, getLe b 3 1)] }

/-- The effect of GUEST_RELEASE at the owner: applied at its next tick (R300). -/
def State.guestReleaseIn (f : ChpFrame) (s : State) : State :=
  let b := f.body
  if getLe b 1 1 ≠ s.cellNo then s
  else { s with inp.guestReleases := s.inp.guestReleases ++ [(getLe b 0 1, getLe b 4 2, getLe b 2 1)] }

/-- A GUEST_REQUEST frame arrives (R299, Table 18-8). -/
def execGuestRequest (frame : ChpFrame) : State → Host.Outcome State Fault Refusal :=
  done (State.backboneIn 0x00F0 12 frame (State.guestRequestIn frame))

/-- A GUEST_ANSWER frame arrives (R299, Table 18-8). -/
def execGuestAnswer (frame : ChpFrame) : State → Host.Outcome State Fault Refusal :=
  done (State.backboneIn 0x00F1 8 frame (State.guestAnswerIn frame))

/-- A GUEST_RELEASE frame arrives (R300, Table 18-8). -/
def execGuestRelease (frame : ChpFrame) : State → Host.Outcome State Fault Refusal :=
  done (State.backboneIn 0x00F2 8 frame (State.guestReleaseIn frame))

/-- Each guest's release that waits for its answer is sent once more. -/
def State.resendReleases (s : State) : State :=
  ({ s with guest.sentAt := s.ns }).each s.guest.releasing fun p s =>
    s.backbone 0x00F2 (leBytes 1 s.cellNo ++ leBytes 1 p.1 ++ leBytes 1 p.2.2 ++ [0#8] ++ leBytes 2 p.2.1 ++ [0#8, 0#8])

/-- 1 s after they were last sent, the releases not yet answered with result 3 go out again (R487). -/
def execGuestReleaseResend : State → Host.Outcome State Fault Refusal :=
  done fun s =>
    if !s.isLead || s.guest.releasing.isEmpty then s
    else
      (s.atLeast (1000000000 + s.guest.sentAt)).resendReleases

/-- The spans of other cells that each session holds: (session, span). -/
def State.guestSpans (s : State) : List (Nat × Nat) :=
  s.openSessions.flatMap (fun n => ((s.xs n).held.filter (fun x => s.foreign x)).map (fun x => (n, x)))

/-- The guest slots that this cell has given as owner. -/
def State.guestSlots (s : State) : List (Nat × Guest) := s.fleet.xarb.guests.filter (fun p => decide (p.2.state ≠ 0))

/-- A BACKBONE_ALIVE frame arrives, or, with none given, a whole second comes at which a lead that holds or owns a guest
slot sends one (R487). -/
def execBackboneAlive (received : Option ChpFrame) : State → Host.Outcome State Fault Refusal :=
  done fun s =>
    match received with
    | some f => s.backboneIn 0x00F3 8 f id
    | none =>
      let s := s.mark markAlive perSec
      let slots := s.guestSlots.length
      let spans := s.guestSpans.length
      if !s.isLead || decide (slots + spans = 0) then s
      else s.backbone 0x00F3 (leBytes 1 s.cellNo ++ [0#8] ++ leBytes 2 slots ++ leBytes 2 spans ++ [0#8, 0#8])

/-- 10 s without a message from a cell: its guest slots here are marked LOST, its spans held here stay held, no new guest
request goes to it, and GUEST_LOST is recorded for each (R300). -/
def execGuestLost (cell : Fin 64) : State → Host.Outcome State Fault Refusal :=
  done fun s =>
    let slots := s.guestSlots.filter (fun p => decide (p.2.cell = cell.val ∧ p.2.state = 1))
    let spans := s.guestSpans.filter (fun p => decide ((s.spanGeo p.2).elim 0 (·.owner) = cell.val))
    if !s.isLead || s.guest.lost.contains cell.val || (slots.isEmpty && spans.isEmpty) then s
    else
      let s := s.atLeast (Tab.get 0 s.guest.heard cell.val + 10000000000)
      let s := { s with guest.lost := cell.val :: s.guest.lost }
      let s := s.each slots fun p s =>
        ({ s with fleet.xarb.guests := Tab.set {} s.fleet.xarb.guests p.1 { p.2 with state := 2 } }).fleetReport 0x090D
          [(2, p.2.span), (1, cell.val), (1, p.1)]
      s.each spans fun p s => s.fleetReport 0x090D [(2, p.2), (1, cell.val), (1, p.1)]

/-- A backbone frame of one of the four types that fails a check of R486 is dropped, counted and recorded with the
reason; one that passes them all is taken as its type gives. -/
def execBackboneRejected (kind : Fin 4) (frame : ChpFrame) : State → Host.Outcome State Fault Refusal :=
  done fun s =>
    match kind.val with
    | 0 => s.backboneIn 0x00F0 12 frame (State.guestRequestIn frame)
    | 1 => s.backboneIn 0x00F1 8 frame (State.guestAnswerIn frame)
    | 2 => s.backboneIn 0x00F2 8 frame (State.guestReleaseIn frame)
    | _ => s.backboneIn 0x00F3 8 frame id

end Sys2Proof.Machine
end

