-- ==== Sys2Proof/Machine/Radio.lean ====
section
/-! DEFINITION. The slot sequencers of both radios: channels (R202), air-time limits (R203), frame counters and ceilings
(R224), and what each Deck entry sends (R207, R212–R216, R225, R234). -/

namespace Sys2Proof.Machine

/-- Bit `n` of RADx_EVENTS is latched. -/
def State.radEvent (i n : Nat) (s : State) : State :=
  s.updRadio i (fun (r : Radio) => { r with events := r.events ||| BitVec.ofNat 32 (2 ^ n) })

/-- A record of radio `i`: its code has 0x06 or 0x07 in the upper octet (R237). -/
def State.radReport (i low : Nat) (data : List (Nat × Int)) (s : State) : State := s.report (0x0600 + 256 * i + low) data

/-- The RADIO_PLAN record of radio `i`. -/
def State.planRec (i : Nat) (s : State) : Option RadioPlanRec := (s.recs (·.plans)).find? (fun r => decide (r.radio = i))

/-- The rate of radio `i` in kb/s: RADIO_A always runs at 300 (R200). -/
def State.rateOf (i : Nat) (s : State) : Nat := if i = 0 then 300 else max 50 (50 * (s.planRec i).elim 6 (·.rate))

/-- The time on air of a PSDU of `n` octets, in ns (R205). -/
def State.airNs (i n : Nat) (s : State) : Nat := (8 + n) * 8000000 / s.rateOf i

/-- The places `i` and `j` of a list exchanged. -/
def swapAt (l : List Nat) (i j : Nat) : List Nat := (l.set i (l.getD j 0)).set j (l.getD i 0)

/-- The loop of R202 from index `i` down to 1. -/
def hopGo : Nat → Nat → List Nat → List Nat
  | 0, _, c => c
  | i + 1, x, c =>
    let x := (x * 1103515245 + 12345) % 2 ^ 32
    hopGo i x (swapAt c (i + 1) ((x / 65536) % (i + 2)))

/-- The hopping order of a plan: its enabled channels permuted by its seed (R202). -/
def hopOrder (mask seed : Nat) : List Nat :=
  let c := onesBelow 64 mask
  hopGo (c.length - 1) seed c

/-- The tick channel of radio `i` at device time `t` (R202). -/
def State.tickChannel (i t : Nat) (s : State) : Nat :=
  match s.planRec i with
  | some p =>
    let c := hopOrder p.mask p.seed
    c.getD ((t / (100 * perMs)) % max 1 c.length) 0
  | none => 0

/-- The channel of an entry that starts at `t` (R208). -/
def State.entryChannel (i : Nat) (e : DeckEntry) (t : Nat) (s : State) : Nat :=
  if bit e.rule 7 then e.rule % 128 else s.tickChannel i t

/-- The sub-band of a channel of plan 1 (Table 8-2). -/
def subBand (ch : Nat) : Nat := if ch ≤ 11 then 0 else if ch ≤ 13 then 1 else if ch ≤ 15 then 2 else 3

/-- The limit of a sub-band in µs of its 3,600 s window (Table 8-2). -/
def dutyLimit (band : Nat) : Nat :=
  match band with
  | 0 | 1 => 36000000
  | 2 => 3600000
  | _ => 360000000

/-- The part of a use that lies in the window of `w` µs that ends at `t` µs. -/
def AirUse.inWindow (w t : Nat) (u : AirUse) : Nat := min u.length (u.time - (t - w))

/-- What radio `i` has used, with the window of its plan ending at `t` µs, on the uses that `keep` picks. -/
def State.airUse (i t : Nat) (keep : Nat → Bool) (s : State) : Nat :=
  let w := if (s.planRec i).elim 2 (·.band) = 0 then 20000000 else 3600000000
  (((s.radio i).uses.filter (fun u => keep u.channel)).map (AirUse.inWindow w t)).foldl (· + ·) 0

/-- The use in µs that a transmission of `len` µs ending at `t` µs would bring about, and its limit; none under plan 2 (R203). -/
def State.useAfter (i ch t len : Nat) (s : State) : Option (Nat × Nat) :=
  match (s.planRec i).elim 2 (·.band) with
  | 0 => some (s.airUse i t (fun c => decide (c = ch)) + len, 400000)
  | 1 => some (s.airUse i t (fun c => decide (subBand c = subBand ch)) + len, dutyLimit (subBand ch))
  | _ => none

/-- The check of R203 before a transmission of `len` µs ending at `t` µs: a BEACON or STOP may use the limit, everything
else 90 % of it. A skip is counted; each run of skips is recorded once. -/
def State.airAllowed (i ch kind t len : Nat) (s : State) : Bool × State :=
  match s.useAfter i ch t len with
  | none => (true, s)
  | some (use, limit) =>
    let ok := if kind = 1 ∨ kind = 2 then decide (use ≤ limit) else decide (100 * use ≤ 90 * limit)
    if ok then (true, s.updRadio i (fun (r : Radio) => { r with skipRun := false }))
    else
      let dwell := decide ((s.planRec i).elim 2 (·.band) = 0)
      let run := (s.radio i).skipRun
      let s := s.updRadio i (fun (r : Radio) => { r with
        skipRun := true
        cntSkipDwell := if dwell then incr r.cntSkipDwell else r.cntSkipDwell
        cntSkipDuty := if dwell then r.cntSkipDuty else incr r.cntSkipDuty })
      let s := s.radEvent i (if dwell then 0 else 1)
      (false, if run then s
        else if dwell then s.radReport i 0x01 [(1, ch), (1, kind), (4, use / 1000)]
        else s.radReport i 0x02 [(1, subBand ch), (1, kind), (4, use / 1000)])

/-- A use of the air is accounted (R203); uses that have left the window are dropped. -/
def State.useAir (i ch t len : Nat) (s : State) : State :=
  match (s.planRec i).elim 2 (·.band) with
  | 0 => s.updRadio i (fun (r : Radio) => { r with uses := ⟨t, ch, len⟩ :: r.uses.filter (fun u => decide (t < 20000000 + u.time)) })
  | 1 => s.updRadio i (fun (r : Radio) => { r with uses := ⟨t, ch, len⟩ :: r.uses.filter (fun u => decide (t < 3600000000 + u.time)) })
  | _ => s

/-- The number of a sending key: the broadcast keys of the radios, a robot's key, a node's key, each of one epoch. -/
def sendKeyNo (epoch which identity : Nat) : Nat := epoch * 2 ^ 68 + 4 * identity + which

/-- The number of radio `i`'s broadcast key. -/
def State.bcastKey (i : Nat) (s : State) : Nat := sendKeyNo s.epoch i 0

/-- The key that a unicast frame is sent under; none when its session is no longer open. -/
def State.unicastKey (u : Unicast) (s : State) : Option Nat :=
  if u.radio = 1 then (s.nodeRec u.dest).map (fun n => sendKeyNo s.epoch 3 n.identity)
  else if u.extended then some (sendKeyNo s.epoch 2 u.dest)
  else if (s.rs u.dest).state = 0 then none else some (sendKeyNo s.epoch 2 (s.rs u.dest).identity)

/-- A sending key as it stands; one not used since START or the takeover begins at its stored or mirrored ceiling (R224). -/
def State.sendKey (k : Nat) (s : State) : SendKey :=
  let v := Tab.get {} s.rad.keys k
  if v = {} then { counter := Tab.get 0 s.rad.stored k, ceiling := Tab.get 0 s.rad.stored k } else v

/-- Sending key `k` written. -/
def State.setSendKey (k : Nat) (v : SendKey) (s : State) : State := { s with rad.keys := Tab.set {} s.rad.keys k v }

/-- The ceiling of key `k` is raised by 4,096: MRAM first, then a CEILING frame while a standby is mirrored, whose
acknowledgement frees the values above the old ceiling (R224). -/
def State.raiseCeiling (k : Nat) (s : State) : State :=
  let v := s.sendKey k
  if v.ceiling < v.counter + 1024 ∧ v.raised = none then
    let new := v.ceiling + 4096
    let s := { s with rad.stored := Tab.set 0 s.rad.stored k new }
    if s.paired && s.pair.mirrored then
      ({ s.setSendKey k { v with raised := some new } with pair.ceilingDue := s.pair.ceilingDue ++ [(k, s.ns)] }).viaduct 0x05
        (leBytes 11 k ++ leBytes 4 new)
    else s.setSendKey k { v with ceiling := new }
  else s

/-- The next frame counter of key `k`; none while the frame is held (R224). CTR_EPOCH_DUE is written once at 0xF000_0000. -/
def State.takeCounter (i k : Nat) (s : State) : Option Nat × State :=
  let s := s.raiseCeiling k
  let v := s.sendKey k
  if 0xFFFFFFF0 ≤ v.counter ∨ v.ceiling ≤ v.counter then (none, s)
  else
    let due := decide (0xF0000000 ≤ v.counter) && !v.epochDue
    let s := s.setSendKey k { v with counter := v.counter + 1, epochDue := v.epochDue || due }
    (some v.counter, if due then (s.radEvent i 6).radReport i 0x05 [(1, (k % 4 : Nat)), (4, v.counter)] else s)

/-- The frame goes on air from the radio's start to `finish`, authenticated as it is sent (R33). -/
def State.onAir (i : Nat) (a : AirFrame) (finish : Nat) (s : State) : State :=
  let a := s.sealFrame ((s.planRec i).elim 0 (·.band)) ((s.planRec i).elim 0 (·.power)) a
  (s.updRadio i (fun (r : Radio) => { r with onAir := some (a, finish), cntTx := incr r.cntTx })).send (.air a)

/-- The unit may transmit (R338, Table 2-1, R42, R46). -/
def State.onAirAllowed (s : State) : Bool :=
  s.powered && !s.sys.saving && s.gateOpen && !bit s.stop.own causeTamper &&
  (match s.sys.mode with
   | .survey | .lead | .hold => true
   | .dormant | .start | .shadow => false)

/-- The least instant at or after `least` that is congruent to `phase` modulo a second. -/
def nextPhase (phase : Int) (least : Nat) : Nat :=
  let p := (phase % (perSec : Int)).toNat
  least + (perSec + p - least % perSec) % perSec

/-- The start, within its second, of the entry keyed `key` of a Deck: 64 × tick + index. -/
def entryPhase (key : Nat) (e : DeckEntry) : Nat := 100 * perMs * (key / 64) + 100 * perUs * e.start

/-- The next entry of radio `i` that `pick` chooses, with its start: the first whose instant start + `ofs` is not past and
has not been served. -/
def State.nextEntry (i mark : Nat) (ofs : Int) (pick : DeckEntry → Bool) (s : State) : Option (DeckEntry × Nat) :=
  let least := max (s.now - (perNs + 8)) (Tab.get 0 s.time.marks mark)
  let es := (s.radio i).deck.map (fun p => (p.1, deckEntry p.2))
  let cs := (es.filter (fun p => pick p.2)).map (fun p => (p.2, nextPhase (((entryPhase p.1 p.2 : Nat) : Int) + ofs) least))
  ((sortBy (fun (a b : DeckEntry × Nat) => decide (a.2 < b.2)) cs).head?).map (fun p => (p.1, (((p.2 : Nat) : Int) - ofs).toNat))

/-- The mark of the entries of kind `k` on radio `i`. -/
def entryMark (i k : Nat) : Nat := 32 + 16 * i + k

/-- The instant `t` of an entry is reached, and remembered as mark `mark`. -/
def State.serveAt (mark t : Nat) (s : State) : State :=
  { s with time.frc := (s.reach t).time.frc, time.marks := Tab.set 0 s.time.marks mark (t + 1) }

/-- The domain of radio `i` runs or stops (Table 1-6). -/
def State.radioClock (i : Nat) (on : Bool) (s : State) : State :=
  let s := s.updRadio i (fun (r : Radio) => { r with awake := on })
  let s := if i = 0 then { s with clk.radioA := on } else { s with clk.radioB := on }
  s.when on (State.wake (domRadioA + i))

/-- A sleeping radio is woken 300 µs before an entry that uses it, or as soon as may be (R27). -/
def State.wakeFor (i start : Nat) (s : State) : State :=
  if (s.radio i).awake then s else (s.reach (start - 300 * perUs)).radioClock i true

/-- The radio's domain has reached its working frequency by the device time `t` (R26). -/
def State.radioReadyBy (i t : Nat) (s : State) : Bool := decide (Tab.get 0 s.clk.readyAt (domRadioA + i) ≤ (s.time.frcFor t).toNat)

/-- The next entry of kind `kind` is served: time reaches start + `ofs`, and `f` acts on the entry and its start. The radio must be ready by
the start (R26); a unit that took over serves only entries that start from the instant Table 12-6 gives. -/
def State.serveEntry (i kind : Nat) (ofs : Int) (f : DeckEntry → Nat → State → State) (s : State) : State :=
  if !s.inService ∨ !s.time.running then s
  else
    match s.nextEntry i (entryMark i kind) ofs (fun e => decide (e.kind = kind)) with
    | some (e, start) =>
      let t := (((start : Nat) : Int) + ofs).toNat
      let s := (s.wakeFor i start).serveAt (entryMark i kind) t
      if start < s.rad.serveFrom ∨ s.radioReadyBy i start = false then s else f e start s
    | none => s

/-- The end of an entry that starts at `start`. -/
def DeckEntry.stop (e : DeckEntry) (start : Nat) : Nat := start + 100 * perUs * e.length

/-- The entry of radio `i` that holds the instant `t`, with its start. -/
def State.entryAt (i t : Nat) (s : State) : Option (DeckEntry × Nat) :=
  let es := (s.radio i).deck.map (fun p => (deckEntry p.2, t / perSec * perSec + entryPhase p.1 (deckEntry p.2)))
  es.find? (fun p => decide (p.2 ≤ t ∧ t < p.1.stop p.2))

/-- A synthesiser loses lock (R235): the rest of the entry is skipped, and clean health breaks (R352). -/
def State.pllUnlock (i : Nat) (s : State) : State :=
  let at_ := s.entryAt i s.now
  let kind := at_.elim 0 (·.1.kind)
  let ch := match at_ with
    | some p => s.entryChannel i p.1 p.2
    | none => s.tickChannel i s.now
  let s := match (s.radio i).onAir with
    | some (a, finish) => if s.now < finish then s.send (.air { a with cut := true }) else s
    | none => s
  let s := s.updRadio i (fun (r : Radio) => { r with onAir := none, dead := at_.elim s.now (fun p => p.1.stop p.2) })
  let s := { s with pair.radioAt := some s.ns, rad.txFail := s.rad.txFail || (decide (i = 0 ∧ kind = 1) && s.onAirAllowed) }
  ((s.radEvent i 7).radReport i 0x06 [(1, kind), (1, ch)]).breakHealth

/-- A PA detector trips (R235): the PA is disabled for the rest of the entry, and clean health breaks. -/
def State.paTrip (i detector power : Nat) (s : State) : State :=
  let at_ := s.entryAt i s.now
  let kind := at_.elim 0 (·.1.kind)
  let s := match (s.radio i).onAir with
    | some (a, finish) => if s.now < finish then s.send (.air { a with cut := true }) else s
    | none => s
  let s := s.updRadio i (fun (r : Radio) => { r with onAir := none, paDead := at_.elim s.now (fun p => p.1.stop p.2) })
  let s := { s with pair.radioAt := some s.ns, rad.txFail := s.rad.txFail || (decide (i = 0 ∧ kind = 1) && s.onAirAllowed) }
  ((s.radEvent i 8).radReport i 0x07 [(1, detector), (2, power)]).breakHealth

/-- Injections 0x0A and 0x0B act in the entry of their radio (Table 17-6): the synthesiser in the next entry, the PA detector
in the next transmitting one. -/
def State.entryInjection (i : Nat) (sends : Bool) (s : State) : State :=
  let s := if s.diag.synthFault = some i then ({ s with diag.synthFault := none }).pllUnlock i else s
  match s.diag.paFault with
  | some (r, d) => if r = i && sends then ({ s with diag.paFault := none }).paTrip i d 0 else s
  | none => s

/-- The radio can start a frame at `t`. -/
def Radio.ready (t : Nat) (r : Radio) : Bool := decide (r.dead ≤ t ∧ r.paDead ≤ t)

/-- A broadcast frame that may use the air takes its counter and goes on air (R203, R204): 0 sent, 2 held by its counter. -/
def State.broadcastNow (i ch ns finish : Nat) (f : AirFrame) (s : State) : Nat × State :=
  let c := State.takeCounter i f.key s
  match c.1 with
  | none => (2, c.2)
  | some ctr => (0, (c.2.useAir i ch (finish / perUs) (ceilDiv ns 1000)).onAir i { f with counter := ctr } finish)

/-- A broadcast frame of `kind` with `payload` starts at `start` in an entry that ends at `stop`, if its time, its use of the
air and its counter allow it: 0 sent, 1 skipped under R203, 2 not started. -/
def State.broadcast (i ch kind : Nat) (payload : List Octet) (start stop : Nat) (s : State) : Nat × State :=
  let ns := s.airNs i (10 + payload.length + 12)
  let finish := start + perNs * ns
  if !s.onAirAllowed ∨ !(s.radio i).ready start ∨ stop < finish then (2, s)
  else
    let a := s.airAllowed i ch kind (finish / perUs) (ceilDiv ns 1000)
    if !a.1 then (1, a.2) else a.2.broadcastNow i ch ns finish { radio := i, channel := ch, start := start, key := a.2.bcastKey i, payload := payload }

/-- TIME_QUALITY as R186 gives it. -/
def State.timeQuality (s : State) : Word :=
  pack [(0, 3, match s.time.servo with | .provisional => 0 | .tracking => 1 | .locked => 2 | .slew => 3 | .holdover => 4),
    (3, 1, flag s.time.aligned), (4, 3, s.time.source), (7, 1, flag s.time.stepped), (8, 24, sat 24 s.time.holdS)]

/-- The first octets of a BEACON or SYNC payload (Table 8-10, Table 8-21) for the tick at `t`. -/
def State.beaconHead (kind t : Nat) (s : State) : List Octet :=
  let tick := (t / (100 * perMs)) % 10
  let sec := t / perSec
  let switch := match s.kreg.switch with
    | some (_, at_) => decide (at_ = sec + 1)
    | none => false
  leBytes 1 kind ++ leBytes 1 (tick + 16 * s.sys.mode.code) ++
  leBytes 1 (flag s.meas.integ + 2 * flag s.meas.contNotAssured + 4 * flag switch + 8 * flag (decide (s.cellSet ≠ 0))) ++
  leBytes 1 s.timeQuality.toNat ++ leBytes 4 sec

/-- The correction age of a beacon in 0.1 s; 0xFF when undefined or 25.5 s or more. -/
def State.beaconAge (s : State) : Nat :=
  match s.corrAge s.now with
  | some a => min 255 (a / 100)
  | none => 255

/-- The BEACON payload of Table 8-10 for the tick at `t`, with the go bits as they stand. -/
def State.beaconPayload (t : Nat) (s : State) : List Octet :=
  s.beaconHead 0x01 t ++ leBytes 32 s.fleet.go.toNat ++ leBytes 2 s.pub.xarb.authSeq ++ leBytes 8 s.rad.changeMap ++
  leBytes 1 s.beaconAge ++ [0#8]

/-- Where FSTOP is read in a beacon: 26 octets, 693.3 µs, after its first symbol (R212). -/
def beaconRead : Nat := perNs * (26 * 8000000 / 300)

/-- The beacon whose first symbol is at `start`, in the entry that ends at `stop`: what it carries is settled (R212, R325). -/
def State.sendBeacon (ch entry start stop : Nat) (s : State) : State :=
  let r := s.broadcast 0 ch 1 (s.beaconPayload start) start stop
  match r.1 with
  | 0 =>
    let t := r.2.takeStops true []
    let s := t.2.carried t.1 start
    { s with rad.beaconStart := some entry, rad.changeMap := 0, stop.bitmap := s.fleet.go, stop.ticked := 0#256 }
  | 1 => { r.2 with rad.skipAt := some entry, rad.beaconGap := r.2.ns, stop.ticked := 0#256 }
  | _ => { r.2 with rad.beaconGap := r.2.ns, stop.ticked := 0#256 }

/-- BEACON_ENTRY (R212): the beacon of the next BEACON entry, or the late beacon of a takeover (R347), up to the read of its
bitmap. -/
def execBeaconEntry : State → Host.Outcome State Fault Refusal :=
  done fun s =>
    match s.rad.late with
    | some entry =>
      let start := 1500 * perUs + entry
      let s := { s.reach (start + beaconRead) with rad.late := none }
      let ch := match s.entryAt 0 entry with
        | some p => s.entryChannel 0 p.1 p.2
        | none => s.tickChannel 0 entry
      s.sendBeacon ch entry start (4 * perMs + entry)
    | none =>
      s.serveEntry 0 1 beaconRead fun e start s =>
        if !s.onAirAllowed then { s with rad.beaconGap := s.ns }
        else (s.entryInjection 0 true).sendBeacon (s.entryChannel 0 e start) start start (e.stop start)

/-- A beacon has started by 1.0 ms into its entry (R235). -/
def beaconLimit : Nat := 1000 * perUs

/-- The judgement at 1.0 ms into the BEACON entry that began at `start` (R235). -/
def State.judgeBeacon (start : Nat) (s : State) : State :=
  let failed := s.rad.txFail || !(decide (s.rad.beaconStart = some start) || decide (s.rad.skipAt = some start))
  let s := { s with rad.txFail := false }
  if failed && s.onAirAllowed && s.rad.late.isNone && decide (s.rad.serveFrom ≤ start) then s.degrade 5 0xFF else s

/-- BEACON_START_TIMEOUT (R235, R347): 1.0 ms into a BEACON entry without a beacon started or skipped under R203, or with a
fault in the entry, is a transmit failure. -/
def execBeaconStartTimeout : State → Host.Outcome State Fault Refusal :=
  done fun s =>
    if !s.inService || !s.time.running then s
    else
      match s.nextEntry 0 (entryMark 0 8) beaconLimit (fun e => decide (e.kind = 1)) with
      | some (_, start) =>
        let s := s.reach (start + beaconLimit)
        let s := { s with time.marks := Tab.set 0 s.time.marks (entryMark 0 8) (start + beaconLimit + 1) }
        s.judgeBeacon start
      | none => s

/-- The sessions that a STOP frame lists: go bit 1 at the last beacon, now 0, first those not yet listed in this tick, at most
four, ascending (R214). -/
def State.stopList (s : State) : List Nat :=
  let all := sessionNos.filter (fun n => goBit s.stop.bitmap n && !goBit s.fleet.go n)
  let fresh := all.filter (fun n => !goBit s.stop.ticked n)
  (if fresh = [] then all else fresh).take 4

/-- STOP_ENTRY (R214): FSTOP is sampled 250 µs before the entry, and a STOP frame is sent when it calls for one. -/
def execStopEntry : State → Host.Outcome State Fault Refusal :=
  done fun s =>
    s.serveEntry 0 2 (-((250 * perUs : Nat) : Int)) fun e start s =>
      if !s.onAirAllowed then s
      else
        let s := s.entryInjection 0 true
        let all := decide (s.cellSet ≠ 0) || decide (s.sys.mode = Mode.hold)
        let ls := if all then [] else s.stopList
        if !all && ls.isEmpty then s
        else
          let fresh := (ls.filter (fun n => !goBit s.stop.listed n)).length
          let serial := (s.fleet.serial + fresh) % 256
          let payload := [0x02#8] ++ leBytes 1 (128 * flag all + ls.length) ++ leBytes 1 serial ++
            (ls.map (fun n => BitVec.ofNat 8 n) ++ List.replicate 4 0xFF#8).take 4
          let r := s.broadcast 0 (s.entryChannel 0 e start) 2 payload start (e.stop start)
          if r.1 ≠ 0 then r.2
          else
            let t := r.2.takeStops all ls
            let s := t.2.carried t.1 start
            let wrap := decide ((s.stopList).all (fun n => goBit s.stop.ticked n))
            let seen : BitVec 256 := if wrap then 0#256 else s.stop.ticked
            { s with fleet.serial := serial, rad.a.cntStop := incr s.rad.a.cntStop
                     stop.listed := ls.foldl goSet s.stop.listed, stop.ticked := ls.foldl goSet seen }

/-- The octets of the correction stream that are queued for the air. -/
def State.corrOctets (s : State) : List Octet := (s.meas.airQueue.flatMap (·.octets)).drop s.meas.airOffset

/-- The stream after `n` octets of it have gone: messages wholly sent leave the queue. -/
def dropStream : List RtcmMsg → Nat → List RtcmMsg × Nat
  | [], _ => ([], 0)
  | m :: ms, n => if m.octets.length ≤ n then dropStream ms (n - m.octets.length) else (m :: ms, n)

/-- The stream octets that a CORR entry of `len` units of 100 µs carries (R215). -/
def corrRoom (len : Nat) : Nat := min 2020 (len * 300 / 80 - 35)

/-- CORR_ENTRY (R215): one CORR frame with the next octets of the stream, from 15 ms after the epoch on (R165). -/
def execCorrEntry : State → Host.Outcome State Fault Refusal :=
  done fun s =>
    State.serveEntry 0 3 0 (fun e start s =>
      let s := s.epochPast
      if !s.onAirAllowed ∨ start < s.meas.airFrom then s
      else
        let s := s.entryInjection 0 (decide (s.corrOctets ≠ []))
        let rest := s.corrOctets
        let part := rest.take (corrRoom e.length)
        if part = [] then s
        else
          let payload := [0x03#8] ++ leBytes 2 s.meas.airEpoch ++ leBytes 1 s.meas.airSeq ++
            leBytes 1 (flag (decide (part.length = rest.length)) + 2 * flag (decide (s.meas.airOffset ≠ 0))) ++ part
          let r := s.broadcast 0 (s.entryChannel 0 e start) 3 payload start (e.stop start)
          if r.1 ≠ 0 then r.2
          else
            let q := dropStream r.2.meas.airQueue (r.2.meas.airOffset + part.length)
            { r.2 with meas.airQueue := q.1, meas.airOffset := q.2, meas.airSeq := (r.2.meas.airSeq + 1) % 256 }) s

/-- The order of R225: its rank, then for PROFILE frames the tick that published them. -/
def Unicast.rank (u : Unicast) : Nat × Nat :=
  if u.sent ≠ 0 then (4, 0)
  else
    match u.kind with
    | 0x07 => (0, 0)
    | 0x06 => (1, 0)
    | 0x22 => (2, 0)
    | _ => (3, u.tick)

/-- The octets of the PSDU of a unicast frame (Table 8-8). -/
def Unicast.psdu (u : Unicast) : Nat := (if u.extended then 21 else 15) + u.payload.length + 12

/-- The PSDU of an acknowledgement on radio `i` (Table 8-8). -/
def ackOctets (i : Nat) : Nat := if i = 0 then 7 else 11

/-- A TOWER_DATA that is acknowledged or given up is settled; when all of its serial are, the commit's tick is the first at
least 200 ms later (R234). -/
def State.towerSettled (a : Nat) (s : State) : State :=
  let w := s.rad.tower.waiting.erase a
  { s with rad.tower := { s.rad.tower with
      waiting := w, tick := if s.rad.tower.opened ∧ w = [] ∧ s.rad.tower.tick = none then some (ceilDiv (200 * perMs + s.now) (100 * perMs))
        else s.rad.tower.tick } }

/-- A session is FREE after its CLOSE (Table 8-20): its go bit and queued frames go, and the next tick takes its work and
spans. -/
def State.sessionClosed (n : Nat) (s : State) : State :=
  let r := s.rs n
  if r.state = 0 then s
  else
    let s := s.dropGo n
    let s := s.setRs n {}
    let s := { s with
      fleet.unicast := s.fleet.unicast.filter (fun (u : Unicast) => !decide (u.radio = 0 ∧ u.extended = false ∧ u.dest = n))
      fleet.causes := Tab.set 0 s.fleet.causes n 0
      inp.closed := s.inp.closed ++ [(n, r.identity)]
      inp.opened := s.inp.opened.filter (fun p => decide (p.1 ≠ n))
      inp.reported := s.inp.reported.filter (fun p => decide (p.1 ≠ n)) }
    s.report 0x0613 [(1, n)]

/-- A unicast frame is given up (R225): counted, recorded; a CLOSE frees its session, a TOWER_DATA is missed. -/
def State.giveUp (u : Unicast) (s : State) : State :=
  let s := { s with fleet.unicast := s.fleet.unicast.erase u }
  let s := s.updRadio u.radio (fun (r : Radio) => { r with cntNoAck := incr r.cntNoAck })
  let s := (s.radEvent u.radio 9).radReport u.radio 0x08 [(if u.extended then 8 else 2, u.dest), (1, u.kind)]
  match u.kind with
  | 0x07 => s.sessionClosed u.dest
  | 0x22 => ((s.towerSettled u.dest).radEvent 1 5).report 0x0712 [(2, u.dest), (1, u.serial)]
  | _ => s

/-- Frames whose transmissions are used up or whose second has passed are given up; frames whose session is gone are
dropped (R225). -/
def State.pruneUnicast (i : Nat) (s : State) : State :=
  let gone := s.fleet.unicast.filter (fun u => decide (u.radio = i) && decide (u.sent ≠ 0) &&
    (decide (4 ≤ u.sent) || (decide (u.kind ≠ 0x21) && decide (perSec + u.first ≤ s.now))))
  let s := s.each gone State.giveUp
  { s with fleet.unicast := s.fleet.unicast.filter (fun u => !decide (u.radio = i) || (s.unicastKey u).isSome) }

/-- The queued unicast frame `u` becomes `v`. -/
def State.putUnicast (u v : Unicast) (s : State) : State :=
  { s with fleet.unicast := s.fleet.unicast.map (fun (x : Unicast) => if x = u then v else x) }

/-- The sequence number of a first transmission is taken from its radio (Table 8-1). -/
def State.takeDsn (i : Nat) (u : Unicast) (s : State) : Nat × State :=
  match u.seq with
  | some q => (q, s)
  | none => (s.fleet.dsn.getD i 0, { s with fleet.dsn := updAt s.fleet.dsn i (fun v => (v + 1) % 256) })

/-- A unicast frame with its counter `ctr` and sequence number `q` goes on air; its acknowledgement is awaited. -/
def State.transmitNow (i ch : Nat) (u sent : Unicast) (start finish k ctr q : Nat) (s : State) : State :=
  (((s.putUnicast u { sent with seq := some q }).useAir i ch (finish / perUs) (ceilDiv (s.airNs i u.psdu) 1000)).onAir i
    { radio := i, channel := ch, start := start, dest := some u.dest, extended := u.extended, seq := some q
      counter := ctr, key := k, payload := u.payload } finish).updRadio i (fun (r : Radio) => { r with
        sent := some ⟨q, if u.extended then .ext u.dest else .short u.dest, { sent with seq := some q }⟩
        sentEnd := finish + perNs * (200000 + s.airNs i (ackOctets i)) })

/-- One transmission of a unicast frame at `start` on channel `ch`: skipped under R203 it counts as one without
acknowledgement, held by its counter it waits; otherwise it goes on air and its acknowledgement is awaited. -/
def State.transmit (i ch : Nat) (u : Unicast) (start : Nat) (s : State) : State :=
  let finish := start + perNs * s.airNs i u.psdu
  let a := s.airAllowed i ch u.kind (finish / perUs) (ceilDiv (s.airNs i u.psdu) 1000)
  let sent := { u with sent := u.sent + 1, first := if u.sent = 0 then start else u.first, last := start }
  if !a.1 then a.2.putUnicast u sent
  else
    match a.2.unicastKey u with
    | none => a.2
    | some k =>
      let c := State.takeCounter i k a.2
      match c.1 with
      | none => c.2
      | some ctr =>
        let d := c.2.takeDsn i u
        d.2.transmitNow i ch u sent start finish k ctr d.1

/-- The next frame of the DOWN entry that began at `start` and ends at `stop`, if one fits from `t` on (R207, R225). -/
def State.nextDown (i start stop t : Nat) (s : State) : Option Unicast :=
  let fits := fun (u : Unicast) =>
    decide (t + perNs * (s.airNs i u.psdu + 200000 + s.airNs i (ackOctets i)) ≤ stop) &&
    decide (u.radio = i) && decide (u.kind ≠ 0x21) && (decide (u.sent = 0) || decide (u.last < start)) &&
    (match s.unicastKey u with
     | some k => let v := (s.raiseCeiling k).sendKey k; decide (v.counter < 0xFFFFFFF0 ∧ v.counter < v.ceiling)
     | none => false)
  leastBy (fun (a b : Unicast) => decide (a.rank.1 < b.rank.1 ∨ (a.rank.1 = b.rank.1 ∧ a.rank.2 < b.rank.2))) (s.fleet.unicast.filter fits)

/-- SYNC opens the entry (Table 8-5); radio B is then free from the instant that `sentEnd` holds. -/
def State.sendSync (e : DeckEntry) (ch start : Nat) (s : State) : Bool × State :=
  let r := s.broadcast 1 ch 0x20 (s.beaconHead 0x20 start) start (e.stop start)
  (decide (r.1 = 0), r.2.when (decide (r.1 = 0)) (fun s => s.updRadio 1 (fun (x : Radio) => { x with sentEnd := start + perNs * s.airNs 1 30 })))

/-- The TOWER_COMMIT of the tower group that waits for its tick (R221), where there is one. -/
def State.sendCommit (e : DeckEntry) (ch start t : Nat) (s : State) : State :=
  match s.rad.tower.tick with
  | some tick =>
    let payload := [0x23#8] ++ leBytes 1 s.rad.tower.serial ++ leBytes 2 (tick / 10) ++ leBytes 1 (tick % 10)
    let q := s.broadcast 1 ch 0x23 payload t (e.stop start)
    q.2.when (decide (q.1 = 0)) (fun s => s.updRadio 1 (fun (x : Radio) => { x with sentEnd := t + perNs * s.airNs 1 27 }))
  | none => s

/-- SYNC, and a TOWER_COMMIT where one is due, open a BROADCAST entry of Deck B (Table 8-5); the commit follows SYNC by 100 µs. -/
def State.openBroadcast (e : DeckEntry) (start : Nat) (s : State) : State :=
  let s := s.towerExpire
  let ch := s.entryChannel 1 e start
  let r := s.sendSync e ch start
  r.2.sendCommit e ch start (if r.1 then 100 * perUs + (start + perNs * s.airNs 1 30) else start)

/-- The DOWN entry in progress with the frame that still fits in it at `t` (R225). -/
def State.downNow (i t : Nat) (s : State) : Option ((DeckEntry × Nat) × Unicast) :=
  (s.entryAt i s.now).bind (fun p =>
    if p.1.kind = 4 ∧ p.2 < Tab.get 0 s.time.marks (entryMark i 4) ∧ s.rad.serveFrom ≤ p.2 ∧ s.onAirAllowed = true then
      (s.nextDown i p.2 (p.1.stop p.2) t).map (fun u => (p, u)) else none)

/-- The next frame of the DOWN entry in progress goes out at `t`. -/
def State.downNext (i t : Nat) (p : DeckEntry × Nat) (u : Unicast) (s : State) : State :=
  s.when ((s.radio i).ready s.now) (State.transmit i (s.entryChannel i p.1 p.2) u t)

/-- The first frame of a DOWN entry. -/
def State.downFirst (i : Nat) (e : DeckEntry) (start : Nat) (s : State) : State :=
  let s := s.pruneUnicast i
  let t := if start ≤ (s.radio i).sentEnd then 100 * perUs + (s.radio i).sentEnd else start
  match s.nextDown i start (e.stop start) t with
  | some u => s.when ((s.radio i).ready start) (State.transmit i (s.entryChannel i e start) u t)
  | none => s

/-- A DOWN entry opens: with SYNC under the BROADCAST flag of Deck B, then with its first frame (R225, Table 8-5). -/
def State.downOpen (i : Nat) (e : DeckEntry) (start : Nat) (s : State) : State :=
  if !s.onAirAllowed then s
  else
    ((s.entryInjection i (s.fleet.unicast.any (fun u => decide (u.radio = i)) || (decide (i = 1) && bit e.flags 0))).when
      (decide (i = 1 ∧ bit e.flags 0 = true)) (fun s => s.openBroadcast e start)).downFirst i e start

/-- DOWN_ENTRY (R225): the next frame of the DOWN entry in progress, when one still fits, or the opening of the next DOWN
entry with its first frame. -/
def execDownEntry (radio : Fin 2) : State → Host.Outcome State Fault Refusal :=
  done fun s =>
    let s := s.pruneUnicast radio.val
    let t := max s.now (100 * perUs + (s.radio radio.val).sentEnd)
    match s.downNow radio.val t with
    | some q => (s.reach t).downNext radio.val t q.1 q.2
    | none => s.serveEntry radio.val 4 0 (State.downOpen radio.val)

/-- The radio listens through the entry. -/
def State.listen (i start stop : Nat) (s : State) : State :=
  (s.entryInjection i false).updRadio i (fun (r : Radio) => { r with rx := stop, rxFrom := start })

/-- UP_ASSIGNED_ENTRY (R207): RADIO_A receives the named session's frame; on Deck B the entry is a GUARD. -/
def execUpAssignedEntry : State → Host.Outcome State Fault Refusal :=
  done fun s => s.serveEntry 0 5 0 fun e start s => s.listen 0 start (e.stop start)

/-- UP_CONTENTION_ENTRY (R207): the radio receives throughout the entry. -/
def execUpContentionEntry (radio : Fin 2) : State → Host.Outcome State Fault Refusal :=
  done fun s => s.serveEntry radio.val 6 0 fun e start s => s.listen radio.val start (e.stop start)

/-- The entry uses the radio (R27, Table 8-5). -/
def DeckEntry.uses (i : Nat) (e : DeckEntry) : Bool := decide (e.kind ≠ 0) && !(decide (i = 1) && decide (e.kind = 5))

/-- RADIO_WAKE (R27): 300 µs before the next entry that uses it, the sequencer wakes a radio that sleeps. -/
def execRadioWake (radio : Fin 2) : State → Host.Outcome State Fault Refusal :=
  let i := radio.val
  done fun s =>
    if !s.inService || s.sys.saving || (s.radio i).awake || !s.time.running then s
    else
      match s.nextEntry i (entryMark i 9) (-((300 * perUs : Nat) : Int)) (DeckEntry.uses i) with
      | some (_, start) => (s.reach (start - 300 * perUs)).radioClock i true
      | none => s

/-- RADIO_SLEEP (R27): after an entry, when the gap to the next entry that uses the radio is more than 600 µs, its domain
stops. -/
def execRadioSleep (radio : Fin 2) : State → Host.Outcome State Fault Refusal :=
  let i := radio.val
  done fun s =>
    if !s.inService || !(s.radio i).awake || !s.time.running then s
    else
      let s := match s.entryAt i s.now with
        | some p => if p.1.uses i then s.reach (p.1.stop p.2) else s
        | none => s
      let ends := ((s.radio i).deck.filter (fun p => (deckEntry p.2).uses i)).map (fun p =>
        s.now - (perSec + s.now - (entryPhase p.1 (deckEntry p.2) + (deckEntry p.2).length * 100 * perUs) % perSec) % perSec)
      match s.nextEntry i (entryMark i 9) 0 (DeckEntry.uses i) with
      | some (_, start) => if ends.foldl max 0 + 600 * perUs < start then s.radioClock i false else s
      | none => s.radioClock i false

/-- PLL_UNLOCK (R235). -/
def execPllUnlock (radio : Fin 2) : State → Host.Outcome State Fault Refusal :=
  done fun s => if !s.inService then s else State.pllUnlock radio.val s

/-- PA_FAULT (R235): detector 0 over-current, 1 reflected power, with the power measured. -/
def execPaFault (radio detector : Fin 2) (power : BitVec 16) : State → Host.Outcome State Fault Refusal :=
  done fun s => if !s.inService then s else State.paTrip radio.val detector.val power.toNat s

/-- CEILING_ACK_TIMEOUT (R224): 100 ms after a CEILING frame without acknowledgement, the standby is no longer mirrored and
the lead may use the new ceilings. -/
def execCeilingAckTimeout : State → Host.Outcome State Fault Refusal :=
  done fun s =>
    match s.pair.ceilingDue with
    | [] => s
    | (_, t) :: _ =>
      let s := s.atLeast (100000000 + t)
      let s := s.each (s.pair.ceilingDue.map (·.1)) State.freeCeiling
      ({ s with pair.ceilingDue := [] }).notMirrored 3

end Sys2Proof.Machine
end

