-- ==== Sys2Proof/Machine/Rtcm.lean ====
section
/-! DEFINITION. The RTCM 3 messages of Table 6-6 as octets: framing with CRC-24Q, MSM7 (R160–R162), station, 1230 and ancillary
messages (R159, R163). The bit layouts are those of RTCM 3, which the spec names (PRESUMED, log 60). -/

namespace Sys2Proof.Machine

/-- Fields, each (width, value), as one bit string: its length and its number, most significant bit first. -/
def bitString : List (Nat × Int) → Nat × Nat
  | [] => (0, 0)
  | (n, v) :: fs => let r := bitString fs; (n + r.1, sbits n v * 2 ^ r.1 + r.2)

/-- One bit of the CRC-24Q division. -/
def crc24Bits : Nat → Nat → Nat
  | 0, c => c
  | n + 1, c => crc24Bits n (if Nat.testBit c 23 then (2 * c % 2 ^ 24) ^^^ 0x864CFB else 2 * c % 2 ^ 24)

/-- CRC-24Q: polynomial 0x1864CFB, start value 0. -/
def crc24q (bs : List Octet) : Nat := bs.foldl (fun c b => crc24Bits 8 (c ^^^ (b.toNat * 65536))) 0

/-- An RTCM 3 frame: preamble 0xD3, length, the message padded to whole octets, CRC-24Q (R159). -/
def rtcmFrame (fields : List (Nat × Int)) : List Octet :=
  let b := bitString fields
  let n := ceilDiv b.1 8
  let body := [0xD3#8] ++ beBytes 2 (n % 1024) ++ beBytes n (b.2 * 2 ^ (8 * n - b.1))
  body ++ beBytes 3 (crc24q body)

/-- The MSM7 message number of a system (Table 4-2, Table 6-6). -/
def msmNumber (system : Nat) : Nat :=
  match system with
  | 0 => 1077 | 1 => 1097 | 2 => 1127 | 3 => 1087 | 4 => 1117 | _ => 1107

/-- The systems in the order of their MSM numbers. -/
def msmOrder : List Nat := [0, 3, 1, 5, 4, 2]

/-- The satellite ID of an SV (Table 6-7). -/
def msmSat (system sv : Nat) : Nat :=
  match system with
  | 4 => sv - 192
  | 5 => sv - 119
  | _ => sv

/-- The signal ID of Table 6-8. -/
def msmSignal (code : Nat) (onData : Bool) : Nat :=
  match code with
  | 0 | 13 | 17 | 7 | 11 => 2
  | 1 | 14 => if onData then 30 else 31
  | 2 | 15 => if onData then 15 else 16
  | 3 | 5 | 9 | 16 | 18 => if onData then 22 else 23
  | 4 => if onData then 4 else 2
  | 6 => if onData then 14 else 15
  | 8 => if onData then 30 else 31
  | 10 => 25
  | _ => 8

/-- The number of a signal for tables keyed by satellite and signal code. -/
def sigKey (g : SigId) : Nat := ((g.system * 256 + g.sv) * 32 + g.signal) * 16 + (g.k + 8).toNat % 16

/-- The lock time indicator of a lock time in ms (DF407). -/
def lockIndicator (t : Nat) : Nat :=
  if t < 64 then t else min 704 (t / 2 ^ (Nat.log2 t - 5) + 32 * (Nat.log2 t - 5))

/-- 0.1 mm of range in one millisecond of travel at 299,792,458 m/s. -/
def rangeMs : Nat := 2997924580

/-- A pseudorange in 2^-29 ms. -/
def prFine (pr : Nat) : Int := nearest ((pr : Int) * 2 ^ 29) rangeMs

/-- A carrier phase of 2^-16 cycle in 2^-31 ms of range at the signal's carrier. -/
def phFine (g : SigId) (phase : Int) : Int := nearest (phase * 2 ^ 16) (carrierOf g).toNat

/-- The phase range rate in 0.1 mm/s: −Doppler × wavelength. -/
def rangeRate (o : Obs) : Int := nearest (-(o.doppler * 299792458)) (50 * (carrierOf o.sig).toNat)

/-- The whole cycles that bring a signal's phase range to its pseudorange: those in use while the fine phase range fits its
field, otherwise the nearest (log 60). -/
def wholeCycles (rough : Int) (o : Obs) (n : Int) : Int :=
  let f := phFine o.sig (o.phase + n * 65536) - rough * 2 ^ 21
  if -(2 ^ 23 : Int) < f ∧ f < 2 ^ 23 then n
  else nearest ((4 * prFine o.pr - phFine o.sig o.phase) * (carrierOf o.sig)) (2 ^ 32)

/-- A fine value within its field, or the field's mark for an invalid one. -/
def fineOr (n : Nat) (v : Int) : Int := if -(2 ^ (n - 1) : Int) < v ∧ v < 2 ^ (n - 1) then v else -(2 ^ (n - 1) : Int)

/-- One satellite's observations with the rough range in 2^-10 ms and rough rate in m/s, of its lowest signal code. -/
structure MsmSat where
  id : Nat
  ext : Nat
  rough : Int
  rate : Int
  cells : List (Nat × Obs × Int)

/-- The cells of a satellite, ascending by signal ID, with the phase ambiguities in use. -/
def msmSatOf (ambig : Tab Int) (id : Nat) (os : List Obs) : MsmSat :=
  let low := leastBy (fun (a b : Obs) => decide (a.sig.signal < b.sig.signal)) os
  let rough := low.elim 0 (fun o => nearest ((o.pr : Int) * 1024) rangeMs)
  { id := id, ext := low.elim 0 (fun o => if o.sig.system = 3 then (o.sig.k + 7).toNat else 0), rough := rough
    rate := low.elim 0 (fun o => nearest (rangeRate o) 10000)
    cells := sortBy (fun (a b : Nat × Obs × Int) => decide (a.1 < b.1)) (os.map (fun (o : Obs) =>
      (msmSignal o.sig.signal o.onData, o, wholeCycles rough o (Tab.get 0 ambig (sigKey o.sig))))) }

/-- The signal IDs of satellites, ascending. -/
def msmSignals (sats : List MsmSat) : List Nat :=
  sortBy (fun a b => decide (a < b)) ((sats.flatMap (fun s => s.cells.map (·.1))).eraseDups)

/-- Satellites split into messages of at most 64 cells, ascending satellite ID, as many as fit (R161). -/
def msmSplit : List MsmSat → List MsmSat → List (List MsmSat)
  | [], cur => if cur.isEmpty then [] else [cur]
  | s :: rest, cur =>
    if (cur.length + 1) * (msmSignals (cur ++ [s])).length ≤ 64 ∨ cur = [] then msmSplit rest (cur ++ [s])
    else cur :: msmSplit rest [s]

/-- A mask of `n` bits with the bits of the IDs, ID 1 first. -/
def idMask (n : Nat) (ids : List Nat) : Int := ((ids.foldl (fun m i => m ||| 2 ^ (n - i)) 0 : Nat) : Int)

/-- What every MSM of an epoch shares: station ID, IODS, external clock, device time in ms, leap seconds. -/
structure MsmHead where
  station : Nat
  iods : Nat
  extClock : Nat
  ms : Nat
  leap : Nat

/-- The epoch time field of a system (Table 6-7). -/
def msmTime (h : MsmHead) (system : Nat) : List (Nat × Int) :=
  let week := 604800000
  match system with
  | 2 => [(30, ((h.ms + week - 14000) % week : Nat))]
  | 3 =>
    let t := h.ms + week + 10800000 - 1000 * h.leap
    [(3, (t / 86400000 % 7 : Nat)), (27, (t % 86400000 : Nat))]
  | _ => [(30, (h.ms % week : Nat))]

/-- One MSM7 (R160, R161); `more` is DF393. -/
def msm7 (h : MsmHead) (system : Nat) (sats : List MsmSat) (more : Bool) : List Octet :=
  let sigs := msmSignals sats
  let cells := sats.flatMap (fun s => s.cells.map (fun c => (s, c)))
  let cellMask := sats.flatMap (fun s => sigs.map (fun g => ((1, (flag (s.cells.any (fun c => c.1 == g)) : Nat)) : Nat × Int)))
  rtcmFrame ([(12, (msmNumber system : Int)), (12, (h.station : Int))] ++ msmTime h system ++
    [(1, (flag more : Int)), (3, (h.iods : Int)), (7, 0), (2, 1), (2, (h.extClock : Int)), (1, 0), (3, 0),
     (64, idMask 64 (sats.map (·.id))), (32, idMask 32 sigs)] ++ cellMask ++
    sats.map (fun s => (8, if 0 ≤ s.rough ∧ s.rough < 255 * 1024 then s.rough / 1024 else 255)) ++
    sats.map (fun s => (4, (s.ext : Int))) ++
    sats.map (fun s => (10, s.rough % 1024)) ++
    sats.map (fun s => (14, fineOr 14 s.rate)) ++
    cells.map (fun c => (20, fineOr 20 (prFine c.2.2.1.pr - c.1.rough * 2 ^ 19))) ++
    cells.map (fun c => (24, fineOr 24 (phFine c.2.2.1.sig (c.2.2.1.phase + c.2.2.2 * 65536) - c.1.rough * 2 ^ 21))) ++
    cells.map (fun c => (10, (lockIndicator c.2.2.1.lockTime : Int))) ++
    cells.map (fun c => (1, (flag c.2.2.1.half : Int))) ++
    cells.map (fun c => (10, nearest ((c.2.2.1.cn0 * 16 : Nat) : Int) 10)) ++
    cells.map (fun c => (15, fineOr 15 (rangeRate c.2.2.1 - c.1.rate * 10000))))

/-- The satellites of one system among published observations, ascending satellite ID. -/
def msmSats (ambig : Tab Int) (system : Nat) (os : List Obs) : List MsmSat :=
  let mine := os.filter (fun o => decide (o.sig.system = system))
  let ids := sortBy (fun a b => decide (a < b)) ((mine.map (fun o => msmSat system o.sig.sv)).eraseDups)
  ids.map (fun i => msmSatOf ambig i (mine.filter (fun o => decide (msmSat system o.sig.sv = i))))

/-- The groups of an epoch in message order: a system with the satellites of one message. -/
def msmGroups (ambig : Tab Int) (os : List Obs) : List (Nat × List MsmSat) :=
  msmOrder.flatMap (fun y => (msmSplit (msmSats ambig y os) []).map (fun g => (y, g)))

/-- The MSMs of an epoch with their numbers, DF393 set on all but the last. -/
def msmMessages (h : MsmHead) (ambig : Tab Int) (os : List Obs) : List RtcmMsg :=
  let gs := msmGroups ambig os
  (enum gs).map (fun p => ⟨msmNumber p.2.1, msm7 h p.2.1 p.2.2 (decide (p.1 + 1 < gs.length))⟩)

/-- The ambiguities after an epoch: those that its cells used. -/
def ambigAfter (ambig : Tab Int) (os : List Obs) : Tab Int :=
  ((msmGroups ambig os).flatMap (fun g => g.2.flatMap (·.cells))).foldl
    (fun t c => Tab.set 0 t (sigKey c.2.1.sig) c.2.2) ambig

/-- Station message 1005, or 1006 with antenna height 0 (R159). -/
def rtcmStation (full : Bool) (station systems : Nat) (p : Int × Int × Int) : List Octet :=
  rtcmFrame ([(12, if full then 1006 else 1005), (12, (station : Int)), (6, 0), (1, (flag (bit systems 0) : Int)),
    (1, (flag (bit systems 3) : Int)), (1, (flag (bit systems 1) : Int)), (1, 0), (38, p.1), (1, 1), (1, 0), (38, p.2.1),
    (2, 0), (38, p.2.2)] ++ (if full then [((16, 0) : Nat × Int)] else []))

/-- Message 1230: indicator 1, L1 and L2 C/A bits set, biases 0 (R163). -/
def rtcm1230 (station : Nat) : List Octet :=
  rtcmFrame [(12, 1230), (12, (station : Int)), (1, 1), (3, 0), (4, 10), (16, 0), (16, 0)]

/-- A counted string of octets. -/
def rtcmText (bs : List Octet) : List (Nat × Int) :=
  ((8, (bs.length : Int)) : Nat × Int) :: bs.map (fun b => ((8, (b.toNat : Int)) : Nat × Int))

/-- Message 1033: empty antenna descriptor, setup ID 0, receiver type, firmware version, serial number (R163). -/
def rtcm1033 (station : Nat) (receiver version serial : List Octet) : List Octet :=
  rtcmFrame ([(12, 1033), (12, (station : Int))] ++ rtcmText [] ++ [((8, 0) : Nat × Int)] ++ rtcmText [] ++ rtcmText receiver ++
    rtcmText version ++ rtcmText serial)

/-- Message 1013: UTC date and time, leap seconds, the messages announced with their intervals in 0.1 s (R163). -/
def rtcm1013 (station second leap : Nat) (messages : List (Nat × Nat)) : List Octet :=
  let utc := second - leap
  rtcmFrame ([(12, 1013), (12, (station : Int)), (16, (44244 + utc / 86400 : Nat)), (17, (utc % 86400 : Nat)),
    (5, (messages.length : Int)), (8, (leap : Int))] ++
    messages.flatMap (fun m => [((12, (m.1 : Int)) : Nat × Int), (1, 1), (16, (m.2 : Int))]))

end Sys2Proof.Machine
end

