-- ==== Sys2Proof/Machine/Solve.lean ====
section
/-! DEFINITION. The solutions of an epoch (R149, R154, R155): what enters the time-only and the single-point solution, elevation, residual
rounds, the geometry-free combinations. The spec names no estimator, so the two solutions themselves are uninterpreted (log 180). -/

namespace Sys2Proof.Machine

/-! ### Positions -/

/-- The difference of two positions. -/
def posDiff (a b : Int × Int × Int) : Int × Int × Int := (a.1 - b.1, a.2.1 - b.2.1, a.2.2 - b.2.2)

/-- The scalar product. -/
def posDot (a b : Int × Int × Int) : Int := a.1 * b.1 + a.2.1 * b.2.1 + a.2.2 * b.2.2

/-- The direction of up at a position: the normal of the WGS 84 ellipsoid (log 62). -/
def upAt (p : Int × Int × Int) : Int × Int × Int := (p.1, p.2.1, p.2.2 * 1006739497 / 1000000000)

/-- The directions of east and north at a position. -/
def eastAt (p : Int × Int × Int) : Int × Int × Int := (-p.2.1, p.1, 0)
def northAt (p : Int × Int × Int) : Int × Int × Int :=
  let u := upAt p
  (-(u.2.2 * u.1), -(u.2.2 * u.2.1), u.1 * u.1 + u.2.1 * u.2.1)

/-- The part of a difference along a direction, rounded. -/
def along (dir d : Int × Int × Int) : Int := nearest (posDot d dir) (max 1 (isqrt (posDot dir dir).toNat))

/-- The squared horizontal part and the vertical part of a difference at a position, in 0.1 mm. -/
def horVert (base d : Int × Int × Int) : Nat × Int :=
  let u := upAt base
  let n := isqrt (u.1 * u.1 + u.2.1 * u.2.1 + u.2.2 * u.2.2).toNat
  let v := (d.1 * u.1 + d.2.1 * u.2.1 + d.2.2 * u.2.2) / (max 1 n : Nat)
  ((d.1 * d.1 + d.2.1 * d.2.1 + d.2.2 * d.2.2 - v * v).toNat, v)

/-- The mean of `n` positions from their sums, rounded to 0.1 mm. -/
def posMean (sum : Int × Int × Int) (n : Nat) : Int × Int × Int := (nearest sum.1 n, nearest sum.2.1 n, nearest sum.2.2 n)

/-! ### Satellites -/

/-- The broadcast ephemeris and clock of an observation's satellite. -/
def ephemerisOf (sats : List SatState) (o : Obs) : Option SatState :=
  sats.find? (fun v => decide (v.system = o.sig.system ∧ v.sv = o.sig.sv))

/-- A satellite's position and clock as the solutions take them. -/
def SatState.terms (v : SatState) : Int × Int × Int × Int := (v.x, v.y, v.z, v.clock)

/-- A satellite stands at 15° elevation or more (Table 6-4): sin² 15° = (2 − √3) / 4. -/
def SatState.elevated (base : Int × Int × Int) (v : SatState) : Bool :=
  let d := posDiff (v.x, v.y, v.z) base
  let u := upAt base
  let x := posDot u d
  let n := posDot u u * posDot d d
  decide (0 < x) && (decide (2 * n ≤ 4 * x * x) || decide ((2 * n - 4 * x * x) * (2 * n - 4 * x * x) ≤ 3 * n * n))

/-- A signal takes part in the solutions (R155): a pseudorange, no MULTIPATH. -/
def Obs.takesPart (o : Obs) : Bool := decide (o.pr ≠ 0) && !o.multipath

/-- The time-only solution at a position over the signals given: the receiver clock offset in 0.1 ns and each channel's residual in 0.1 mm.
There is none before the base position is settled (DESIGN CHOICE, log 181). -/
def timeOnlyOf (base : Option (Int × Int × Int)) (sats : List SatState) (os : List Obs) : Option (Int × List (Nat × Nat)) :=
  match base with
  | none => none
  | some p =>
    let l := os.filterMap (fun o => (ephemerisOf sats o).map (fun v => (o.channel, v.terms, o.pr)))
    (Config.timeOnly p (l.map (·.2))).map (fun r => (r.1, (l.map (·.1)).zip r.2))

/-- The signals removed one at a time, largest residual first, the solution recomputed each time, until all residuals are within the limit
(Table 6-5, cause 1). -/
def residualRounds (base : Option (Int × Int × Int)) (sats : List SatState) (limit : Nat) : Nat → List Obs → List Nat
  | 0, _ => []
  | n + 1, os =>
    match (timeOnlyOf base sats os).bind (fun r =>
        leastBy (fun (a b : Nat × Nat) => decide (b.2 < a.2) || (decide (a.2 = b.2) && decide (a.1 < b.1))) r.2) with
    | some w => if limit < w.2 then w.1 :: residualRounds base sats limit n (os.filter (fun o => decide (o.channel ≠ w.1))) else []
    | none => []

/-- The satellites of observations, each once. -/
def satellites (os : List Obs) : List (Nat × Nat) := (os.map (fun o => (o.sig.system, o.sig.sv))).eraseDups

/-- Two observations are of one satellite in two bands. -/
def Obs.twoBands (a b : Obs) : Bool :=
  decide (a.sig.system = b.sig.system ∧ a.sig.sv = b.sig.sv) && decide ((sigRow a.sig.signal).band ≠ (sigRow b.sig.signal).band)

/-- The bands in which a satellite is tracked. -/
def bandsOf (os : List Obs) (o : Obs) : List Nat :=
  ((os.filter (fun p => decide (p.sig.system = o.sig.system ∧ p.sig.sv = o.sig.sv))).map (fun p => (sigRow p.sig.signal).band)).eraseDups

/-- The ionosphere-free combination of two pseudoranges in 0.1 mm (R149). -/
def ionoFree (a b : Obs) : Int :=
  let f := carrierOf a.sig * carrierOf a.sig
  let g := carrierOf b.sig * carrierOf b.sig
  if f < g then nearest (g * b.pr - f * a.pr) (g - f).toNat else nearest (f * a.pr - g * b.pr) (f - g).toNat

/-- A satellite's range in the single-point solution (R149): its first signal, combined with its first in another band where there is one
(DESIGN CHOICE, log 182). -/
def satRange (os : List Obs) (y : Nat × Nat) : Option Int :=
  match os.filter (fun o => decide (o.sig.system = y.1 ∧ o.sig.sv = y.2)) with
  | [] => none
  | a :: l => some (match l.find? (fun b => a.twoBands b) with
      | some b => ionoFree a b
      | none => a.pr)

/-- The single-point solution over the signals given, where it uses at least 6 satellites with a PDOP of 4.0 or less (R149). -/
def pointFix (sats : List SatState) (os : List Obs) : Option (Int × Int × Int) :=
  let l := (satellites os).filterMap (fun y =>
    match sats.find? (fun v => decide (v.system = y.1 ∧ v.sv = y.2)), satRange os y with
    | some v, some r => some (v.terms, r)
    | _, _ => none)
  match Config.pointFix l with
  | some f => if 6 ≤ l.length ∧ f.2 ≤ 40 then some f.1 else none
  | none => none

/-- The carrier phase range of an observation in 0.1 mm. -/
def Obs.phaseRange (o : Obs) : Int := nearest (o.phase * 5995849160) (65536 * (carrierOf o.sig).toNat)

/-- The observation of the same signal in a record of an earlier second. -/
def earlier (prev : List Obs) (o : Obs) : Option Obs := prev.find? (fun p => sameSignal p.sig o.sig && decide (p.pr ≠ 0))

/-- A pair of signals of one satellite fails the band check (Table 6-5, cause 2): the changes of its geometry-free code and carrier
combinations since the last whole second, each first signal minus second, differ by more than `gf` in 0.1 mm (DESIGN CHOICE for the sign,
log 183). -/
def bandPairFails (gf : Nat) (prev : List Obs) (a b : Obs) : Bool :=
  a.twoBands b && decide (a.pr ≠ 0 ∧ b.pr ≠ 0) &&
  match earlier prev a, earlier prev b with
  | some p, some q =>
    decide (gf < (((a.pr : Int) - b.pr - (p.pr - q.pr)) - (a.phaseRange - b.phaseRange - (p.phaseRange - q.phaseRange))).natAbs)
  | _, _ => false

/-- The satellite of an observation fails the band check: some pair of its signals does (DESIGN CHOICE with three bands, log 183). -/
def bandFails (gf : Nat) (prev os : List Obs) (o : Obs) : Bool :=
  let l := os.filter (fun p => decide (p.sig.system = o.sig.system ∧ p.sig.sv = o.sig.sv))
  l.any (fun a => l.any (fun b => bandPairFails gf prev a b))

/-- The observation is the one of its satellite with the lowest C/N0, among those with a pseudorange. -/
def weakest (os : List Obs) (o : Obs) : Bool :=
  let l := os.filter (fun p => decide (p.sig.system = o.sig.system ∧ p.sig.sv = o.sig.sv ∧ p.pr ≠ 0))
  (leastBy (fun (a b : Obs) => decide (a.cn0 < b.cn0)) l).any (fun p => p.channel == o.channel)

/-! ### The baseline of an audit (R169, R219) -/

/-- One observation of an audit snapshot (Table 8-18). -/
structure RobotObs where
  system : Nat
  sv : Nat
  signal : Nat
  pr : Nat
  phase : Int
deriving DecidableEq, Repr

/-- The observations of a fragment, 13 octets each. -/
def robotObs : Nat → List Octet → List RobotObs
  | 0, _ => []
  | n + 1, b =>
    if b.length < 13 then []
    else ⟨getLe b 0 1 % 8, getLe b 1 1, getLe b 0 1 / 8, getLe b 2 5, getLeS b 7 5⟩ :: robotObs n (b.drop 13)

/-- Every fragment of the snapshot's count has arrived (R219). -/
def AuditSnap.complete (v : AuditSnap) : Bool := (List.range v.count).all (fun i => (Tab.get none v.parts i).isSome)

/-- The octets of fragment `i` after its header. -/
def AuditSnap.part (v : AuditSnap) (i : Nat) : List Octet := (Tab.get none v.parts i).getD []

/-- The observations of a snapshot, fragment 0's after its 16 octets of fix. -/
def AuditSnap.observations (v : AuditSnap) : List RobotObs :=
  (List.range v.count).flatMap (fun i => robotObs 12 ((v.part i).drop (if i = 0 then 16 else 0)))

/-- The claimed fix: ECEF in mm (Table 8-17). -/
def AuditSnap.fix (v : AuditSnap) : Int × Int × Int :=
  let b := v.part 0
  (getLeS b 0 5, getLeS b 5 5, getLeS b 10 5)

/-- The ring's signals that may enter the baseline: none with NOTCHED, NOTCH_CHANGE or MULTIPATH (R169). -/
def baselineObs (os : List Obs) : List Obs := os.filter (fun o => !o.notched && !o.notchChange && !o.multipath && decide (o.pr ≠ 0))

/-- Satellites observed in two or more bands by both (Table 6-10). -/
def commonSats (robot : List RobotObs) (os : List Obs) : Nat :=
  ((satellites os).filter (fun y =>
    decide (2 ≤ (((os.filter (fun o => decide (o.sig.system = y.1 ∧ o.sig.sv = y.2) &&
      robot.any (fun r => decide (r.system = y.1 ∧ r.sv = y.2 ∧ r.signal = o.sig.signal)))).map
        (fun o => (sigRow o.sig.signal).band)).eraseDups).length))).length

/-- What the evaluation of a snapshot yields (R169): the single-epoch fix of the baseline over the signals of both is uninterpreted (log 184);
the errors are the claimed fix minus the unit's position of the robot, east, north and up at the base position, in mm. -/
def baselineOf (base : Int × Int × Int) (sats : List SatState) (v : AuditSnap) (os : List Obs) : Baseline :=
  let l := baselineObs os
  let robot := v.observations
  let pairs := l.filterMap (fun o => (robot.find? (fun r => decide (r.system = o.sig.system ∧ r.sv = o.sig.sv ∧ r.signal = o.sig.signal))).bind
    (fun r => (ephemerisOf sats o).map (fun e => (e.terms, (o.pr, o.phase), (r.pr, r.phase)))))
  let b := Config.baselineFix base pairs
  let d := posDiff v.fix b.2
  { common := commonSats robot l, ratio := b.1, east := along (eastAt base) d, north := along (northAt base) d, up := along (upAt base) d }

end Sys2Proof.Machine
end

