-- ==== Sys2Proof/Machine/Measure.lean ====
section
/-! DEFINITION. The epoch latch and its observations (R144–R147), signal integrity (R154–R156), the base position and the
survey (R148–R153), corrections and their routes (R157–R165), the base ring (R168). -/

namespace Sys2Proof.Machine

/-- A MEAS event latched. -/
def State.measEvent (n : Nat) (s : State) : State := { s with mreg.events := s.mreg.events ||| BitVec.ofNat 32 (2 ^ n) }

/-- A signal has an engaged notch of its band within its main lobe (R95). -/
def State.notched (g : SigId) (s : State) : Bool :=
  let r := sigRow g.signal
  let half := if r.stepDiv = 4 then 2 * r.chips else r.chips
  (s.band r.band).notches.any (fun v => decide (v.state = 2) && decide ((bandLo r.band + 2 * v.offset - carrierOf g).natAbs ≤ half))

/-- The cause of Table 6-5 that needs no solution: 3 interference, 4 coast, 5 no transmit time, 6 unidentified. -/
def State.plainCause (ch : Channel) (known : Bool) (s : State) : Nat :=
  let b := (sigRow ch.sig.signal).band
  if (s.band b).unmitigated || (s.band b).wideband || (decide (b = 2) && s.lake.lowJammed) then 3
  else if ch.state = ChanState.pullIn ∨ ch.state = ChanState.coast then 4
  else if !known then 5
  else if ch.sig.system = 3 ∧ ch.sig.sv = 0 then 6
  else 0

/-- The transmit time of a channel counts once it has synchronised (R122, R146). -/
def Channel.timed (ch : Channel) : Bool :=
  decide (ch.state = ChanState.synced) || (decide (ch.state = ChanState.coast) && decide (ch.prior = ChanState.synced))

/-- The published lock time of a channel (R162): its own, or the time since a notch change of its band or an exclusion for
cause 4 where that is shorter. -/
def State.publishedLock (c : Nat) (ch : Channel) (cause : Nat) (s : State) : Nat :=
  let since := fun (t : Nat) => (s.ns - t) / 1000000
  let a := match (s.meas.notchAt[(sigRow ch.sig.signal).band]?).getD none with
    | some t => min ch.lockTime (since t)
    | none => ch.lockTime
  if cause = 4 then 0
  else match Tab.get 0 s.meas.coastAt c with
    | 0 => a
    | t + 1 => min a (since t)

/-- The transmit time in 2^-16 ns from the start of the span that the code phase lies in, in ms (R146). -/
def Channel.transmit (ms : Nat) (ch : Channel) : Nat :=
  ms * perMs + (nearest ((ch.codePhase : Int) * 10 ^ 9) (32768000 * (sigRow ch.sig.signal).chips)).toNat

/-- The pseudorange in 0.1 mm of a transmit time at the epoch time `t` (Table 6-1), without the unit's own GLONASS bias (R163). -/
def State.pseudorange (t tau : Nat) (g : SigId) (s : State) : Nat :=
  let bias := if g.system = 3 then Config.glonassBias s.keys.fuse.calibration g.signal g.k else 0
  (((((t - tau) * 299792458 / 6553600000 : Nat) : Int) - bias).toNat) % 2 ^ 40

/-- The observation of channel `c` at the epoch time `t` (Table 6-1): its NCOs at this instant, corrected by the fixed pipeline delay of its
band (R145); its cause is that of `plainCause`. -/
def State.observe (t : Nat) (sky : EpochIn) (c : Nat) (ch : Channel) (s : State) : Obs :=
  let b := (sigRow ch.sig.signal).band
  let ch := ch.advanceTo (s.ns + Config.pipelineDelay b)
  let tow := if ch.timed then (sky.tow.find? (fun p => decide (p.1 = c))).map (·.2) else none
  let cause := s.plainCause ch tow.isSome
  { sig := ch.sig, channel := c, codePhase := ch.codePhase % (2 ^ 32 * ch.compChips)
    pr := tow.elim 0 (fun ms => s.pseudorange t (ch.transmit ms) ch.sig)
    phase := -(ch.reported / 65536), doppler := ch.doppler, cn0 := min ch.cn0 1023
    lockTime := sat 32 (s.publishedLock c ch cause), half := ch.half, slip := ch.slip, multipath := ch.multipath
    notched := s.notched ch.sig, notchChange := (s.band b).changed, cfgChanged := ch.cfgChanged, bwLimited := s.bwLimited c
    onData := ch.onData, cause := cause, published := false }

/-- The order of the observation window: system, SV, signal code (Table 6-14). -/
def obsBefore (a b : Obs) : Bool :=
  decide (a.sig.system < b.sig.system) || (decide (a.sig.system = b.sig.system) &&
    (decide (a.sig.sv < b.sig.sv) || (decide (a.sig.sv = b.sig.sv) && decide (a.sig.signal < b.sig.signal))))

/-- The settled base position. -/
def State.basePos (s : State) : Int × Int × Int := (s.meas.survey.x, s.meas.survey.y, s.meas.survey.z)

/-- The base position where one is settled. -/
def State.settledPos (s : State) : Option (Int × Int × Int) := if s.meas.survey.base = 3 then some s.basePos else none

/-- The satellite of an observation fails the band check (Table 6-5, cause 2). -/
def State.bandFails (os : List Obs) (o : Obs) (s : State) : Bool := Sys2Proof.Machine.bandFails (1000 * s.meas.gf) s.meas.prevSec os o

/-- The causes of Table 6-5 for the observations of an epoch, the first that applies (R155). -/
def State.exclude (sky : EpochIn) (os : List Obs) (s : State) : List Obs :=
  let gone := residualRounds s.settledPos sky.sats (10000 * s.meas.resid) os.length (os.filter Obs.takesPart)
  os.map (fun (o : Obs) =>
    if gone.contains o.channel then { o with cause := 1 }
    else if weakest os o && s.bandFails os o then { o with cause := 2 }
    else o)

/-- SIG_EXCLUDED for each signal whose cause has changed, and the causes as they now stand (R176). -/
def State.noteCauses (os : List Obs) (s : State) : State :=
  let s := s.each os fun o s =>
    let old := Tab.get 0 s.meas.causes (sigKey o.sig)
    if old = o.cause then s
    else
      let s := if old = 0 then s.measEvent 4 else s
      s.report 0x0407 [(1, o.sig.system), (1, o.sig.sv), (1, o.sig.signal), (1, o.cause)]
  { s with meas.causes := os.foldl (fun t (o : Obs) => Tab.set 0 t (sigKey o.sig) o.cause) []
           meas.coastAt := os.foldl (fun t (o : Obs) => if o.cause = 4 then Tab.set 0 t o.channel (s.ns + 1) else t) s.meas.coastAt
           meas.excluded := min 255 (os.filter (fun o => decide (o.cause ≠ 0))).length }

/-- The signals not excluded that take part in a solution (R149, R155). -/
def solutionObs (os : List Obs) : List Obs := os.filter (fun o => decide (o.cause = 0) && o.takesPart)

/-- C/N0 uniformity (Table 6-4): fewer than 8 such signals judge nothing. -/
def State.unifLow (sky : EpochIn) (os : List Obs) (s : State) : Bool :=
  let high := fun (o : Obs) => match s.settledPos, ephemerisOf sky.sats o with
    | some p, some v => v.elevated p
    | _, _ => false
  let l := (os.filter (fun o => [0, 4, 7, 13].contains o.sig.signal && high o)).map (·.cn0)
  let n := l.length
  let sum := l.foldl (· + ·) 0
  decide (8 ≤ n) && decide (n * l.foldl (fun a x => a + x * x) 0 - sum * sum < s.meas.uniform * s.meas.uniform * (n * n))

/-- Clock consistency (Table 6-4, log 61): the value predicted is the previous one moved on by the previous second's drift
and by the change of the servo's rate, in 0.1 ns. -/
def State.clockFails (clock : Option Int) (s : State) : Bool :=
  match clock, s.meas.prevClock, s.meas.prevDrift with
  | some c, some p, some d =>
    decide (10 * s.meas.clk < (c - (p + d + (s.time.rho - s.meas.prevRho) * 10 ^ 10 / 2 ^ 52)).natAbs)
  | _, _, _ => false

/-- The state of the clock check moves on by one whole second. -/
def State.noteClock (clock : Option Int) (s : State) : State :=
  let drift := match clock, s.meas.prevClock with
    | some c, some p => some (c - p)
    | _, _ => none
  { s with meas.prevDrift := drift, meas.prevClock := clock, meas.prevRho := s.time.rho }

/-- The failing station checks of a whole second (R154, Table 6-4), as MEAS_INTEG_STAT numbers them. -/
def State.stationChecks (sky : EpochIn) (os : List Obs) (s : State) : State :=
  let run := if s.unifLow sky os then s.meas.unifRun + 1 else 0
  let multi := satellites (os.filter (fun o => decide (2 ≤ (bandsOf os o).length)))
  let bad := satellites (os.filter (fun o => s.bandFails os o))
  let keep := (satellites (os.filter (fun o => decide (o.cause = 0)))).length
  let clock := (timeOnlyOf s.settledPos sky.sats (solutionObs os)).map (·.1)
  let fails := flag (decide (10 ≤ run)) + 2 * flag (s.clockFails clock) + 4 * flag (decide (multi.length < 3 * bad.length)) +
    8 * flag (decide (keep < 6))
  let s := s.noteClock clock
  { s with meas.unifRun := run, meas.sats := keep, meas.failing := fails }

/-- The integrity state of a whole second (R156). -/
def State.integSecond (s : State) : State :=
  let s := if s.meas.failing ≠ 0 then
      let s := { s with meas.passes := 0 }
      if s.meas.integ then
        (({ s with meas.integ := false, meas.withheldSince := s.ns }).measEvent 3).report 0x0405 [(1, s.meas.failing)]
      else s
    else
      let p := min 5 (s.meas.passes + 1)
      let s := { s with meas.passes := p }
      if p = 5 ∧ s.meas.integ = false then
        ({ s with meas.integ := true }).report 0x0406 [(4, ((s.ns - s.meas.withheldSince) / 1000000000 : Nat))]
      else s
  if s.meas.integ then s else { s with mreg.withheldS := incr s.mreg.withheldS }

/-! ### The base position -/

/-- The base position of the image. -/
def State.imagePos (s : State) : Int × Int × Int := (s.station.map (fun t => (t.ecefX, t.ecefY, t.ecefZ))).getD (0, 0, 0)

/-- The base mode of the image. -/
def State.baseMode (s : State) : Nat := (s.station.map (·.baseMode)).getD 0

/-- A survey begins (R150, Table 6-3): a check survey against a reference, or a full one; recorded with its form, 1 full or
2 check, and the source of its reference as MEAS_STATUS numbers sources. -/
def State.beginSurvey (check : Bool) (source : Nat) (ref : Int × Int × Int) (s : State) : State :=
  let v : SurveyState := { base := if check then 2 else 1, source := 0, form := source, refX := ref.1, refY := ref.2.1, refZ := ref.2.2 }
  ({ s with meas.survey := v, meas.fixes := [] }).report 0x0401 [(1, if check then 2 else 1), (1, source)]

/-- The survey that SURVEY runs after START (Table 6-3). -/
def State.surveyAtStart (s : State) : State :=
  match s.kept, s.station with
  | some k, some t =>
    if k.site = s.siteId ∧ k.station = t.stationId then s.beginSurvey true 2 (k.x, k.y, k.z) else s.beginSurvey false 0 (0, 0, 0)
  | _, _ => s.beginSurvey false 0 (0, 0, 0)

/-- The survey after a position-consistency alarm (Table 6-3). -/
def State.surveyAfterAlarm (s : State) : State :=
  if s.baseMode = 0 then s.beginSurvey true 1 s.imagePos else s.beginSurvey true s.meas.survey.source s.basePos

/-- The position settles (R150, R151, Table 2-2): recorded; SURVEY ends in HOLD and its stop cause clears (R37). -/
def State.settle (source : Nat) (p : Int × Int × Int) (seH seV : Nat) (keep : Bool) (s : State) : State :=
  let s := { s with meas.survey := { s.meas.survey with base := 3, source := source, x := p.1, y := p.2.1, z := p.2.2 }
                    kept := if keep then some ⟨p.1, p.2.1, p.2.2, s.siteId, (s.station.map (fun (t : StationRec) => t.stationId)).getD 0⟩ else s.kept }
  let s := (s.measEvent 0).report 0x0402 [(4, p.1), (4, p.2.1), (4, p.2.2), (4, seH), (4, seV)]
  (s.toMode .hold 5).clearCell causeSurvey false

/-- The sums of the squared horizontal and vertical deviations of the 60 s block means from their mean. -/
def blockSpread (base : Int × Int × Int) (bs : List (Int × Int × Int)) : Nat × Nat :=
  let sum := bs.foldl (fun a b => (a.1 + b.1, a.2.1 + b.2.1, a.2.2 + b.2.2)) ((0, 0, 0) : Int × Int × Int)
  let m := posMean sum bs.length
  bs.foldl (fun a b => let h := horVert base (posDiff b m); (a.1 + h.1, a.2 + (h.2 * h.2).toNat)) (0, 0)

/-- A check survey of 600 valid seconds is compared with its reference (R150, Table 6-3). -/
def State.judgeCheck (mean : Int × Int × Int) (s : State) : State :=
  let v := s.meas.survey
  let ref := (v.refX, v.refY, v.refZ)
  let h := horVert ref (posDiff mean ref)
  if h.1 ≤ 10000 * 10000 ∧ h.2.natAbs ≤ 20000 then s.settle (if v.form = 0 then 2 else v.form) ref 0 0 false
  else
    let s := (s.measEvent 1).report 0x0403 [(4, (isqrt h.1 / 100 : Nat)), (4, (h.2.natAbs / 100 : Nat))]
    if s.baseMode = 0 then s.beginSurvey true 1 s.imagePos else s.beginSurvey false 0 (0, 0, 0)

/-- A valid second of the survey (R149, R150). -/
def State.surveySecond (p : Int × Int × Int) (s : State) : State :=
  let v := s.meas.survey
  let n := v.validS + 1
  let sum := (v.sumX + p.1, v.sumY + p.2.1, v.sumZ + p.2.2)
  let blk := (v.blockX + p.1, v.blockY + p.2.1, v.blockZ + p.2.2)
  let full := decide (n % 60 = 0)
  let blocks := if full then posMean blk 60 :: v.blocks else v.blocks
  let mean := posMean sum n
  let spread := blockSpread mean blocks
  let k := blocks.length * (blocks.length - 1)
  let v := { v with
    validS := n, sumX := sum.1, sumY := sum.2.1, sumZ := sum.2.2
    blockX := if full then 0 else blk.1, blockY := if full then 0 else blk.2.1, blockZ := if full then 0 else blk.2.2
    blocks := blocks, sigmaH := if full ∧ k ≠ 0 then min 0xFF (isqrt (spread.1 / k) / 100) else v.sigmaH }
  let s := { s with meas.survey := v }
  let duration := (s.station.map (·.surveyDuration)).getD 600
  if v.base = 2 then (if n = 600 then s.judgeCheck mean else s)
  else if duration ≤ n ∧ (n - duration) % 60 = 0 ∧ k ≠ 0 ∧ spread.1 ≤ 3000 * 3000 * k ∧ spread.2 ≤ 6000 * 6000 * k then
    s.settle 2 mean (isqrt (spread.1 / k) / 100) (isqrt (spread.2 / k) / 100) true
  else s

/-- The comparison of the last 60 s with the base position, and the alarm (R152, R37, Table 2-8); a degraded lead stays in HOLD (R23). -/
def State.consistency (s : State) : State :=
  let l := s.meas.fixes.filterMap id
  if l.length < 45 then { s with meas.posDev := false }
  else
    let sum := l.foldl (fun a b => (a.1 + b.1, a.2.1 + b.2.1, a.2.2 + b.2.2)) ((0, 0, 0) : Int × Int × Int)
    let h := horVert s.basePos (posDiff (posMean sum l.length) s.basePos)
    let dh := isqrt h.1 / 100
    let dv := h.2.natAbs / 100
    let bad := decide (100000 * 100000 < h.1) || decide (200000 < h.2.natAbs)
    let s := { s with meas.devH := sat 16 dh, meas.devV := sat 16 dv, meas.posDev := bad }
    if bad then
      let s := (s.measEvent 2).report 0x0404 [(4, dh), (4, dv)]
      if s.sys.degraded then s else ((s.setCell causeSurvey 0).toMode .survey 8).surveyAfterAlarm
    else s

/-- The single-point solution of a whole second (R149), in the survey or the comparison. -/
def State.fixSecond (p : Option (Int × Int × Int)) (s : State) : State :=
  if !s.pair.claim then s
  else
    match s.sys.mode with
    | .survey => match p with
      | some x => if s.sys.surveyStopped then s else s.surveySecond x
      | none => s
    | .lead | .hold =>
      if s.meas.survey.base ≠ 3 then s else ({ s with meas.fixes := (p :: s.meas.fixes).take 60 }).consistency
    | .dormant | .start | .shadow => s

/-! ### Corrections -/

/-- The alignment entry of a signal. -/
def State.alignOf (g : SigId) (s : State) : Option AlignSig := s.meas.align.find? (fun a => sameSignal a.sig g)

/-- A pseudorange moved by an offset in 0.1 mm; 0 stays the mark of none. -/
def shiftRange (pr : Nat) (d : Int) : Nat := if pr = 0 then 0 else ((pr : Int) + d).toNat % 2 ^ 40

/-- An observation as the stream carries it under the alignment offsets (R174): of a lead the frozen ones, of a standby those
that it holds. A signal that is not aligned has a lock time from 0 at the takeover. -/
def State.aligned (o : Obs) (s : State) : Obs :=
  if !s.meas.frozen ∧ s.sys.mode ≠ Mode.shadow then o
  else
    let ms := fun (t : Nat) => (s.ns - t) / 1000000
    let anew := if s.meas.frozen then min o.lockTime (ms s.meas.frozenAt) else 0
    match s.alignOf o.sig with
    | some a =>
      let o := { o with pr := shiftRange o.pr (a.offset + s.meas.clkOffset), phase := o.phase + a.phase }
      if a.aligned then
        { o with lockTime := if ms a.derivedAt ≤ o.lockTime then sat 32 (a.lockLead + ms s.meas.alignAt) else o.lockTime
                 half := a.halfLead && (o.half || !a.halfOwn) }
      else { o with lockTime := anew }
    | none => { o with pr := shiftRange o.pr s.meas.clkOffset, lockTime := anew }

/-- The constellations of the STATION record (Table 3-8). -/
def State.systems (s : State) : Nat := (s.station.map (·.constellations)).getD 0

/-- The messages that come with the station (Table 6-6): at a whole second, 1005 or 1006, 1230 and the ancillary message. -/
def State.stationMessages (second rate : Nat) (s : State) : List RtcmMsg :=
  match s.station with
  | none => []
  | some t =>
    let due := decide (second % max 1 s.meas.staPeriod = 0)
    let glo := bit t.constellations 3 && decide (s.meas.glo1230 = 1)
    let sta := if s.meas.staMsg = 1 then 1006 else 1005
    let version := (s.activeHead.drop 52).take 32
    let msms := (msmOrder.filter (fun y => bit t.constellations y)).map (fun y => (msmNumber y, 10 / max 1 rate))
    (if due then [⟨sta, rtcmStation (decide (s.meas.staMsg = 1)) t.stationId t.constellations s.basePos⟩] else []) ++
    (if due && glo && s.meas.integ then [⟨1230, rtcm1230 t.stationId⟩] else []) ++
    (if second % 30 = 2 then
      if t.ancillary = 1033 then [⟨1033, rtcm1033 t.stationId (ascii "RANLEK CMT960") (version.takeWhile (fun b => b != 0#8)) (beBytes 8 s.keys.fuse.serial)⟩]
      else [⟨1013, rtcm1013 t.stationId second s.time.leap (msms ++ [(sta, 10 * s.meas.staPeriod)] ++
        (if glo then [(1230, 10 * s.meas.staPeriod)] else []) ++ [(1013, 300)])⟩]
    else [])

/-- The observations that a valid correction epoch publishes: not excluded, of an enabled constellation (R155, R159). -/
def State.publishable (os : List Obs) (s : State) : List Obs :=
  os.filter (fun o => decide (o.cause = 0) && bit s.systems o.sig.system)

/-- The IODS of the stream (Table 6-7): bits 2:0 of the first octet of SHA-384 over the STATION section. -/
def State.iods (s : State) : Nat :=
  match s.cfg.image.bind (fun i => i.shared.find? (fun p => decide (p.1 = 0x02))) with
  | some p => p.2.toNat / 2 ^ 376 % 8
  | none => 0

/-- What the MSMs of the epoch at `t` share. -/
def State.msmHead (t : Nat) (s : State) : MsmHead :=
  { station := (s.station.map (·.stationId)).getD 0, iods := s.iods, extClock := min 1 ((s.unitRec.map (·.reference)).getD 0)
    ms := t / perMs, leap := s.time.leap }

/-- The messages of a correction epoch of a route (R157, R159). -/
def State.epochMessages (t rate : Nat) (os : List Obs) (s : State) : List RtcmMsg :=
  (if s.meas.integ then msmMessages (s.msmHead t) s.meas.ambig (s.publishable os) else []) ++
  (if t % perSec = 0 then s.stationMessages (t / perSec) rate else [])

/-- Messages packed whole into datagrams of at most 1,472 octets (R164). -/
def packDatagrams : List (List Octet) → List Octet → List (List Octet)
  | [], cur => if cur.isEmpty then [] else [cur]
  | m :: ms, cur => if cur.length + m.length ≤ 1472 ∨ cur = [] then packDatagrams ms (cur ++ m) else cur :: packDatagrams ms m

/-- The capacity in stream octets of the CORR entries that begin from 15 ms after `t` and before the next air epoch (R165,
R215). -/
def State.airCapacity (t period : Nat) (s : State) : Nat :=
  (s.rad.a.deck.filter (fun p => decide ((deckEntry p.2).kind = 3))).foldl (fun n p =>
    let e := deckEntry p.2
    if nextPhase ((entryPhase p.1 e : Nat) : Int) (15 * perMs + t) < t + period then n + corrRoom e.length else n) 0

/-- The messages in order that fit whole (R165). -/
def fitMessages : Nat → List RtcmMsg → List RtcmMsg
  | _, [] => []
  | room, m :: ms => if m.octets.length ≤ room then m :: fitMessages (room - m.octets.length) ms else []

/-- Messages dropped on air are counted, and recorded once for each epoch (R165). -/
def State.airDrop (n : Nat) (s : State) : State :=
  if n = 0 then s
  else
    let s := { s with mreg.airDropped := s.mreg.airDropped + BitVec.ofNat 32 n }
    if s.meas.airDropped then s
    else (({ s with meas.airDropped := true }).measEvent 6).report 0x0409 [(2, s.meas.airEpoch), (4, n)]

/-- The air route of a correction epoch (R165, R215): what is left of the epoch before is dropped. A standby keeps the
stream for a takeover (R350). -/
def State.airRoute (t period : Nat) (ms : List RtcmMsg) (s : State) : State :=
  let lead := decide (s.sys.mode ≠ Mode.shadow)
  let s := s.when lead (State.airDrop s.meas.airQueue.length)
  let fit := fitMessages (s.airCapacity t period) ms
  let s := { s with meas.airQueue := fit, meas.airOffset := 0, meas.airSeq := 0, meas.airDropped := false
                    meas.airEpoch := t / perMs % 604800000 % 65536, meas.airFrom := 15 * perMs + t }
  s.when lead (State.airDrop (ms.length - fit.length))

/-- The rates of a UART in baud (MEAS_UART_CTL). -/
def uartBaud (n : Nat) : Nat := match n with | 0 => 115200 | 1 => 230400 | 2 => 460800 | _ => 921600

/-- More for an epoch to send. -/
def State.updJob (f : EpochJob → EpochJob) (s : State) : State := { s with meas.job := s.meas.job.map f }

/-- A UART's output of a correction epoch: dropped whole while the one before has not finished (R165). -/
def State.uartRoute (u : Nat) (ms : List RtcmMsg) (s : State) : State :=
  let rate := if u = 0 then s.meas.uart0 else s.meas.uart1
  let octets := ms.flatMap (·.octets)
  if !bit ((s.station.map (·.uartRouting)).getD 0) u || octets.isEmpty || decide (15000000 + s.ns < (s.meas.uartBusy[u]?).getD 0) then s
  else ({ s with meas.uartBusy := updAt s.meas.uartBusy u (fun _ => s.ns + 15000000 + octets.length * 10000000000 / uartBaud rate) }).updJob
    (fun j => { j with uart := j.uart ++ [(u, octets)] })

/-- The UDP route: each MAC whose NET record sets bit 2 (R164). -/
def State.udpRoute (ms : List RtcmMsg) (s : State) : State :=
  s.each (s.recs (·.nets)) fun n s =>
    if bit n.flags 2 then
      s.updJob (fun j => { j with udp := j.udp ++ (packDatagrams (ms.map (·.octets)) []).map (fun d => ⟨n.mac, n.rtcmPort, n.broadcast, d⟩) })
    else s

/-- The epoch at `t` is a correction epoch of some route (Table 6-9). -/
def State.correctionEpoch (t : Nat) (s : State) : Bool :=
  decide (t % (perSec / max 1 ((s.station.map (·.airRate)).getD 1)) = 0) || decide (t % (perSec / max 1 ((s.station.map (·.ethRate)).getD 1)) = 0)

/-- A correction epoch (R157–R165): its validity and age, and its messages on the routes whose epoch it is. -/
def State.corrections (t : Nat) (os : List Obs) (s : State) : State :=
  let per := fun (rate : Nat) => perSec / max 1 rate
  let air := (s.station.map (·.airRate)).getD 1
  let eth := (s.station.map (·.ethRate)).getD 1
  let isAir := decide (t % per air = 0)
  let isEth := decide (t % per eth = 0)
  let stream := os.map (fun o => s.aligned o)
  let valid := s.meas.integ && !(s.publishable stream).isEmpty
  let s := if valid && (isAir || isEth) then
      let s := s.promoteValid t
      { s with mreg.valid := incr s.mreg.valid, meas.lastValidDue := some (12 * perMs + t, t) } else s
  let lead := decide (s.sys.mode ≠ Mode.shadow)
  let s := if isAir then { s with meas.uart0 := s.meas.uart0Next, meas.uart1 := s.meas.uart1Next } else s
  let s := if isAir then
      let ms := s.epochMessages t air stream
      let s := s.airRoute t (per air) ms
      if lead then (s.uartRoute 0 ms).uartRoute 1 ms else s
    else s
  let s := if isEth && lead then s.udpRoute (s.epochMessages t eth stream) else s
  if (isAir || isEth) && s.meas.integ then { s with meas.ambig := ambigAfter s.meas.ambig (s.publishable stream) } else s

/-- The 32 octets of an observation in the window (Table 6-14). -/
def Obs.octets (o : Obs) : List Octet :=
  leBytes 4 (o.sig.system + 256 * o.sig.sv + 65536 * o.sig.signal +
    2 ^ 24 * (if o.sig.signal = 11 ∨ o.sig.signal = 12 then (o.sig.k + 7).toNat else 0)) ++
  leBytes 4 (o.pr % 2 ^ 32) ++
  leBytes 4 (o.pr / 2 ^ 32 % 256 + 2 ^ 8 * flag o.half + 2 ^ 9 * flag o.slip + 2 ^ 10 * flag o.multipath + 2 ^ 11 * flag o.notched +
    2 ^ 12 * flag o.notchChange + 2 ^ 13 * flag o.cfgChanged + 2 ^ 14 * flag o.bwLimited + 2 ^ 15 * flag (decide (o.cause ≠ 0)) +
    2 ^ 16 * flag o.published) ++
  leBytes 8 (sbits 64 o.phase) ++ leBytes 4 (sbits 32 o.doppler) ++ leBytes 4 (o.cn0 + 4096 * o.cause) ++ leBytes 4 o.lockTime

/-- The latch takes the SLIP and CFG_CHANGED flags and the bands' notch changes with it (R128, R139, R95); a notch's movement counts from
its centre here. -/
def State.latchFlags (s : State) : State :=
  { s with
    trk.channels := Tab.mapVals Channel.reset (fun _ (ch : Channel) => { ch with slip := false, cfgChanged := false }) s.trk.channels
    lake.bands := s.lake.bands.map (fun (b : Band) =>
      { b with changed := false, notches := b.notches.map (fun (v : Notch) => { v with epochAt := v.offset }) }) }

/-- The half cycles reported since the last latch enter the carrier phase from this one on (R127). -/
def State.latchHalves (s : State) : State :=
  { s with trk.channels := Tab.mapVals Channel.reset (fun _ (ch : Channel) => { ch with halfDone := ch.halfDue }) s.trk.channels }

/-- GLONASS channels take the slot numbers that navigation data give them (R84, Table 4-2; log 174). -/
def State.takeSlots (sky : EpochIn) (s : State) : State :=
  s.each sky.slots fun p s =>
    let ch := s.chan p.1
    if ch.state ≠ ChanState.free ∧ ch.sig.system = 3 ∧ ch.sig.sv = 0 then
      let g := { ch.sig with sv := p.2 }
      { s.setChan p.1 { ch with sig := g } with
        meas.causes := Tab.set 0 s.meas.causes (sigKey g) (Tab.get 0 s.meas.causes (sigKey ch.sig)) }
    else s

/-- The survey state as the EPOCH frame carries it (Table 12-4, R153); the order of its fields is DESIGN CHOICE, log 186. -/
def SurveyState.octets (v : SurveyState) : List Octet :=
  leBytes 1 v.base ++ leBytes 1 v.source ++ leBytes 1 v.form ++ leBytes 1 v.sigmaH ++ leBytes 4 v.validS ++
  ([v.x, v.y, v.z, v.refX, v.refY, v.refZ, v.sumX, v.sumY, v.sumZ, v.blockX, v.blockY, v.blockZ] ++
    v.blocks.flatMap (fun b => [b.1, b.2.1, b.2.2])).flatMap (fun x => leBytes 8 (sbits 64 x))

/-- The observations of an epoch: latched, checked, marked as published at a valid correction epoch. -/
def State.formEpoch (t : Nat) (sky : EpochIn) (s : State) : State × List Obs :=
  let s := { s with meas.notchAt := (enum s.meas.notchAt).map (fun (p : Nat × Option Nat) => if (s.band p.1).changed then some s.ns else p.2) }
  let os := sortBy obsBefore ((s.trk.channels.filter (fun (p : Nat × Channel) => decide (p.2.state ≠ ChanState.free))).map (fun (p : Nat × Channel) => s.observe t sky p.1 p.2))
  let os := s.exclude sky os
  (s.noteCauses os, os)

/-- EPOCH_LATCH (R145, Table 6-2): the epoch and what its stages bring about, taken together. -/
def execEpochLatch (sky : EpochIn) : State → Host.Outcome State Fault Refusal :=
  done fun s =>
    if !s.inService || s.sys.saving || !s.time.running || !s.clk.gnss then s
    else
      let rate := max 1 ((s.station.map (·.epochRate)).getD 1)
      let s := (s.mark markEpoch (perSec / rate)).epochPast
      let s := (s.takeSlots sky).latchHalves
      let t := Tab.get 0 s.time.marks markEpoch - 1
      let second := decide (t % perSec = 0)
      let f := s.formEpoch t sky
      let s := if second then (State.stationChecks sky f.2 f.1).integSecond else f.1
      let mode := s.sys.mode
      let computes := decide (mode = Mode.lead) || decide (mode = Mode.hold) || decide (mode = Mode.shadow)
      let pub := computes && s.meas.integ && s.correctionEpoch t
      let os := f.2.map (fun (o : Obs) => { o with published := pub && decide (o.cause = 0) && bit s.systems o.sig.system })
      let s := { s with meas.job := some { since := s.ns, frame := [], udp := [], uart := [] } }
      let s := s.when computes (State.corrections t os)
      let own := os
      let os := if mode = Mode.shadow then os else os.map (fun o => s.aligned o)
      let s := { s with
        meas.epochT := t, mreg.epochs := incr s.mreg.epochs
        meas.last := os.map (fun (o : Obs) => { o with published := o.published && decide (mode ≠ Mode.shadow) })
        meas.publishing := computes && decide (mode ≠ Mode.shadow)
        meas.prevSec := if second then own else s.meas.prevSec
        meas.ring := if second then ((⟨t / perSec, s.meas.integ, os⟩ : RingEntry) :: s.meas.ring).take 120 else s.meas.ring }
      let s := s.when (s.isLead || (s.paired && decide (mode = Mode.shadow))) (State.updJob (fun j => { j with
        frame := leBytes 4 (t / perSec) ++ leBytes 2 os.length ++ os.flatMap Obs.octets ++ s.meas.survey.octets }))
      let s := s.latchFlags
      if second then s.fixSecond (pointFix sky.sats (solutionObs own)) else s

end Sys2Proof.Machine
end

