-- ==== Sys2Proof/Machine/Align.lean ====
section
/-! DEFINITION. The audit of the robots' positions (R169, R170, R219), the standby's observation alignment (R171–R174), and the
reference clock monitor (R180). -/

namespace Sys2Proof.Machine

/-- Audit hold is entered with a cause, 0 FAIL or 1 OVERDUE (R170). -/
def State.auditHold (n cause : Nat) (s : State) : State :=
  let a := (s.rs n).audit
  let s := s.updRs n (fun (r : RadioSess) => { r with audit := { a with hold := true, cause := cause } })
  (s.measEvent 8).report 0x040B [(1, n), (1, cause)]

/-- A PASS (R170). -/
def State.auditPass (n : Nat) (s : State) : State :=
  let a := (s.rs n).audit
  let s := s.updRs n (fun (r : RadioSess) => { r with audit := { a with hold := false, cause := 0, fails := 0, result := 1, conclusive := some (secOf s.now) } })
  let s := { s with mreg.auditPass := incr s.mreg.auditPass }
  if a.hold then s.report 0x040C [(1, n)] else s

/-- A FAIL (R170): at the second in a row, hold with cause FAIL. -/
def State.auditFail (n : Nat) (b : Baseline) (s : State) : State :=
  let a := (s.rs n).audit
  let fails := min 2 (a.fails + 1)
  let s := s.updRs n (fun (r : RadioSess) => { r with audit := { a with fails := fails, result := 2, conclusive := some (secOf s.now) } })
  let s := ({ s with mreg.auditFail := incr s.mreg.auditFail }).measEvent 7
  let s := s.report 0x040A [(1, n), (4, ssat 32 b.east), (4, ssat 32 b.north), (4, ssat 32 b.up)]
  if fails = 2 ∧ (a.hold = false ∨ a.cause = 1) then s.auditHold n 0 else s

/-- A result that is not conclusive (R170): 3 INCONCLUSIVE, 4 NO_BASE, 5 STALE. -/
def State.auditOther (n result : Nat) (s : State) : State :=
  let s := s.updRs n (fun (r : RadioSess) => { r with audit := { r.audit with result := result } })
  { s with mreg.auditOther := incr s.mreg.auditOther }

/-- The class of a session: the one that the arbiter holds once it has taken the session in (R292). -/
def State.sessClass (n : Nat) (s : State) : Nat := if (s.xs n).seated then (s.xs n).cls else (s.rs n).cls

/-- The result of Table 6-10 for a snapshot of session `n` whose epoch's ring entry is `e`. -/
def State.judgeAudit (n : Nat) (sats : List SatState) (v : AuditSnap) (e : Option RingEntry) (s : State) : State :=
  match e with
  | none => s.auditOther n 5
  | some e =>
    let b := baselineOf s.basePos sats v e.obs
    if !e.valid || decide ((satellites (e.obs.filter (·.published))).length < 6) then s.auditOther n 4
    else if b.common < 6 ∨ b.ratio < 30 then s.auditOther n 3
    else
      let c := s.classRec (s.sessClass n)
      let h := c.elim 0 (·.auditH)
      let v := c.elim 0 (·.auditV)
      if (b.east * b.east + b.north * b.north).toNat ≤ h * h ∧ b.up.natAbs ≤ v then s.auditPass n else s.auditFail n b

/-- The last whole second whose low 16 bits are those of a snapshot's epoch. -/
def fullSecond (sec epoch : Nat) : Nat := sec - (sec + 65536 - epoch % 65536) % 65536

/-- AUDIT_EVALUATE (R169, R170): a complete snapshot of the session is evaluated against the base ring; one for an epoch already
evaluated is ignored. `sats` are the satellites at its epoch, as firmware has them from the navigation data (log 185). -/
def execAuditEvaluate (session : Fin 256) (sats : List SatState) : State → Host.Outcome State Fault Refusal :=
  let n := session.val
  done fun s =>
    let r := s.rs n
    match r.snap with
    | none => s
    | some v =>
      if !s.isLead ∨ r.state = 0 ∨ v.complete = false then s
      else
        let k := fullSecond (secOf s.now) v.epoch
        let e := s.meas.ring.find? (fun (x : RingEntry) => decide (x.second = k))
        let seen := r.audit.seen
        let s := s.setRs n { r with snap := none, audit := { r.audit with seen := (k :: seen.filter (fun j => decide (j ≠ k))).take 120 } }
        if seen.contains k then s else s.judgeAudit n sats v e

/-- AUDIT_OVERDUE (R170): 3 × P without a conclusive result. -/
def execAuditOverdue (session : Fin 256) : State → Host.Outcome State Fault Refusal :=
  let n := session.val
  done fun s =>
    let r := s.rs n
    let p := (s.classRec (s.sessClass n)).elim 0 (·.auditPeriod)
    if !s.isLead ∨ r.state = 0 ∨ r.audit.hold = true ∨ p = 0 then s
    else (s.reach (perSec * ((r.audit.conclusive.getD 0) + 3 * p))).auditHold n 1

/-- AUDIT_SNAPSHOT_DISCARD (R219): an incomplete snapshot goes 10 s after it began. -/
def execAuditSnapshotDiscard (session : Fin 256) : State → Host.Outcome State Fault Refusal :=
  let n := session.val
  done fun s =>
    match (s.rs n).snap with
    | some v =>
      if v.complete = false then
        (s.reach (10 * perSec + v.began)).updRs n (fun (r : RadioSess) => { r with snap := none })
      else s
    | none => s

/-! ### Observation alignment -/

/-- A fraction of a cycle brought within half a cycle of another, in 2^-16 cycle. -/
def nearFraction (base f : Int) : Int := base + ((f - base + 32768) % 65536 - 32768)

/-- The greatest difference among fractions taken near the newest. -/
def cycleSpread (l : List Int) : Nat :=
  match l with
  | [] => 0
  | b :: _ =>
    let m := l.map (nearFraction b)
    (m.foldl max b - m.foldl min b).toNat

/-- The sum of squared deviations of a list from its mean, times the length. -/
def scatter (l : List Int) : Nat :=
  let n : Int := l.length
  let sum := l.foldl (· + ·) 0
  (n * l.foldl (fun a x => a + x * x) 0 - sum * sum).toNat

/-- The standard error of the mean of a list. -/
def standardError (l : List Int) : Nat := let n := l.length; isqrt (scatter l / (n * n * (n - 1)))

/-- The standard error of the mean of a list is at most `limit`. -/
def errorWithin (limit : Nat) (l : List Int) : Bool :=
  let n := l.length
  decide (scatter l ≤ limit * limit * (n * n * (n - 1)))

/-- The mean of a list. -/
def meanOf (l : List Int) : Int := nearest (l.foldl (· + ·) 0) l.length

/-- One second's phase difference in the estimate of a signal (R171, R172, R174): `lead` and `own` are its observations. -/
def AlignSig.phaseSecond (lead own : Obs) (a : AlignSig) : AlignSig :=
  let d := lead.phase - own.phase
  let f := d % 65536
  let cleared := a.halfOwn && !own.half
  let prev := meanOf (a.fractions.map (nearFraction (a.fractions.head?.getD 0)))
  let moved := (nearFraction prev f - prev).natAbs
  let old := if cleared && decide (29492 ≤ moved) then a.fractions.map (· + 32768) else a.fractions
  let fresh := lead.slip || own.slip
  let jump := fresh && decide (3277 < (nearFraction prev f - prev).natAbs) && !a.fractions.isEmpty
  let fr := if jump then [f] else (f :: old).take 10
  let m := meanOf (fr.map (nearFraction f))
  { a with fractions := fr, cycles := (d - m) / 65536, phase := (d - f) + m, halfOwn := own.half }

/-- A signal's estimate after a second at the FRC instant `t` with the clock offset `clk` in 0.1 mm (R171, R172); the lead's lock time and
half-cycle indicator are mirrored every second (R174). -/
def AlignSig.second (t : Nat) (clk : Int) (lead own : Obs) (a : AlignSig) : AlignSig :=
  let flip := decide (a.count ≠ 0) && (decide (a.notchedLead ≠ lead.notched) || decide (a.notchedOwn ≠ own.notched))
  let a := if flip then { a with codes := [] } else a
  let a := { a with notchedLead := lead.notched, notchedOwn := own.notched, published := lead.published, count := a.count + 1
                    halfLead := lead.half, lockLead := lead.lockTime }
  if lead.notchChange || own.notchChange then a
  else
    let a : AlignSig := { a.phaseSecond lead own with derivedAt := t }
    let codes := if lead.pr = 0 ∨ own.pr = 0 then a.codes else (((lead.pr : Int) - own.pr - clk) :: a.codes).take 300
    let ok := decide (30 ≤ codes.length) && errorWithin 500 codes && decide (10 ≤ a.fractions.length) && decide (cycleSpread a.fractions ≤ 1310)
    { a with codes := codes, offset := meanOf codes, aligned := ok }

/-- The alignment of a second from the lead's record and the own one (R171–R173); offsets and the clock offset's standard error are in 0.1 mm. -/
def State.alignSecond (lead own : List Obs) (s : State) : State :=
  let pairs := lead.filterMap (fun o => (own.find? (fun p => sameSignal p.sig o.sig)).map (fun p => (o, p)))
  let diffs := (pairs.filter (fun p => decide (p.1.pr ≠ 0 ∧ p.2.pr ≠ 0) && !p.1.notchChange && !p.2.notchChange)).map
    (fun p => (p.1.pr : Int) - p.2.pr)
  let clk := if diffs.isEmpty then s.meas.clkOffset else meanOf diffs
  let run := if diffs.isEmpty then s.meas.clkRun else (clk :: s.meas.clkRun).take 60
  let sigs := pairs.map (fun p => (((s.alignOf p.1.sig).getD { sig := p.1.sig, halfOwn := p.2.half }).second s.ns clk p.1 p.2 : AlignSig))
  let lost := (s.meas.align.filter (fun a => a.aligned && !(sigs.any (fun b => b.aligned && sameSignal b.sig a.sig)))).length
  let required := sigs.filter (fun (a : AlignSig) => a.published)
  let ok := decide (30 ≤ run.length) && errorWithin 1499 run && required.all (fun (a : AlignSig) => a.aligned)
  let was := decide (s.meas.alignState = 2)
  let n := (sigs.filter (fun (a : AlignSig) => a.aligned)).length
  let s := { s with meas.align := sigs, meas.clkRun := run, meas.clkOffset := meanOf run, meas.clkError := standardError run, meas.required := required.length
                    meas.alignAt := s.ns, meas.alignState := if ok then 2 else 1
                    mreg.alignResets := s.mreg.alignResets + BitVec.ofNat 32 lost }
  if ok && !was then s.report 0x040D [(4, ((s.ns - s.meas.shadowSince) / 1000000000 : Nat)), (2, n)]
  else if was && !ok then (s.measEvent 9).report 0x040F [(2, (required.filter (fun (a : AlignSig) => !a.aligned)).length)]
  else s

/-- EPOCH_FRAME (R153, R171): a whole-second record of the lead, taken with the own record of that second. -/
def execEpochFrame (frame : EpochFrame) : State → Host.Outcome State Fault Refusal :=
  done (State.viaFrame 4 id fun s =>
    if s.sys.mode ≠ Mode.shadow then s
    else
      let v := frame.survey
      let s := { s with meas.survey := { v with source := if v.base = 3 then 3 else v.source } }
      match s.meas.ring.find? (fun (x : RingEntry) => decide (x.second = frame.second)) with
      | some e => s.alignSecond frame.observations e.obs
      | none => s)

/-- The offsets are frozen at a takeover and applied to the ring (R168, R174). -/
def State.freezeAlign (s : State) : State :=
  let n := (s.meas.align.filter (fun (a : AlignSig) => a.aligned)).length
  let s := { s with meas.frozen := true, meas.frozenAt := s.ns }
  let s := { s with meas.ring := s.meas.ring.map (fun (e : RingEntry) => { e with obs := e.obs.map (fun o => s.aligned o) }) }
  if s.meas.alignState = 2 then s
  else (({ s with meas.contNotAssured := true }).measEvent 10).report 0x040E [(2, n), (2, s.meas.required)]

/-- The monitor of the reference clock trips (R180): the system PLL unlocks; recorded with the reference and the deviation in ppm; the unit is
degraded. -/
def State.refFault (deviation : Int) (s : State) : State :=
  let s := { s with pair.refSeen := true }
  let s := s.reportNow 0x0509 [(1, ((s.unitRec.map (·.reference)).getD 0 : Nat)), sItem deviation]
  s.breakHealth.degrade 3 0xFF

/-- REF_FAULT (R180). -/
def execRefFault (deviation : Int) : State → Host.Outcome State Fault Refusal := done fun s => if s.powered then s.refFault deviation else s

end Sys2Proof.Machine
end

