-- ==== Sys2Proof/Machine/Image.lean ====
section
/-! DEFINITION. The configuration image: its layout (R59–R66), the fields of its records (R67–R74), the conditions across
records (R75), validation in the order of Table 3-27 (R76), and writing and committing a slot (R77, R78). -/

namespace Sys2Proof.Machine

/-- One entry of the section directory (Table 3-2). -/
structure Section where
  kind : Nat
  cls : Nat
  count : Nat
  off : Nat
  len : Nat
  crc : Nat
deriving DecidableEq, Repr

/-- One record: its type, the image offset of its frame, its body. -/
structure RawRec where
  kind : Nat
  off : Nat
  body : List Octet
deriving DecidableEq, Repr

/-- The class of a section: 0 unit-local, 1 shared (Table 3-3). -/
def sectionClass (k : Nat) : Nat := if [0x03, 0x09, 0x0B, 0x0C].contains k then 0 else 1

/-- The sections that an image must contain (Table 3-3). -/
def requiredSections : List Nat := [0x01, 0x02, 0x03, 0x04, 0x05, 0x06, 0x07, 0x0C]

/-- A record type: its section, least and most records, body octets and octets of its key (Table 3-6). -/
structure RecType where
  kind : Nat
  least : Nat
  most : Nat
  body : Nat
  key : Nat
deriving DecidableEq, Repr

/-- Table 3-6 with the keys of Tables 3-7 to 3-25. -/
def recTypes : List RecType :=
  [⟨0x0101, 1, 1, 40, 0⟩, ⟨0x0201, 1, 1, 48, 0⟩, ⟨0x0301, 1, 1, 24, 0⟩, ⟨0x0401, 1, 8192, 20, 2⟩,
   ⟨0x0402, 2, 4096, 8, 2⟩, ⟨0x0501, 0, 4096, 16, 8⟩, ⟨0x0502, 4, 4, 24, 1⟩, ⟨0x0601, 1, 28, 12, 1⟩,
   ⟨0x0602, 0, 256, 24, 2⟩, ⟨0x0603, 0, 1, 12, 0⟩, ⟨0x0701, 2, 2, 20, 1⟩, ⟨0x0702, 1, 1280, 12, 3⟩,
   ⟨0x0703, 0, 3840, 20, 2⟩, ⟨0x0801, 0, 6, 16, 1⟩, ⟨0x0901, 1, 24, 16, 1⟩, ⟨0x0A01, 1, 64, 8, 1⟩,
   ⟨0x0B01, 1, 24, 8, 1⟩, ⟨0x0C01, 1, 2, 28, 1⟩, ⟨0x0C02, 1, 16, 12, 1⟩]

/-- The key of a record as a number that rises with it (R63). A key of several fields counts its leading field first. -/
def RawRec.key (r : RawRec) : Nat :=
  if r.kind = 0x0702 then ofBe (r.body.take 3)
  else ofLe (r.body.take ((recTypes.find? (fun t => decide (t.kind = r.kind))).elim 0 (·.key)))

/-- The first check of a list that does not hold, as its code and detail word. -/
def firstFail : List (Bool × Nat × Nat) → Except (Nat × Nat) Unit
  | [] => .ok ()
  | (c, e) :: rest => if c then firstFail rest else .error e

/-- Step 1 of Table 3-27: the header (Table 3-1), from its 128 octets. -/
def headerChecks (h : List Octet) : List (Bool × Nat × Nat) :=
  [(decide (slice h 0 4 = [0x43#8, 0x4D#8, 0x43#8, 0x46#8]), 1, 0), (decide (getLe h 4 2 = 1), 1, 4), (decide (getLe h 6 2 = 128), 1, 6),
   (decide (getLe h 8 4 % 4 = 0 ∧ 1024 ≤ getLe h 8 4 ∧ getLe h 8 4 ≤ 2097152), 1, 8),
   (decide (1 ≤ getLe h 16 2 ∧ getLe h 16 2 ≤ 12), 1, 16)]

/-- A big-endian number of 48 octets. -/
def coord (b : List Octet) (off : Nat) : BitVec 384 := BitVec.ofNat 384 (ofBe (slice b off 48))

/-- Steps 2 and 3: the trailer (R65) against the fuse bank (Table 13-7), `b` the image to its length. Table 3-27 names no step for the
trailer's reserved octets; here they are checked in step 2 with code 0x02 (DESIGN CHOICE, log 154). -/
def trailerChecks (f : Fuse) (b : List Octet) : List (Bool × Nat × Nat) :=
  let t := b.length - 208
  let k := getLe b (t + 4) 1
  let x := slice b (t + 16) 96
  [(decide (slice b t 4 = [0x43#8, 0x4D#8, 0x43#8, 0x53#8]), 2, t),
   (decide (k < 4) && bit f.cfgProg k && !bit f.cfgRevoked k && (match f.life with
      | .provision | .field | .service => true | .vendor | .retired => false), 2, t + 4),
   (zeros b (t + 5) 11, 2, t + 5),
   (decide (Config.sha384 x = (f.cfg[k]?).getD 0#384), 2, t + 16),
   (Config.ecdsaVerify (coord b (t + 16)) (coord b (t + 64)) (coord b (t + 112)) (coord b (t + 160)) (b.take (t + 112)), 3, t + 112)]

/-- The directory of an image. -/
def directory (b : List Octet) : List Section :=
  (List.range (getLe b 16 2)).map fun i =>
    let e := slice b (128 + 16 * i) 16
    ⟨getLe e 0 1, getLe e 1 1, getLe e 2 2, getLe e 4 4, getLe e 8 4, getLe e 12 4⟩

/-- Step 4: each entry against the one before it, from index `i`; `last` is the type before and `next` the offset at which
the section must start (R60; without gaps, DEDUCED, log 51). -/
def dirChecks : List Section → Nat → Nat → Nat → Nat → List (Bool × Nat × Nat)
  | [], _, _, next, limit => [(decide (next = limit), 4, 128)]
  | e :: rest, i, last, next, limit =>
    (decide (last < e.kind ∧ e.kind ≤ 12) && decide (e.cls = sectionClass e.kind) && decide (e.off = next) &&
      decide (e.off + e.len ≤ limit), 4, 128 + 16 * i) ::
      dirChecks rest (i + 1) e.kind (ceilDiv (e.off + e.len) 4 * 4) limit

/-- Steps 4 to 6: directory, section CRCs, shared digest. A required section that is absent, or a gap or overlap before the trailer, has
no offset of its own: its detail word is 128, the first directory entry (DESIGN CHOICE, log 156). -/
def sectionChecks (b : List Octet) : List (Bool × Nat × Nat) :=
  let d := directory b
  let shared := d.filter (fun e => decide (e.cls = 1))
  let msg := slice b 12 4 ++ shared.flatMap (fun e => leBytes 1 e.kind ++ leBytes 4 e.len ++ slice b e.off e.len)
  dirChecks d 0 0 (128 + 16 * d.length) (b.length - 208) ++
  [(requiredSections.all (fun k => d.any (fun e => decide (e.kind = k))), 4, 128)] ++
  d.map (fun e => (decide (crc32c (slice b e.off e.len) = e.crc), 5, e.off)) ++
  [(decide (coord b 32 = Config.sha384 msg), 6, 32)]

/-- The records of a section's octets from image offset `off`, with a flag that their frames hold (R62); at most `fuel`. -/
def readRecs : Nat → Nat → Nat → List Octet → List (Bool × RawRec)
  | 0, _, _, _ => []
  | fuel + 1, sec, off, bs =>
    if bs = [] then []
    else
      let kind := getLe bs 0 2
      let len := getLe bs 2 2
      let ok := match recTypes.find? (fun t => decide (t.kind = kind)) with
        | some t => decide (t.kind / 256 = sec) && decide (len = t.body + 8) && decide (len ≤ bs.length) &&
            decide (getLe bs (len - 4) 4 = crc32c (bs.take (len - 4)))
        | none => false
      if ok then (true, ⟨kind, off, slice bs 4 (len - 8)⟩) :: readRecs fuel sec (off + len) (bs.drop len)
      else [(false, ⟨kind, off, []⟩)]

/-- The records of a section. -/
def Section.recs (b : List Octet) (e : Section) : List (Bool × RawRec) := readRecs (e.len / 8 + 1) e.kind e.off (slice b e.off e.len)

/-- Records in ascending order of type and key (R63). -/
def orderChecks : List RawRec → List (Bool × Nat × Nat)
  | a :: b :: rest => (decide (a.kind < b.kind ∨ (a.kind = b.kind ∧ a.key < b.key)), 7, b.off) :: orderChecks (b :: rest)
  | _ => []

/-- Step 7 for one section: frames, order, counts. -/
def recordChecks (b : List Octet) (e : Section) : List (Bool × Nat × Nat) :=
  let rs := e.recs b
  let raw := rs.map (·.2)
  rs.map (fun r => (r.1, 7, r.2.off)) ++ orderChecks raw ++
  [((recTypes.filter (fun t => decide (t.kind / 256 = e.kind))).all (fun t =>
      let n := (raw.filter (fun r => decide (r.kind = t.kind))).length
      decide (t.least ≤ n ∧ n ≤ t.most)) && decide (raw.length = e.count), 7, e.off)]

/-- A number within bounds. -/
def within (v lo hi : Nat) : Bool := decide (lo ≤ v ∧ v ≤ hi)

/-- The number is a pier, or 0xFFFF for none. -/
def pierOrNone (v : Nat) : Bool := within v 0 4095 || decide (v = 0xFFFF)

/-- Characters of ASCII, then padding with 0 (Table 3-7). -/
def nameOk (b : List Octet) : Bool :=
  b.all (fun o => decide (o.toNat < 128)) && (b.dropWhile (fun o => decide (o ≠ 0#8))).all (fun o => decide (o = 0#8))

/-- The distance of a position from the Earth's centre lies within 6,300–6,400 km (Table 3-8). -/
def onEarth (x y z : Int) : Bool :=
  let d := x * x + y * y + z * z
  decide (63000000000 * 63000000000 ≤ d ∧ d ≤ 64000000000 * 64000000000)

/-- The channels of a band plan (Table 8-1). -/
def planChannels (p : Nat) : Nat := if p = 0 then 64 else if p = 1 then 17 else 32

/-- The range checks of SITE, STATION and UNIT (Tables 3-7 to 3-9), each with the offset of its field in the body. -/
def siteFields (b : List Octet) : List (Bool × Nat) :=
  [(decide (getLe b 0 4 ≠ 0), 0), (within (getLe b 4 1) 0 63, 4), (within (getLe b 5 1) 1 64 && decide (getLe b 4 1 < getLe b 5 1), 5),
   (decide (getLe b 6 2 ≠ 0xFFFF), 6), (within (getLe b 8 1) 0 63, 8), (zeros b 9 3, 9), (nameOk (slice b 12 28), 12)]

/-- The range checks of STATION. -/
def stationFields (b : List Octet) : List (Bool × Nat) :=
  let m := getLe b 0 1
  [(within m 0 1, 0), (decide (getLe b 1 1 < 64) && decide (getLe b 1 1 % 16 ≠ 0), 1), (within (getLe b 2 2) 0 4095, 2),
   (if m = 0 then onEarth (getLeS b 4 8) (getLeS b 12 8) (getLeS b 20 8) else zeros b 4 24, 4), (within (getLe b 28 4) 600 86400, 28),
   ([1, 2, 5, 10, 20].contains (getLe b 32 1), 32), ([1, 2].contains (getLe b 33 1), 33), ([1, 2, 5, 10].contains (getLe b 34 1), 34),
   (within (getLe b 35 1) 5 60, 35), ([1013, 1033].contains (getLe b 36 2), 36), (within (getLe b 38 1) 0 3, 38), (zeros b 39 1, 39),
   (within (getLe b 40 4) 50 1000000000, 40), (within (getLe b 44 4) 1 10000, 44)]

/-- The range checks of UNIT. -/
def unitFields (b : List Octet) : List (Bool × Nat) :=
  [(within (getLe b 0 1) 0 2, 0), (within (getLe b 1 1) 10 100, 1), (within (getLe b 2 1) 0 1, 2), (within (getLe b 3 1) 0 1, 3),
   (within (getLe b 4 2) 10 3600, 4), (within (getLe b 6 2) 600 1200 && decide (getLe b 6 2 % 10 = 0), 6),
   (within (getLe b 8 4) 0 1000000, 8), ((List.range 4).all (fun i => within (getLe b (12 + 2 * i) 2) 1 1000), 12),
   (within (getLe b 20 2) 50 600, 20), (decide (getLe b 22 2 = 0) || within (getLe b 22 2) 60 86400, 22)]

/-- The range checks of SPAN and PIER (Tables 3-10, 3-11), `cell` the cell number of SITE. -/
def spanFields (cell : Nat) (b : List Octet) : List (Bool × Nat) :=
  [(within (getLe b 0 2) 0 8191, 0), (within (getLe b 2 2) 0 4095, 2), (within (getLe b 4 2) 0 4095 && decide (getLe b 4 2 ≠ getLe b 2 2), 4),
   (decide (getLe b 6 2 < 16) && decide (getLe b 6 2 % 4 ≠ 0), 6), (within (getLe b 8 4) 500 1000000, 8),
   (within (getLe b 12 2) 50 10000, 12), (within (getLe b 14 1) 1 4, 14), (within (getLe b 15 1) 0 63 || decide (getLe b 15 1 = 0xFF), 15),
   (within (getLe b 16 2) 0 8191 || decide (getLe b 16 2 = 0xFFFF), 16),
   (within (getLe b 18 1) 0 63 && (bit (getLe b 6 2) 2 || decide (getLe b 18 1 = cell)), 18), (zeros b 19 1, 19)]

/-- The range checks of PIER. -/
def pierFields (b : List Octet) : List (Bool × Nat) :=
  let k := getLe b 2 1
  [(within (getLe b 0 2) 0 4095, 0), (within k 0 6, 2), (if k = 4 then within (getLe b 3 1) 0 23 else decide (getLe b 3 1 = 0xFF), 3),
   (if 1 ≤ k ∧ k ≤ 3 then within (getLe b 4 2) 0 1022 else decide (getLe b 4 2 = 1023), 4), (zeros b 6 2, 6)]

/-- The range checks of ROBOT and CLASS (Tables 3-12, 3-13). -/
def robotFields (b : List Octet) : List (Bool × Nat) :=
  [(decide (getLe b 8 4 < 2 ^ 28), 8), (within (getLe b 12 1) 0 3, 12), (within (getLe b 13 1) 0 3, 13), (zeros b 14 2, 14)]

/-- The range checks of CLASS. -/
def classFields (b : List Octet) : List (Bool × Nat) :=
  let s := getLe b 1 1
  [(within (getLe b 0 1) 0 3, 0), (within s 0 1, 1), (if getLe b 0 1 ≤ 1 then within (getLe b 2 1) 1 255 else decide (getLe b 2 1 = 0), 2),
   (within (getLe b 3 1) 1 60, 3), (within (getLe b 4 2) 50 10000, 4), (within (getLe b 6 2) 10 5000, 6), (within (getLe b 8 2) 10 5000, 8),
   (if s = 1 then within (getLe b 10 2) 10 50000 else decide (getLe b 10 2 = 0), 10), (within (getLe b 12 2) 100 60000, 12),
   (within (getLe b 14 2) 10 600, 14), (within (getLe b 16 2) 10 1000, 16), (within (getLe b 18 2) 10 1000, 18),
   (within (getLe b 20 2) 10 2000, 20), (zeros b 22 2, 22)]

/-- The range checks of QUEUE, TRIGGER and ENERGY_BUDGET (Tables 3-14 to 3-16). -/
def queueFields (b : List Octet) : List (Bool × Nat) :=
  [(within (getLe b 0 1) 0 27, 0), (within (getLe b 1 1) 0 15, 1), (within (getLe b 2 1) 4 12, 2), (within (getLe b 3 1) 0 3, 3),
   (within (getLe b 4 2) 0 10000, 4), (within (getLe b 6 2) 0 10000, 6), (zeros b 8 4, 8)]

/-- The range checks of TRIGGER; quantity codes are those of Table 8-22. -/
def triggerFields (b : List Octet) : List (Bool × Nat) :=
  [(within (getLe b 0 2) 0 255, 0), (within (getLe b 2 2) 0x100 0xFFF, 2), (within (getLe b 4 2) (getLe b 2 2) 0xFFF, 4),
   (within (getLe b 6 1) 1 9, 6), (within (getLe b 7 1) 0 3, 7), (within (getLe b 12 1) 0 27, 12), (zeros b 13 1, 13),
   (within (getLe b 14 2) 0 1023 || decide (getLe b 14 2 = 0xFFFF), 14), (pierOrNone (getLe b 16 2), 16), (pierOrNone (getLe b 18 2), 18),
   (within (getLe b 20 2) 0 3600, 20), (zeros b 22 2, 22)]

/-- The range checks of ENERGY_BUDGET. -/
def budgetFields (b : List Octet) : List (Bool × Nat) :=
  [(within (getLe b 0 1) 0 23, 0), (zeros b 1 1, 1), (within (getLe b 2 2) 1 900, 2), (within (getLe b 4 4) 1 100000000, 4),
   (within (getLe b 8 4) 0 10000000 && decide (getLe b 8 4 < getLe b 4 4), 8)]

/-- The range checks of RADIO_PLAN, DECK_ENTRY and NODE (Tables 3-17 to 3-19, 8-4). At least one channel is enabled (R202). -/
def planFields (b : List Octet) : List (Bool × Nat) :=
  [(within (getLe b 0 1) 0 1, 0), (within (getLe b 1 1) 0 2, 1), (within (getLe b 2 1) 0 1, 2), ([1, 2, 3, 4, 6].contains (getLe b 3 1), 3),
   (decide (getLe b 4 8 ≠ 0) && decide (getLe b 4 8 < 2 ^ planChannels (getLe b 1 1)), 4),
   (decide (-10 ≤ getLeS b 14 1 ∧ getLeS b 14 1 ≤ 20), 14), (within (getLe b 15 1) 0 3, 15), (zeros b 16 4, 16)]

/-- The range checks of DECK_ENTRY, `want` the index that numbering without gaps gives it and `from_` the least start. -/
def deckFields (want from_ : Nat) (b : List Octet) : List (Bool × Nat) :=
  let e := deckEntry (slice b 4 8)
  [(within (getLe b 0 1) 0 1, 0), (within (getLe b 1 1) 0 9, 1), (within (getLe b 2 1) 0 63 && decide (getLe b 2 1 = want), 2), (zeros b 3 1, 3),
   (within e.start from_ 999, 4), (within e.length 1 1000 && decide (e.start + e.length ≤ 1000), 6), (within e.kind 0 6, 8),
   (bit e.rule 7 || decide (e.rule = 0), 9), (decide (e.kind = 5 ∨ e.session = 0), 10),
   (decide (e.flags &&& (if getLe b 0 1 = 1 then (if e.kind = 4 then 1 else if e.kind = 6 then 2 else 0) else 0) = e.flags), 11)]

/-- The range checks of NODE. -/
def nodeFields (b : List Octet) : List (Bool × Nat) :=
  [(within (getLe b 0 2) 0x100 0xFFF, 0), (within (getLe b 2 1) 0 1, 2), (within (getLe b 3 1) 1 100, 3), (within (getLe b 12 2) 1 3600, 12),
   (within (getLe b 14 2) 0 9999, 14), (pierOrNone (getLe b 16 2), 16), (zeros b 18 2, 18)]

/-- The range checks of LOOP (Table 3-20, R137). -/
def loopFields (b : List Octet) : List (Bool × Nat) :=
  let k := getLe b 0 1
  [(within k 0 5, 0), (within (getLe b 1 1) 2 3, 1), (if [1, 2, 5].contains k then within (getLe b 2 1) 1 64 else decide (getLe b 2 1 = 0), 2),
   (decide (getLe b 3 1 = 0 ∨ (getLe b 3 1 = 1 ∧ k = 4)), 3), (within (getLe b 4 4) 1 100000000, 4),
   (within (getLe b 8 2) 1 65535 && (if getLe b 1 1 = 3 then within (getLe b 10 2) 1 65535 else decide (getLe b 10 2 = 0)), 8),
   (if getLe b 3 1 = 1 then within (getLe b 12 2) 64 2047 else decide (getLe b 12 2 = 0), 12), (zeros b 14 2, 14)]

/-- The range checks of MPOINT (Table 3-21, R411, R412). -/
def pointFields (b : List Octet) : List (Bool × Nat) :=
  let most := if getLe b 3 1 = 2 then 7 else 23
  let ins := (slice b 4 3).map BitVec.toNat
  let used := (ins.filter (fun v => decide (v ≠ 0xFF))).length
  [(within (getLe b 0 1) 0 23, 0), (within (getLe b 1 1) 0 1, 1), (within (getLe b 2 1) 0 1, 2), (within (getLe b 3 1) 0 2, 3),
   (ins.all (fun v => decide (v ≤ most ∨ v = 0xFF)) && decide (used ≠ 0) && decide (getLe b 1 1 = 0 ∨ used = 1), 4), (zeros b 7 1, 7),
   (within (getLe b 8 4) 1000 1000000, 8), (within (getLe b 12 2) 100 500, 12), (zeros b 14 2, 14)]

/-- The range checks of ZONE and STRING (Tables 3-22, 3-23). -/
def zoneFields (b : List Octet) : List (Bool × Nat) :=
  [(within (getLe b 0 1) 0 63, 0), (within (getLe b 1 1) 0 6, 1), (within (getLe b 2 1) 0 6, 2), (within (getLe b 3 1) 0 6, 3), (zeros b 6 2, 6)]

/-- The range checks of STRING. -/
def stringFields (b : List Octet) : List (Bool × Nat) :=
  [(within (getLe b 0 1) 0 23, 0), (within (getLe b 1 1) 0 63, 1), (within (getLe b 2 1) 1 3, 2), (within (getLe b 3 1) 1 120, 3),
   (within (getLe b 4 2) 0 4095, 4), (within (getLe b 6 1) 0 1, 6), (zeros b 7 1, 7)]

/-- The range checks of NET and ACCESS (Tables 3-24, 3-25). -/
def netFields (b : List Octet) : List (Bool × Nat) :=
  let mask := 2 ^ (32 - getLe b 8 1)
  [(within (getLe b 0 1) 0 1, 0), (within (getLe b 1 1) 0 15, 1), (within (getLe b 2 2) 1024 65535, 2), (within (getLe b 8 1) 8 30, 8),
   (within (getLe b 9 1) 0 2, 9), (within (getLe b 10 1) 0 127, 10), (zeros b 11 1, 11),
   (decide (getLe b 12 4 = 0 ∨ getLe b 12 4 / mask = getLe b 4 4 / mask), 12), (decide (getLe b 16 1 % 2 = 0), 16),
   (within (getLe b 26 2) 1024 65535 && decide (getLe b 26 2 ≠ getLe b 2 2), 26)]

/-- The range checks of ACCESS; the key slot is a reference condition of R75. -/
def accessFields (b : List Octet) : List (Bool × Nat) :=
  [(within (getLe b 0 1) 0 15, 0), (within (getLe b 1 1) 0 3, 1), (decide (getLe b 2 2 < 1024), 2), (zeros b 9 3, 9)]

/-- The range checks of one record; `prev` is the DECK_ENTRY before it. -/
def RawRec.fields (cell : Nat) (prev : Option RawRec) (r : RawRec) : List (Bool × Nat) :=
  match r.kind with
  | 0x0101 => siteFields r.body
  | 0x0201 => stationFields r.body
  | 0x0301 => unitFields r.body
  | 0x0401 => spanFields cell r.body
  | 0x0402 => pierFields r.body
  | 0x0501 => robotFields r.body
  | 0x0502 => classFields r.body
  | 0x0601 => queueFields r.body
  | 0x0602 => triggerFields r.body
  | 0x0603 => budgetFields r.body
  | 0x0701 => planFields r.body
  | 0x0702 =>
    match prev with
    | some p => if p.kind = 0x0702 ∧ p.body.take 2 = r.body.take 2 then deckFields (getLe p.body 2 1 + 1) (getLe p.body 4 2 + 1) r.body
        else deckFields 0 0 r.body
    | none => deckFields 0 0 r.body
  | 0x0703 => nodeFields r.body
  | 0x0801 => loopFields r.body
  | 0x0901 => pointFields r.body
  | 0x0A01 => zoneFields r.body
  | 0x0B01 => stringFields r.body
  | 0x0C01 => netFields r.body
  | _ => accessFields r.body

/-- Step 8 over records in order. -/
def rangeChecks (cell : Nat) : Option RawRec → List RawRec → List (Bool × Nat × Nat)
  | _, [] => []
  | prev, r :: rest => (r.fields cell prev).map (fun c => (c.1, 8, r.off + 4 + c.2)) ++ rangeChecks cell (some r) rest

/-- The bodies of the records of a type. -/
def bodies (rs : List RawRec) (kind : Nat) : List (List Octet) := (rs.filter (fun r => decide (r.kind = kind))).map (·.body)

/-- A SPAN body read. -/
def readSpan (b : List Octet) : SpanRec :=
  { span := getLe b 0 2, fromPier := getLe b 2 2, toPier := getLe b 4 2, flags := getLe b 6 2, length := getLe b 8 4
    speed := getLe b 12 2, capacity := getLe b 14 1, zone := getLe b 15 1, retreat := getLe b 16 2, owner := getLe b 18 1 }

/-- A CLASS body read. -/
def readClass (b : List Octet) : ClassRec :=
  { cls := getLe b 0 1, shape := getLe b 1 1, quota := getLe b 2 1, window := getLe b 3 1, speed := getLe b 4 2, accel := getLe b 6 2
    decel := getLe b 8 2, jerk := getLe b 10 2, overstay := getLe b 12 2, auditPeriod := getLe b 14 2, auditH := getLe b 16 2
    auditV := getLe b 18 2, envelope := getLe b 20 2 }

/-- A TRIGGER body read. -/
def readTrigger (b : List Octet) : TriggerRec :=
  { rule := getLe b 0 2, firstNode := getLe b 2 2, lastNode := getLe b 4 2, quantity := getLe b 6 1, comparison := getLe b 7 1
    threshold := getLeS b 8 4, queue := getLe b 12 1, flow := getLe b 14 2, origin := getLe b 16 2, dest := getLe b 18 2, holdoff := getLe b 20 2 }

/-- A NET body read. -/
def readNet (b : List Octet) : NetRec :=
  { mac := getLe b 0 1, flags := getLe b 1 1, chpPort := getLe b 2 2, address := getLe b 4 4, pfxLen := getLe b 8 1, ptpRole := getLe b 9 1
    ptpDomain := getLe b 10 1, gateway := getLe b 12 4, macAddress := slice b 16 6, txDelay := getLe b 22 2, rxDelay := getLe b 24 2
    rtcmPort := getLe b 26 2 }

/-- A STATION body read. -/
def readStation (b : List Octet) : StationRec :=
  { baseMode := getLe b 0 1, constellations := getLe b 1 1, stationId := getLe b 2 2, ecefX := getLeS b 4 8, ecefY := getLeS b 12 8
    ecefZ := getLeS b 20 8, surveyDuration := getLe b 28 4, epochRate := getLe b 32 1, airRate := getLe b 33 1, ethRate := getLe b 34 1
    ageLimit := getLe b 35 1, ancillary := getLe b 36 2, uartRouting := getLe b 38 1, jumpThreshold := getLe b 40 4, stability := getLe b 44 4 }

/-- A UNIT body read. -/
def readUnit (b : List Octet) : UnitRec :=
  { bias := getLe b 0 1, biasLimit := getLe b 1 1, reference := getLe b 2 1, pair := getLe b 3 1, holdoff := getLe b 4 2, vsense := getLe b 6 2
    cableDelay := getLe b 8 4, refill := (List.range 4).map (fun i => getLe b (12 + 2 * i) 2), boostMax := getLe b 20 2, shortTest := getLe b 22 2 }

/-- The header of an image read, with the key index of its trailer. -/
def readHead (b : List Octet) : ImageHead :=
  { length := getLe b 8 4, generation := getLe b 12 4, sections := getLe b 16 2, target := getLe b 18 1, siteId := getLe b 20 4
    buildTime := getLe b 24 8, digest := coord b 32, predecessor := coord b 80, keyIndex := getLe b (b.length - 208 + 4) 1 }

/-- The records of an image decoded (Tables 3-7 to 3-25), and the SHA-384 of each shared section (R79). -/
def readImage (b : List Octet) (rs : List RawRec) : Image :=
  let one (k : Nat) : List Octet := ((bodies rs k).head?).getD []
  let site := one 0x0101
  { head := readHead b
    site := { siteId := getLe site 0 4, cell := getLe site 4 1, cells := getLe site 5 1, pan := getLe site 6 2, leap := getLe site 8 1, name := slice site 12 28 }
    station := readStation (one 0x0201)
    unit := readUnit (one 0x0301)
    spans := (bodies rs 0x0401).map readSpan
    piers := (bodies rs 0x0402).map (fun r => { pier := getLe r 0 2, kind := getLe r 2 1, meter := getLe r 3 1, flow := getLe r 4 2 })
    robots := (bodies rs 0x0501).map (fun r => { identity := getLe r 0 8, mask := getLe r 8 4, cls := getLe r 12 1, flags := getLe r 13 1 })
    classes := (bodies rs 0x0502).map readClass
    queues := (bodies rs 0x0601).map (fun r => { queue := getLe r 0 1, priority := getLe r 1 1, capLog := getLe r 2 1, flags := getLe r 3 1, affWait := getLe r 4 2, affWindow := getLe r 6 2 })
    triggers := (bodies rs 0x0602).map readTrigger
    budget := ((bodies rs 0x0603).head?).map (fun r => { point := getLe r 0 1, window := getLe r 2 2, cap := getLe r 4 4, hysteresis := getLe r 8 4 })
    plans := (bodies rs 0x0701).map (fun r => { radio := getLe r 0 1, band := getLe r 1 1, modulation := getLe r 2 1, rate := getLe r 3 1, mask := getLe r 4 8, seed := getLe r 12 2, power := getLeS r 14 1, frontEnd := getLe r 15 1 })
    deck := (bodies rs 0x0702).map (fun r => { radio := getLe r 0 1, tick := getLe r 1 1, index := getLe r 2 1, entry := slice r 4 8 })
    nodes := (bodies rs 0x0703).map (fun r => { node := getLe r 0 2, kind := getLe r 2 1, tolerance := getLe r 3 1, identity := getLe r 4 8, wake := getLe r 12 2, contact := getLe r 14 2, pier := getLe r 16 2 })
    loops := (bodies rs 0x0801).map (fun r => { kind := getLe r 0 1, order := getLe r 1 1, ratio := getLe r 2 1, timing := getLe r 3 1, bandwidth := getLe r 4 4, clamp := getLe r 8 4, offset := getLe r 12 2 })
    points := (bodies rs 0x0901).map (fun r => { point := getLe r 0 1, arrangement := getLe r 1 1, feeder := getLe r 2 1, sensor := getLe r 3 1, inputs := [getLe r 4 1, getLe r 5 1, getLe r 6 1], scale := getLe r 8 4, nominal := getLe r 12 2 })
    zones := (bodies rs 0x0A01).map (fun r => { zone := getLe r 0 1, free := getLe r 1 1, granted := getLe r 2 1, occupied := getLe r 3 1, tower := getLe r 4 2 })
    strings := (bodies rs 0x0B01).map (fun r => { string := getLe r 0 1, zone := getLe r 1 1, colour := getLe r 2 1, current := getLe r 3 1, level := getLe r 4 2, flags := getLe r 6 1 })
    nets := (bodies rs 0x0C01).map readNet
    accesses := (bodies rs 0x0C02).map (fun r => { host := getLe r 0 1, transports := getLe r 1 1, rights := getLe r 2 2, address := getLe r 4 4, slot := getLe r 8 1 })
    shared := ((directory b).filter (fun e => decide (e.cls = 1))).map (fun e => (e.kind, Config.sha384 (slice b e.off e.len))) }

/-- No element of a list occurs in it twice. -/
def distinct (l : List Nat) : Bool := decide (l.eraseDups.length = l.length)

/-- The reference conditions of Table 3-26, rows 0 to 5. -/
def Image.references (m : Image) : List Bool :=
  let pier (p : Nat) : Bool := m.piers.any (fun r => decide (r.pier = p))
  let zone (z : Nat) : Bool := m.zones.any (fun r => decide (r.zone = z))
  let queue (q : Nat) : Bool := m.queues.any (fun r => decide (r.queue = q))
  let flagged := m.queues.filter (fun r => bit r.flags 1)
  [m.spans.all (fun r => pier r.fromPier && pier r.toPier &&
      (decide (r.retreat = 0xFFFF) || m.spans.any (fun t => decide (t.span = r.retreat) && bit t.flags 3))) &&
    m.piers.all (fun r => !decide (r.kind = 4) || m.points.any (fun t => decide (t.point = r.meter))),
   m.triggers.all (fun r => queue r.queue) && decide (flagged.length ≤ 1) && (decide (flagged ≠ []) || queue 24),
   m.zones.all (fun r => decide (r.tower = 0) || m.nodes.any (fun t => decide (t.node = r.tower ∧ t.kind = 1))) &&
    m.strings.all (fun r => zone r.zone) && m.spans.all (fun r => decide (r.zone = 0xFF) || zone r.zone),
   m.budget.all (fun r => m.points.any (fun t => decide (t.point = r.point ∧ t.arrangement = 0))),
   m.accesses.any (fun r => bit r.rights 9) && m.accesses.all (fun r => within r.slot 16 63),
   decide (m.station.epochRate % m.station.airRate = 0 ∧ m.station.epochRate % m.station.ethRate = 0)]

/-- The capacity conditions of Table 3-26, rows 6 to 8. -/
def Image.capacities (m : Image) : List Bool :=
  let three := (m.points.filter (fun r => decide (r.arrangement = 0))).length
  let single := (m.points.filter (fun r => decide (r.arrangement = 1))).length
  let ins := m.points.flatMap (fun r => (r.inputs.filter (fun v => decide (v ≠ 0xFF))).map (fun v => if r.sensor = 2 then 100 + v else v))
  [decide ((m.queues.map (fun r => 2 ^ r.capLog)).sum ≤ 7168),
   decide ((m.robots.filter (fun r => bit r.flags 0)).length ≤ 32 ∧ (m.robots.filter (fun r => bit r.flags 1)).length ≤ 16),
   decide (3 * three + single ≤ 24 ∧ three ≤ 8) && distinct ins]

/-- Entries of one tick that follow one another do not overlap (R75). -/
def apart : List DeckEntry → Bool
  | a :: b :: rest => decide (a.start + a.length ≤ b.start) && apart (b :: rest)
  | _ => true

/-- The Deck entries of a radio's tick. -/
def Image.deckAt (m : Image) (radio tick : Nat) : List DeckEntry :=
  (m.deck.filter (fun r => decide (r.radio = radio ∧ r.tick = tick))).map (fun r => deckEntry r.entry)

/-- The Deck condition of Table 3-26, row 9. -/
def Image.deckOk (m : Image) : Bool :=
  (List.range 10).all (fun t =>
    let a := m.deckAt 0 t
    let b := m.deckAt 1 t
    a.any (fun e => decide (e.kind = 1 ∧ e.start = 0 ∧ e.length = 40)) &&
    (List.range 9).all (fun i => a.any (fun e => decide (e.kind = 2 ∧ e.start = 100 * (i + 1) ∧ e.length = 10))) &&
    apart a && apart b && b.all (fun e => decide (e.kind ≠ 1 ∧ e.kind ≠ 2))) &&
  m.nodes.all (fun n =>
    (m.deckAt 1 (n.contact / 1000)).any (fun e => decide (e.kind = 6) && bit e.flags 1 && decide (e.start ≤ n.contact % 1000) &&
      decide (n.contact % 1000 < e.start + e.length)))

/-- The unit condition of Table 3-26, row 10. -/
def Image.unitOk (m : Image) (pairSel : Bool) : Bool :=
  if m.unit.pair = 0 then decide (m.head.target = 0)
  else decide (m.head.target = (if pairSel then 2 else 1)) && (decide (m.head.target ≠ 2) || decide (m.unit.bias = 0))

/-- Steps 9 to 12. The index of a failing condition counts the rows of Table 3-26 from 0 (DESIGN CHOICE, log 155). -/
def Image.conditions (m : Image) (pairSel : Bool) : List (Bool × Nat × Nat) :=
  (enum m.references).map (fun c => (c.2, 9, c.1)) ++ (enum m.capacities).map (fun c => (c.2, 10, 6 + c.1)) ++
    [(m.deckOk, 11, 9), (m.unitOk pairSel, 12, 10)]

/-- The header fields whose ranges Table 3-1 gives and step 1 does not name, checked with the ranges of step 8 (DEDUCED, log 51). -/
def headFields (b : List Octet) (site : Nat) : List (Bool × Nat × Nat) :=
  [(within (getLe b 12 4) 1 0xFFFFFFFE, 8, 12), (zeros b 19 1, 8, 19), (decide (getLe b 20 4 = site), 8, 20)]

/-- Validation (R76): the steps of Table 3-27 in order; the image, or the code and detail word of the first failure. -/
def validateImage (f : Fuse) (pairSel : Bool) (slot : List Octet) : Except (Nat × Nat) Image := do
  firstFail (headerChecks (slot.take 128))
  let b := slot.take (getLe slot 8 4)
  firstFail (trailerChecks f b)
  firstFail (sectionChecks b)
  firstFail ((directory b).flatMap (recordChecks b))
  let rs := (directory b).flatMap (fun e => (e.recs b).map (·.2))
  let site := ((bodies rs 0x0101).head?).getD []
  firstFail (headFields b (getLe site 0 4) ++ rangeChecks (getLe site 4 1) none rs)
  let m := readImage b rs
  firstFail (m.conditions pairSel)
  .ok m

/-- Where a configuration slot stands in the boot flash (Table 14-1). -/
def slotBase (slot : Nat) : Nat := if slot = 0 then 0x100000 else 0x300000

/-- The 2 MiB of a slot (R58). -/
def State.slotOctets (slot : Nat) (s : State) : List Octet := s.flash.readN (slotBase slot) 2097152

/-- A slot validated under R76 against the unit's fuse bank and PAIR_SEL. -/
def State.validateSlot (slot : Nat) (s : State) : Except (Nat × Nat) Image :=
  validateImage s.keys.fuse s.sys.pairSel (s.slotOctets slot)

/-- Octets programmed into NOR flash: a bit that is 0 stays 0 until its sector is erased (PRESUMED, log 3). -/
def Memory.program (m : Memory) (a : Nat) : List Octet → Memory
  | [] => m
  | b :: bs => Memory.program (m.write a (m.read a &&& b)) (a + 1) bs

/-- The body of CONFIG_WRITE (Table 18-5): slot, offset, octets. -/
def configWriteOk (b : List Octet) : Bool :=
  decide (getLe b 0 1 < 2) && zeros b 1 3 && within (b.length - 8) 4 4096 && decide (8 ≤ b.length)

/-- CONFIG_WRITE applied (R77, R482): the pending name of the slot goes first, a sector start erases its sector, and the octets
are programmed and read back. -/
def State.configWrite (f : ChpFrame) (s : State) : State :=
  let b := f.body
  let slot := getLe b 0 1
  let off := getLe b 4 4
  let data := b.drop 8
  if s.sys.restricted ≠ 1 ∧ s.cfg.active = slot then s.refuse f 0x0090 1
  else if off % 4 ≠ 0 ∨ data.length % 4 ≠ 0 ∨ 2097152 < off + data.length then s.refuse f 0x0090 2
  else
    let s := if s.cfg.pending = some slot then { s with cfg.pending := none } else s
    let a := slotBase slot + off
    let m := if off % 65536 = 0 then s.flash.erase a 65536 else s.flash
    let m := m.program a data
    let s := { s with flash := m }
    if m.readN a data.length = data then s.finish f 0x0090 0x00 [] else s.refuse f 0x0090 3

/-- CONFIG_WRITE (R77, R482): octets into an inactive slot, or in NO_CONFIG into either. -/
def execConfigWrite (frame : ChpFrame) : State → Host.Outcome State Fault Refusal :=
  done fun s => s.chp 0x0090 (some 9) false (decide (s.sys.restricted = 1)) (configWriteOk frame.body) frame (fun _ s => s.configWrite frame)

/-- What the last validation of a slot found (Table 18-12, SYS_CFG). -/
def State.noteSlot (slot code detail : Nat) (s : State) : State :=
  if slot = 0 then { s with cfg.errorA := code, cfg.detailA := detail } else { s with cfg.errorB := code, cfg.detailB := detail }

/-- CONFIG_COMMIT (R78): the slot is validated; a valid one becomes the pending slot of the selector. -/
def execConfigCommit (frame : ChpFrame) : State → Host.Outcome State Fault Refusal :=
  done fun s =>
    s.chp 0x0091 (some 9) false (decide (s.sys.restricted = 1))
      (decide (frame.body.length = 4) && decide (getLe frame.body 0 1 < 2) && zeros frame.body 1 3) frame fun _ s =>
        let slot := getLe frame.body 0 1
        match s.validateSlot slot with
        | .ok _ => { s.noteSlot slot 0 0 with cfg.pending := some slot }.finish frame 0x0091 0x00 (leBytes 1 0 ++ [0#8, 0#8, 0#8] ++ leBytes 4 0)
        | .error (c, d) => (s.noteSlot slot c d).finish frame 0x0091 0x00 (leBytes 1 c ++ [0#8, 0#8, 0#8] ++ leBytes 4 d)

end Sys2Proof.Machine
end

