-- ==== Sys2Proof/Machine/Meter.lean ====
section
/-! DEFINITION. Charge-point metering (R411–R432): calibration, energy blocks, the values of a second, snapshots, checkpoints,
and what START restores. -/

namespace Sys2Proof.Machine

/-- The MPOINT record of a point. -/
def State.pointRec (p : Nat) (s : State) : Option PointRec := (s.recs (·.points)).find? (fun r => decide (r.point = p))

/-- One metering point. -/
def State.mp (p : Nat) (s : State) : MetPoint := Tab.get {} s.met.points p

/-- One metering point changed. -/
def State.updMp (p : Nat) (f : MetPoint → MetPoint) (s : State) : State := { s with met.points := Tab.upd {} s.met.points p f }

/-- A channel without calibration: gain 1.0, phase 0, offset 0 (R416). -/
def calNone : Nat × Int × Int := (0x400000, 0, 0)

/-- The two registers MET_CALc_0 and _1 of a channel as words. -/
def calWord (c : Nat × Int × Int) (half : Nat) : Nat := if half = 0 then c.1 % 2 ^ 24 else sbits 16 c.2.1 + 2 ^ 16 * sbits 16 c.2.2

/-- A channel with the fields of one of its registers written. -/
def calPut (c : Nat × Int × Int) (half v : Nat) : Nat × Int × Int :=
  if half = 0 then (bits v 0 24, c.2) else (c.1, ofSbits 16 (bits v 0 16), ofSbits 16 (bits v 16 16))

/-- A word lies within the ranges of MET_CALc. -/
def calRange (half v : Nat) : Bool :=
  if half = 0 then decide (0x200000 ≤ bits v 0 24 ∧ bits v 0 24 ≤ 0x7FFFFF) && decide (bits v 24 8 = 0)
  else decide ((ofSbits 16 (bits v 0 16)).natAbs ≤ 4096)

/-- The valid copy of the calibration record with the higher sequence number (R416). -/
def MetStore.newest (m : MetStore) : Option CalCopy :=
  (m.cal.filterMap (fun (c : Option CalCopy) => c.bind (fun c => if c.valid then some c else none))).foldl
    (fun (b : Option CalCopy) c => match b with | some b => if b.seq < c.seq then some c else some b | none => some c) none

/-- The copy that a calibration write takes: the other than the newest. -/
def MetStore.older (m : MetStore) : Nat := if (m.cal[0]?).getD none = m.newest ∧ m.newest ≠ none then 1 else 0

/-- The calibration record as MET_CALc shows it. -/
def State.calRec (c : Nat) (s : State) : Nat × Int × Int := (s.mets.newest).elim calNone (fun r => Tab.get calNone r.chans c)

/-- A write of MET_CALc_half (R416): false where it is refused, in a life-cycle state other than VENDOR and SERVICE or outside
the ranges; otherwise the older copy is written and the value waits for the next whole second. -/
def State.writeCal (c half v : Nat) (s : State) : Bool × State :=
  let admitted := match s.life with | .vendor | .service => true | .provision | .field | .retired => false
  if !(admitted && calRange half v) then (false, s)
  else
    let base := s.mets.newest
    let seq := (base.elim 0 (·.seq) + 1) % 65536
    let old := s.calRec c
    let new : CalCopy := ⟨true, seq, Tab.set calNone (base.elim [] (·.chans)) c (calPut old half v)⟩
    (true, { s with mets.cal := s.mets.cal.set s.mets.older (some new)
                    met.calDue := s.met.calDue ++ [⟨c, half, calWord old half, calWord (calPut old half v) half, seq, s.now⟩] })

/-- CAL_WRITE (R416): a write of MET_CALc_0 or MET_CALc_1. -/
def execCalWrite (channel : Fin 38) (half : Fin 2) (value : Word) : State → Host.Outcome State Fault Refusal :=
  done fun s => if s.powered then (s.writeCal channel.val half.val value.toNat).2 else s

/-- The calibration writes of at least 50 µs ago apply at a whole second (R28, R416). -/
def State.applyCal (s : State) : State :=
  let ready := s.met.calDue.filter (fun c => decide (50 * perUs + c.at_ ≤ s.now))
  let s := { s with met.calDue := s.met.calDue.filter (fun c => !decide (50 * perUs + c.at_ ≤ s.now)) }
  s.each ready fun c s =>
    let s := { s with met.cal := Tab.upd calNone s.met.cal c.channel (fun v => calPut v c.half c.new), met.calSeq := c.seq, met.calValid := true
                      met.events := s.met.events ||| 8#32 }
    s.report 0x0E05 [(1, c.channel), (4, c.old), (4, c.new), (2, c.seq)]

/-! ### Samples -/

/-- The metering input of a current field, as MET_CALc numbers it (Table 15-1). -/
def PointRec.channel (r : PointRec) (v : Nat) : Nat := if r.sensor = 2 then 30 + v else 6 + v

/-- The inputs of a point: the voltage and the current of each phase that has one. -/
def PointRec.pairs (r : PointRec) : List (Nat × Nat) :=
  ((enum r.inputs).filter (fun p => decide (p.2 ≠ 0xFF))).map (fun p => (3 * r.feeder + p.1, r.channel p.2))

/-- The inputs of a point as channels. -/
def PointRec.channels (r : PointRec) : List Nat := r.pairs.flatMap (fun p => [p.1, p.2])

/-- The current inputs of sensor-1 points pass the coil integrator (R414). -/
def State.coiled (c : Nat) (s : State) : Bool := (s.recs (·.points)).any (fun r => decide (r.sensor = 1) && (r.pairs.map (·.2)).contains c)

/-- The full scale of a channel's codes (R421). -/
def metFull : Nat := 2 ^ 23 - 1

/-- A sample as its channel takes it: 24 bits, 0 from a bitstream in fault (R413). -/
def State.metSample (c : Nat) (x : Int) (s : State) : Int :=
  if 30 ≤ c ∧ bit s.met.bsFault (c - 30) = true then 0 else max (-(metFull : Int)) (min metFull x)

/-- Offset, gain and delay in the order of R415; a delay line of 4 samples serves phases of either sign (DESIGN CHOICE, log 194). -/
def MetChan.calibrate (cal : Nat × Int × Int) (x : Int) (c : MetChan) : Int × MetChan :=
  let line := (nearest ((x - 128 * cal.2.2) * cal.1) (2 ^ 22) :: c.line).take 10
  let d := (4096 + cal.2.1).toNat
  (if d % 1024 = 0 then line.getD (d / 1024) 0 else Config.fractionalDelay d line, { c with line := line })

/-- The coil integrator (R414): its gain is 1 at 50 Hz, 2π·50·125 µs a sample, and its corner 0.5 Hz, both in 2^-32 (DESIGN CHOICE for its form,
log 194). -/
def MetChan.integrate (x : Int) (c : MetChan) : Int × MetChan :=
  let y := c.coil + 168662971 * x - nearest (c.coil * 1686630) (2 ^ 32)
  (nearest y (2 ^ 32), { c with coil := y })

/-- The intervals between positive zero crossings (R419): a crossing lies on the line between its two samples (DESIGN CHOICE, log 194). -/
def MetChan.crossings (y : Int) (c : MetChan) : MetChan :=
  if c.prev < 0 ∧ 0 ≤ y then
    let t := (nearest (-125000 * c.prev) (y - c.prev).toNat).toNat
    match c.since with
    | some n => { c with since := some (125000 - t), span := c.span + n + t, spans := c.spans + 1, prev := y }
    | none => { c with since := some (125000 - t), prev := y }
  else { c with since := c.since.map (· + 125000), prev := y }

/-- One sample through its channel: calibration, the coil integrator where the channel has it, and what R419 takes of it. -/
def MetChan.take (cal : Nat × Int × Int) (coil : Bool) (c : MetChan) (x : Int) : MetChan :=
  let z := c.calibrate cal x
  let y := if coil then z.2.integrate z.1 else z
  { y.2.crossings y.1 with block := y.2.block ++ [y.1], squares := y.2.squares + y.1.natAbs * y.1.natAbs, count := y.2.count + 1 }

/-- A channel's samples of a block; one at ±(2^23 − 1) saturates the channel (R421). -/
def State.meterChannel (xs : List Int) (c : Nat) (s : State) : State :=
  let l := xs.map (fun x => s.metSample c x)
  let v := Tab.get {} s.met.chans c
  let v := l.foldl (MetChan.take (Tab.get calNone s.met.cal c) (s.coiled c)) { v with before := v.block, block := [] }
  { s with met.chans := Tab.set {} s.met.chans c v
           met.satSeen := if l.any (fun x => decide (metFull ≤ x.natAbs)) then setBit s.met.satSeen c else s.met.satSeen }

/-- Every channel takes its samples; one that a block does not list has been at 0. -/
def State.meterSamples (blocks : List BlockIn) (s : State) : State :=
  let n := (blocks.map (·.samples.length)).foldl max 0
  s.each (List.range 38) fun c s =>
    s.meterChannel ((((blocks.find? (fun (b : BlockIn) => decide (b.channel = c))).elim [] (·.samples)) ++ List.replicate n 0).take n) c

/-! ### Energy -/

/-- The engine's unit of energy: 9 · 2^46 of it are 1 nWh (R417 with the full scales of Table 15-1 and R412). -/
def unitsPerNwh : Nat := 9 * 2 ^ 46

/-- A sum of products v × i of codes as energy over 125 µs a sample: 250 × scale units a code². -/
def PointRec.energy (r : PointRec) (x : Int) : Int := x * (250 * r.scale)

/-- The sum of products of two lists. -/
def dotInt (a b : List Int) : Int := (List.zipWith (· * ·) a b).foldl (· + ·) 0

/-- A block of a point: E_P, E_Q and E_S (R417). -/
def State.blockEnergy (r : PointRec) (s : State) : Int × Int × Nat :=
  r.pairs.foldl (fun e p =>
    let v := Tab.get {} s.met.chans p.1
    let i := Tab.get {} s.met.chans p.2
    (e.1 + r.energy (dotInt v.block i.block), e.2.1 + r.energy (dotInt (Config.hilbert v.before v.block) i.block),
     e.2.2 + (r.energy (isqrt ((dotInt v.block v.block).toNat * (dotInt i.block i.block).toNat))).toNat)) (0, 0, 0)

/-- The currents that a point takes. -/
def PointRec.used (r : PointRec) : List Nat := r.inputs.filter (fun v => decide (v ≠ 0xFF))

/-- Below 0.02 % of full-scale power in a 10 ms block (R418): with `e` in nWh, 36,000 e √2 < 11,314 × phases × scale. -/
def creepLow (r : PointRec) (e : Nat) : Bool :=
  let full := 11314 * r.used.length * r.scale * unitsPerNwh
  decide (2 * (36000 * e) * (36000 * e) < full * full)

/-- Accumulator `k` with energy added: whole units of 1 nWh move to the accumulator, the fraction stays (R422). -/
def MetPoint.addTo (m : MetPoint) (k e : Nat) : MetPoint :=
  let t := (m.frac[k]?).getD 0 + e
  { m with acc := updAt m.acc k (fun a => (a + t / unitsPerNwh) % 2 ^ 96), frac := updAt m.frac k (fun _ => t % unitsPerNwh) }

/-- The accumulators of a point take a block (Table 15-2, R418). -/
def MetPoint.addBlock (r : PointRec) (p q : Int) (e : Nat) (m : MetPoint) : MetPoint :=
  let creep := creepLow r p.natAbs && creepLow r q.natAbs
  let m := if creep then m
    else
      let m := m.addTo (if 0 ≤ p then 0 else 1) p.natAbs
      m.addTo (if 0 ≤ q then (if 0 ≤ p then 2 else 3) else (if p < 0 then 4 else 5)) q.natAbs
  if creep && creepLow r e then m else m.addTo 6 e

/-- The sum of a list. -/
def sumInt (l : List Int) : Int := l.foldl (· + ·) 0

/-- One point's block: its energies enter the second's sums, and its accumulators where they run (R417). -/
def State.meterPoint (r : PointRec) (s : State) : State :=
  let e := s.blockEnergy r
  let run := s.met.accumulating
  s.updMp r.point fun (m : MetPoint) =>
    let m := { m with sumP := m.sumP + e.1, sumQ := m.sumQ + e.2.1, sumS := m.sumS + e.2.2, blocks := m.blocks + 1
                      creeps := m.creeps + flag (creepLow r e.1.natAbs && creepLow r e.2.1.natAbs) }
    if run then m.addBlock r e.1 e.2.1 e.2.2 else m

/-- A block: the channels take their samples, then every point its energies. -/
def State.meterAll (blocks : List BlockIn) (s : State) : State :=
  let s := s.meterSamples blocks
  s.each (s.recs (·.points)) State.meterPoint

/-- The engine runs: its domain has settled and no save has frozen it. -/
def State.metering (s : State) : Bool := s.powered && s.met.settled.isSome && !s.sys.saving && s.cfg.image.isSome

/-- METER_BLOCK (R417, R427): a whole 10 ms of device time ends a block. The first such boundary after START resumes
accumulation and adds nothing. -/
def execMeterBlock (blocks : List BlockIn) : State → Host.Outcome State Fault Refusal :=
  done fun s =>
    if !s.metering || !s.time.running then s
    else
      let s := s.mark markBlock (10 * perMs)
      let s := s.meterAll blocks
      if s.met.accumulating || !s.inService then s
      else { s with met.accumulating := true, met.resumed := some s.time.frc }.closeGap

/-- The mean power of energies summed over a second, in W. -/
def meanPower (e : Int) : Int := nearest (e * 3600) (1000000000 * unitsPerNwh)

/-- The RMS of a channel over the second, `full` what its full scale stands for at its peak (R412, R419). -/
def State.rmsOf (full c : Nat) (s : State) : Nat :=
  let v := Tab.get {} s.met.chans c
  isqrt (v.squares * full * full / (max 1 v.count * 2 ^ 46))

/-- The mean frequency of a channel's positive zero crossings over the second, in mHz. -/
def State.freqOf (c : Nat) (s : State) : Nat :=
  let v := Tab.get {} s.met.chans c
  if v.spans = 0 then 0 else (nearest (v.spans * 1000000000000) v.span).toNat

/-- The nominal voltage of a feeder's points in mV, that of its first MPOINT (DESIGN CHOICE, log 52). -/
def State.feederNominal (f : Nat) (s : State) : Option Nat :=
  ((s.recs (·.points)).find? (fun r => decide (r.feeder = f))).map (fun r => 1000 * r.nominal)

/-- A feeder's frequency and voltage loss at a whole second (R419). -/
def State.feederSecond (f : Nat) (s : State) : State :=
  match s.feederNominal f with
  | none => s
  | some nom =>
    let good := (List.range 3).find? (fun j => decide (nom ≤ 10 * (s.met.vrms[3 * f + j]?).getD 0))
    let was := (s.met.lost[f]?).getD 0
    match good with
    | some j =>
      let hz := s.freqOf (3 * f + j)
      let s := { s with met.freq := updAt s.met.freq f (fun _ => if 45000 ≤ hz ∧ hz ≤ 65000 then hz else 0), met.lost := updAt s.met.lost f (fun _ => 0) }
      if was = 0 then s else s.report 0x0E04 [(1, f), (4, was)]
    | none =>
      let s := { s with met.freq := updAt s.met.freq f (fun _ => 0), met.lost := updAt s.met.lost f (fun n => n + 1) }
      if was = 0 then ({ s with met.events := s.met.events ||| 4#32 }).report 0x0E03 [(1, f), (1, 7)] else s

/-- The values of one point at a whole second (R419–R421), `from_` the FRC in ns at which the second began. -/
def State.pointSecond (sats : Nat) (from_ : Nat) (r : PointRec) (s : State) : State :=
  let satd := r.channels.any (bit sats)
  let faulted := decide (r.sensor = 2) && r.used.any (bit s.met.bsSecond)
  let valid := (s.met.settled.elim false (fun t => decide (t ≤ from_))) && !satd && !faulted && s.met.calValid
  let s := if satd then { s with met.cntSat := incr s.met.cntSat } else s
  let irms := r.inputs.map (fun v => if v = 0xFF then 0 else s.rmsOf r.scale (r.channel v))
  s.updMp r.point fun (m : MetPoint) =>
    let p := meanPower m.sumP
    let q := meanPower m.sumQ
    let v := (meanPower m.sumS).toNat
    { m with
      p := p, q := q, s := v, pf := if v = 0 then 0 else Int.tdiv (p * 10000) v
      quadrant := if 0 ≤ q then (if 0 ≤ p then 0 else 1) else (if p < 0 then 2 else 3)
      creep := decide (m.creeps = m.blocks), valid := valid, runMax := max m.runMax v
      irms := irms
      sumP := 0, sumQ := 0, sumS := 0, blocks := 0, creeps := 0 }

/-- The import point's average (R265, R266): the samples of the window, newest first. -/
def State.energySecond (s : State) : State :=
  match s.cfg.image.bind (·.budget) with
  | none => s
  | some b =>
    let m := s.mp b.point
    let l := if m.valid then (m.p :: s.freg.energy).take b.window else s.freg.energy
    { s with freg.energy := l, freg.energyValid := m.valid
             freg.energyAvg := if l = [] then 0 else sumInt l / l.length }

/-- Runs of seconds in saturation and in bitstream fault are recorded once each (R431). -/
def State.runsSecond (sats : Nat) (s : State) : State :=
  let was := s.met.sat
  let bs := s.met.bsSecond
  let run := s.met.bsRun
  let s := { s with met.sat := sats, met.bsRun := bs, met.bsSecond := s.met.bsFault
                    met.events := s.met.events ||| BitVec.ofNat 32 (flag (decide (sats ≠ 0)) + 2 * flag (decide (bs ≠ 0))) }
  let s := s.each ((onesBelow 38 sats).filter (fun c => !bit was c)) (fun c s => s.report 0x0E01 [(1, c), (4, 1)])
  s.each ((onesBelow 8 bs).filter (fun c => !bit run c)) (fun c s => s.report 0x0E02 [(1, c), (4, 1)])

/-- The sums of the second begin again. -/
def State.endSecond (s : State) : State :=
  { s with met.satSeen := 0
           met.chans := Tab.mapVals {} (fun _ (v : MetChan) => { v with squares := 0, count := 0, span := 0, spans := 0 }) s.met.chans }

/-- METER_SECOND (R419–R421): a whole second of device time. -/
def execMeterSecond : State → Host.Outcome State Fault Refusal :=
  done fun s =>
    if !s.metering || !s.time.running then s
    else
      let s := s.mark markMeter perSec
      let sats := match s.diag.satChannel with | some c => setBit s.met.satSeen c | none => s.met.satSeen
      let from_ := s.ns - 1000000000
      let s := { s with met.vrms := (List.range 6).map (fun c => s.rmsOf 800000 c) }
      let s := s.each [0, 1] State.feederSecond
      let s := s.each (s.recs (·.points)) (State.pointSecond sats from_)
      ((s.runsSecond sats).applyCal).energySecond.endSecond

/-- The accumulators and maximum powers of every point. -/
def State.metCopy (s : State) : MetCopy :=
  { valid := true, time := s.now, accs := s.met.points.map (fun p => (p.1, p.2.acc)), maxp := s.met.points.foldl (fun t (p : Nat × MetPoint) => Tab.set 0 t p.1 p.2.maxp) [] }

/-- The checkpoint copy that a checkpoint takes: the one that START would not (R425). -/
def MetStore.nextCheck (m : MetStore) : Nat :=
  match m.checks with
  | a :: b :: _ => if a.valid && (!b.valid || decide (b.time ≤ a.time)) then 1 else 0
  | _ => 0

/-- METER_CHECKPOINT (R420, R425): a whole 10 s; the MRAM write fails where it has a status. -/
def execMeterCheckpoint (failure : Option (BitVec 8)) : State → Host.Outcome State Fault Refusal :=
  done fun s =>
    if !s.metering || !s.time.running then s
    else
      let s := s.mark 25 (10 * perSec)
      let s := { s with met.points := Tab.mapVals {} (fun _ (m : MetPoint) => { m with maxp := m.runMax, runMax := 0 }) s.met.points }
      let k := s.mets.nextCheck
      match failure with
      | some st =>
        ({ s with mets.checks := updAt s.mets.checks k (fun (c : MetCopy) => { c with valid := false }), met.events := s.met.events ||| 64#32 }).report 0x0E08
          [(1, k), (4, st.toNat)]
      | none => { s with mets.checks := s.mets.checks.set k s.metCopy, met.cntChecks := incr s.met.cntChecks }

/-- The bitstream pairs that points use (R413). -/
def State.pairUsed (n : Nat) (s : State) : Bool := (s.recs (·.points)).any (fun r => decide (r.sensor = 2) && r.used.contains n)

/-- BITSTREAM_FAULT (R413): 64 MCLK cycles of one level on MDATn. -/
def execBitstreamFault (pair : Fin 8) : State → Host.Outcome State Fault Refusal :=
  done fun s =>
    if !s.metering || !s.pairUsed pair.val || bit s.met.bsFault pair.val then s
    else { s with met.bsFault := setBit s.met.bsFault pair.val, met.bsSecond := setBit s.met.bsSecond pair.val, met.cntBs := incr s.met.cntBs
                  met.events := s.met.events ||| 2#32 }

/-- BITSTREAM_RECOVERED (R413): 1,024 cycles without such a run. -/
def execBitstreamRecovered (pair : Fin 8) : State → Host.Outcome State Fault Refusal :=
  done fun s =>
    if s.metering then { s with met.bsFault := s.met.bsFault &&& ((2 ^ 8 - 1) ^^^ 2 ^ pair.val) } else s

/-- SNAPSHOT_LATCH (R423): at the end of the sample in progress; samples end every 125 µs of the FRC (DESIGN CHOICE, log 52). -/
def State.latchSnapshot (s : State) : State :=
  if !s.metering then s
  else
    let f := ceilDiv s.ns 125000 * 125000
    { s with met.snap := s.met.points.map (fun p => (p.1, p.2.acc)), met.snapTime := s.time.timeAt (BitVec.ofNat 64 f), met.snapCal := s.met.calSeq
             met.snapSeq := (s.met.snapSeq + 1) % 65536, met.cntSnap := incr s.met.cntSnap }

/-- SNAPSHOT_LATCH (R423): a write of LATCH to MET_SNAP_CTL. -/
def execSnapshotLatch : State → Host.Outcome State Fault Refusal := done State.latchSnapshot

/-- What START takes from MRAM (R416, R425–R427): the calibration in force, the accumulators of the save's area 2, or else of
the later valid checkpoint, and the interval that is open from then. -/
def State.metStart (s : State) : State :=
  let s := match s.mets.newest with
    | some c => { s with met.cal := c.chans, met.calSeq := c.seq, met.calValid := true }
    | none => ({ s with met.events := s.met.events ||| 16#32 }).report 0x0E06 [(4, (s.mets.cal.filter (fun (c : Option CalCopy) => c.isSome)).length)]
  let later := s.mets.checks.foldl (fun (b : MetCopy) c => if c.valid && (!b.valid || decide (b.time < c.time)) then c else b) {}
  let src := if s.mets.area.valid then s.mets.area else later
  if !src.valid then s
  else
    let s := { s with met.points := src.accs.foldl (fun t (p : Nat × List Nat) =>
      Tab.set {} t p.1 { acc := p.2, maxp := Tab.get 0 src.maxp p.1 }) [] }
    let g : MetGap := match s.mets.gap with
      | some g => { g with maxp := src.maxp }
      | none => ⟨src.time, s.mets.area.valid, src.maxp⟩
    { s with mets.gap := some g, met.gapState := 1, met.gapSaved := g.saved, met.gapStart := secOf g.start % 2 ^ 32, mets.area := {} }

/-- A save takes the block in progress and freezes every accumulator (R426). -/
def State.metFreeze (blocks : List BlockIn) (s : State) : State :=
  if s.metering then { s.meterAll blocks with met.accumulating := false } else s

end Sys2Proof.Machine
end

