-- ==== Sys2Proof/Machine/Regs.lean ====
section
/-! DEFINITION. What the register maps share (R12–R14): words of a long value, windows of like registers, W1C, and how a
register write ends. -/

namespace Sys2Proof.Machine

/-- Word `i` of a long number, least significant word first (R13). -/
def wordOf (v i : Nat) : Word := BitVec.ofNat 32 (v / 2 ^ (32 * i))

/-- Word `i` of octets: octet 4i in bits 7:0. -/
def octetWord (b : List Octet) (i : Nat) : Word := BitVec.ofNat 32 (getLe b (4 * i) 4)

/-- A signed register of 32 bits, held within them. -/
def sword (v : Int) : Word := BitVec.ofNat 32 (sbits 32 (ssat 32 v))

/-- A number in a register of 32 bits, held within them. -/
def uword (v : Nat) : Word := BitVec.ofNat 32 (sat 32 v)

/-- An offset in an array of `count` windows of `stride` octets from `base`: the window's number and the offset within. -/
def window (base stride count off : Nat) : Option (Nat × Nat) :=
  if base ≤ off ∧ off < base + stride * count then some ((off - base) / stride, (off - base) % stride) else none

/-- Writing 1 clears a latched bit, writing 0 has no effect (Table 0-4). -/
def w1c (events : Word) (v : Nat) : Word := events &&& ~~~(BitVec.ofNat 32 v)

/-- The result codes a register write ends with (Table 18-4). -/
def wrOk : Nat := 0x00
/-- RIGHT. -/
def wrRight : Nat := 0x06
/-- ADDRESS. -/
def wrAddress : Nat := 0x07
/-- ACCESS. -/
def wrAccess : Nat := 0x08
/-- NOT_LEAD. -/
def wrNotLead : Nat := 0x09

/-- Who writes a register (R479): the session's slot and host, its rights, and whether it holds the diagnostic session. -/
structure Writer where
  slot : Nat
  rights : Nat
  diag : Bool
deriving DecidableEq, Repr

/-- A write that is taken where `ok` holds, and refused with ACCESS where a field is out of its range (Table 18-4). -/
def inRange (ok : Bool) (f : State → State) (s : State) : Nat × State := if ok then (wrOk, f s) else (wrAccess, s)

/-- A write that is taken. -/
def taken (s : State) : Nat × State := (wrOk, s)

/-- The outcome of a write to a register that has no writable field: ACCESS where it holds an LK field, otherwise ignored
(R14). -/
def readOnly (lk : Bool) (s : State) : Nat × State := if lk then (wrAccess, s) else (wrOk, s)

end Sys2Proof.Machine
end

