-- ==== Sys2Proof/Machine/RegsSky.lean ====
section
/-! DEFINITION. The register maps of SYS (Table 18-12), LAKE (Table 4-14), TRK (Table 5-12) and LOOP (Table 5-13). -/

namespace Sys2Proof.Machine

/-! ### SYS -/

/-- A SYS register's word; none for an unassigned offset (Table 18-12). -/
def readSys (off : Nat) (s : State) : Option Word :=
  match off with
  | 0x00 => some (pack [(0, 16, 0x0960), (16, 4, s.keys.fuse.revision), (20, 1, flag s.keys.fuse.extended)])
  | 0x04 => some (pack [(0, 3, s.sys.mode.code), (3, 1, flag s.sys.saving), (4, 2, s.unitNo), (6, 1, flag s.pair.claim),
      (7, 1, flag s.sys.degraded), (8, 3, s.sys.restricted), (11, 1, flag s.pair.peerClaim)])
  | 0x08 => some (pack [(0, 8, s.sys.cause), (8, 8, s.sys.succession), (16, 16, sat 16 s.sys.duration)])
  | 0x0C => some s.sys.events
  | 0x10 => some (s.tres.frozen.setWidth 32)
  | 0x14 => some (uword s.ao.optime)
  | 0x18 => some (pack [(0, 24, s.ao.pwrcyc)])
  | 0x1C => some (pack [(0, 16, s.ao.restarts)])
  | 0x20 => some (pack [(0, 1, s.cfg.active), (1, 2, s.cfg.pending.elim 0 (· + 1)), (3, 1, flag s.cfg.selectorLost),
      (4, 3, s.cfg.outcome), (8, 4, s.cfg.errorA), (12, 4, s.cfg.errorB)])
  | 0x24 => some (uword s.cfg.detailA)
  | 0x28 => some (uword s.cfg.detailB)
  | 0x2C => some (uword (s.cfg.image.elim 0 (fun i => i.head.generation)))
  | 0x30 => some (pack [(0, 12, s.sys.selftest)])
  | 0x34 => some (pack [(0, 16, s.sys.saveSeq), (16, 7, s.sys.saveAreas), (24, 3, s.sys.saveMode)])
  | 0x38 => some (uword s.sys.digestTick)
  | _ =>
    if off % 4 ≠ 0 then none
    else if 0x40 ≤ off ∧ off < 0x60 then some (octetWord (beBytes 32 s.sys.dspDigest.toNat) ((off - 0x40) / 4))
    else if 0x60 ≤ off ∧ off < 0x80 then some (octetWord (beBytes 32 s.sys.xarbDigest.toNat) ((off - 0x60) / 4))
    else if 0x80 ≤ off ∧ off < 0xB0 then
      some (octetWord (beBytes 48 (s.cfg.image.elim 0 (fun i => i.head.digest.toNat))) ((off - 0x80) / 4))
    else none

/-- A long value's first offset and words: the digests of SYS. -/
def wideSys (off : Nat) : Option (Nat × Nat) :=
  if 0x40 ≤ off ∧ off < 0x60 then some (0x40, 8)
  else if 0x60 ≤ off ∧ off < 0x80 then some (0x60, 8)
  else if 0x80 ≤ off ∧ off < 0xB0 then some (0x80, 12)
  else none

/-- A write to a SYS register (Table 18-12). -/
def writeSys (off v : Nat) (s : State) : Nat × State :=
  match off with
  | 0x0C => taken { s with sys.events := w1c s.sys.events v }
  | 0x04 | 0x2C => readOnly true s
  | _ => readOnly false s

/-! ### LAKE -/

/-- A GLONASS frequency number as registers show it. -/
def kIndex (g : SigId) : Nat := if g.signal = 11 ∨ g.signal = 12 then (g.k + 7).toNat else 0

/-- One flag of each band, band b at bit b. -/
def State.bandBits (f : Band → Bool) (s : State) : Nat :=
  flag (f (s.band 0)) + 2 * flag (f (s.band 1)) + 4 * flag (f (s.band 2))

/-- The state of a slot as the slot view numbers it. -/
def SlotState.code : SlotState → Nat
  | .idle => 0 | .search => 1 | .verify => 2 | .waitChannel => 3 | .handover => 4

/-- A register of a slot's view (Table 4-14). -/
def LakeSlot.view (v : LakeSlot) : Nat → Option Word
  | 0x0 => some (pack [(0, 3, v.req.sig.system), (8, 8, v.req.sig.sv), (16, 5, v.req.sig.signal), (24, 4, kIndex v.req.sig)])
  | 0x4 => some (pack [(0, 3, v.state.code), (4, 2, v.req.priority), (6, 2, v.req.kind), (8, 8, v.ncDone), (16, 3, v.outcome)])
  | 0x8 => some (sword v.doppler)
  | 0xC => some (pack [(0, 16, v.peak), (16, 16, v.req.tag)])
  | _ => none

/-- A bin of the latched spectrum as 16 bits. -/
def State.specBin (i : Nat) (s : State) : Nat := sbits 16 (ssat 16 ((s.lake.spec[i]?).getD 0))

/-- A LAKE register's word; none for an unassigned offset (Table 4-14). -/
def readLake (off : Nat) (s : State) : Option Word :=
  match off with
  | 0x00 => some (pack [(0, 7, (s.lake.slots.filter (fun p => decide (p.2.state ≠ .idle))).length), (7, 1, flag s.clk.lake),
      (8, 6, s.lake.fifo.length)])
  | 0x04 => some (pack [(0, 1, flag s.lake.autoAid), (1, 1, flag s.lake.xcorrCheck)])
  | 0x08 => some (pack [(0, 10, s.lake.detect), (16, 10, s.lake.verify)])
  | 0x0C => some (pack [(0, 19, s.lake.sigEn)])
  | 0x10 => some s.lake.events
  | 0x14 => some (pack [(0, 3, s.bandBits (·.narrowband)), (3, 3, s.bandBits (·.wideband)), (6, 3, s.bandBits (·.unmitigated)),
      (9, 1, flag s.lake.pulsed), (10, 1, flag s.lake.lowJammed),
      (11, 3, s.bandBits (fun b => b.notches.any (fun n => decide (n.state = 2))))])
  | 0x20 => some s.lcnt.done
  | 0x24 => some s.lcnt.confirmed
  | 0x28 => some s.lcnt.notFound
  | 0x2C => some s.lcnt.verifyFailed
  | 0x30 => some s.lcnt.xcorr
  | 0x34 => some s.lcnt.noChannel
  | 0x38 => some s.lcnt.refused
  | 0x3C => some s.lcnt.parity
  | 0x40 => some (pack [(0, 2, s.biasMode), (8, 7, s.unitRec.elim 0 (·.biasLimit))])
  | 0x44 => some (pack [(0, 3, s.lake.ant.code), (4, 3, s.lake.shorts), (8, 8, s.lake.antCurrent), (16, 12, s.lake.antVoltage)])
  | 0x48 => some 0#32
  | 0x60 => some (pack [(0, 3, s.lake.notchEn), (4, 3, s.lake.notchWidth)])
  | 0xA0 => some (pack [(0, 1, flag s.lake.blankEn), (8, 5, s.lake.blankThreshold), (16, 8, s.lake.blankPost)])
  | 0xA4 => some (pack [(0, 20, s.lake.blankFraction)])
  | 0xA8 => some s.lake.blankPulses
  | 0xB0 => some (pack [(0, 6, s.lake.monPeriod), (8, 6, s.lake.monEngage), (16, 6, s.lake.monWideband)])
  | 0xC0 => some (pack [(0, 2, s.lake.specBand)])
  | 0xC4 => some (pack [(0, 16, s.lake.specSeq), (16, 16, s.lake.specWidth)])
  | _ =>
    if off % 4 ≠ 0 then none
    else if 0x50 ≤ off ∧ off < 0x5C then
      let b := s.band ((off - 0x50) / 4)
      some (pack [(0, 8, b.gain), (8, 8, b.reference), (16, 8, b.full)])
    else if 0x70 ≤ off ∧ off < 0xA0 then
      let i := (off - 0x70) / 4
      let n := ((s.band (i / 4)).notches[i % 4]?).getD {}
      some (pack [(0, 2, n.state), (2, 6, n.depth), (8, 16, sbits 16 n.offset)])
    else if 0xB4 ≤ off ∧ off < 0xC0 then
      let b := s.band ((off - 0xB4) / 4)
      some (pack [(0, 16, b.margin), (16, 16, sbits 16 b.lineOffset)])
    else if 0x1000 ≤ off ∧ off < 0x3000 then
      let i := (off - 0x1000) / 4
      some (pack [(0, 16, s.specBin (2 * i)), (16, 16, s.specBin (2 * i + 1))])
    else
      match window 0x4000 16 96 off with
      | some (n, r) => (s.slot n).view r
      | none => none

/-- The signal codes whose system the STATION record enables (LAKE_SIG_EN). -/
def State.enabledSignals (s : State) : Nat :=
  ((List.range 19).filter (fun n => bit (s.station.elim 0 (·.constellations)) (sigRow n).system)).foldl (fun a n => a + 2 ^ n) 0

/-- The pair-wide registers of LAKE (R115). -/
def pairLake (off : Nat) : Bool := [0x0C, 0x60, 0xA0, 0xB0].contains off

/-- The fields of a pair-wide LAKE register lie in their ranges. -/
def pairLakeOk (off v : Nat) : Bool :=
  match off with
  | 0x60 => decide (bits v 4 3 ≤ 5)
  | 0xA0 => decide (10 ≤ bits v 8 5 ∧ bits v 8 5 ≤ 30)
  | 0xB0 => decide (1 ≤ bits v 0 6 ∧ bits v 0 6 ≤ 60) && decide (12 ≤ bits v 8 6 ∧ bits v 8 6 ≤ 60) &&
      decide (4 ≤ bits v 16 6 ∧ bits v 16 6 ≤ 40)
  | _ => true

/-- A pair-wide LAKE register takes its value (R115): disabling a signal cancels its searches and releases its channels, clearing a
notch enable releases the band's notches, and a new width those that now lie too close (R94). -/
def applyLake (off v : Nat) (s : State) : State :=
  match off with
  | 0x0C =>
    let en := Nat.land (bits v 0 19) s.enabledSignals
    let s := { s with lake.sigEn := en }
    (s.cancelWhere (fun q => !bit en q.sig.signal)).takeRequests.releaseDisabled
  | 0x60 =>
    let s := { s with lake.notchEn := bits v 0 3, lake.notchWidth := bits v 4 3 }
    let s := s.each ((List.range 3).filter (fun b => !bit v b)) (fun b s => s.each (List.range 4) (fun n s => s.releaseNotch b n))
    s.each [0, 1, 2] (fun b s => s.closeNotches b)
  | 0xA0 => { s with lake.blankEn := bit v 0, lake.blankThreshold := bits v 8 5, lake.blankPost := bits v 16 8 }
  | 0xB0 => { s with lake.monPeriod := bits v 0 6, lake.monEngage := bits v 8 6, lake.monWideband := bits v 16 6 }
  | _ => s

/-- A write to a LAKE register that is not pair-wide. -/
def writeLake (off v : Nat) (s : State) : Nat × State :=
  match off with
  | 0x04 => taken { s with lake.autoAid := bit v 0, lake.xcorrCheck := bit v 1 }
  | 0x08 => inRange (decide (60 ≤ bits v 0 10 ∧ bits v 0 10 ≤ 300) && decide (60 ≤ bits v 16 10 ∧ bits v 16 10 ≤ 300))
      (fun s => { s with lake.detect := bits v 0 10, lake.verify := bits v 16 10 }) s
  | 0x10 => taken { s with lake.events := w1c s.lake.events v }
  | 0x48 => taken (if bit v 0 then s.antRetry else s)
  | 0xC0 => inRange (decide (bits v 0 2 ≤ 2)) (State.writeSpecSel v) s
  | 0x40 => readOnly true s
  | _ => readOnly false s

/-! ### TRK -/

/-- The state of a channel as registers number it. -/
def ChanState.code : ChanState → Nat
  | .free => 0 | .pullIn => 1 | .locked => 2 | .synced => 3 | .coast => 4

/-- The channels in a state. -/
def State.chanCount (c : ChanState) (s : State) : Nat := (s.trk.channels.filter (fun p => decide (p.2.state = c))).length

/-- Settings as TRK_SIGCFGn and TRK_CHc_CFG show them. -/
def ChanCfg.word (c : ChanCfg) : Word := pack [(0, 7, c.spacing), (8, 7, c.vspacing), (16, 2, c.disc), (18, 1, c.comp), (20, 5, c.coh)]

/-- A register of a channel's window (Table 5-12); a FREE channel reads 0 (DESIGN CHOICE, log 80). -/
def State.chanWord (c r : Nat) (s : State) : Option Word :=
  let ch := s.chan c
  let carr := s.obj (2 * c)
  let code := s.obj (2 * c + 1)
  if r % 4 ≠ 0 ∨ 0x2C < r then none
  else if ch.state = ChanState.free then some 0#32
  else
    match r with
    | 0x00 => some (pack [(0, 3, ch.sig.system), (8, 8, ch.sig.sv), (16, 5, ch.sig.signal), (24, 4, kIndex ch.sig)])
    | 0x04 => some (pack [(0, 3, ch.state.code), (3, 1, flag ch.half), (4, 1, flag ch.slip), (5, 1, flag ch.multipath),
        (6, 1, flag (s.bwLimited c)), (7, 1, flag (carr.clamped || code.clamped)),
        (8, 1, flag ch.onData), (9, 1, flag ch.noiseTap), (10, 1, flag ch.cfgChanged), (11, 1, flag carr.lock),
        (12, 1, flag code.lock), (16, 5, ch.coh)])
    | 0x08 => some (ch.cfgNext.getD ch.cfg).word
    | 0x0C => some (pack [(0, 10, ch.cn0)])
    | 0x10 => some (sword ch.doppler)
    | 0x14 => some (pack [(0, 10, ch.codePhase / 2 ^ 22 % 1024), (10, 22, ch.codePhase / 2 ^ 32 % ch.compChips)])
    | 0x18 => some (wordOf (sbits 64 ch.reported) 0)
    | 0x1C => some (wordOf (sbits 64 ch.reported) 1)
    | 0x20 => some (uword ch.lockTime)
    | 0x24 => some (pack [(0, 8, ch.slips)])
    | 0x28 => some (pack [(8, 8, sbits 8 (ssat 8 (ch.pli / 512))), (16, 16, sbits 16 (ssat 16 ch.mp))])
    | _ => some (pack [(0, 16, sat 16 (carr.bwEff / 10)), (16, 16, sat 16 code.bwEff)])

/-- A TRK register's word; none for an unassigned offset (Table 5-12). -/
def readTrk (off : Nat) (s : State) : Option Word :=
  match off with
  | 0x00 => some (pack [(0, 9, s.chanCount .pullIn), (16, 9, s.chanCount .locked)])
  | 0x04 => some (pack [(0, 9, s.chanCount .synced), (16, 9, s.chanCount .coast)])
  | 0x08 => some (pack [(0, 8, s.trk.fllTime), (8, 8, s.trk.pullinMax), (16, 8, s.trk.coastMax)])
  | 0x0C => some (pack [(0, 8, s.trk.lockCn0), (8, 8, s.trk.lossCn0), (16, 8, s.trk.pliLock), (24, 8, s.trk.pliSlip)])
  | 0x10 => some (pack [(0, 8, s.trk.mpThreshold)])
  | 0x14 => some s.trk.events
  | 0x20 => some s.trk.locks
  | 0x24 => some s.trk.slips
  | 0x28 => some s.trk.halfSlips
  | 0x2C => some s.trk.coasts
  | 0x30 => some s.trk.pullinFailed
  | 0x34 => some s.trk.ecc
  | _ =>
    if off % 4 ≠ 0 then none
    else if 0x40 ≤ off ∧ off < 0x8C then (s.trk.sigcfg[(off - 0x40) / 4]?).map ChanCfg.word
    else
      match window 0x1000 64 288 off with
      | some (c, r) => s.chanWord c r
      | none => none

/-- A long value's first offset and words: the carrier phase of a channel. -/
def wideTrk (off : Nat) : Option (Nat × Nat) :=
  match window 0x1000 64 288 off with
  | some (c, r) => if r = 0x18 ∨ r = 0x1C then some (0x1018 + 64 * c, 2) else none
  | none => none

/-- The pair-wide registers of TRK (Table 18-11). -/
def pairTrk (off : Nat) : Bool := [0x08, 0x0C, 0x10].contains off || (decide (0x40 ≤ off ∧ off < 0x8C))

/-- The fields of a pair-wide TRK register lie in their ranges and orderings. -/
def pairTrkOk (off v : Nat) : Bool :=
  match off with
  | 0x08 => decide (5 ≤ bits v 0 8 ∧ bits v 0 8 ≤ 100) && decide (10 ≤ bits v 8 8 ∧ bits v 8 8 ≤ 250) &&
      decide (bits v 0 8 + 10 ≤ bits v 8 8) && decide (bits v 16 8 ≤ 100)
  | 0x0C => decide (30 ≤ bits v 0 8 ∧ bits v 0 8 ≤ 90) && decide (20 ≤ bits v 8 8 ∧ bits v 8 8 ≤ 80) &&
      decide (bits v 8 8 < bits v 0 8) && decide (128 ≤ bits v 16 8 ∧ bits v 16 8 ≤ 250) && decide (bits v 24 8 ≤ 200) &&
      decide (bits v 24 8 < bits v 16 8)
  | 0x10 => decide (3 ≤ bits v 0 8 ∧ bits v 0 8 ≤ 128)
  | _ => let n := (off - 0x40) / 4; chanCfgOk ⟨(sigRow n).system, 6, n, 0⟩ (chanCfgOf v)

/-- A pair-wide TRK register takes its value. -/
def applyTrk (off v : Nat) (s : State) : State :=
  match off with
  | 0x08 => { s with trk.fllTime := bits v 0 8, trk.pullinMax := bits v 8 8, trk.coastMax := bits v 16 8 }
  | 0x0C => { s with trk.lockCn0 := bits v 0 8, trk.lossCn0 := bits v 8 8, trk.pliLock := bits v 16 8, trk.pliSlip := bits v 24 8 }
  | 0x10 => { s with trk.mpThreshold := bits v 0 8 }
  | _ => { s with trk.sigcfg := updAt s.trk.sigcfg ((off - 0x40) / 4) (fun _ => chanCfgOf v) }

/-- A write to a TRK register that is not pair-wide; TRK_CHc_CFG may refuse it (R139). -/
def writeTrk (off v : Nat) (s : State) : Nat × State :=
  if off = 0x14 then taken { s with trk.events := w1c s.trk.events v }
  else
    match window 0x1000 64 288 off with
    | some (c, r) =>
      if r = 0x08 then
        let w := s.writeChCfg c v
        (if w.1 then wrOk else wrAccess, w.2)
      else readOnly false s
    | none => readOnly false s

/-! ### LOOP -/

/-- A value of a loop object, held in 2^-20 of its unit, as its register shows it. -/
def loopWord (v : Int) : Word := sword (v / loopOne)

/-- A register of a loop object's window (Table 5-13); the objects of a FREE channel read 0. -/
def State.objWord (o r : Nat) (s : State) : Option Word :=
  let v := s.obj o
  if r % 4 ≠ 0 then none
  else if decide (o < 576) && decide ((s.chan (o / 2)).state = ChanState.free) then some 0#32
  else
    match r with
    | 0x00 => some (pack [(0, 3, objKind o), (3, 1, flag v.lock), (4, 1, flag v.clamp1), (5, 1, flag v.clamp2),
        (6, 1, flag v.limited), (7, 1, flag v.fellBack)])
    | 0x04 => some (uword v.bwEff)
    | 0x08 => some (loopWord v.setpoint)
    | 0x0C => some (loopWord v.output)
    | 0x10 => some (loopWord v.i1)
    | 0x14 => some (if (s.loopParams (objKind o)).order = 2 then 0#32 else loopWord v.i2)
    | 0x18 => some (loopWord v.error)
    | _ => some v.periods

/-- A LOOP register's word; none for an unassigned offset (Table 5-13). -/
def readLoop (off : Nat) (s : State) : Option Word :=
  match off with
  | 0x00 => some (pack [(0, 10, s.loop.util), (16, 10, s.loop.active)])
  | 0x04 => some (pack [(0, 10, s.loop.peak)])
  | 0x08 => some s.loop.events
  | 0x10 => some s.loop.fallback
  | 0x14 => some s.loop.overrun
  | 0x18 => some s.loop.clamp
  | _ =>
    if off % 4 ≠ 0 then none
    else if 0x20 ≤ off ∧ off < 0x38 then
      let p := s.loopParams ((off - 0x20) / 4)
      some (pack [(0, 2, p.order), (2, 7, p.k), (9, 1, flag p.fixed), (10, 1, flag p.defaulted), (16, 11, p.offset)])
    else if 0x40 ≤ off ∧ off < 0x58 then some (uword (s.loopParams ((off - 0x40) / 4)).bandwidth)
    else if 0x60 ≤ off ∧ off < 0x78 then
      let p := s.loopParams ((off - 0x60) / 4)
      some (pack [(0, 16, p.clamp1), (16, 16, p.clamp2)])
    else
      match window 0x1000 32 580 off with
      | some (o, r) => s.objWord o r
      | none => none

/-- A write to a LOOP register. -/
def writeLoop (off v : Nat) (s : State) : Nat × State :=
  if off = 0x08 then taken { s with loop.events := w1c s.loop.events v }
  else readOnly (decide (0x20 ≤ off ∧ off < 0x78)) s

end Sys2Proof.Machine
end

