-- ==== Sys2Proof/Machine/RegsFleet.lean ====
section
/-! DEFINITION. The register maps of DSP (Table 9-8), XARB (Table 10-7), PROF (Table 11-9) and FSTOP (Table 11-10). Status
reads see the fleet as the last publication left it (R31); the core queues and cores are the unit's own (R264). -/

namespace Sys2Proof.Machine

/-- The entries of a table from key `k` on replaced by those of another. -/
def tabFrom {α : Type} (k : Nat) (a b : Tab α) : Tab α := a.filter (fun p => decide (p.1 < k)) ++ b.filter (fun p => decide (k ≤ p.1))

/-- What a status read sees (R31, R264). -/
def State.shown (s : State) : State :=
  { s with fleet.xarb := s.pub.xarb, fleet.prof := s.pub.prof
           fleet.dsp := { s.pub.dsp with queues := tabFrom 28 s.pub.dsp.queues s.fleet.dsp.queues
                                         workers := tabFrom 256 s.pub.dsp.workers s.fleet.dsp.workers } }

/-! ### DSP -/

/-- The queue exists: it has a record, or is a core queue. -/
def State.queueExists (q : Nat) (s : State) : Bool := decide (28 ≤ q) || (s.queueGeo q).isSome

/-- A charging queue (Table 3-14). -/
def State.charging (q : Nat) (s : State) : Bool := (s.queueGeo q).elim false (fun r => bit r.flags 0)

/-- Two bins of a queue's histogram. -/
def binWord (w : WaitStat) (j : Nat) : Word := pack [(0, 16, (w.bins[2 * j]?).getD 0), (16, 16, (w.bins[2 * j + 1]?).getD 0)]

/-- A register of queue `q`'s window, in the published state (Table 9-8). -/
def State.queueWord (q r : Nat) (s : State) : Option Word :=
  let w := Tab.get {} s.freg.waits q
  let v := s.queue q
  if r % 4 ≠ 0 then none
  else
    match r with
    | 0x00 => some (pack [(0, 1, flag (s.queueExists q)), (1, 1, flag (s.charging q)),
        (2, 1, flag (decide (q = s.resolutionQueue) && (s.queueGeo q).isSome)), (3, 1, flag v.closing),
        (4, 4, (s.queueGeo q).elim 0 (·.priority)), (8, 4, if 28 ≤ q then 8 else (s.queueGeo q).elim 0 (·.capLog))])
    | 0x04 => some (pack [(0, 16, (s.queueGeo q).elim 0 (·.affWait)), (16, 16, (s.queueGeo q).elim 0 (·.affWindow))])
    | 0x08 => some (pack [(0, 13, v.depth), (16, 13, s.credit q), (29, 1, flag (s.fleet.dsp.energyMask && s.charging q))])
    | 0x0C => some (pack [(0, 13, v.ring.length), (16, 9, (s.services.filter (fun p => decide (p.2.desc.queue = q))).length)])
    | 0x10 => some (uword (w.sum / max 1 w.count))
    | 0x14 => some (uword w.max)
    | 0x18 => some (pack [(0, 16, w.corrected), (16, 16, w.discarded)])
    | 0x3C => some (uword (((selectionOrder v.stored).head?).elim 0 (fun p => p.2.task)))
    | _ => some (binWord w ((r - 0x1C) / 4))

/-- The tenths of a percent of the last 60 s that a worker was busy, at `ms`. -/
def WorkStat.busy (w : WorkStat) (ms : Nat) : Nat :=
  let within := fun (p : Nat × Nat) => min ms p.2 - max (ms - 60000) p.1
  ((((w.since.toList.map (fun t => (t, ms))) ++ w.spans).map within).foldl (· + ·) 0) / 60

/-- A register of worker `k`'s window, in the published state (Table 9-8). -/
def State.workerWord (k r : Nat) (s : State) : Option Word :=
  let w := s.wk k
  match r with
  | 0x0 => some (pack [(0, 1, flag w.ask.isSome), (1, 1, flag w.presented.isSome), (2, 1, w.presented.elim 0 (fun t => flag t.confirmed)),
      (3, 1, flag w.retreat.isSome), (4, 1, flag w.suspended), (8, 5, w.presented.elim 0 (fun t => t.desc.queue)), (16, 8, w.progress),
      (24, 8, w.ask.elim 0 (fun a => sat 8 ((tickOf s.now - a.2) / 100)))])
  | 0x4 => some (uword (w.presented.elim 0 (fun t => t.desc.task)))
  | 0x8 => some (uword w.lastMask)
  | 0xC => some (pack [(0, 10, (Tab.get {} s.freg.works k).busy (msOf s.now)), (16, 16, (Tab.get {} s.freg.works k).given)])
  | _ => none

/-- A descriptor of the flow is held under R252. -/
def State.affHeldNow (f : Nat) (s : State) : Bool :=
  (s.flow f).holdSince.elim false (fun t => s.fleet.dsp.queues.any (fun p =>
    p.2.ring.any (fun d => d.elim false (fun d => decide (d.flow = f))) &&
    decide (msOf s.now - t < (s.queueGeo p.1).elim 0 (·.affWait))))

/-- The DSP_FLOWf register, in the published state. -/
def State.flowWord (f : Nat) (s : State) : Word :=
  pack [(0, 1, flag (s.flowBusy f)), (1, 1, flag (s.flow f).locked.isSome), (2, 1, flag (s.affHeldNow f)), (8, 9, (s.flow f).last.getD 0x1FF)]

/-- A DSP register's word; none for an unassigned offset (Table 9-8). -/
def readDsp (off : Nat) (s : State) : Option Word :=
  let p := s.shown
  let budget := s.cfg.image.bind (·.budget)
  match off with
  | 0x00 => some (pack [(0, 14, (p.fleet.dsp.queues.map (fun q => q.2.depth)).foldl (· + ·) 0), (14, 1, flag p.fleet.dsp.energyMask),
      (16, 9, (p.fleet.dsp.workers.filter (fun w => decide (w.1 < 256) && w.2.ask.isSome)).length),
      (25, 4, (p.fleet.dsp.workers.filter (fun w => decide (256 ≤ w.1) && w.2.ask.isSome)).length)])
  | 0x04 => some s.freg.dspEvents
  | 0x08 => some 0#32
  | 0x0C => some 0#32
  | 0x10 => some (pack [(0, 20, sat 20 (s.freg.energyAvg.toNat / 100)), (20, 1, flag p.fleet.dsp.energyMask), (21, 1, flag budget.isSome),
      (22, 1, flag (budget.isSome && !s.freg.energyValid))])
  | 0x14 => some (uword (budget.elim 0 (·.cap)))
  | 0x18 => some (uword (budget.elim 0 (fun b => b.cap - b.hysteresis)))
  | 0x1C => some (pack [(0, 10, budget.elim 0 (·.window)), (16, 5, budget.elim 0 (·.point))])
  | 0x20 => some s.freg.submitted
  | 0x24 => some s.freg.refused
  | 0x28 => some s.freg.given
  | 0x2C => some s.freg.done
  | 0x30 => some s.freg.interrupted
  | 0x34 => some s.freg.fired
  | 0x38 => some s.freg.coalesced
  | 0x3C => some s.freg.discarded
  | 0x40 => some s.freg.affHeld
  | 0x44 => some s.freg.affExpired
  | 0x48 => some s.freg.lookahead
  | 0x50 => some (pack [(0, 5, s.freg.peekQueue), (16, 12, s.freg.peekIndex)])
  | 0x54 => some (pack [(0, 1, flag s.freg.peekValid), (16, 13, s.freg.peekDepth)])
  | _ =>
    if off % 4 ≠ 0 then none
    else if 0x60 ≤ off ∧ off < 0xA0 then some (if s.freg.peekValid then octetWord s.freg.peek ((off - 0x60) / 4) else 0#32)
    else if 0x4000 ≤ off ∧ off < 0x4FFC then some (p.flowWord ((off - 0x4000) / 4))
    else match window 0x1000 64 32 off with
      | some (q, r) => p.queueWord q r
      | none =>
        match window 0x2000 16 264 off with
        | some (k, r) => p.workerWord k r
        | none => none

/-- A write to a DSP register (R271, R479). -/
def writeDsp (off v : Nat) (s : State) : Nat × State :=
  match off with
  | 0x04 => taken { s with freg.dspEvents := w1c s.freg.dspEvents v }
  | 0x08 => if s.isLead then taken (s.writeFlush v) else (wrNotLead, s)
  | 0x0C => taken (if bit v 0 then s.clearWaits else s)
  | 0x50 => taken (s.writePeekSel v)
  | 0x10 | 0x14 | 0x18 | 0x1C => readOnly true s
  | _ => readOnly ((window 0x1000 64 32 off).elim false (fun p => decide (p.2 < 8))) s

/-! ### XARB -/

/-- A holder as registers number it: an orphan hold is 0x1FE. -/
def holderNo (h : Nat) : Nat := if 0x200 ≤ h then 0x1FE else h

/-- Every span that is held. -/
def Xarb.heldSpans (x : Xarb) : List Nat :=
  ((x.sessions.flatMap (fun p => p.2.held ++ p.2.retreat.elim [] (·.spans))) ++
    ((x.guests.filter (fun p => decide (p.2.state ≠ 0))).map (fun p => p.2.span)) ++
    (x.orphans.flatMap (fun p => p.2.elim [] (·.spans)))).eraseDups

/-- XARB_QUOTAc, in the published state. -/
def State.quotaWord (c : Nat) (s : State) : Word :=
  pack [(0, 8, (s.fleet.xarb.used[c]?).getD 0), (8, 8, (s.classRec c).elim 0 (·.quota)), (16, 6, (s.classRec c).elim 0 (·.window)),
    (22, 1, flag ((s.fleet.xarb.masked[c]?).getD false))]

/-- A XARB_GUESTg register, in the published state. -/
def State.guestWord (g r : Nat) (s : State) : Option Word :=
  let v := Tab.get {} s.fleet.xarb.guests g
  match r with
  | 0 => some (pack [(0, 13, v.span), (16, 6, v.cell), (24, 2, v.state)])
  | 4 => some (pack [(0, 8, v.session), (8, 2, v.cls), (16, 16, if v.state = 0 then 0 else sat 16 (secBetween v.since s.now))])
  | _ => none

/-- A XARB_SESSn register, in the published state. -/
def State.arbWord (n r : Nat) (s : State) : Option Word :=
  let x := s.xs n
  match r with
  | 0x0 => some (pack [(0, 4, x.cause), (4, 2, x.cls), (6, 1, flag x.override), (7, 1, flag (s.rs n).audit.hold), (8, 1, flag x.overstayed),
      (9, 1, flag x.pending.isSome), (10, 1, flag x.resolving), (11, 1, flag (Tab.get none s.fleet.xarb.orphans n).isSome), (16, 16, sat 16 x.age)])
  | 0x4 => some (pack [(0, 14, x.held.getLast?.getD 0x3FFF), (16, 6, x.held.length), (24, 8, x.serial)])
  | 0x8 => some (pack [(0, 14, x.blocked.getD 0x3FFF), (16, 9, x.waits)])
  | 0xC => some (pack [(0, 6, x.route.elim 0 (·.id)), (8, 5, x.index), (16, 6, x.ahead)])
  | _ => none

/-- The XARB_SPANs register, in the published state. -/
def State.spanWord (x : Nat) (s : State) : Word :=
  let hs := s.holders x
  let st := if hs = [] then (if s.spanRec x = none then 3 else 0)
    else if s.pub.covered.contains x || hs.any (fun h => decide (0x100 ≤ h)) then 2 else 1
  let fl := (s.spanRec x).elim 0 (·.flags)
  pack [(0, 2, st), (2, 3, sat 3 hs.length), (5, 3, (s.spanRec x).elim 0 (·.capacity)), (8, 9, hs.head?.elim 0x1FF holderNo),
    (17, 1, flag (s.foreign x && hs.any (fun h => decide (h < 0x100)))), (18, 1, flag (bit fl 2)), (19, 1, flag (bit fl 0)),
    (20, 1, flag (bit fl 1)), (21, 1, flag (bit fl 3))]

/-- A XARB register's word; none for an unassigned offset (Table 10-7). -/
def readXarb (off : Nat) (s : State) : Option Word :=
  let p := s.shown
  let x := p.fleet.xarb
  match off with
  | 0x00 => some (pack [(0, 14, x.heldSpans.length), (16, 9, (x.sessions.filter (fun e => e.2.blocked.isSome)).length),
      (25, 5, (x.guests.filter (fun e => decide (e.2.state ≠ 0))).length), (30, 1, flag x.alarm)])
  | 0x04 => some s.freg.xarbEvents
  | 0x08 => some (p.quotaWord 0)
  | 0x0C => some (p.quotaWord 1)
  | 0x10 => some 0#32
  | 0x14 => some 0#32
  | 0x20 => some s.freg.grants
  | 0x24 => some s.freg.contested
  | 0x28 => some s.freg.routes
  | 0x2C => some s.freg.overstays
  | 0x30 => some s.freg.cycles
  | 0x34 => some s.freg.retreats
  | 0x38 => some s.freg.noEscapes
  | 0x3C => some s.freg.forced
  | 0x40 => some s.freg.guestOut
  | 0x44 => some s.freg.guestIn
  | 0x50 => some (pack [(0, 9, x.cycle.length), (16, 8, x.cycleVictim.getD 0xFF), (24, 2, x.cycleState)])
  | _ =>
    if off % 4 ≠ 0 then none
    else if 0x60 ≤ off ∧ off < 0xA0 then
      some (octetWord ((x.cycle.take 64).map (BitVec.ofNat 8) ++ List.replicate (64 - min 64 x.cycle.length) 0xFF#8) ((off - 0x60) / 4))
    else if 0x8000 ≤ off ∧ off < 0x10000 then some (p.spanWord ((off - 0x8000) / 4))
    else match window 0x100 8 16 off with
      | some (g, r) => p.guestWord g r
      | none =>
        match window 0x1000 16 256 off with
        | some (n, r) => p.arbWord n r
        | none => none

/-- A write to a XARB register (R304, R479): XARB_CLASS_SET and XARB_ALARM_CLR are refused at a standby. -/
def writeXarb (off v : Nat) (s : State) : Nat × State :=
  match off with
  | 0x04 => taken { s with freg.xarbEvents := w1c s.freg.xarbEvents v }
  | 0x10 =>
    if !s.isLead then (wrNotLead, s)
    else
      let w := s.writeClassSet v
      (if w.1 then wrOk else wrAccess, w.2)
  | 0x14 => if !s.isLead then (wrNotLead, s) else taken (if bit v 0 then { s with inp.alarmClr := true } else s)
  | 0x08 | 0x0C => readOnly true s
  | _ => readOnly (decide (0x8000 ≤ off)) s

/-! ### PROF -/

/-- The state of a session as PROF_SESSn numbers it. -/
def ProfState.code : ProfState → Nat
  | .none => 0 | .standing => 1 | .moving => 2 | .stopping => 3 | .stopped => 4 | .resuming => 5

/-- The plan end in mm along the route: of a plan pulled back to 60 s, where that plan ends (R308). -/
def ProfSess.goal (p : ProfSess) : Option Int :=
  if p.replan.isSome then p.latest.map (fun q => q.along + planDist q.segs / 1000000) else p.planEnd

/-- A register of session `n`'s window, in the published state (Table 11-9). -/
def State.profWord (n r : Nat) (s : State) : Option Word :=
  let p := s.ps n
  match r with
  | 0x00 => some (pack [(0, 3, p.state.code), (3, 1, flag p.cand.isSome), (4, 1, flag (decide (p.deferred ≠ []))), (5, 1, flag p.behind),
      (6, 1, flag p.implLate)])
  | 0x04 => some (pack [(0, 16, p.base.serial), (16, 4, p.base.segs.length), (20, 2, p.base.shape), (22, 1, flag p.base.reverse),
      (23, 1, flag p.base.gift)])
  | 0x08 => some (wordOf p.base.start 0)
  | 0x0C => some (sword p.margin)
  | 0x10 => some (pack [(0, 16, sbits 16 (ssat 16 p.planSpeed)), (16, 16, sbits 16 (ssat 16 p.planAccel))])
  | 0x14 => some (pack [(0, 16, sat 16 p.vlimit), (16, 16, sat 16 p.limits.decel)])
  | 0x18 => some (p.goal.elim 0xFFFFFFFF#32 (fun e => uword (e - p.planPos).toNat))
  | 0x1C => some (pack [(0, 16, sbits 16 (ssat 16 p.error)), (24, 8, sat 8 p.trips)])
  | _ => none

/-- A PROF register's word; none for an unassigned offset (Table 11-9). -/
def readProf (off : Nat) (s : State) : Option Word :=
  let p := s.shown
  let n := fun (l : List ProfState) => (p.fleet.prof.sessions.filter (fun e => l.contains e.2.state)).length
  match off with
  | 0x00 => some (pack [(0, 9, n [.moving, .resuming]), (16, 9, n [.stopping, .stopped])])
  | 0x04 => some s.freg.profEvents
  | 0x08 => some (pack [(0, 16, sat 16 s.freg.stageLast), (16, 16, sat 16 s.freg.stageMax)])
  | 0x80 => some s.freg.plans
  | 0x84 => some s.freg.deferred
  | 0x88 => some s.freg.behind
  | 0x8C => some s.freg.envelope
  | 0x90 => some s.freg.late
  | 0x94 => some s.freg.resumes
  | _ =>
    if off % 4 ≠ 0 then none
    else if 0x10 ≤ off ∧ off < 0x20 then (s.freg.derate[(off - 0x10) / 4]?).map (fun v => uword v)
    else if 0x40 ≤ off ∧ off < 0x70 then (s.freg.imp[(off - 0x40) / 4]?).map (fun v => uword v)
    else match window 0x1000 32 256 off with
      | some (k, r) => p.profWord k r
      | none => none

/-- The pair-wide registers of PROF (R333). -/
def pairProf (off : Nat) : Bool := decide (0x10 ≤ off ∧ off < 0x20) || decide (0x40 ≤ off ∧ off < 0x70)

/-- The fields of a pair-wide PROF register lie in their ranges. -/
def pairProfOk (off v : Nat) : Bool :=
  if off < 0x20 then [0, 8, 16, 24].all (fun b => decide (25 ≤ bits v b 8 ∧ bits v b 8 ≤ 100))
  else decide (1 ≤ bits v 0 16 ∧ 1 ≤ bits v 16 16)

/-- A pair-wide PROF register takes its value. -/
def applyProf (off v : Nat) (s : State) : State :=
  if off < 0x20 then { s with freg.derate := updAt s.freg.derate ((off - 0x10) / 4) (fun _ => v % 2 ^ 32) }
  else { s with freg.imp := updAt s.freg.imp ((off - 0x40) / 4) (fun _ => v % 2 ^ 32) }

/-- A write to a PROF register that is not pair-wide. -/
def writeProf (off v : Nat) (s : State) : Nat × State :=
  if off = 0x04 then taken { s with freg.profEvents := w1c s.freg.profEvents v } else readOnly false s

/-! ### FSTOP -/

/-- An FSTOP register's word; none for an unassigned offset (Table 11-10). -/
def readFstop (off : Nat) (s : State) : Option Word :=
  match off with
  | 0x00 => some (pack [(0, 8, s.cellSet), (16, 1, flag s.stopSt), (17, 1, flag s.pair.claim),
      (18, 1, flag (s.paired && !(s.stop.partnerA && s.stop.partnerB))), (24, 8, s.fleet.serial)])
  | 0x04 => some s.stop.events
  | 0x08 => some s.stop.seen
  | 0x30 => some (pack [(0, 1, flag s.stop.rawA), (1, 1, flag s.stop.rawB), (2, 1, flag s.stop.runA), (3, 1, flag s.stop.runB),
      (8, 8, s.stop.differ.elim 0 (fun t => sat 8 ((s.ns - t) / 1000000)))])
  | 0x34 => some (pack [(0, 16, sat 16 s.stop.latLast), (16, 16, sat 16 s.stop.latMax)])
  | 0x40 => some s.stop.cntCell
  | 0x44 => some s.stop.cntSession
  | 0x48 => some s.stop.cntReleases
  | 0x4C => some s.stop.cntLate
  | _ =>
    if off % 4 ≠ 0 then none
    else if 0x10 ≤ off ∧ off < 0x30 then some (wordOf s.fleet.go.toNat ((off - 0x10) / 4))
    else match window 0x1000 4 256 off with
      | some (n, _) => some (pack [(0, 9, s.causes n), (16, 1, flag (goBit s.fleet.go n)), (17, 1, flag (goBit s.stop.listed n))])
      | none => none

/-- A write to an FSTOP register. -/
def writeFstop (off v : Nat) (s : State) : Nat × State :=
  match off with
  | 0x04 => taken { s with stop.events := w1c s.stop.events v }
  | 0x08 => taken { s with stop.seen := w1c s.stop.seen v }
  | _ => readOnly false s

end Sys2Proof.Machine
end

