-- ==== Sys2Proof/Machine/Uplink.lean ====
section
/-! DEFINITION. Reception on both radios: acceptance (R221), acknowledgement (R222), duplicate and replay rejection (R223),
the uplink frames of RADIO_A (R217–R220), sessions (R227–R229), the nodes of RADIO_B (R230–R232). -/

namespace Sys2Proof.Machine

/-- The identity of a frame's source. -/
def State.identityOf (i : Nat) (f : RxFrame) (s : State) : Nat :=
  match f.source with
  | .ext e => e
  | .short a => if i = 0 then (s.rs a).identity else (s.nodeRec a).elim 0 (·.identity)

/-- The masters of a frame's key index: the epoch in force, or the previous one while it is kept (R381). -/
def State.epochOf (f : RxFrame) (s : State) : Option (Nat × List Octet × List Octet) :=
  if f.keyIndex = s.epoch % 256 then some (s.epoch, (s.keySlot 0).key, (s.keySlot 2).key)
  else
    match s.kreg.previous with
    | some (e, fleet, node, _) => if f.keyIndex = e % 256 then some (e, fleet, node) else none
    | none => none

/-- The header octets of a received frame, to the end of the security header (R210). -/
def RxFrame.header (f : RxFrame) : List Octet :=
  leBytes 2 (1 + 8 + 32 * flag f.ackRequest + 2 ^ 10 * f.dest.elim 0 RadioAddr.mode + 2 ^ 12 * (f.version % 4) +
    2 ^ 14 * f.source.mode) ++ leBytes 1 f.seq ++ leBytes 2 f.pan ++ f.dest.elim [] RadioAddr.octets ++ f.source.octets ++
  securityHeader 6 f.counter f.keyIndex

/-- The MIC of a received frame verifies (R210, R211). -/
def State.micOk (i : Nat) (f : RxFrame) (s : State) : Bool :=
  match s.epochOf f with
  | some (e, fleet, node) =>
    let id := s.identityOf i f
    decide (Config.ccmMic (s.uplinkKey i id e fleet node) (beBytes 8 id ++ beBytes 4 f.counter ++ [6#8]) f.header f.payload = f.mic)
  | none => false

/-- The header conditions of R221. -/
def State.headerOk (i : Nat) (f : RxFrame) (s : State) : Bool :=
  decide (f.version = 2) && decide (f.pan = s.panId) &&
  (match f.dest with
   | none => true
   | some (.short a) => decide (a = s.cellShort)
   | some (.ext e) => decide (e = s.cellExt)) &&
  (match f.source with
   | .short a => if i = 0 then decide (a < 256 ∧ (s.rs a).state ≠ 0) else (s.nodeRec a).isSome
   | .ext _ => decide (i = 0 ∧ f.payload.head? = some 0x14#8))

/-- The record item of a frame's source. -/
def sourceItem (f : RxFrame) : Nat × Int :=
  match f.source with
  | .short a => (2, a)
  | .ext e => (8, e)

/-- Duplicate rejection of R223: whether the number is a duplicate. -/
def DupState.isDup (q : Nat) (d : DupState) : Bool :=
  match d.last with
  | some l => let k := (l + 256 - q % 256) % 256; decide (q % 256 = l) || (decide (1 ≤ k ∧ k ≤ 8) && bit d.win (k - 1))
  | none => false

/-- The state of R223 after a delivered frame. -/
def DupState.deliver (q : Nat) (d : DupState) : DupState :=
  match d.last with
  | none => { last := some (q % 256), win := 0 }
  | some l =>
    let a := (q + 256 - l) % 256
    let k := (l + 256 - q % 256) % 256
    if a ≤ 127 then { last := some (q % 256), win := (d.win * 2 ^ a + 2 ^ (a - 1)) % 256 }
    else if k ≤ 8 then { d with win := setBit d.win (k - 1) }
    else d

/-- The duplicate state of a frame's source. -/
def State.dupOf (i : Nat) (f : RxFrame) (s : State) : DupState :=
  match f.source with
  | .ext e => Tab.get {} s.fleet.joins e
  | .short a => if i = 0 then (s.rs a).dup else (s.node a).dup

/-- The duplicate state of a frame's source written. -/
def State.setDup (i : Nat) (f : RxFrame) (d : DupState) (s : State) : State :=
  match f.source with
  | .ext e => { s with fleet.joins := Tab.set {} s.fleet.joins e d }
  | .short a => if i = 0 then s.updRs a (fun (r : RadioSess) => { r with dup := d }) else s.setNode a { s.node a with dup := d }

/-- The pending table's entry for a source (R222): a unicast frame for it is queued. -/
def State.pendingFor (i : Nat) (a : RadioAddr) (s : State) : Bool :=
  s.fleet.unicast.any (fun u => decide (u.radio = i) && decide ((if u.extended then RadioAddr.ext u.dest else .short u.dest) = a))

/-- The PSDU of a received frame (Table 8-8). -/
def RxFrame.psdu (f : RxFrame) : Nat := (match f.source with | .short _ => 13 | .ext _ => 19) + f.payload.length + 12

/-- The agreed contact of node `a` nearest to device time `t` (R230). -/
def State.contactNear (a t : Nat) (s : State) : Nat :=
  match s.nodeRec a with
  | some n =>
    let p := max 1 n.wake * perSec
    let f := 100 * perUs * n.contact
    let k := (t - f) / p
    let c := k * p + f
    if c + p - t < t - c then c + p else c
  | none => 0

/-- The guard of node `a` at an agreed contact, in µs (R230): 50 ms for a LOST node and where no contact has been received. -/
def State.guardAt (a contact : Nat) (s : State) : Nat :=
  let v := s.node a
  match v.lastContact, s.nodeRec a with
  | some last, some n =>
    if v.state = 2 then 50000
    else min 50000 (s.rad.guardG0 + (n.tolerance + s.rad.guardPpm) * (contact - last) / perSec)
  | _, _ => 50000

/-- The agreed contact that a frame of node `a` starting at `t` meets: it lies within the guard, in a CONTACTS entry. -/
def State.contactOf (a t : Nat) (s : State) : Option Nat :=
  let c := s.contactNear a t
  let inEntry : Bool := match s.entryAt 1 t with
    | some p => decide (p.1.kind = 6) && bit p.1.flags 1
    | none => false
  let g := s.guardAt a c * perUs
  if inEntry && decide (t ≤ c + g ∧ c ≤ t + g) then some c else none

/-- The radio receives a frame that starts at its time, while it receives no earlier one (R230): in an UP-ASSIGNED entry the named session's, in an UP-CONTENTION
entry any, with CONTACTS node contacts only (Table 8-5). -/
def State.hears (i : Nat) (f : RxFrame) (s : State) : Bool :=
  decide ((s.radio i).dead ≤ f.time) && decide ((s.radio i).busy ≤ f.time) &&
  match s.entryAt i f.time with
  | some (e, _) =>
    if e.kind = 5 then decide (i = 0 ∧ f.source = .short e.session)
    else if e.kind = 6 then
      !bit e.flags 1 || decide (i = 0) || (match f.source with
        | .short a => (s.contactOf a f.time).isSome
        | .ext _ => false)
    else false
  | none => false

/-- A frame accepted under R221 counts as heard from its session: SILENT ends with SESSION_RESUMED (Table 8-20). -/
def State.heardFrom (n : Nat) (rssi : Int) (s : State) : State :=
  let r := s.rs n
  let s' := s.setRs n { r with state := 1, missed := 0, heard := true, silentCycles := 0, rssi := rssi }
  if r.state = 2 then s'.report 0x0612 [(1, n), (4, r.silentCycles)] else s'

/-- The time correction of an acknowledgement on RADIO_B (R222): start minus agreed contact time in µs, saturating. -/
def State.correction (f : RxFrame) (s : State) : Int :=
  match f.source with
  | .short a =>
    let c := s.contactNear a f.time
    max (-2047) (min 2047 (((f.time / perUs : Nat) : Int) - ((c / perUs : Nat) : Int)))
  | .ext _ => 0

/-- An acknowledgement goes out 200 µs after the frame, unless R203 skips it or the PA is disabled in the entry (R207, R222, R235). -/
def State.acknowledge (i : Nat) (f : RxFrame) (s : State) : State :=
  let start := f.time + perNs * (s.airNs i f.psdu + 200000)
  if !f.ackRequest ∨ !s.onAirAllowed ∨ start < (s.radio i).paDead then s
  else
    let ns := s.airNs i (ackOctets i)
    let finish := start + perNs * ns
    let ch := match s.entryAt i f.time with
      | some p => s.entryChannel i p.1 p.2
      | none => s.tickChannel i f.time
    let a := s.airAllowed i ch 0xFF (finish / perUs) (ceilDiv ns 1000)
    if !a.1 then a.2
    else
      let more := a.2.pendingFor i f.source
      let s := a.2.useAir i ch (finish / perUs) (ceilDiv ns 1000)
      let s := s.updRadio i (fun (r : Radio) => { r with
        cntAcks := incr r.cntAcks, ackAir := some (start, finish)
        contact := match f.source with
          | .short n => if i = 1 ∧ more = true then some (n, finish, 0) else none
          | .ext _ => none })
      let c := if i = 1 then s.correction f else 0
      s.send (.ack i f.seq more c (ackPsdu i f.seq more c))

/-- The effects of acceptance beyond the delivery: the session is heard, the level kept, the frame acknowledged. -/
def State.acceptFrame (i : Nat) (f : RxFrame) (s : State) : State :=
  let s := match f.source with
    | .short a => if i = 0 then s.heardFrom a f.rssi else s.setNode a { s.node a with rssi := f.rssi }
    | .ext _ => s
  s.acknowledge i f

/-- The checks of R221 and R223 at a lead. -/
def State.receive (i : Nat) (f : RxFrame) (s : State) : State :=
  if !f.fcsOk then s.updRadio i (fun (r : Radio) => { r with cntFcs := incr r.cntFcs })
  else if !s.headerOk i f then
    let s := s.updRadio i (fun (r : Radio) => { r with cntFiltered := incr r.cntFiltered })
    match f.source with
    | .short a => if i = 1 ∧ f.version = 2 ∧ s.nodeRec a = none then s.report 0x0713 [(2, a)] else s
    | .ext _ => s
  else if !s.micOk i f then
    let s := s.updRadio i (fun (r : Radio) => { r with cntMic := incr r.cntMic })
    (s.radEvent i 2).radReport i 0x03 [sourceItem f, (4, f.counter)]
  else
    let d := s.dupOf i f
    let key := sendKeyNo ((s.epochOf f).elim 0 (·.1)) (2 + i) (s.identityOf i f)
    let last := Tab.get 0 s.fleet.counters key
    if d.isDup f.seq then (s.updRadio i (fun (r : Radio) => { r with cntDup := incr r.cntDup })).acceptFrame i f
    else if f.counter < last then
      let s := s.updRadio i (fun (r : Radio) => { r with cntReplay := incr r.cntReplay })
      (s.radEvent i 3).radReport i 0x04 [sourceItem f, (4, f.counter), (4, last - 1)]
    else
      let s := { s with fleet.counters := Tab.set 0 s.fleet.counters key (f.counter + 1) }
      let s := (s.setDup i f (d.deliver f.seq)).updRadio i (fun (r : Radio) => { r with cntRx := incr r.cntRx })
      let s := { s with rad.delivered := s.rad.delivered ++ [(⟨i, f.source, f.payload, f.time, f.rssi, f.counter⟩ : Delivered)] }
      s.acceptFrame i f

/-- FRAME_RECEIVED (R199, R221–R223): a frame with an unsupported PHR is discarded; a lead checks, counts, acknowledges and delivers; a standby delivers nothing and keeps what
it hears for a takeover (R346, R349). -/
def execFrameReceived (radio : Fin 2) (frame : RxFrame) : State → Host.Outcome State Fault Refusal :=
  let i := radio.val
  done fun s =>
    if !s.inService || s.sys.saving || frame.phr.unsupported || !s.hears i frame then s
    else
      let ends := frame.time + s.airNs i frame.psdu * perNs
      let s := (s.reach ends).updRadio i (fun (r : Radio) => { r with busy := ends })
      if s.sys.mode = Mode.shadow then
        if s.pair.imageTick.isSome then { s with pair.heard := s.pair.heard ++ [⟨i, frame⟩] } else s
      else if s.isLead then s.receive i frame else s

/-- The first delivered frame that `pick` chooses, taken from the queue. -/
def State.takeDelivered (pick : Delivered → Bool) (f : Delivered → State → State) (s : State) : State :=
  match s.rad.delivered.find? pick with
  | some d => f d { s with rad.delivered := s.rad.delivered.erase d }
  | none => s

/-- A delivered frame of RADIO_A of the kind and length, from an open session. -/
def fromSession (kind : Nat) (len : Nat → Bool) (d : Delivered) : Bool :=
  decide (d.radio = 0) && decide (getLe d.payload 0 1 = kind) && len d.payload.length &&
  (match d.source with
   | .short _ => true
   | .ext _ => false)

/-- The session of a delivered frame. -/
def Delivered.session (d : Delivered) : Nat :=
  match d.source with
  | .short a => a
  | .ext _ => 0xFFFF

/-- A REPORT or ASK from its payload (Table 8-15). -/
def reportOf (d : Delivered) : Report :=
  let b := d.payload
  { ask := decide (getLe b 0 1 = 0x11), span := getLe b 1 2, offset := getLe b 3 3, speed := getLeS b 6 2, state := getLe b 8 1
    serial := getLe b 9 2, routeId := getLe b 11 1, index := getLe b 12 1, ahead := getLe b 13 1, progress := getLe b 14 1
    tail := getLe b 15 4, time := d.time }

/-- A REPORT or ASK takes effect: a profile asked for again is queued (R225), the position is supervised (R320), and the
next snapshot takes it. -/
def State.takeReport (n : Nat) (r : Report) (s : State) : State :=
  if (s.rs n).state = 0 then s
  else
    let p := s.ps n
    let again := bit r.state 6 && !r.ask && (match p.cand with
      | some q => decide (msOf r.time < q.start)
      | none => true)
    let s := if again then s.queueProfile (tickOf s.now) n else s
    let s := s.supervise n r
    let s := s.updRs n (fun (v : RadioSess) => { v with report := some r })
    { s with inp.reported := s.inp.reported ++ [(n, r)] }

/-- REPORT (R217). -/
def execReport : State → Host.Outcome State Fault Refusal :=
  done fun s => s.takeDelivered (fromSession 0x10 (fun n => n == 19)) fun d s => s.takeReport d.session (reportOf d)

/-- ASK (R217, R248): as a REPORT, with the mask of the work asked for. -/
def execAsk : State → Host.Outcome State Fault Refusal :=
  done fun s => s.takeDelivered (fromSession 0x11 (fun n => n == 19)) fun d s => s.takeReport d.session (reportOf d)

/-- A ROUTE part joins the session's assembly (R218). -/
def State.takeRoutePart (n : Nat) (b : List Octet) (s : State) : State :=
  let id := getLe b 1 1 % 64
  let first := getLe b 2 1 % 32
  let count := getLe b 2 1 / 32 + 1
  let r := s.rs n
  let x := s.xs n
  if r.state = 0 ∨ (x.route.map (·.id)) = some id ∨ (x.pending.map (·.id)) = some id ∨ 32 < first + count then s
  else
    let asm := match r.asm with
      | some a => if a.id = id then a else { id := id }
      | none => { id := id }
    let places := (List.range count).foldl (fun (t : Tab Nat) k => Tab.set 0x10000 t (first + k) (getLe b (3 + 2 * k) 2)) asm.places
    let asm := { asm with places := places, last := if bit (getLe b 1 1) 6 then some (first + count - 1) else asm.last }
    if asm.complete then s.setRs n { r with asm := none, done := some asm } else s.setRs n { r with asm := some asm }

/-- ROUTE (R218). -/
def execRoute : State → Host.Outcome State Fault Refusal :=
  done fun s => s.takeDelivered (fromSession 0x12 (fun n => n == 19)) fun d s => s.takeRoutePart d.session d.payload

/-- An AUDIT fragment joins the session's snapshot (R219); another epoch or count begins a new one. -/
def State.takeAudit (n : Nat) (b : List Octet) (s : State) : State :=
  let r := s.rs n
  let epoch := getLe b 1 2
  let count := getLe b 3 1 / 16 + 1
  if r.state = 0 then s
  else
    let snap : AuditSnap := match r.snap with
      | some v => if v.epoch = epoch ∧ v.count = count then v else ⟨epoch, count, s.now, []⟩
      | none => ⟨epoch, count, s.now, []⟩
    s.setRs n { r with snap := some { snap with parts := Tab.set none snap.parts (getLe b 3 1 % 16) (some (b.drop 4)) } }

/-- AUDIT (R219). -/
def execAudit : State → Host.Outcome State Fault Refusal :=
  done fun s => s.takeDelivered (fromSession 0x13 (fun n => decide (4 ≤ n))) fun d s => s.takeAudit d.session d.payload

/-- Deck A holds an UP-ASSIGNED entry for the session in the tick. -/
def State.upAssigned (n : Nat) (s : State) : List Nat :=
  ((s.rad.a.deck.filter (fun p => let e := deckEntry p.2; decide (e.kind = 5 ∧ e.session = n))).map (fun p => p.1 / 64)).eraseDups

/-- The session is fast (R229). -/
def State.fast (n : Nat) (s : State) : Bool := decide ((s.upAssigned n).length = 10)

/-- The session is assignable to the identity (R229). -/
def State.assignable (n identity : Nat) (mayFast : Bool) (s : State) : Bool :=
  decide ((s.rs n).state = 0) && !(s.upAssigned n).isEmpty &&
  (match Tab.get none s.fleet.xarb.orphans n with
   | some o => decide (o.identity = identity)
   | none => true) && (mayFast || !s.fast n)

/-- The session that a JOIN is assigned (R229). -/
def State.assign (identity requested : Nat) (mayFast wantsFast : Bool) (s : State) : Option Nat :=
  let orphan := (s.fleet.xarb.orphans.find? (fun p => decide ((s.rs p.1).state = 0) && decide ((p.2.map (·.identity)) = some identity))).map (·.1)
  let ok := sessionNos.filter (fun n => s.assignable n identity mayFast)
  let fast := ok.find? (fun n => s.fast n)
  match orphan with
  | some n => some n
  | none =>
    if ok.contains requested then some requested
    else if wantsFast && mayFast && fast.isSome then fast
    else
      match ok.find? (fun n => !s.fast n) with
      | some n => some n
      | none => if mayFast then fast else none

/-- JOIN_ACCEPT is queued (Table 8-19). -/
def State.joinAccept (identity result session cls : Nat) (s : State) : State :=
  s.queueFrame { radio := 0, kind := 0x06, dest := identity, extended := true, tick := tickOf s.now
                 payload := [0x06#8] ++ leBytes 1 result ++ leBytes 1 session ++ leBytes 1 cls }

/-- A JOIN opens or confirms a session, or is rejected (R220, R227, R229, R283). -/
def State.takeJoin (identity : Nat) (d : Delivered) (s : State) : State :=
  let b := d.payload
  let span := getLe b 3 2
  let reject := fun (result : Nat) (s : State) =>
    ((s.radEvent 0 5).report 0x0614 [(8, identity), (1, result)]).joinAccept identity result 0xFF 0
  match s.robotRec identity with
  | none => reject 1 s
  | some rec_ =>
    if s.spanRec span = none then reject 3 s
    else
      let mine := s.openSessions.find? (fun n => decide ((s.rs n).identity = identity))
      match mine with
      | some n =>
        let cls := if (s.xs n).seated then (s.xs n).cls else (s.rs n).cls
        let s := s.updRs n (fun (r : RadioSess) => { r with state := 1, dup := {}, heard := true, missed := 0, silentCycles := 0, rssi := d.rssi })
        (s.report 0x0610 [(1, n), (8, identity), (1, cls)]).joinAccept identity 0 n cls
      | none =>
        match s.assign identity (getLe b 1 1) (bit rec_.flags 0) (bit (getLe b 2 1) 0) with
        | none => reject 2 s
        | some n =>
          let s := s.setRs n { state := 1, identity := identity, heard := true, rssi := d.rssi, span := span, offset := getLe b 5 3
                               cls := rec_.cls, audit := { conclusive := some (secOf s.now) } }
          let s := { s with inp.opened := s.inp.opened ++ [(n, d.time)] }
          (s.report 0x0610 [(1, n), (8, identity), (1, rec_.cls)]).joinAccept identity 0 n rec_.cls

/-- JOIN (R227). -/
def execJoin : State → Host.Outcome State Fault Refusal :=
  done fun s => s.takeDelivered
    (fun d => decide (d.radio = 0) && decide (getLe d.payload 0 1 = 0x14) && decide (d.payload.length = 8) &&
      (match d.source with
       | .ext _ => true
       | .short _ => false))
    fun d s =>
      match d.source with
      | .ext e => s.takeJoin e d
      | .short _ => s

/-- A PROFILE is acknowledged: before its start time the latest published profile becomes the base (R315). -/
def State.profileAcked (n : Nat) (u : Unicast) (s : State) : State :=
  let p := s.ps n
  match (Tab.get {} s.pub.prof.sessions n).latest with
  | some q =>
    if q.octets = u.payload ∧ s.now < perMs * q.start ∧ q.segs ≠ [] ∧ p.base ≠ q then
      s.setPs n { p with earlier := p.base :: p.earlier, base := q, cand := none }
    else s
  | none => s

/-- ACK_RECEIVED (R222, R225): the frame that awaits this acknowledgement leaves the queue. -/
def execAckReceived (radio : Fin 2) (seq : BitVec 8) : State → Host.Outcome State Fault Refusal :=
  let i := radio.val
  done fun s =>
    match (s.radio i).sent with
    | some a =>
      if a.seq ≠ seq.toNat ∨ !s.inService then s
      else
        let s := s.reach ((s.radio i).sentEnd)
        let u := a.frame
        let s := { s.updRadio i (fun (r : Radio) => { r with sent := none }) with
          fleet.unicast := s.fleet.unicast.filter (fun (x : Unicast) => !decide (x.radio = i ∧ x.seq = u.seq ∧ x.kind = u.kind ∧ x.dest = u.dest)) }
        match u.kind with
        | 0x05 => s.profileAcked u.dest u
        | 0x07 => s.sessionClosed u.dest
        | 0x21 => s.updRadio 1 (fun (r : Radio) => { r with contact := r.contact.map (fun c => (c.1, r.sentEnd, c.2.2)) })
        | 0x22 => s.towerSettled u.dest
        | _ => s
    | none => s

/-- SESSION_SILENT (R227, R228): three cycles without an accepted frame make the session SILENT and set cause SILENT. -/
def execSessionSilent (session : Fin 256) : State → Host.Outcome State Fault Refusal :=
  let n := session.val
  done fun s =>
    let r := s.rs n
    if r.state = 1 ∧ 3 ≤ r.missed ∧ s.isLead = true then
      let s := ((s.setRs n { r with state := 2, silentCycles := 3 }).radEvent 0 4).report 0x0611 [(1, n)]
      s.setSess n sessSilent 0
    else s

/-- The agreed contact after `c` of node `a`. -/
def State.nextContact (a c : Nat) (s : State) : Nat := c + (s.nodeRec a).elim perSec (fun n => max 1 n.wake * perSec)

/-- The node's guard is computed anew for its next agreed contact (R231). -/
def State.regard (a contact : Nat) (s : State) : State :=
  let g := s.guardAt a (s.nextContact a contact)
  s.setNode a { s.node a with guard := g, due := contact + 1 }

/-- A NODE_REPORT takes effect: as a contact it restores the node to ACTIVE (R231); its items feed the trigger rules at the
next snapshot (R246). -/
def State.takeNodeReport (a : Nat) (d : Delivered) (s : State) : State :=
  let b := d.payload
  let items := (List.range (getLe b 2 1)).map (fun k => (⟨getLe b (3 + 6 * k) 1, getLe b (4 + 6 * k) 1, getLeS b (5 + 6 * k) 4⟩ : NodeItem))
  let v := s.node a
  let s := s.setNode a { v with battery := getLe b 1 1, items := items, reported := some (secOf d.time % 2 ^ 32) }
  let s := match s.contactOf a d.time with
    | some c =>
      let s' := s.setNode a { s.node a with state := 1, missed := 0, lastContact := some c, lastSecond := secOf d.time % 2 ^ 32 }
      let s' := s'.regard a c
      if v.state = 2 then s'.report 0x0711 [(2, a), (4, (((d.time / perUs : Nat) : Int) - ((c / perUs : Nat) : Int)))] else s'
    | none => s
  { s with inp.reports := s.inp.reports ++ [(a, items, d.time)] }

/-- NODE_REPORT (R230–R232). -/
def execNodeReport : State → Host.Outcome State Fault Refusal :=
  done fun s => s.takeDelivered
    (fun d => decide (d.radio = 1) && decide (getLe d.payload 0 1 = 0x30) && decide (getLe d.payload 2 1 ≤ 8) &&
      decide (d.payload.length = 3 + 6 * getLe d.payload 2 1))
    fun d s => s.takeNodeReport d.session d

/-- NODE_CONTACT_MISSED (R231): the guard of the next agreed contact ends without a frame; after three the node is LOST. -/
def execNodeContactMissed (node : BitVec 12) : State → Host.Outcome State Fault Refusal :=
  let a := node.toNat
  done fun s =>
    if (s.nodeRec a).elim true (fun r => decide (r.kind ≠ 0)) || !s.isLead || !s.time.running then s
    else
      let v := s.node a
      let from_ := max v.due (s.now - v.guard * perUs)
      let c0 := s.contactNear a from_
      let c := if c0 < from_ then s.nextContact a c0 else c0
      let s := s.reach (c + s.guardAt a c * perUs)
      let missed := min 3 (v.missed + 1)
      let lost := decide (missed = 3) && decide (v.state ≠ 2)
      let s := s.setNode a { v with missed := missed, state := if lost then 2 else v.state }
      let s := s.regard a c
      if lost then (s.radEvent 1 4).report 0x0710 [(2, a)] else s

/-- NODE_DATA_SEND (R232): 1.0 ms after an acknowledgement with the pending bit set, the next NODE_DATA goes out, up to four
in one contact. -/
def execNodeDataSend : State → Host.Outcome State Fault Refusal :=
  done fun s =>
    let s := s.pruneUnicast 1
    match s.rad.b.contact with
    | some (a, acked, k) =>
      let t := 1000 * perUs + acked
      let s := { s.reach t with rad.b.contact := none }
      let place := s.entryAt 1 acked
      match s.fleet.unicast.find? (fun u => decide (u.radio = 1 ∧ u.kind = 0x21 ∧ u.dest = a)), place with
      | some u, some p =>
        let finish := t + perNs * (s.airNs 1 u.psdu + 200000 + s.airNs 1 (ackOctets 1))
        if 4 ≤ k ∨ !s.onAirAllowed ∨ !s.rad.b.ready t ∨ p.1.stop p.2 < finish then s
        else
          let s := s.transmit 1 (s.entryChannel 1 p.1 p.2) u t
          s.updRadio 1 (fun (r : Radio) => { r with contact := some (a, r.sentEnd, k + 1) })
      | _, _ => s
    | none => s

end Sys2Proof.Machine
end

