-- ==== Sys2Proof/Machine/RegsRadio.lean ====
section
/-! DEFINITION. The register maps of RADA and RADB (Table 8-26). -/

namespace Sys2Proof.Machine

/-- RADx_STATUS (Table 8-26). -/
def State.radStatus (i : Nat) (s : State) : Word :=
  let r := s.radio i
  let sends := r.onAir.elim false (fun p => decide (s.now < p.2))
  let st := if sends then 2 else if s.now < r.rx then 1 else if r.awake then 3 else 0
  let ch := match s.entryAt i s.now with
    | some p => s.entryChannel i p.1 p.2
    | none => s.tickChannel i s.now
  pack [(0, 2, st), (2, 1, flag (!s.gateOpen)), (4, 7, ch), (11, 4, (s.now / (100 * perMs)) % 10), (16, 16, r.decks)]

/-- RADx_PLAN (Table 8-26); RADIO_A shows its effective rate (R200). -/
def State.radPlan (i : Nat) (s : State) : Word :=
  match s.planRec i with
  | some p => pack [(0, 2, p.band), (2, 1, p.modulation), (3, 3, if i = 0 then 6 else p.rate),
      (6, 1, flag (decide (i = 0 ∧ p.rate ≠ 6))), (8, 2, p.frontEnd), (16, 8, sbits 8 p.power)]
  | none => 0#32

/-- RADx_DWELL_MAX: the channel with the highest use in its window, the lowest of equals (Table 8-26, R203). -/
def State.dwellMax (i : Nat) (s : State) : Word :=
  if (s.planRec i).elim 2 (·.band) ≠ 0 then 0#32
  else
    let us := (List.range 64).map (fun c => (c, s.airUse i (s.now / perUs) (fun k => decide (k = c)) / 1000))
    match leastBy (fun (a b : Nat × Nat) => decide (b.2 < a.2)) us with
    | some (c, u) => pack [(0, 16, sat 16 u), (16, 7, c)]
    | none => 0#32

/-- RADx_DUTYs: use and limit of a sub-band in 0.01 % of 3,600 s; 0 outside plan 1 (Table 8-26). -/
def State.dutyWord (i b : Nat) (s : State) : Word :=
  if (s.planRec i).elim 2 (·.band) ≠ 1 then 0#32
  else pack [(0, 16, sat 16 (s.airUse i (s.now / perUs) (fun c => decide (subBand c = b)) / 360000)), (16, 16, dutyLimit b / 360000)]

/-- A RADA_SESSn register. -/
def State.radSessWord (n r : Nat) (s : State) : Option Word :=
  let v := s.rs n
  match r with
  | 0 => some (pack [(0, 2, v.state), (2, 1, flag (decide (v.state ≠ 0) && s.fast n)), (3, 2, min 3 v.missed), (5, 1, flag (s.pendingFor 0 (.short n))),
      (8, 8, v.dup.last.getD 0), (16, 8, v.dup.win), (24, 8, sbits 8 v.rssi)])
  | 4 => some (uword (Tab.get 0 s.fleet.counters (sendKeyNo s.epoch 2 v.identity) - 1))
  | _ => none

/-- A RADB_NODEa register; 0 for a node that is not in the roster. -/
def State.nodeWord (a r : Nat) (s : State) : Option Word :=
  let v := s.node a
  match s.nodeRec a, r with
  | some n, 0 => some (pack [(0, 2, v.state), (2, 2, min 3 v.missed), (4, 1, flag (s.pendingFor 1 (.short a))), (5, 1, flag (decide (n.kind = 1))),
      (8, 8, sbits 8 v.rssi), (16, 9, v.guard / 100)])
  | some _, 4 => some (uword v.lastSecond)
  | none, 0 => some 0#32
  | none, 4 => some 0#32
  | _, _ => none

/-- A RADx_DECKk_i register: four octets of an active entry. -/
def State.deckWord (i k r : Nat) (s : State) : Option Word :=
  if r % 4 = 0 then some (octetWord (Tab.get [] (s.radio i).deck k) (r / 4)) else none

/-- The partners of a radio in two states. -/
def State.partnersWord (i : Nat) (s : State) : Word :=
  let n := fun (st : Nat) => if i = 0 then (s.fleet.sessions.filter (fun p => decide (p.2.state = st))).length
    else (s.fleet.nodes.filter (fun p => decide (p.2.state = st))).length
  pack [(0, 12, n 1), (16, 12, n 2)]

/-- A RADA or RADB register's word; none for an unassigned offset (Table 8-26). -/
def readRad (i off : Nat) (s : State) : Option Word :=
  let r := s.radio i
  match off with
  | 0x00 => some (s.radStatus i)
  | 0x04 => some r.events
  | 0x08 => some (s.radPlan i)
  | 0x0C => some (pack [(0, 16, (s.planRec i).elim 0 (·.seed)), (16, 7, (onesBelow 64 ((s.planRec i).elim 0 (·.mask))).length)])
  | 0x10 => some (wordOf ((s.planRec i).elim 0 (·.mask)) 0)
  | 0x14 => some (wordOf ((s.planRec i).elim 0 (·.mask)) 1)
  | 0x18 => some (uword (s.sendKey (s.bcastKey i)).counter)
  | 0x1C => some (uword (s.sendKey (s.bcastKey i)).ceiling)
  | 0x20 => some r.cntTx
  | 0x24 => some r.cntRx
  | 0x28 => some r.cntAcks
  | 0x2C => some r.cntDup
  | 0x30 => some r.cntFiltered
  | 0x34 => some r.cntFcs
  | 0x38 => some r.cntMic
  | 0x3C => some r.cntReplay
  | 0x40 => some r.cntSkipDwell
  | 0x44 => some r.cntSkipDuty
  | 0x48 => some r.cntNoAck
  | 0x4C => some r.cntStop
  | 0x50 => some (s.dwellMax i)
  | 0x60 => some (s.dutyWord i 0)
  | 0x64 => some (s.dutyWord i 1)
  | 0x68 => some (s.dutyWord i 2)
  | 0x6C => some (s.dutyWord i 3)
  | 0x80 => if i = 1 then some (pack [(0, 16, s.rad.guardG0), (16, 8, s.rad.guardPpm)]) else none
  | 0x84 => some (s.partnersWord i)
  | _ =>
    match window 0x9000 8 640 off with
    | some (k, w) => s.deckWord i k w
    | none =>
      match window 0x1000 8 (if i = 0 then 256 else 3840) off with
      | some (n, w) => if i = 0 then s.radSessWord n w else s.nodeWord (n + 0x100) w
      | none => none

/-- A long value's first offset and words: the channel mask. -/
def wideRad (off : Nat) : Option (Nat × Nat) := if off = 0x10 ∨ off = 0x14 then some (0x10, 2) else none

/-- RADB_GUARD_CTL, the pair-wide register, is in range. -/
def pairRadOk (v : Nat) : Bool :=
  decide (100 ≤ bits v 0 16 ∧ bits v 0 16 ≤ 10000) && decide (1 ≤ bits v 16 8 ∧ bits v 16 8 ≤ 20)

/-- RADB_GUARD_CTL takes its value (R230). -/
def applyRad (v : Nat) (s : State) : State := { s with rad.guardG0 := bits v 0 16, rad.guardPpm := bits v 16 8 }

/-- A write to a RADA or RADB register that is not pair-wide. -/
def writeRad (i off v : Nat) (s : State) : Nat × State :=
  match off with
  | 0x04 => taken (s.updRadio i (fun (r : Radio) => { r with events := w1c r.events v }))
  | 0x08 | 0x0C | 0x10 | 0x14 => readOnly true s
  | _ => readOnly (decide (i = 1) && decide (0x1000 ≤ off ∧ off < 0x8800) && decide (off % 8 = 0)) s

end Sys2Proof.Machine
end

