-- ==== Sys2Proof/Machine/RegsTime.lean ====
section
/-! DEFINITION. The register maps of MEAS (Table 6-14) and TIME (Table 7-7). -/

namespace Sys2Proof.Machine

/-! ### MEAS -/

/-- The epoch time of the last valid correction epoch whose assembly is complete (R166). -/
def State.lastValidNow (s : State) : Option Nat :=
  match s.meas.lastValidDue with
  | some (due, e) => if due ≤ s.now then some e else s.meas.lastValid
  | none => s.meas.lastValid

/-- The correction age limit of the STATION record, s. -/
def State.ageLimitS (s : State) : Nat := s.station.elim 0 (·.ageLimit)

/-- The correction age is undefined or above its limit (R166). -/
def State.ageBeyond (s : State) : Bool := s.lastValidNow.elim true (fun e => decide (perSec * s.ageLimitS < s.now - e))

/-- A base coordinate as its two registers hold it; 0 while BASE is not 3. -/
def State.baseWord (v : Int) (i : Nat) (s : State) : Word := if s.meas.survey.base = 3 then wordOf (sbits 64 v) i else 0#32

/-- A register of the observation window: entries at or beyond COUNT read 0. -/
def State.obsWord (i r : Nat) (s : State) : Option Word :=
  if r % 4 ≠ 0 then none
  else match s.meas.window[i]? with
    | some o => some (if i < s.meas.windowCount then octetWord o.octets (r / 4) else 0#32)
    | none => some 0#32

/-- A MEAS register's word; none for an unassigned offset (Table 6-14). -/
def readMeas (off : Nat) (s : State) : Option Word :=
  match off with
  | 0x00 => some (pack [(0, 2, s.meas.survey.base), (2, 2, s.meas.survey.source), (4, 1, flag s.meas.integ),
      (5, 1, flag s.ageBeyond), (6, 1, flag s.meas.publishing), (7, 1, flag s.kept.isSome),
      (8, 5, s.station.elim 0 (·.epochRate)), (16, 9, s.meas.last.length)])
  | 0x04 => some s.mreg.events
  | 0x08 => some (timeWord s.meas.epochT 0)
  | 0x0C => some (timeWord s.meas.epochT 1)
  | 0x10 => some (timeWord s.meas.epochT 2)
  | 0x14 => some (pack [(0, 16, s.lastValidNow.elim 0xFFFF (fun e => min 0xFFFE ((s.now - e) / (100 * perMs)))), (16, 6, s.ageLimitS)])
  | 0x18 => some (pack [(0, 4, s.meas.failing), (4, 1, flag s.meas.posDev), (8, 3, s.meas.passes), (16, 8, sat 8 s.meas.excluded),
      (24, 8, s.meas.sats)])
  | 0x1C => some (pack [(0, 8, s.meas.uniform), (8, 8, s.meas.clk), (16, 8, s.meas.resid), (24, 8, s.meas.gf)])
  | 0x20 => some (pack [(0, 1, s.meas.staMsg), (1, 1, s.meas.glo1230), (8, 6, s.meas.staPeriod)])
  | 0x24 => some (pack [(0, 2, s.meas.uart0Next), (2, 2, s.meas.uart1Next)])
  | 0x30 => some (s.baseWord s.meas.survey.x 0)
  | 0x34 => some (s.baseWord s.meas.survey.x 1)
  | 0x38 => some (s.baseWord s.meas.survey.y 0)
  | 0x3C => some (s.baseWord s.meas.survey.y 1)
  | 0x40 => some (s.baseWord s.meas.survey.z 0)
  | 0x44 => some (s.baseWord s.meas.survey.z 1)
  | 0x48 => some (pack [(0, 17, s.meas.survey.validS), (24, 8, s.meas.survey.sigmaH)])
  | 0x4C => some (pack [(0, 16, s.meas.devH), (16, 16, s.meas.devV)])
  | 0x50 => some s.mreg.epochs
  | 0x54 => some s.mreg.valid
  | 0x58 => some s.mreg.withheldS
  | 0x5C => some s.mreg.airDropped
  | 0x60 => some s.mreg.auditPass
  | 0x64 => some s.mreg.auditFail
  | 0x68 => some s.mreg.auditOther
  | 0x6C => some s.mreg.alignResets
  | 0x80 => some (pack [(0, 2, s.meas.alignState), (2, 1, flag s.meas.contNotAssured),
      (8, 9, (s.meas.align.filter (·.aligned)).length), (17, 9, s.meas.required)])
  | 0x84 => some (sword (nearest (s.meas.clkOffset * 10 ^ 8) 299792458))
  | 0x90 => some (pack [(16, 9, s.meas.windowCount)])
  | _ =>
    if off % 4 ≠ 0 then none
    else
      match window 0x1000 4 256 off with
      | some (n, _) =>
        let a := (s.rs n).audit
        some (pack [(0, 3, a.result), (3, 2, a.fails), (5, 1, flag a.hold), (6, 1, flag (a.hold && decide (a.cause = 1))),
          (16, 16, a.conclusive.elim 0 (fun c => sat 16 (secOf s.now - c)))])
      | none =>
        match window 0x4000 32 288 off with
        | some (i, r) => s.obsWord i r
        | none => none

/-- A long value's first offset and words: epoch time, base coordinates, and an observation's pseudorange and phase. -/
def wideMeas (off : Nat) : Option (Nat × Nat) :=
  if 0x08 ≤ off ∧ off < 0x14 then some (0x08, 3)
  else if 0x30 ≤ off ∧ off < 0x48 then some (off - off % 8, 2)
  else match window 0x4000 32 288 off with
    | some (i, r) =>
      if r = 0x04 ∨ r = 0x08 then some (0x4004 + 32 * i, 2)
      else if r = 0x0C ∨ r = 0x10 then some (0x400C + 32 * i, 2)
      else none
    | none => none

/-- The bits of a higher word that belong to the long value: of an observation's word +0x08 the pseudorange's (DEDUCED, log 81). -/
def maskMeas (off : Nat) : Word :=
  match window 0x4000 32 288 off with
  | some (_, 0x08) => 0xFF#32
  | _ => 0xFFFFFFFF#32

/-- The pair-wide registers of MEAS (R177). -/
def pairMeas (off : Nat) : Bool := [0x1C, 0x20].contains off

/-- The fields of a pair-wide MEAS register lie in their ranges. -/
def pairMeasOk (off v : Nat) : Bool :=
  match off with
  | 0x1C => decide (5 ≤ bits v 0 8 ∧ bits v 0 8 ≤ 30) && decide (10 ≤ bits v 8 8) &&
      decide (5 ≤ bits v 16 8 ∧ bits v 16 8 ≤ 100) && decide (10 ≤ bits v 24 8 ∧ bits v 24 8 ≤ 100)
  | _ => decide (5 ≤ bits v 8 6 ∧ bits v 8 6 ≤ 60)

/-- A pair-wide MEAS register takes its value. -/
def applyMeas (off v : Nat) (s : State) : State :=
  match off with
  | 0x1C => { s with meas.uniform := bits v 0 8, meas.clk := bits v 8 8, meas.resid := bits v 16 8, meas.gf := bits v 24 8 }
  | _ => { s with meas.staMsg := bits v 0 1, meas.glo1230 := bits v 1 1, meas.staPeriod := bits v 8 6 }

/-- A write to a MEAS register that is not pair-wide; the UART rates apply at the next correction epoch. -/
def writeMeas (off v : Nat) (s : State) : Nat × State :=
  match off with
  | 0x04 => taken { s with mreg.events := w1c s.mreg.events v }
  | 0x24 => taken { s with meas.uart0Next := bits v 0 2, meas.uart1Next := bits v 2 2 }
  | 0x90 => taken (if bit v 0 then { s with meas.window := s.meas.last, meas.windowCount := min 288 s.meas.last.length } else s)
  | 0x00 | 0x14 => readOnly true s
  | _ => readOnly false s

/-! ### TIME -/

/-- The state of the servo as TIME_QUALITY numbers it. -/
def Servo.code : Servo → Nat
  | .provisional => 0 | .tracking => 1 | .locked => 2 | .slew => 3 | .holdover => 4

/-- The state of a PTP port as TIME_PTPm_STATUS numbers it. -/
def PtpState.code : PtpState → Nat
  | .disabled => 0 | .listening => 1 | .master => 2 | .uncalibrated => 3 | .slave => 4 | .passive => 5

/-- A register of a capture input (Table 7-7). -/
def CaptureIn.word (i : CaptureIn) (r : Nat) : Option Word :=
  let e := i.fifo.head?
  match r with
  | 0x0 => some (e.elim 0#32 (fun e => timeWord e.time 0))
  | 0x4 => some (e.elim 0#32 (fun e => timeWord e.time 1))
  | 0x8 => some (e.elim 0#32 (fun e => timeWord e.time 2))
  | 0xC => some (pack [(0, 4, i.fifo.length), (4, 1, e.elim 0 (fun e => flag e.rising)), (5, 1, e.elim 0 (fun e => flag e.aligned)),
      (6, 1, e.elim 0 (fun e => flag e.step)), (8, 8, i.overflow), (16, 8, i.missed)])
  | _ => none

/-- A PPS output's settings as its CFG register shows them. -/
def Pps.word (p : Pps) : Word := pack [(0, 2, p.mode), (2, 2, p.period), (4, 1, p.polarity), (8, 22, p.width)]

/-- The settings last written for a PPS output. -/
def State.ppsSet (n : Nat) (s : State) : Pps := (s.time.ppsNext[n]?).getD {}

/-- A PTP port's STATUS register. -/
def State.ptpWord (m : Nat) (s : State) : Word :=
  let p := s.port m
  pack [(0, 2, s.ptpRole m), (2, 3, p.state.code), (5, 7, (s.netRec m).elim 0 (·.ptpDomain)), (12, 5, p.queue.length), (17, 15, p.ignored)]

/-- The dropped and stale transmit stamps of a MAC. -/
def State.txtsWord (m : Nat) (s : State) : Word :=
  pack [(0, 16, (s.treg.txtsOvf[m]?).getD 0), (16, 16, (s.treg.txtsStale[m]?).getD 0)]

/-- A TIME register's word; none for an unassigned offset (Table 7-7). -/
def readTime (off : Nat) (s : State) : Option Word :=
  match off with
  | 0x00 => some (pack [(0, 3, s.time.servo.code), (3, 1, flag s.time.aligned), (4, 3, s.time.source), (7, 1, flag s.time.stepped),
      (8, 24, if s.time.servo = .holdover then sat 24 s.time.holdS else 0)])
  | 0x04 => some (uword s.timeBound)
  | 0x08 => some (timeWord s.now 0)
  | 0x0C => some (timeWord s.now 1)
  | 0x10 => some (timeWord s.now 2)
  | 0x14 => some (wordOf s.time.frc.toNat 0)
  | 0x18 => some (wordOf s.time.frc.toNat 1)
  | 0x20 => some (timeWord s.time.tAnchor 0)
  | 0x24 => some (timeWord s.time.tAnchor 1)
  | 0x28 => some (timeWord s.time.tAnchor 2)
  | 0x2C => some (wordOf s.time.fAnchor.toNat 0)
  | 0x30 => some (wordOf s.time.fAnchor.toNat 1)
  | 0x34 => some (wordOf (sbits 64 s.time.rho) 0)
  | 0x38 => some (wordOf (sbits 64 s.time.rho) 1)
  | 0x40 => some (sword s.time.lastOffset)
  | 0x44 => some (sword s.time.sigma)
  | 0x48 => some s.treg.events
  | 0x4C => some (pack [(0, 1, flag s.time.ctlGnss), (1, 1, flag s.time.ctlPtp)])
  | 0x50 => some (pack [(0, 30, s.station.elim 0 (·.jumpThreshold))])
  | 0x60 => some (s.ppsSet 0).word
  | 0x64 => some (s.ppsSet 1).word
  | 0x68 => some (sword (s.ppsSet 0).offset)
  | 0x6C => some (sword (s.ppsSet 1).offset)
  | 0x70 => some (pack [(0, 1, flag s.time.pairAligned), (1, 1, flag s.time.biasFrozen), (16, 16, sbits 16 (ssat 16 s.time.viaOffset))])
  | 0x74 => some (sword s.time.bias)
  | 0x80 => some s.treg.discarded
  | 0x84 => some s.treg.slewS
  | 0x88 => some s.treg.steps
  | 0x8C => some s.treg.holdSCount
  | 0x90 => some (s.txtsWord 0)
  | 0x94 => some (s.txtsWord 1)
  | 0xA0 => some (s.ptpWord 0)
  | 0xA4 => some (s.ptpWord 1)
  | 0xA8 => some (pack [(0, 3, (s.port 0).syncLog)])
  | 0xAC => some (pack [(0, 3, (s.port 1).syncLog)])
  | 0xC0 => some (pack [(0, 16, s.time.evtEdge)])
  | 0xC4 => some 0#32
  | _ =>
    match window 0x100 16 8 off with
    | some (n, r) => ((s.time.evt[n]?).getD {}).word r
    | none => none

/-- A long value's first offset and words: device time with the FRC, the anchor with the rate, the head entry of an input. -/
def wideTime (off : Nat) : Option (Nat × Nat) :=
  if 0x08 ≤ off ∧ off < 0x1C then some (0x08, 5)
  else if 0x20 ≤ off ∧ off < 0x3C then some (0x20, 7)
  else match window 0x100 16 8 off with
    | some (n, r) => if r = 0xC then none else some (0x100 + 16 * n, 3)
    | none => none

/-- The settings of a PPS output in a written CFG word. -/
def ppsOf (v : Nat) (p : Pps) : Pps := { p with mode := bits v 0 2, period := bits v 2 2, polarity := bits v 4 1, width := bits v 8 22 }

/-- A PPS CFG word in range (R188): a mode and a period that Table 7-7 names, a width from 1 µs to below the period. -/
def ppsOk (v : Nat) : Bool :=
  decide (bits v 0 2 ≤ 2) && decide (bits v 2 2 ≤ 2) && decide (1 ≤ bits v 8 22) &&
  decide (bits v 8 22 < (match bits v 2 2 with | 0 => 1000000 | 1 => 100000 | _ => 10000))

/-- TIME_CTL, the pair-wide register of TIME, takes its value. -/
def applyTime (v : Nat) (s : State) : State := { s with time.ctlGnss := bit v 0, time.ctlPtp := bit v 1 }

/-- A PPS output's settings changed from the next whole second on (R188). -/
def State.updPps (n : Nat) (f : Pps → Pps) (s : State) : State := { s with time.ppsNext := updAt s.time.ppsNext n f }

/-- A write to a TIME register that is not pair-wide. -/
def writeTime (off v : Nat) (s : State) : Nat × State :=
  match off with
  | 0x48 => taken { s with treg.events := w1c s.treg.events v }
  | 0x60 => inRange (ppsOk v) (State.updPps 0 (ppsOf v)) s
  | 0x64 => inRange (ppsOk v) (State.updPps 1 (ppsOf v)) s
  | 0x68 => inRange (decide ((ofSbits 32 v).natAbs ≤ 400000)) (State.updPps 0 (fun (p : Pps) => { p with offset := ofSbits 32 v })) s
  | 0x6C => inRange (decide ((ofSbits 32 v).natAbs ≤ 400000)) (State.updPps 1 (fun (p : Pps) => { p with offset := ofSbits 32 v })) s
  | 0xA8 => inRange (decide (bits v 0 3 ≤ 4)) (fun s => s.setPort 0 { s.port 0 with syncLog := bits v 0 3 }) s
  | 0xAC => inRange (decide (bits v 0 3 ≤ 4)) (fun s => s.setPort 1 { s.port 1 with syncLog := bits v 0 3 }) s
  | 0xC0 => taken { s with time.evtEdge := bits v 0 16 }
  | 0xC4 => taken (s.popEvt v)
  | 0x50 | 0xA0 | 0xA4 => readOnly true s
  | _ => readOnly false s

end Sys2Proof.Machine
end

