-- ==== Sys2Proof/Machine/Pair.lean ====
section
/-! DEFINITION. The Viaduct and the mirror (R339–R345): heartbeats and their keep-alive, the link, tick deltas, resync, ceilings,
register writes, and the classes of a pair with its change list (R79, R80). -/

namespace Sys2Proof.Machine

/-! ### Heartbeats -/

/-- HEALTH_REFRESH (R339): firmware refreshes the health word. -/
def execHealthRefresh : State → Host.Outcome State Fault Refusal :=
  done fun s => if s.powered then { s with pair.healthAt := some s.ns } else s

/-- The pair controller may send (R339): the health word is at most 2 ms old, no save has begun, and the unit is not degraded but
for a lead that R23 keeps in HOLD. -/
def State.beats (s : State) : Bool :=
  s.powered && !s.sys.saving && (s.pair.healthAt.map (fun t => decide (s.ns ≤ 2000000 + t))).getD false &&
  (!s.sys.degraded || (decide (s.sys.mode = Mode.hold) && s.pair.claim))

/-- The octets of a device time in a frame (R10). -/
def timeOctets (t : Nat) : List Octet := leBytes 12 (secOf t * 2 ^ 48 + nsOf t * 2 ^ 16 + t % perNs)

/-- The readiness bits of Table 12-3. -/
def State.readiness (s : State) : Nat :=
  flag s.pair.mirrored + 2 * flag (decide (s.meas.alignState = 2)) + 4 * flag s.time.pairAligned +
  8 * flag (decide (s.time.servo ≠ .provisional)) + 16 * flag s.clean + 32 * flag s.pair.asked.isSome +
  64 * flag (s.isLead && decide (s.rad.skipAt = some (s.now / (100 * perMs) * (100 * perMs))))

/-- The content of a HEARTBEAT, octets 4–59 of Table 12-3; the slew term is the one of the coming second (R193; DEDUCED, log 188). -/
def State.heartbeat (s : State) : List Octet :=
  let step := (s.time.step.map (fun t => (t.amount, t.w))).getD ((0 : Int), 0)
  leBytes 1 (s.unitNo + 4 * s.sys.mode.code + 32 * flag s.pair.claim + 64 * flag s.pair.forceOut + 128 * flag s.sys.saving) ++
    leBytes 1 s.pair.beatSeq ++ leBytes 2 (flag s.stop.runA + 2 * flag s.stop.runB) ++ timeOctets s.now ++ timeOctets s.pair.beatRx ++
    leBytes 4 (s.health s.protocol) ++ leBytes 4 (if s.isLead then s.pair.sentTick else s.pair.ackTick) ++
    leBytes 4 (if s.isLead then sbits 32 s.nextSlew else 0) ++ leBytes 8 (sbits 64 step.1) ++ leBytes 4 step.2 ++
    leBytes 1 s.readiness ++ [0#8, 0#8, 0#8]

/-- HEARTBEAT_SEND (R343): a whole 500 µs of device time, or in START of the free-running counter. A lone unit runs the keep-alive
without a frame (R336). -/
def execHeartbeatSend : State → Host.Outcome State Fault Refusal :=
  done fun s =>
    if !s.powered then s
    else
      let s := if s.time.running then s.mark markBeat (500 * perUs) else s.atLeast ((s.ns / 500000 + 1) * 500000)
      if !s.beats then s
      else
        let s := { s with pair.beatAt := some s.ns, pair.beatTx := (stamp1ns s.now :: s.pair.beatTx).take 2 }
        if s.paired then { s.viaduct 0x01 s.heartbeat with pair.beatSeq := (s.pair.beatSeq + 1) % 256 } else s

/-- HEARTBEAT_KEEPALIVE_EXPIRY (R339): 1.0 ms after the last heartbeat the claim is released; not in a save. -/
def execHeartbeatKeepaliveExpiry : State → Host.Outcome State Fault Refusal :=
  done fun s =>
    if !s.pair.claim ∨ s.sys.saving then s
    else (s.atLeast ((s.pair.beatAt.map (· + 1000000)).getD s.ns)).releaseClaim

/-- What the partner's HEARTBEAT says of its lines: CLAIM_OUT, FORCE_OUT and its stop inputs (R323, DEDUCED: the pins follow). -/
def State.peerLines (b : Heartbeat) (s : State) : State :=
  { s with pair.peerFree := if b.claim then none else if s.pair.peerFree.isNone then some s.ns else s.pair.peerFree
           pair.peerClaim := b.claim, pair.forceIn := b.force, pair.peerForce := b.force
           stop.partnerA := b.stopA, stop.partnerB := b.stopB }

/-- The pair-wide registers of Table 18-11, each by its address, with the words that they hold. -/
def State.pairWideWords (s : State) : List (Nat × Word) :=
  let rows := fun (block : Nat) (read : Nat → State → Option Word) (offs : List Nat) =>
    offs.filterMap (fun o => (read o s).map (fun w => (block * 65536 + o, w)))
  let run := fun (base n : Nat) => (List.range n).map (fun i => base + 4 * i)
  rows 0x01 readLake [0x0C, 0x60, 0xA0, 0xB0] ++ rows 0x02 readTrk (run 0x08 3 ++ run 0x40 19) ++ rows 0x04 readMeas [0x1C, 0x20] ++
  rows 0x05 readTime [0x4C] ++ rows 0x07 (readRad 1) [0x80] ++ rows 0x0A readProf (run 0x10 4 ++ run 0x40 12)

/-- A unit that enters SHADOW adopts its lead's pair-wide registers (R115): the lead sends each in a REGISTER frame, for the next whole
second. -/
def State.sendPairWide (s : State) : State :=
  s.each s.pairWideWords (fun p s => s.viaduct 0x06 (leBytes 4 p.1 ++ leBytes 4 p.2.toNat ++ leBytes 4 (secOf s.now + 1)))

/-- A distance between two numbers. -/
def gap (a b : Nat) : Nat := ((a : Int) - b).natAbs

/-- A two-way exchange of time at a standby (R193), in 2^-16 ns: the frame of its own that the lead's stamp belongs to is the one sent nearest
to it; half the difference of the two directions is how far its device time is ahead. -/
def State.exchangeTime (b : Heartbeat) (received : Nat) (s : State) : State :=
  match leastBy (fun x y => decide (gap x b.stamp < gap y b.stamp)) s.pair.beatTx with
  | some t1 =>
    if b.stamp = 0 then s
    else { s with time.viaSum := s.time.viaSum + (((t1 : Int) - b.stamp) + ((received : Int) - b.sent)) / 2, time.viaCount := s.time.viaCount + 1 }
  | none => s

/-- A HEARTBEAT is taken (R193, R343, R348), stamped at the SerDes with 1 ns resolution: a lead begins a resync when its partner enters SHADOW; a
standby takes the time exchange, sigma and the pending step. -/
def State.takeBeat (b : Heartbeat) (received : Nat) (s : State) : State :=
  let enters := s.isLead && decide (b.mode = 4) && decide (s.pair.peerMode ≠ 4)
  let s := s.peerLines b
  let s := { s with
    pair.missed := 0, pair.viaDown := false, pair.beatRx := stamp1ns received, pair.peer := b.health, pair.peerMode := b.mode
    pair.peerReady := b.ready, pair.peerAligned := bit b.ready 1, pair.peerSaving := b.saving
    pair.forceOut := s.pair.forceOut && !decide (b.mode = 1 ∨ b.mode = 4) }
  let s := if enters then
      { s.sendPairWide with pair.mirrored := false, pair.resync := some s.ns, pair.resyncBlocks := 0, pair.cntResyncs := incr s.pair.cntResyncs }
    else s
  let s := if s.sys.mode = Mode.shadow then
      let s := s.exchangeTime b (stamp1ns received)
      { s with time.viaSigma := b.sigma, time.step := if b.step = 0 then none else some ⟨b.step, 0, b.stepSecond⟩ }
    else s
  s.checkInputs

/-- HEARTBEAT_RECEIVED (R343). -/
def execHeartbeatReceived (beat : Heartbeat) (crcOk : Bool) (received : Nat) : State → Host.Outcome State Fault Refusal :=
  done fun s => if !s.paired then s else s.viaFrame 1 id (fun s => if crcOk then s.takeBeat beat received else s.crcDrop)

/-- VIADUCT_DOWN (R341, R346): recorded with the heartbeats missed and the lanes; the standby is not mirrored. -/
def State.viaductDown (s : State) : State :=
  (({ s with pair.viaDown := true, pair.events := s.pair.events ||| 32#32 }).report 0x0B07 [(1, s.pair.missed), (1, s.pair.lanes)]).notMirrored 2

/-- One more HEARTBEAT missed in a row. -/
def State.missBeat (s : State) : State :=
  { s with pair.missed := sat 8 (s.pair.missed + 1), pair.cntHbMissed := incr s.pair.cntHbMissed }

/-- A HEARTBEAT has arrived since the whole 500 µs of device time before this instant (R343). -/
def State.beatArrived (s : State) : Bool := decide (s.now / (500 * perUs) * (500 * perUs) ≤ s.pair.beatRx)

/-- HEARTBEAT_MISSED (R343): 100 µs after a whole 500 µs of device time, unless the HEARTBEAT has arrived since then; clean health breaks
(R352). The fourth in a row marks VIADUCT_DOWN: at a standby with CLAIM_IN asserted (R346), and at a lead (log 196). -/
def execHeartbeatMissed : State → Host.Outcome State Fault Refusal :=
  done fun s =>
    if !s.inService || !s.paired || s.sys.saving then s
    else
      let s := s.markOfs markMissed (500 * perUs) (100 * perUs)
      if s.beatArrived then s
      else
        let s := s.missBeat.breakHealth
        if decide (s.pair.missed = 4) && (s.isLead || s.pair.peerClaim) then s.viaductDown else s

/-! ### The link -/

/-- VIADUCT_LINK_DOWN (R341): a lane has been without block lock for 10 µs. -/
def execViaductLinkDown (lanes : Fin 4) : State → Host.Outcome State Fault Refusal :=
  done fun s =>
    if !s.powered || !s.pair.viaUp then s
    else ({ s with pair.viaUp := false, pair.lanes := lanes.val }).viaductDown

/-- The CONFIG frame of this unit: what the partner classifies by (R79). -/
def State.sendConfig (s : State) : State :=
  match s.cfg.image with
  | some m =>
    s.viaduct 0x07 (leBytes 1 m.head.target ++ leBytes 4 m.head.generation ++ beBytes 48 m.head.digest.toNat ++ beBytes 48 m.head.predecessor.toNat ++
      m.shared.flatMap (fun p => leBytes 1 p.1 ++ beBytes 48 p.2.toNat))
  | none => s

/-- VIADUCT_LINK_UP (R341): the link has trained in `training` µs. A lead with a standby begins its resync (R345). -/
def execViaductLinkUp (training : Nat) : State → Host.Outcome State Fault Refusal :=
  done fun s =>
    if !s.powered || !s.paired || s.pair.viaUp then s
    else
      let s := { s with pair.viaUp := true, pair.viaDown := false, pair.lanes := 3, pair.missed := 0, pair.retrains := sat 16 (s.pair.retrains + 1)
                        clk.viaduct := true }
      let s := (s.report 0x0B08 [(4, sat 32 training)]).sendConfig
      if s.isLead && decide (s.pair.peerMode = 4) then { s with pair.resync := some s.ns, pair.resyncBlocks := 0, pair.cntResyncs := incr s.pair.cntResyncs }
      else s

/-! ### The mirror -/

/-- The state that a delta or an image leaves; queues 28–31 and the cores as workers are the unit's own (Table 12-4). -/
def State.adoptFleet (f : Fleet) (s : State) : State :=
  let own := s.fleet.dsp
  { s with fleet := { f with dsp := { f.dsp with
      queues := f.dsp.queues.filter (fun p => decide (p.1 < 28)) ++ own.queues.filter (fun p => decide (28 ≤ p.1))
      workers := f.dsp.workers.filter (fun p => decide (p.1 < 256)) ++ own.workers.filter (fun p => decide (256 ≤ p.1)) } } }

/-- A delta is missing: the standby is not mirrored, and its image no longer serves (R345). -/
def State.loseDelta (cause : Nat) (s : State) : State := { s.notMirrored cause with pair.imageTick := none }

/-- A tick applied at the standby (R344): what status reads and lighting show, the counters of R264, the frames that a takeover may
still need (R349), the change map since the last beacon (R350). -/
def State.applyTick (d : TickDelta) (s : State) : State :=
  let old := s.pub.xarb
  let s := s.adoptFleet d.fleet
  let changed := s.openSessions.filter (fun n => decide ((s.xs n).serial ≠ (Tab.get {} old.sessions n).serial))
  let map := if d.tick % 10 = 0 then 0 else s.rad.changeMap
  let s := { s with
    pub := { dsp := s.fleet.dsp, xarb := s.fleet.xarb, prof := s.fleet.prof
             covered := (s.openSessions.flatMap (fun n => s.covered n)).eraseDups, tick := d.tick % 2 ^ 32 }
    rad.changeMap := changed.foldl (fun m n => setBit m (n % 64)) map
    kreg.switch := d.epochSwitch.or s.kreg.switch
    pair.ackTick := d.tick, pair.nextTick := d.tick + 1
    pair.heard := s.pair.heard.filter (fun (h : Heard) => decide (10 * perMs * d.tick ≤ h.frame.time)) }
  let s := (s.each d.news State.countNews).syncBusy (10 * d.tick)
  let s := if s.diag.authCut.isSome then s.authCheck else s
  s.lightingPublish

/-- TICK_DELTA (R342, R344, R345): applied in tick order upon a complete image and acknowledged. -/
def execTickDelta (delta : TickDelta) : State → Host.Outcome State Fault Refusal :=
  done (State.viaFrame 2 (State.loseDelta 0) fun s =>
    if s.sys.mode ≠ Mode.shadow then s
    else if !delta.crcOk then s.crcDrop.loseDelta 0
    else if s.pair.imageTick = none ∨ delta.tick < s.pair.nextTick then s
    else if s.pair.nextTick < delta.tick then s.loseDelta 0
    else
      let s := (s.applyTick delta).viaduct 0x03 (leBytes 4 delta.tick ++ leBytes 1 (flag delta.digestOk))
      if !delta.digestOk then s.loseDelta 1
      else if s.time.servo = Servo.provisional then s else s.becomeMirrored)

/-- RESYNC (R345): one block of a full image stamped with its tick; the last of them completes the image. -/
def execResync (tick : Nat) (image : Option Fleet) : State → Host.Outcome State Fault Refusal :=
  done (State.viaFrame 9 id fun s =>
    if s.sys.mode ≠ Mode.shadow then s
    else
      let s := { s with pair.resyncBlocks := s.pair.resyncBlocks + 1 }
      match image with
      | some f => { s.adoptFleet f with pair.imageTick := some tick, pair.nextTick := tick + 1, pair.ackTick := tick }
      | none => s)

/-- CEILING (R224): a raised ceiling is stored and acknowledged; the counter of that key begins there after a takeover. -/
def execCeiling (key ceiling : Nat) : State → Host.Outcome State Fault Refusal :=
  done (State.viaFrame 5 id fun s =>
    if s.sys.mode ≠ Mode.shadow then s
    else
      ({ s with rad.stored := Tab.set 0 s.rad.stored key ceiling, rad.keys := Tab.set {} s.rad.keys key {} }).viaduct 0x03 [0x05#8])

/-- REGISTER_FRAME (R115): a pair-wide write waits for its whole second. -/
def execRegisterFrame (address : Nat) (value : Word) (second : Nat) : State → Host.Outcome State Fault Refusal :=
  done (State.viaFrame 6 id fun s =>
    if s.sys.mode ≠ Mode.shadow then s
    else { s with pair.regDue := s.pair.regDue ++ [(address, value.toNat, second)] })

/-! ### Classification -/

/-- The row of Table 3-28, from 0, that holds for two images. -/
def pairRow (a b : Image) : Nat :=
  let stationOf := fun (m : Image) => (m.shared.find? (fun p => decide (p.1 = 0x02))).map (·.2)
  if !((decide (a.head.target = 1) && decide (b.head.target = 2)) || (decide (a.head.target = 2) && decide (b.head.target = 1))) then 0
  else if a.head.digest = b.head.digest then 1
  else if stationOf a ≠ stationOf b ∨ a.plans ≠ b.plans then 2
  else if (a.head.predecessor = b.head.digest ∧ b.head.generation < a.head.generation) ∨
      (b.head.predecessor = a.head.digest ∧ a.head.generation < b.head.generation) then 3
  else 4

/-- The class of a pair from the two images (Table 3-28). -/
def classifyPair (a b : Image) : PairClass :=
  match pairRow a b with
  | 1 => .matched
  | 3 => .mixed
  | _ => .mismatch

/-- PAIR_MISMATCH with the row that the images meet and the protocol versions of the unit and its partner (R42, R43). -/
def State.recordMismatch (protocol : Nat) (s : State) : State :=
  let row := match s.cfg.image, s.cfg.partner with
    | some a, some b => pairRow a b
    | _, _ => 4
  s.report 0x0B0B [(1, row), (1, s.protocol), (1, protocol)]

/-- The changes of one record type in `own` relative to `lead`: keys added 0, removed 1, changed 2 (R80). -/
def diffRecords {α : Type} [DecidableEq α] (kind : Nat) (key : α → Nat) (own lead : List α) : List CfgChange :=
  (own.filter (fun r => !lead.any (fun t => decide (key t = key r)))).map (fun r => ⟨kind, 0, key r⟩) ++
  (lead.filter (fun r => !own.any (fun t => decide (key t = key r)))).map (fun r => ⟨kind, 1, key r⟩) ++
  (own.filter (fun r => lead.any (fun t => decide (key t = key r ∧ t ≠ r)))).map (fun r => ⟨kind, 2, key r⟩)

/-- The key of a DECK_ENTRY as a number. -/
def DeckRec.key (r : DeckRec) : Nat := r.radio * 65536 + r.tick * 256 + r.index

/-- The change list over the shared sections (R80), in the order of Table 3-6. -/
def changeList (own lead : Image) : List CfgChange :=
  diffRecords 0x0101 (fun _ => 0) [own.site] [lead.site] ++ diffRecords 0x0201 (fun _ => 0) [own.station] [lead.station] ++
  diffRecords 0x0401 (·.span) own.spans lead.spans ++ diffRecords 0x0402 (·.pier) own.piers lead.piers ++
  diffRecords 0x0501 (·.identity) own.robots lead.robots ++ diffRecords 0x0502 (·.cls) own.classes lead.classes ++
  diffRecords 0x0601 (·.queue) own.queues lead.queues ++ diffRecords 0x0602 (·.rule) own.triggers lead.triggers ++
  diffRecords 0x0603 (fun _ => 0) own.budget.toList lead.budget.toList ++ diffRecords 0x0701 (·.radio) own.plans lead.plans ++
  diffRecords 0x0702 DeckRec.key own.deck lead.deck ++ diffRecords 0x0703 (·.node) own.nodes lead.nodes ++
  diffRecords 0x0801 (·.kind) own.loops lead.loops ++ diffRecords 0x0A01 (·.zone) own.zones lead.zones

/-- How many changes of a kind, 0 added, 1 removed, 2 changed, a record type has. -/
def changeCount (kind change : Nat) (l : List CfgChange) : Nat :=
  (l.filter (fun (c : CfgChange) => decide (c.kind = kind ∧ c.change = change))).length

/-- The Deck of a radio by an image, keyed 64 × tick + index. -/
def Image.deckTab (m : Image) (radio : Nat) : Tab (List Octet) :=
  (m.deck.filter (fun r => decide (r.radio = radio))).foldl (fun t (r : DeckRec) => Tab.set [] t (64 * r.tick + r.index) r.entry) []

/-- The class against the partner's image, with the change list of a MIXED pair: the standby's image relative to the lead's, recorded
by the standby as CFG_MIXED with the keys added, removed and changed of each record type, as far as they fit (R80, R450). A standby runs on the lead's Deck (Table 3-29). -/
def State.adoptClass (s : State) : State :=
  match s.cfg.image, s.cfg.partner with
  | some own, some p =>
    let c := classifyPair own p
    let shadow := decide (s.sys.mode = Mode.shadow)
    let l := if c ≠ PairClass.mixed then [] else if shadow then changeList own p else changeList p own
    let s := { s with pair.cls := c, cfg.changes := l }
    if c = PairClass.mixed && shadow then
      let s := { s with rad.a.deck := p.deckTab 0, rad.b.deck := p.deckTab 1 }
      let items := recTypes.flatMap (fun t => [0, 1, 2].map (fun c => ((2, (sat 16 (changeCount t.kind c l) : Nat)) : Nat × Int)))
      s.report 0x0B0C items
    else s
  | _, _ => s

/-- CONFIG_FRAME (R79, R80): the partner's shared sections and digests, and the check values of its key slots. -/
def execConfigFrame (partner : Image) (checks : List Nat) : State → Host.Outcome State Fault Refusal :=
  done fun s =>
    if !s.paired then s
    else s.viaFrame 7 id fun s =>
      let s := { s with cfg.partner := some partner, pair.checks := checks }
      if s.inService then s.adoptClass else s

end Sys2Proof.Machine
end

