-- ==== Sys2Proof/Machine/Takeover.lean ====
section
/-! DEFINITION. The claim (R337–R340), losing the lead and taking over (R346–R350), the change list of a MIXED pair (R81), and
handing the lead over (R353, R354). -/

namespace Sys2Proof.Machine

/-! ### What a takeover does -/

/-- START ends with the claim held (R42 step 3, R37, Table 2-2): SURVEY where the image orders one, else HOLD with CORR_AGE; a
tampered unit enters HOLD. -/
def State.serveStart (s : State) : State :=
  if s.baseMode = 1 ∧ bit s.stop.own causeTamper = false then (s.toMode .survey 1).surveyAtStart.checkInputs
  else ((s.toMode .hold 2).setCell causeCorrAge 0).checkInputs

/-- The frames that the standby heard since the snapshot of the last applied tick go through the checks of R221 (R349). -/
def State.takeHeard (s : State) : State :=
  let l := s.pair.heard
  ({ s with pair.heard := [] }).each l (fun h s => s.receive h.radio h.frame)

/-- A span that a session holds or requests has changed (Table 3-29). -/
def State.graphChanged (spans : List Nat) (s : State) : State :=
  s.each s.openSessions fun n s =>
    let asked := if (s.xs n).route.isSome then (s.request n).map (·.1) else []
    if spans.any (fun x => (s.xs n).held.contains x || asked.contains x) then s.setSess n sessGraph 0 else s

/-- The spans that meet a pier in either image. -/
def State.spansAt (pier : Nat) (s : State) : List Nat :=
  ((s.recs (·.spans) ++ (s.cfg.partner.map (·.spans)).getD []).filter (fun r => decide (r.fromPier = pier ∨ r.toPier = pier))).map (·.span)

/-- The Deck of radio `i` by the own image waits in the shadow copy for the next cycle boundary (Table 3-29). -/
def State.ownDeck (i : Nat) (s : State) : State :=
  match s.cfg.image with
  | some m =>
    let s := { s with tables := updAt s.tables i (fun (t : SeqTable) => { t with committed := some 0 }) }
    if i = 0 then { s with rad.a.shadow := m.deckTab 0 } else { s with rad.b.shadow := m.deckTab 1 }
  | none => s

/-- One change applied at a takeover (Table 3-29). -/
def State.applyChange (c : CfgChange) (s : State) : State :=
  match c.kind, c.change with
  | 0x0501, 2 =>
    s.each (s.openSessions.filter (fun n => decide ((s.rs n).identity = c.key))) fun n s =>
      { s with inp.classes := s.inp.classes ++ [(n, (s.robotRec c.key).elim 0 (·.cls))] }
  | 0x0501, 1 =>
    s.each (s.openSessions.filter (fun n => decide ((s.rs n).identity = c.key))) fun n s => s.setSess n sessRemoved 0
  | 0x0502, 2 =>
    s.each (s.openSessions.filter (fun n => decide ((s.xs n).cls = c.key))) fun n s => s.updPs n (fun (p : ProfSess) => { p with due := true })
  | 0x0401, 1 | 0x0401, 2 => s.graphChanged [c.key]
  | 0x0402, 1 | 0x0402, 2 => s.graphChanged (s.spansAt c.key)
  | 0x0601, 1 => if (s.queue c.key).depth = 0 then s else s.setQueue c.key { s.queue c.key with closing := true }
  | 0x0702, _ => s.ownDeck (c.key / 65536)
  | _, _ => s

/-- The change list applied by the unit of a MIXED pair that takes the lead (R81). -/
def State.applyChanges (s : State) : State :=
  if s.pair.cls = PairClass.mixed then s.each s.cfg.changes State.applyChange else s

/-- The correction stream from the first message that was not heard in full (R350). -/
def State.resumeCorr (t : TakeIn) (s : State) : State :=
  { s with meas.airQueue := (dropStream s.meas.airQueue t.corrOctets).1, meas.airOffset := 0, meas.airSeq := t.corrFrames % 256 }

/-- The mode of the new lead and its stop causes (Table 2-2, R349): from the mirror, or HOLD with PAIR_UNSYNC. -/
def State.takeMode (mirrored : Bool) (s : State) : State :=
  if mirrored then
    let m := if s.fleet.mode = Mode.survey then Mode.survey else if s.cellSet = 0 then Mode.lead else Mode.hold
    (s.toMode m 10).checkInputs
  else ((s.toMode .hold 11).setCell causeUnsync 0).checkInputs

/-- What the new lead's radios, time and guests go on from (Table 12-6, R195, R224, R301, R350). -/
def State.takeOutputs (t : TakeIn) (s : State) : State :=
  let loss := s.time.timeAgo s.time.frc (BitVec.ofNat 64 s.pair.lossAt)
  let s := s.resumeCorr t
  { s with
    rad.keys := [], rad.shown := [], rad.serveFrom := 60 * perUs + loss, rad.beaconGap := s.ns
    rad.late := s.pair.lateEntry.filter (fun e => decide (s.now ≤ 1470 * perUs + e))
    guest.heard := (List.range 64).foldl (fun m c => Tab.set 0 m c s.ns) []
    time.biasFrozen := true, time.slewTerm := s.time.sigma, time.viaSigma := 0
    time.servo := if s.time.sigma = 0 then s.time.servo else .slew
    time.lastOffset := if s.time.biasFrozen then s.time.lastOffset else s.time.gnssOwn }

/-- The pair's registers after the claim. -/
def State.takePair (s : State) : State :=
  { s with
    pair.unapplied := s.pair.mirrored && decide (s.pair.ackTick < tickOf s.now)
    pair.mirrored := false, pair.resync := none, pair.imageTick := none, pair.lateEntry := none, pair.windows := 0
    pair.seeking := 0, pair.decided := none, pair.handover := none, pair.swapDue := false, pair.deltaDue := false }

/-- The record of a takeover or handover, PAIR_LAST and the counters (R354, R358, Table 12-12). -/
def State.takeRecord (kind tick ready duration : Nat) (s : State) : State :=
  let s := { s with pair.lastKind := kind, pair.lastDuration := min 8191 duration }
  if kind = 4 then
    ({ s with pair.cntHandovers := incr s.pair.cntHandovers, pair.events := s.pair.events ||| 2#32 }).report 0x0B02 [(1, 1), (4, tick)]
  else
    ({ s with pair.cntTakeovers := incr s.pair.cntTakeovers, pair.events := s.pair.events ||| 1#32 }).report 0x0B01
      [(1, kind), (1, s.sys.mode.code), (1, ready), (4, sat 32 duration)]

/-- The standby takes over with its claim asserted (R349, Table 12-6); a takeover is complete within 5 ms of the loss. -/
def State.takeover (t : TakeIn) (s : State) : State :=
  let mirrored := s.pair.mirrored
  let ready := s.readiness
  let kind := if mirrored then s.pair.seeking else 5
  let tick := ((s.pair.handover.bind (·.tick)).getD 0)
  let s := (if mirrored then s.takeHeard else s)
  let s := ({ s with pair.claim := true }).takeOutputs t
  let s := s.atLeast (s.pair.lossAt + 20000)
  let s := (s.takePair.takeMode mirrored).freezeAlign.applyChanges.adoptClass
  s.takeRecord kind tick ready t.duration

/-- CLAIM_OUT is asserted (R337): at the end of START, or for a takeover. -/
def State.assertClaim (t : TakeIn) (s : State) : State :=
  if s.pair.seeking = 6 then ({ s with pair.claim := true, pair.seeking := 0, pair.decided := none }).serveStart
  else if s.sys.mode = Mode.shadow then s.takeover t
  else { s with pair.seeking := 0, pair.decided := none }

/-- A unit whose claim the partner forestalls: a standby stays one, a unit in START decides again (R42). -/
def State.forestalled (s : State) : State :=
  { s with pair.decided := none, sys.waitViaduct := s.sys.waitViaduct || decide (s.pair.seeking = 6), pair.seeking := 0 }

/-- The unit decides to claim once CLAIM_IN has been released for 2 µs (R337); an injection is cancelled first (R464). Unit A
and a lone unit assert CLAIM_OUT within 1 µs; unit B samples again. -/
def State.decideClaim (t : TakeIn) (s : State) : State :=
  if s.pair.seeking = 0 || s.pair.claim || s.pair.decided.isSome || s.pair.forceIn || s.sys.saving || !s.powered ||
    (s.paired && bit s.stop.own causeTamper) then s
  else if s.pair.peerClaim then s.forestalled
  else
    let s := s.atLeast (s.pair.peerFree.getD s.ns + 2000)
    let s := { s.cancelInjection with pair.decided := some s.ns }
    if s.unitNo = 2 then s else (s.atLeast (s.ns + 1000)).assertClaim t

/-- The standby has lost its lead at this instant (R346): it seeks the claim for a reason of PAIR_LAST. -/
def State.loseLead (kind : Nat) (t : TakeIn) (s : State) : State :=
  ({ s with pair.peerClaim := false, pair.peerFree := some s.ns, pair.seeking := kind, pair.lossAt := s.ns, pair.decided := none }).decideClaim t

/-! ### The claim's commands -/

/-- CLAIM_DECISION (R337). -/
def execClaimDecision (take : TakeIn) : State → Host.Outcome State Fault Refusal := done (State.decideClaim take)

/-- CLAIM_B_RECHECK (R337): unit B samples CLAIM_IN 10 µs after its decision; `released` says that it stayed released. -/
def execClaimBRecheck (released : Bool) (take : TakeIn) : State → Host.Outcome State Fault Refusal :=
  done fun s =>
    match s.pair.decided with
    | some t =>
      if s.pair.claim || s.sys.saving || !s.powered then s
      else
        let s := s.atLeast (t + 10000)
        if released && !s.pair.forceIn then s.assertClaim take else ({ s with pair.peerClaim := true, pair.peerFree := none }).forestalled
    | none => s

/-- CLAIM_CONFLICT (R340): CLAIM_IN has been asserted for 20 µs while the claim is held. -/
def execClaimConflict : State → Host.Outcome State Fault Refusal :=
  done fun s =>
    if !s.pair.claim || !s.inService then s
    else
      let s := { s with pair.peerClaim := true, pair.peerFree := none, pair.events := s.pair.events ||| 16#32 }
      let s := s.reportNow 0x0B06 [(1, s.unitNo)]
      if s.unitNo = 2 then s.degradedRestart else s

/-- FORCE_IN_ASSERTED (R338, R339, R348, R357): the claim goes at once and the unit restarts; in SHADOW it is recorded only. -/
def execForceInAsserted : State → Host.Outcome State Fault Refusal :=
  done fun s =>
    let s := { s with pair.forceIn := true }
    if !s.powered then s
    else if s.sys.mode = Mode.shadow then ({ s with pair.events := s.pair.events ||| 8#32 }).report 0x0B04 [(1, s.pair.windows)]
    else if !s.pair.claim then s
    else
      let s := ({ s.releaseClaim with pair.events := s.pair.events ||| 8#32 }).reportNow 0x0B05 [(1, 3 - s.unitNo)]
      if s.sys.saving then s else s.degradedRestart

/-- CLAIM_IN_RELEASED (R346, R43): the standby takes over; a unit held by PAIR_MISMATCH records it again. -/
def execClaimInReleased (take : TakeIn) : State → Host.Outcome State Fault Refusal :=
  done fun s =>
    if !s.powered || s.sys.saving then { s with pair.peerClaim := false, pair.peerFree := some s.ns }
    else if s.sys.mode = Mode.shadow then s.loseLead (if s.pair.forceOut then 3 else 1) take
    else
      let s := { s with pair.peerClaim := false, pair.peerFree := some s.ns }
      if s.sys.mode = Mode.start ∧ s.sys.mismatch = true then
        s.recordMismatch (bits s.pair.peer 24 8)
      else s

/-- A beacon window of the lead without its preamble is counted (R347). -/
def State.missWindow (s : State) : State := { s with pair.windows := s.pair.windows + 1 }

/-- The lead's preamble was heard: nothing is overdue (R347). -/
def State.heardLead (s : State) : State := { s with pair.windows := 0, pair.lateEntry := none }

/-- The entry that is late. -/
def State.markLate (start : Nat) (s : State) : State := { s with pair.lateEntry := some start }

/-- A preamble that was due and did not come (R346, R347): a released claim hands the lead over within the entry. -/
def State.beaconLate (start : Nat) (released : Option Nat) (take : TakeIn) (s : State) : State :=
  match released with
  | some us => if us ≤ 1470 then (s.reach (start + perUs * us)).loseLead 2 take else s.missWindow
  | none => s.when s.pair.peerClaim State.missWindow

/-- BEACON_WATCH (R346, R347): 1.0 ms into the next BEACON entry; `heard` is the lead's preamble, `released` the µs into the entry
at which CLAIM_IN fell. -/
def execBeaconWatch (heard : Bool) (released : Option Nat) (take : TakeIn) : State → Host.Outcome State Fault Refusal :=
  done fun s =>
    if s.sys.mode ≠ Mode.shadow || s.sys.saving || !s.time.running then s
    else
      match s.nextEntry 0 (entryMark 0 8) beaconLimit (fun e => decide (e.kind = 1)) with
      | none => s
      | some p =>
        let s := s.serveAt (entryMark 0 8) (p.2 + beaconLimit)
        if heard then s.heardLead
        else if bit s.pair.peerReady 6 && decide (500 * perUs + p.2 ≤ s.pair.beatRx) then s
        else (s.markLate p.2).beaconLate p.2 released take

/-- FORCE_OUT_ASSERT (R348): 1.2 ms into the third window missed in a row with CLAIM_IN asserted. -/
def execForceOutAssert : State → Host.Outcome State Fault Refusal :=
  done fun s =>
    if s.sys.mode ≠ Mode.shadow || s.sys.saving || !s.pair.peerClaim || decide (s.pair.windows < 3) || s.pair.forceOut then s
    else
      let s := s.reach ((s.pair.lateEntry.map (· + 1200 * perUs)).getD 0)
      ({ s with pair.forceOut := true, pair.events := s.pair.events ||| 8#32 }).report 0x0B04 [(1, sat 8 s.pair.windows)]

/-- FORCE_CLR in PAIR_CTL releases FORCE_OUT (R348). -/
def State.forceClr (s : State) : State := { s with pair.forceOut := false }

/-- FORCE_CLR (R348, R359). -/
def execForceClr : State → Host.Outcome State Fault Refusal := done fun s => if s.powered && !s.sys.saving then s.forceClr else s

/-! ### Handover -/

/-- The hold-off has run out (R352). -/
def State.holdoffDone (s : State) : Bool :=
  decide (s.sys.mode = Mode.shadow) && s.clean && decide (s.pair.holdFrom + 1000000000 * (s.unitRec.map (·.holdoff)).getD 60 ≤ s.ns)

/-- Unit A may ask for the lead (R353). -/
def State.mayAsk (s : State) : Bool :=
  decide (s.unitNo = 1) && s.pair.takeback && s.holdoffDone && s.pair.mirrored && decide (s.meas.alignState = 2) && s.time.pairAligned

/-- Unit A asks in a HANDOVER frame. -/
def State.ask (s : State) : State := ({ s with pair.asked := some s.ns }).viaduct 0x08 [0#8]

/-- HANDOVER_REQUEST (R353): unit A asks, or the lead receives the request. -/
def execHandoverRequest : State → Host.Outcome State Fault Refusal :=
  done fun s =>
    if s.sys.mode = Mode.shadow then (if s.mayAsk && s.pair.asked.isNone then s.ask else s)
    else if s.isLead && s.paired && s.pair.handover.isNone then
      s.viaFrame 8 id (fun s => { s with pair.handover := some { source := 0 } })
    else s

/-- HANDOVER_RETRY (R353): after each further 10 s of clean health. -/
def execHandoverRetry : State → Host.Outcome State Fault Refusal :=
  done fun s =>
    match s.pair.asked with
    | some t =>
      let s := s.atLeast (10000000000 + t)
      if s.mayAsk && s.pair.handover.isNone then s.ask else s
    | none => s

/-- HANDOVER in PAIR_CTL at the lead (R353). -/
def State.hostHandover (s : State) : State :=
  if s.isLead && s.paired && s.pair.handover.isNone then { s with pair.handover := some { source := 1 } } else s

/-- PAIR_CTL_HANDOVER (R353). -/
def execPairCtlHandover : State → Host.Outcome State Fault Refusal := done fun s => if s.sys.saving then s else s.hostHandover

/-- The swap instant of tick `k` of the cycle, from the tick's start (R354): the later of the end of its last entries and the latest
publication of the arbitration tick that opens at 90 ms, at least 300 µs before the next beacon. -/
def State.swapInstant (k : Nat) (s : State) : Option Nat :=
  let ends := [s.rad.a, s.rad.b].flatMap (fun r => (deckTick r.deck k).map (fun e => (e.start + e.length) * (100 * perUs)))
  let t := ends.foldl max (98 * perMs)
  if t + 300 * perUs ≤ 100 * perMs then some t else none

/-- The first tick from now on that has a swap instant, with the instant; its number counts the 100 ms ticks of device time. -/
def State.swapTick (s : State) : Option (Nat × Nat) :=
  let n := s.now / (100 * perMs)
  (List.range 11).findSome? (fun i =>
    (s.swapInstant ((n + i) % 10)).bind (fun o => if s.now < (n + i) * (100 * perMs) + o then some (n + i, (n + i) * (100 * perMs) + o) else none))

/-- Why the lead refuses a handover now (R353, R357): 0 NOT_READY, 1 NO_GAP, 2 PENDING. -/
def State.handoverRefusal (s : State) : Option Nat :=
  if !(s.pair.mirrored && bit s.pair.peerReady 1 && bit s.pair.peerReady 2 && decide (s.pair.peerMode = 4)) || s.pair.deltaDue then some 0
  else if s.swapTick.isNone then some 1
  else if s.time.step.isSome || s.pair.resync.isSome then some 2
  else none

/-- HANDOVER_GRANT (R353): the lead grants a waiting request, or the standby learns of the grant and its tick. -/
def execHandoverGrant (tick : Nat) : State → Host.Outcome State Fault Refusal :=
  done fun s =>
    if s.isLead then
      match s.pair.handover, s.handoverRefusal, s.swapTick with
      | some h, none, some (t, at_) =>
        if h.tick.isSome then s
        else ({ s with pair.handover := some { h with tick := some t, instant := at_ }, pair.swapDue := true }).viaduct 0x08 ([1#8] ++ leBytes 4 t)
      | _, _, _ => s
    else if s.sys.mode = Mode.shadow then
      s.viaFrame 8 id fun s =>
        let at_ := tick * (100 * perMs) + (s.swapInstant (tick % 10)).getD (98 * perMs)
        { s with pair.handover := some { source := 0, tick := some tick, instant := at_ }, pair.swapDue := true }
    else s

/-- HANDOVER_REFUSED (R353, R358): the lead refuses a waiting request, or unit A learns of the refusal. -/
def execHandoverRefused (reason : Fin 3) : State → Host.Outcome State Fault Refusal :=
  done fun s =>
    if s.isLead then
      match s.pair.handover, s.handoverRefusal with
      | some h, some r =>
        if h.tick.isSome then s
        else
          let s := ({ s with pair.handover := none, pair.events := s.pair.events ||| 4#32 }).report 0x0B03 [(1, r)]
          if h.source = 0 then s.viaduct 0x08 ([2#8] ++ leBytes 1 r) else s
      | _, _ => s
    else if s.sys.mode = Mode.shadow && s.pair.asked.isSome then
      s.viaFrame 8 id fun s => ({ s with pair.events := s.pair.events ||| 4#32 }).report 0x0B03 [(1, reason.val)]
    else s

/-- The lead at its swap instant (R354): the claim goes, and the unit is the standby. -/
def State.handOver (tick : Nat) (s : State) : State :=
  let s := s.publishLate.releaseClaim
  let s := ({ s with pair.cntHandovers := incr s.pair.cntHandovers, pair.events := s.pair.events ||| 2#32, pair.lastKind := 4, pair.lastDuration := 0
                     host.awaiting := [] }).report 0x0B02 [(1, 0), (4, tick)]
  (s.toMode .shadow 9).adoptClass

/-- SWAP_INSTANT (R354): the instant of a granted handover. -/
def execSwapInstant (take : TakeIn) : State → Host.Outcome State Fault Refusal :=
  done fun s =>
    match s.pair.handover.bind (fun h => h.tick.map (fun t => (t, h.instant))) with
    | some (tick, at_) =>
      if s.sys.saving then s
      else
        let s := s.reach at_
        if s.isLead then s.handOver tick
        else if s.sys.mode = Mode.shadow then s.loseLead 4 take
        else s
    | none => s

end Sys2Proof.Machine
end

