-- ==== Sys2Proof/Machine/Update.lean ====
section
/-! DEFINITION. Replacing the firmware (R390–R408): the partitions, the image and its verification, the download, the trial. -/

namespace Sys2Proof.Machine

/-- The ACTIVE partition (Table 14-1). -/
def fwActive : Nat := 0x800000
/-- The FALLBACK partition. -/
def fwFallback : Nat := 0x1800000
/-- The STAGING partition. -/
def fwStaging : Nat := 0x2800000

/-- The header of the firmware image in a partition (Table 14-2). -/
def State.fwHead (base : Nat) (s : State) : List Octet := s.flash.readN base 256

/-- The firmware version that a header names. -/
def fwVersion (h : List Octet) : Nat := getLe h 12 4

/-- One entry of the world-window table obeys R369. -/
def windowOk (e : List Octet) : Bool :=
  let m := getLe e 0 1
  decide (e.length = 16) && decide (m ≤ 12) && decide (getLe e 1 1 ≤ 1) && decide (getLe e 2 1 ≤ 7) && decide (getLe e 3 1 < 16) &&
  (decide (m < 8) || decide (getLe e 3 1 < 4)) && decide (getLe e 4 4 % 64 = 0 ∧ getLe e 8 4 % 64 = 0 ∧ getLe e 4 4 < getLe e 8 4) &&
  zeros e 12 4 && (if m = 11 then decide (getLe e 1 1 = 0) else decide (m < 8) || decide (getLe e 1 1 = 1))

/-- The entries of an image's world-window table. -/
def fwWindows (b : List Octet) : List (List Octet) :=
  (List.range (getLe b 28 2)).map (fun i => slice b (getLe b 24 4 + 16 * i) 16)

/-- A string of ASCII characters padded with 0 (Table 14-2). -/
def asciiPadded (b : List Octet) : Bool :=
  (b.takeWhile (· ≠ 0#8)).all (fun c => decide (c.toNat < 128)) && (b.dropWhile (· ≠ 0#8)).all (· = 0#8)

/-- The size of an image's trailer (R394). -/
def fwTrailer (b : List Octet) : Nat := if bit (getLe b 21 1) 0 then 300 else 104

/-- The header, world-window table and trailer of an image have the forms of Tables 14-2, 13-6 and 14-3 (R393–R395). -/
def fwHeaderOk (b : List Octet) : Bool :=
  let len := getLe b 8 4
  let t := len - fwTrailer b
  let ws := fwWindows b
  decide (slice b 0 4 = [0x43#8, 0x4D#8, 0x46#8, 0x57#8]) && decide (getLe b 4 2 = 1) && decide (getLe b 6 2 = 256) &&
  decide (len % 4 = 0 ∧ 65536 ≤ len ∧ len ≤ 16777216 ∧ len = b.length) && decide (getLe b 20 1 < 4) && decide (getLe b 21 1 < 2) &&
  decide (getLe b 22 1 < 16) && !bit (getLe b 22 1) (getLe b 20 1) && zeros b 23 1 && zeros b 30 2 && asciiPadded (slice b 52 32) && zeros b 84 172 &&
  within (getLe b 28 2) 1 208 && decide (256 ≤ getLe b 24 4 ∧ getLe b 24 4 + 16 * getLe b 28 2 ≤ t) &&
  decide (256 ≤ getLe b 32 4 ∧ getLe b 32 4 + getLe b 36 4 ≤ t) && ws.all windowOk && decide ((ws.map (fun e => e.take 3)).eraseDups.length = ws.length) &&
  decide (slice b t 4 = [0x43#8, 0x4D#8, 0x46#8, 0x54#8]) && decide (getLe b (t + 4) 4 = fwTrailer b)

/-- The countersignature verifies under a configuration key that the life-cycle state accepts (R395, Table 13-7). -/
def fwCountersigned (f : Fuse) (b : List Octet) : Bool :=
  let t := b.length - 300
  let k := getLe b (t + 104) 1
  decide (k < 4) && zeros b (t + 105) 3 && bit f.cfgProg k && !bit f.cfgRevoked k &&
  (match f.life with
   | .provision | .field | .service => true
   | .vendor | .retired => false) &&
  decide (Config.sha384 (slice b (t + 108) 96) = (f.cfg[k]?).getD 0#384) &&
  Config.ecdsaVerify (coord b (t + 108)) (coord b (t + 156)) (coord b (t + 204)) (coord b (t + 252)) (b.take (t + 204))

/-- R395 for an image's octets: 0 where it is valid for the unit, otherwise the outcome of the first check that fails, 8 HEADER,
10 REVOKED, 9 SIGNATURE, 11 COUNTERSIGN. -/
def fwCheck (f : Fuse) (b : List Octet) : Nat :=
  let t := b.length - fwTrailer b
  let k := getLe b 20 1
  if !fwHeaderOk b then 8
  else if bit f.vendorRevoked k then 10
  else if !Config.ecdsaVerify (Config.ranlekX k) (Config.ranlekY k) (coord b (t + 8)) (coord b (t + 56)) (b.take (t + 8)) then 9
  else if bit (getLe b 21 1) 0 && !fwCountersigned f b then 11
  else 0

/-- The image that a partition's header delimits. -/
def State.fwImage (base : Nat) (s : State) : List Octet := s.flash.readN base (min 16777216 (getLe (s.fwHead base) 8 4))

/-- The image in a partition is valid for the unit. -/
def State.fwOutcome (base : Nat) (s : State) : Nat := fwCheck s.keys.fuse (s.fwImage base)

/-- The blocks of the declared length (R397). -/
def State.dlTotal (s : State) : Nat := ceilDiv s.upd.length 4096

/-- The blocks received (R396). -/
def State.dlBlocks (s : State) : Nat := (onesBelow 4096 s.upd.blocks).length

/-- The download is complete. -/
def State.dlComplete (s : State) : Bool := decide (s.upd.length ≠ 0) && decide (s.dlBlocks = s.dlTotal)

/-- A UPD event latched. -/
def State.updEvent (n : Nat) (s : State) : State := { s with ureg.events := s.ureg.events ||| BitVec.ofNat 32 (2 ^ n) }

/-- Where the update journal stands in the boot flash (Table 14-1): two sectors of 512 records. -/
def journalBase : Nat := 0x500000

/-- The octets of a journal record (Table 14-4). -/
def Journal.octets (j : Journal) : List Octet :=
  let b := leBytes 4 j.sequence ++ leBytes 1 j.state ++ leBytes 1 j.starts ++ leBytes 2 j.window ++ leBytes 2 j.cursor ++ leBytes 1 j.outcome ++ [0#8] ++
    leBytes 4 j.length ++ beBytes 48 j.digest.toNat ++ beBytes 48 j.active.toNat ++ leBytes 12 0
  b ++ leBytes 4 (crc32c b)

/-- The record that 128 octets hold where their CRC matches. -/
def journalOf (b : List Octet) : Option Journal :=
  if crc32c (b.take 124) = getLe b 124 4 then
    some { sequence := getLe b 0 4, state := getLe b 4 1, starts := getLe b 5 1, window := getLe b 6 2, cursor := getLe b 8 2, outcome := getLe b 10 1
           length := getLe b 12 4, digest := BitVec.ofNat 384 (ofBe (slice b 16 48)), active := BitVec.ofNat 384 (ofBe (slice b 64 48)) }
  else none

/-- The places of the journal that something has been programmed in. -/
def Memory.journalUsed (m : Memory) : List Nat :=
  ((m.filter (fun c => decide (journalBase ≤ c.1) && decide (c.1 < journalBase + 131072))).map (fun c => (c.1 - journalBase) / 128)).eraseDups

/-- The valid records of the journal, with their places. -/
def Memory.journalRecords (m : Memory) : List (Nat × Journal) :=
  m.journalUsed.filterMap (fun k => (journalOf (m.readN (journalBase + 128 * k) 128)).map (fun j => (k, j)))

/-- The record in force, with its place: the valid one with the highest sequence number (R400). -/
def Memory.journalHead (m : Memory) : Option (Nat × Journal) :=
  leastBy (fun a b => decide (b.2.sequence < a.2.sequence)) m.journalRecords

/-- The record in force (R400). -/
def Memory.journalLast (m : Memory) : Option Journal := m.journalHead.map (·.2)

/-- A record appended after the one in force, in the other sector, erased first, where that one's is full (R400). -/
def Memory.journalAppend (m : Memory) (j : Journal) : Memory :=
  let sector := (m.journalHead.map (fun p => p.1 / 512)).getD 0
  let next := ((m.journalUsed.filter (fun k => decide (k / 512 = sector))).map (· + 1)).foldl max (512 * sector)
  if next < 512 * (sector + 1) then m.program (journalBase + 128 * next) j.octets
  else (m.erase (journalBase + 65536 * (1 - sector)) 65536).program (journalBase + 65536 * (1 - sector)) j.octets

/-- A journal record is written: the state changes, the sequence goes up, the digest of ACTIVE is taken (R400). -/
def State.journal (f : Journal → Journal) (s : State) : State :=
  let j := { f s.upd.journal with sequence := (s.upd.journal.sequence + 1) % 2 ^ 32, active := Config.sha384 (s.fwImage fwActive) }
  { s with upd.journal := j, flash := s.flash.journalAppend j }

/-- The common form of an update message: right bit 4, and anonymous in boot ROM recovery (Tables 18-5, 18-10). After a save has begun a transport
that still runs takes it, to answer SAVING in a reply body of `size` octets (R409). -/
def State.updMessage (kind size : Nat) (ok : Bool) (f : ChpFrame) (run : State → State) (s : State) : State :=
  let anon := decide (s.sys.restricted = 2)
  if s.sys.saving && s.transports f.source then
    s.chpTaken kind (some 4) false anon ok f (fun _ s => s.finish f kind 0x00 (padTo size (leBytes 1 0x0F)))
  else s.chp kind (some 4) false anon ok f (fun _ s => run s)

/-- UPDATE_BEGIN applied (R396). -/
def State.updBegin (f : ChpFrame) (s : State) : State :=
  let len := getLe f.body 0 4
  let dig := BitVec.ofNat 384 (ofBe (slice f.body 4 48))
  let reply := fun (outcome : Nat) (s : State) => s.finish f 0x0040 0x00 (leBytes 1 outcome ++ [0#8] ++ leBytes 2 s.dlBlocks)
  if len % 4 ≠ 0 ∨ len < 65536 ∨ 16777216 < len then reply 0x01 s
  else if s.ureg.verifying then reply 0x04 s
  else if s.upd.journal.state = 1 then reply 0x05 s
  else
    let same := decide (len = s.upd.length) && decide (dig = s.upd.digest)
    let s := if same then s else
      { s with upd := { s.upd with length := len, digest := dig, blocks := 0, sectors := 0, window := none }, ureg.rewrites := 0 }
    reply 0x00 (s.report 0x0D01 [(4, len), (1, if same then 0 else 1), (2, s.dlBlocks)])

/-- UPDATE_BEGIN (R396). -/
def execUpdateBegin (frame : ChpFrame) : State → Host.Outcome State Fault Refusal :=
  done (State.updMessage 0x0040 4 (decide (frame.body.length = 52)) frame (State.updBegin frame))

/-- The bits of the blocks of a sector. -/
def sectorMask (sector : Nat) : Nat := 65535 * 2 ^ (16 * sector)

/-- The block is programmed into an erased sector and its bit set; a download that it completes is recorded (R397). -/
def State.blockWritten (off : Nat) (data : List Octet) (s : State) : State :=
  let s := { s with flash := s.flash.program (fwStaging + off) data, upd.blocks := setBit s.upd.blocks (off / 4096)
                    ureg.cntBlocks := incr s.ureg.cntBlocks }
  if s.dlComplete then (s.updEvent 0).report 0x0D02 [(4, s.dlBlocks), (4, s.ureg.rewrites)] else s

/-- UPDATE_BLOCK applied (R397): `failures` of its two programs fail their read-back; a failed block's octets are free values. -/
def State.updBlock (f : ChpFrame) (failures : Nat) (s : State) : State :=
  let off := getLe f.body 0 4
  let data := f.body.drop 8
  let block := off / 4096
  let sector := off / 65536
  let reply := fun (outcome first count : Nat) (s : State) =>
    s.finish f 0x0041 0x00 (leBytes 1 outcome ++ [0#8] ++ leBytes 2 first ++ leBytes 2 count ++ [0#8, 0#8])
  let bad := fun (outcome : Nat) (s : State) => reply outcome 0 0 { s with ureg.cntErrors := incr s.ureg.cntErrors }
  if s.ureg.verifying then bad 0x04 s
  else if s.upd.length = 0 then bad 0x03 s
  else if off % 4096 ≠ 0 ∨ s.upd.length ≤ off ∨ data.length ≠ min 4096 (s.upd.length - off) then bad 0x01 s
  else if crc32c data ≠ getLe f.body 4 4 then bad 0x02 s
  else if bit s.upd.blocks block then reply 0x00 0 0 s
  else
    let s := if bit s.upd.sectors sector then s else
      { s with flash := s.flash.erase (fwStaging + 65536 * sector) 65536, upd.sectors := setBit s.upd.sectors sector }
    if failures = 0 then reply 0x00 0 0 (s.blockWritten off data)
    else
      let cleared := onesBelow 4096 (s.upd.blocks &&& sectorMask sector)
      let s := { s with flash := s.flash.erase (fwStaging + 65536 * sector) 65536
                        upd.blocks := s.upd.blocks - (s.upd.blocks &&& sectorMask sector)
                        ureg.rewrites := s.ureg.rewrites + 1, ureg.cntErrors := incr s.ureg.cntErrors }
      if failures = 1 then reply 0x00 (cleared.head?.getD 0) cleared.length (s.blockWritten off data)
      else
        let n := s.takeFree
        let s := { n.2 with flash := n.2.flash.program (fwStaging + off) (padTo data.length (Config.freeOctets n.1 data.length)) }
        reply 0x10 (cleared.head?.getD 0) cleared.length ((s.updEvent 4).reportNow 0x0D0B [(1, 2), (1, sector), (1, 1)])

/-- UPDATE_BLOCK (R397). -/
def execUpdateBlock (frame : ChpFrame) (failures : Fin 3) : State → Host.Outcome State Fault Refusal :=
  done (State.updMessage 0x0041 8 (decide (9 ≤ frame.body.length ∧ frame.body.length ≤ 4104)) frame (State.updBlock frame failures.val))

/-- UPDATE_QUERY (R397): the bitmap of received blocks. -/
def execUpdateQuery (frame : ChpFrame) : State → Host.Outcome State Fault Refusal :=
  done (State.updMessage 0x0042 520 (decide (frame.body = [])) frame fun s =>
    s.finish frame 0x0042 0x00 (leBytes 1 (if s.upd.length = 0 then 0x03 else 0x00) ++ [0#8] ++ leBytes 2 s.dlBlocks ++ leBytes 2 s.dlTotal ++
      [0#8, 0#8] ++ leBytes 512 s.upd.blocks))

/-- UPDATE_VERIFY applied (R398): the refusals in their order, or the verification starts. -/
def State.updVerify (f : ChpFrame) (s : State) : State :=
  let w := getLe f.body 0 2
  let reply := fun (outcome : Nat) => s.finish f 0x0043 0x00 (leBytes 1 outcome ++ [0#8, 0#8, 0#8])
  if w ≠ 0 ∧ (w < 60 ∨ 3600 < w) then reply 0x01
  else if s.upd.length = 0 then reply 0x03
  else if !s.dlComplete then reply 0x06
  else if s.upd.journal.state = 4 then reply 0x0D
  else if bit s.pair.peer 18 then reply 0x0E
  else if s.ureg.verifying then reply 0x04
  else { s with ureg.verifying := true, ureg.verify := some f, upd.window := some (if w = 0 then 600 else w) }

/-- UPDATE_VERIFY (R398). -/
def execUpdateVerify (frame : ChpFrame) : State → Host.Outcome State Fault Refusal :=
  done (State.updMessage 0x0043 4 (decide (frame.body.length = 4) && zeros frame.body 2 2) frame (State.updVerify frame))

/-- The outcome of a verification of STAGING (R395, R398): 7 DIGEST, those of `fwCheck`, a countersignature that ACTIVE carries
and the image does not, 12 ROLLBACK. -/
def State.verifyOutcome (s : State) : Nat :=
  let b := s.flash.readN fwStaging s.upd.length
  let a := s.fwHead fwActive
  let ok := decide (s.fwOutcome fwActive = 0)
  if Config.sha384 b ≠ s.upd.digest then 7
  else if fwCheck s.keys.fuse b ≠ 0 then fwCheck s.keys.fuse b
  else if ok && bit (getLe a 21 1) 0 && !bit (getLe b 21 1) 0 then 11
  else if ok && decide (getLe b 16 2 < getLe a 16 2) then 12
  else 0

/-- VERIFY_COMPLETE (R398): the verification ends; on success a PENDING record is written. -/
def execVerifyComplete : State → Host.Outcome State Fault Refusal :=
  done fun s =>
    if !s.ureg.verifying ∨ s.sys.saving = true then s
    else
      let o := s.verifyOutcome
      let w := s.upd.window.getD 600
      let b := s.fwHead fwStaging
      let req := s.ureg.verify
      let s := { s with ureg.verifying := false, ureg.verify := none, upd.window := none }
      let s := if o = 0 then
          (s.journal (fun (j : Journal) => { j with state := 1, starts := 0, window := w, cursor := 0, length := s.upd.length, digest := s.upd.digest })).report
            0x0D03 [(4, fwVersion b), (2, getLe b 16 2), (1, getLe b 21 1 % 2)]
        else (s.updEvent 1).report 0x0D04 [(1, o)]
      match req with
      | some f => s.finish f 0x0043 0x00 (leBytes 1 o ++ [0#8, 0#8, 0#8])
      | none => s

/-- VERIFY_RESTART (R399): in a service mode after START, a verification that was interrupted starts again. -/
def execVerifyRestart : State → Host.Outcome State Fault Refusal :=
  done fun s =>
    if s.inService && s.upd.window.isSome && !s.ureg.verifying then { s with ureg.verifying := true, ureg.verify := none } else s

/-- The trial's window has closed at `t`, or its 3,600 s without a window (R405). -/
def State.trialEnd (s : State) : Nat :=
  match s.ureg.opened with
  | some t => t + 1000000000 * s.upd.journal.window
  | none => s.sys.startT0 + 3600000000000

/-- The image is healthy at the window's end (R405). -/
def State.trialHealthy (s : State) : Bool :=
  match s.ureg.opened with
  | none => false
  | some t =>
    decide (s.sys.selftest = 0) && s.cfg.image.isSome && s.clean && decide (60000000000 + s.pair.brokenAt ≤ s.ns ∨ s.pair.brokenAt ≤ t) &&
    (match s.sys.mode with
     | .shadow => s.pair.mirrored
     | .lead => decide (60000000000 + s.rad.beaconGap ≤ s.ns)
     | .dormant | .start | .survey | .hold => false)

/-- TRIAL_CONFIRM (R405): at the window's end the image is healthy; IDLE with outcome 1, and the revoke mask is burnt. -/
def execTrialConfirm : State → Host.Outcome State Fault Refusal :=
  done fun s =>
    if s.upd.journal.state ≠ 4 ∨ s.ureg.opened = none ∨ s.sys.saving = true then s
    else
      let s := s.atLeast s.trialEnd
      if !s.trialHealthy then s
      else
        let h := s.fwHead fwActive
        let mask := getLe h 22 1 % 16
        let s := s.journal (fun (j : Journal) => { j with state := 0, starts := 0, outcome := 1 })
        let s := { s with keys.fuse.vendorRevoked := s.keys.fuse.vendorRevoked ||| mask, ureg.startedTrial := false, ureg.opened := none }
        (s.updEvent 2).report 0x0D07 [(4, fwVersion h), (1, mask)]

/-- A trial is reverted (R406): the journal's REVERT, then a restart with cause 0x07. -/
def State.revertTrial (outcome : Nat) (s : State) : State :=
  (s.journal (fun (j : Journal) => { j with state := 5, outcome := outcome })).restart 7

/-- TRIAL_EXPIRED (R405, R406): the window, or the 3,600 s without one, ends without confirmation. -/
def execTrialExpired : State → Host.Outcome State Fault Refusal :=
  done fun s =>
    if s.upd.journal.state ≠ 4 ∨ s.inService = false ∧ s.sys.startStep < 12 ∨ s.sys.saving = true then s
    else
      let s := s.atLeast s.trialEnd
      if s.trialHealthy then s else s.revertTrial 2

/-- A write of CANCEL (Table 14-8). -/
def State.updCancel (s : State) : State :=
  if s.upd.journal.state = 1 then
    let s := s.journal (fun (j : Journal) => { j with state := 0, outcome := 0 })
    { s with upd := { s.upd with length := 0, digest := 0#384, blocks := 0, sectors := 0, window := none } }
  else s

/-- UPD_CANCEL (R408). -/
def execUpdCancel : State → Host.Outcome State Fault Refusal := done fun s => if s.powered && !s.sys.saving then s.updCancel else s

/-- UPD_REVERT (R406): no effect outside a trial. -/
def execUpdRevert : State → Host.Outcome State Fault Refusal :=
  done fun s => if s.upd.journal.state = 4 ∧ s.powered = true ∧ s.sys.saving = false then s.revertTrial 4 else s

end Sys2Proof.Machine
end

