-- ==== Sys2Proof/Machine/Start.lean ====
section
/-! DEFINITION. START (R38–R43): its steps in the order of Table 2-3, the journal step (R401–R404), the restore of what a save left
(R52, R55), the selection of the configuration (R41), the self-test (R39) and the decision at its end (R42, R43). -/

namespace Sys2Proof.Machine

/-! ### The fuse step -/

/-- The bit of the life-cycle word that a transition burns (R371, R373, Table 13-1). -/
def Fuse.lifeBit (target : Nat) (f : Fuse) : Nat :=
  match target with
  | 2 => if f.life = .service then 11 + ones f.word 11 8 else 1
  | 3 => 3 + ones f.word 3 8
  | _ => 2

/-- A pending life-cycle transition is burnt (R373): entry to SERVICE or RETIRED zeroes the key store, entry to RETIRED burns out
the Keystone too. -/
def State.burnLife (s : State) : State :=
  match s.keys.pendingLc with
  | none => s
  | some target =>
    let old := s.life.code
    let word := setBit s.keys.fuse.word (s.keys.fuse.lifeBit target)
    let s := { s with keys.fuse.word := word, keys.pendingLc := none }
    let s := if target = 3 ∨ target = 4 then s.zeroStore else s
    let s := if target = 4 then { s with keys.fuse.keystone := [], keys.fuse.wrapped := 2 ^ 448 - 1 } else s
    s.report 0x0C0B [(1, old), (1, s.life.code), (4, word)]

/-- MEAS0 as START extends it: the boot ROM's digest, then the life-cycle state (R40). -/
def State.measureRom (s : State) : State := (s.extend 0 Config.romDigest).extend 0 [BitVec.ofNat 8 s.life.code]

/-- A pending transition at START (R373): the records that verify under the counter key of the present word are sealed again under that of
the new one. -/
def State.changeLife (s : State) : State :=
  let old := s.measureRom.classKey 0
  let held := s.keys.records.filter (CounterRec.verifies old)
  let s := s.burnLife
  { s with keys.records := held.map (CounterRec.seal (s.measureRom.classKey 0)) }

/-- The unit stays in START, restricted (Table 18-1), with its claim released and its radios off; the steps that follow are not
reached. -/
def State.restrict (why : Nat) (s : State) : State := { s with sys.restricted := why, sys.startStep := 13 }

/-- The Keystone is generated at the first START in PROVISION; a field that a cut-off burn has left is KEYSTONE_FAILED (R360). -/
def State.makeKeystone (s : State) : State :=
  if s.life ≠ .provision ∨ s.keys.fuse.committed then s
  else if s.keys.fuse.wrapped ≠ 0 then (s.report 0x0C02 [(4, ones s.keys.fuse.wrapped 0 448)]).restrict 4
  else
    let n := s.takeFree
    let drawn := padTo 48 (Config.freeOctets n.1 48)
    ({ n.2 with keys.fuse.keystone := drawn, keys.fuse.wrapped := ofLe (padTo 56 (Config.dieWrap drawn))
                keys.fuse.committed := true }).report 0x0C01 [(8, s.keys.fuse.serial)]

/-- Table 2-3, 1.1 ms: the fuse bank is read, the life-cycle state settled, MEAS0 extended (R40), the counter key derived (R364). -/
def State.startFuse (s : State) : State :=
  let s := (s.when s.keys.pendingLc.isSome State.changeLife).measureRom
  if s.life = .retired then s.restrict 5 else s.makeKeystone.deriveClass 0

/-! ### Boot header and journal -/

/-- The octets of a boot header with its magic, and what it says (R391). -/
def State.bootHead (base : Nat) (s : State) : Option (List Octet × BootFlash) :=
  let b := s.flash.readN base 65536
  if slice b 0 4 = [0x43#8, 0x4D#8, 0x42#8, 0x48#8] then
    (Config.bootHeader b).map (fun h => (b, ⟨h.1, h.2.1, h.2.2.1, h.2.2.2.1, h.2.2.2.2⟩))
  else none

/-- A boot header is used: the flash is read as it says, and MEAS1 is extended with it. -/
def State.useHeader (h : List Octet × BootFlash) (s : State) : State := { s.extend 1 h.1 with ureg.boot := h.2 }

/-- Table 2-3, 1.3 ms: the valid boot header with the higher generation is used. -/
def State.startHeader (s : State) : State :=
  match s.bootHead 0, s.bootHead 0x10000 with
  | some a, some b => s.useHeader (if b.2.generation ≤ a.2.generation then a else b)
  | some a, none => s.useHeader a
  | none, some b => s.useHeader b
  | none, none => s

/-- Area `a` of the last save holds (R52): its CRC matches, nothing has struck it, and the commit word follows. -/
def SavedAreas.holds (v : SavedAreas) (bad a : Nat) : Bool := bit v.valid (a - 1) && !bit bad (a - 1) && decide (v.struck ≠ some a)

/-- Area `a` counts as saved (R52). -/
def SavedAreas.saved (v : SavedAreas) (bad a : Nat) : Bool := v.holds bad a && v.holds bad 7

/-- The base of a partition: 0 ACTIVE, 1 FALLBACK, 2 STAGING. -/
def partBase (p : Nat) : Nat := if p = 0 then fwActive else if p = 1 then fwFallback else fwStaging

/-- The sectors of the image in a partition, by its header's length (R401). -/
def State.partSectors (p : Nat) (s : State) : Nat := ceilDiv (min 16777216 (getLe (s.fwHead (partBase p)) 8 4)) 65536

/-- Sectors `start` to `n` of a partition copied to another with read-back; a sector that fails twice ends the copy with
FLASH_FAULT and leaves free values in it (R401, R403). With `copyCut` the command ends at that sector, the journal step in progress
(Table 2-8). Answers whether the copy is complete. -/
def State.copyPart (src dst start n : Nat) (i : StartIn) (s : State) : Bool × State :=
  match i.copyCut.filter (fun f => decide (start ≤ f ∧ f < n)) with
  | some f =>
    (false, { s with flash := s.flash.copy (partBase src + 65536 * start) (partBase dst + 65536 * start) (65536 * (f - start))
                     upd.journal.cursor := f, sys.startStep := 4 })
  | none =>
  match i.copyFault.filter (fun f => decide (start ≤ f ∧ f < n)) with
  | some f =>
    let m := s.flash.copy (partBase src + 65536 * start) (partBase dst + 65536 * start) (65536 * (f - start))
    let k := ({ s with flash := m, upd.journal.cursor := f }).takeFree
    let at_ := partBase dst + 65536 * f
    let s := { k.2 with flash := (k.2.flash.erase at_ 65536).program at_ (padTo 65536 (Config.freeOctets k.1 65536)) }
    (false, (s.updEvent 4).report 0x0D0B [(1, dst), (1, f), (1, 1)])
  | none =>
    (true, { s with flash := s.flash.copy (partBase src + 65536 * start) (partBase dst + 65536 * start) (65536 * (n - start)), upd.journal.cursor := 0 })

/-- ACTIVATION_STEP: 1 to FALLBACK, 2 to ACTIVE, 3 the revert. -/
def State.activated (step start : Nat) (i : StartIn) (s : State) : State := s.report 0x0D05 [(1, step), (1, start), (4, i.copySeconds)]

/-- The revert step (R401, R404, R406): FALLBACK over ACTIVE, then IDLE with the outcome that the journal holds. -/
def State.revertStep (start : Nat) (i : StartIn) (s : State) : State :=
  let n := s.partSectors 1
  let s := { s with sys.startExtra := s.sys.startExtra + 4 * (n - start) }
  match s.copyPart 1 0 start n i with
  | (true, s) =>
    let s := (s.activated 3 start i).journal (fun (j : Journal) => { j with state := 0, starts := 0 })
    (({ s with ureg.cntReverts := incr s.ureg.cntReverts }).updEvent 3).report 0x0D08 [(1, s.upd.journal.outcome), (4, fwVersion (s.fwHead fwActive))]
  | (false, s) => if s.sys.startStep = 4 then s else { s with ureg.bootFallback := true }

/-- A trial start, or after three of them the revert with outcome 3 (Table 14-5). -/
def State.trialStart (i : StartIn) (s : State) : State :=
  if s.upd.journal.starts < 3 then
    let s := s.journal (fun (j : Journal) => { j with starts := j.starts + 1 })
    ({ s with ureg.startedTrial := true }).report 0x0D06 [(4, fwVersion (s.fwHead fwActive)), (1, s.upd.journal.starts)]
  else (s.journal (fun (j : Journal) => { j with state := 5, outcome := 3 })).revertStep 0 i

/-- Step 2 (Table 14-5): STAGING to ACTIVE, then TRIAL. -/
def State.stepTwo (start : Nat) (i : StartIn) (s : State) : State :=
  let n := ceilDiv s.upd.journal.length 65536
  let s := { s with sys.startExtra := s.sys.startExtra + 4 * (n - start) }
  match s.copyPart 2 0 start n i with
  | (true, s) =>
    let s := (s.activated 2 start i).journal (fun (j : Journal) => { j with state := 4, starts := 0 })
    ({ s with ureg.cntActivations := incr s.ureg.cntActivations }).trialStart i
  | (false, s) => if s.sys.startStep = 4 then s else { s with ureg.bootFallback := true }

/-- Step 1 (Table 14-5): ACTIVE to FALLBACK, then COPY_ACTIVE and step 2. -/
def State.stepOne (start : Nat) (i : StartIn) (s : State) : State :=
  let n := s.partSectors 0
  let s := { s with sys.startExtra := s.sys.startExtra + 4 * (n - start) }
  match s.copyPart 0 1 start n i with
  | (true, s) => ((s.activated 1 start i).journal (fun (j : Journal) => { j with state := 3 })).stepTwo 0 i
  | (false, s) => s

/-- The first octets of a digest as a record carries them. -/
def digestPrefix (d : BitVec 384) : Nat := ofLe ((beBytes 48 d.toNat).take 4)

/-- PENDING (Table 14-5): STAGING is hashed before step 1. -/
def State.activate (i : StartIn) (s : State) : State :=
  let d := Config.sha384 (s.flash.readN fwStaging s.upd.journal.length)
  if d = s.upd.journal.digest then (s.journal (fun (j : Journal) => { j with state := 2 })).stepOne 0 i
  else
    (s.journal (fun (j : Journal) => { j with state := 0, outcome := 5 })).report 0x0D09
      [(4, digestPrefix s.upd.journal.digest), (4, digestPrefix d)]

/-- The sector from which an interrupted step repeats (R402): area 3 of the save names it for its own step. -/
def State.resumeSector (i : StartIn) (s : State) : Nat :=
  if (s.saved.saved i.areasBad 3 || s.saved.cursorOk) && decide (s.saved.step = s.upd.journal.state) then s.saved.cursor else 0

/-- The record in force is read from the journal's sectors (R400); a journal without one is IDLE (log 74). -/
def State.readJournal (s : State) : State := { s with upd.journal := s.flash.journalLast.getD {} }

/-- The boot ROM acts on a journal state (Table 14-5). -/
def State.actJournal (i : StartIn) (s : State) : State :=
  match s.upd.journal.state with
  | 1 => s.activate i
  | 2 => s.stepOne (s.resumeSector i) i
  | 3 => s.stepTwo (s.resumeSector i) i
  | 4 => s.trialStart i
  | 5 => s.revertStep (s.resumeSector i) i
  | _ => s

/-- Table 2-3, 1.5 ms: the boot ROM acts on the journal state in force (R400–R403). -/
def State.startJournal (i : StartIn) (s : State) : State := s.readJournal.actJournal i

/-- The partition that the boot ROM boots. -/
def State.bootBase (s : State) : Nat := if s.ureg.bootFallback then fwFallback else fwActive

/-- Table 2-3, to 85.4 ms: the firmware is verified (R404): a failure outside a trial restores FALLBACK, or the unit stays in the boot
ROM; one on trial never completes its step. -/
def State.startVerify (i : StartIn) (s : State) : State :=
  let why := s.fwOutcome s.bootBase
  if why = 0 then s
  else if s.upd.journal.state = 4 then { s with sys.startStep := 5, ureg.recovery := true }
  else
    let s := (s.updEvent 3).report 0x0D0A [(1, why)]
    if s.fwOutcome fwFallback = 0 ∧ s.ureg.bootFallback = false then
      (s.journal (fun (j : Journal) => { j with state := 5, outcome := 6 })).revertStep 0 i
    else ({ s with ureg.recovery := true }).restrict 2

/-- A world window of the image's table (Table 13-6). -/
def windowOf (e : List Octet) : WorldWindow :=
  { master := getLe e 0 1, secure := decide (getLe e 1 1 = 0), base := getLe e 4 4, size := getLe e 8 4 - getLe e 4 4, perms := getLe e 3 1 }

/-- Table 2-3, 85.5 ms: MEAS2 and MEAS3 are extended, the world windows loaded and locked (R20, R369), the cores started. -/
def State.startWindows (s : State) : State :=
  let b := s.fwImage s.bootBase
  let s := s.extend 2 b
  let s := { s with tres.windows := (fwWindows b).map windowOf, tres.locked := true, clk.corePll := true, clk.cores := 0xFF#8 }
  (s.extend 3 (slice b (getLe b 24 4) (16 * getLe b 28 2))).deriveClass 1

/-! ### The MRAM restore -/

/-- The counters of R54 come back from their MRAM copy after a loss of VBAT (R55). -/
def State.restoreCounters (i : StartIn) (s : State) : State :=
  if !s.ao.vbatLost then s
  else
    let c := if s.saved.saved i.areasBad 4 then (s.saved.counters.1, s.saved.counters.2.1, s.saved.counters.2.2.1) else s.saved.copy
    let s := { s with ao.vbatLost := false, ao.optime := c.1, ao.pwrcyc := min (c.2.1 + 1) 0xFFFFFF, ao.restarts := c.2.2
                      sys.events := s.sys.events ||| 64#32 }
    s.report 0x000B [(4, s.ao.optime), (4, s.ao.pwrcyc), (2, s.ao.restarts)]

/-- Records that were not flushed are lost: RECORD_LOST with their count, or with 0xFFFFFFFF where neither copy of the intake count
is valid (R52, R457). `known` is the intake count before this START. -/
def State.restoreRecords (known : Option Nat) (s : State) : State :=
  let here := s.rcd.unflushed
  let s := { s with ao.intake := s.store.flushed + here, ao.intakeValid := true }
  match known with
  | none => ({ s with rcd.events := s.rcd.events ||| 4#32 }).storeDirect 0x1001 [(4, 0xFFFFFFFF)] 0
  | some k =>
    if k ≤ s.store.flushed then s
    else ({ s with rcd.events := s.rcd.events ||| 4#32 }).storeDirect 0x1001 [(4, (sat 32 (k - s.store.flushed) : Nat))] 0

/-- The recorder's intake count before this START: the always-on domain's, or the copy in the counters area (R52). -/
def State.intakeBefore (i : StartIn) (s : State) : Option Nat :=
  if s.ao.intakeValid then some (s.ao.intake - s.rcd.unflushed)
  else if s.saved.saved i.areasBad 4 then some s.saved.counters.2.2.2 else none

/-- The records that area 6 appended do not count where that area is not saved (R52): they are lost. -/
def State.dropAppended (i : StartIn) (s : State) : State :=
  if s.saved.saved i.areasBad 6 then s
  else
    let n := s.saved.appended
    { s with store.ring := s.store.ring.drop n, store.flushed := s.store.flushed - n, store.unarchived := s.store.unarchived - n }

/-- The drop and ECC counters of area 4 come back (R52, log 152); their order is that of `State.dropCounters`. -/
def State.restoreDrops (i : StartIn) (s : State) : State :=
  if s.saved.saved i.areasBad 4 = false ∨ s.saved.drops = [] then s
  else
    let v := fun (k : Nat) => BitVec.ofNat 32 ((s.saved.drops[k]?).getD 0)
    let radio := fun (b : Nat) (r : Radio) => { r with
      cntDup := v b, cntFiltered := v (b + 1), cntFcs := v (b + 2), cntMic := v (b + 3), cntReplay := v (b + 4), cntSkipDwell := v (b + 5)
      cntSkipDuty := v (b + 6), cntNoAck := v (b + 7) }
    { s with
      rcd.cntSuppressed := v 0, rcd.cntIntakeOvf := v 1, rcd.cntLost := v 2, rcd.cntOverwritten := v 3
      rad.a := radio 4 s.rad.a, rad.b := radio 12 s.rad.b
      sys.ecc := (List.range 11).foldl (fun t m => Tab.set 0 t m ((s.saved.drops[20 + m]?).getD 0)) [] }

/-- What SYS shows of the last save, and SAVE_INCOMPLETE where its commit word is missing or an area has been struck (R52). -/
def State.restoreShown (i : StartIn) (s : State) : State :=
  let v := s.saved
  let areas := ((List.range 7).map (fun a => flag (v.holds i.areasBad (a + 1)) * 2 ^ a)).sum
  let tick := v.saved i.areasBad 5
  let s := { s with sys.saveAreas := areas, sys.saveMode := if v.holds i.areasBad 1 then v.mode else 0
                    sys.digestTick := if tick then v.digestTick else 0xFFFFFFFF
                    sys.dspDigest := if tick then v.dsp else 0#256, sys.xarbDigest := if tick then v.xarb else 0#256 }
  if (v.begun && !v.holds i.areasBad 7) || v.struck.isSome then
    ({ s with sys.events := s.sys.events ||| 32#32 }).report 0x000A [(1, areas)]
  else s

/-- Table 2-3, 85.5 to 90.8 ms: MRAM is read and restored (R52, R55, R416, R425, R426). The areas are then spent: no later START
restores them again (log 70). -/
def State.startRestore (i : StartIn) (s : State) : State :=
  let s := s.drain
  let known := s.intakeBefore i
  let s := ((((s.dropAppended i).restoreShown i).restoreCounters i).restoreDrops i)
  let s := { s with
    mets.cal := (enum s.mets.cal).map (fun (p : Nat × Option CalCopy) => if bit i.calBad p.1 then p.2.map (fun (c : CalCopy) => { c with valid := false }) else p.2)
    mets.checks := (enum s.mets.checks).map (fun (p : Nat × MetCopy) => if bit i.checksBad p.1 then { p.2 with valid := false } else p.2)
    mets.area := if s.saved.saved i.areasBad 2 then s.mets.area else {} }
  let s := (s.restoreRecords known).metStart
  { s with time.tAnchor := if s.saved.saved i.areasBad 1 then s.saved.time else 0
           saved := { s.saved with valid := 0, begun := false, struck := none, cursorOk := false, appended := 0 }
           sys.restored := true }

/-! ### Configuration and keys -/

/-- An outcome of Table 2-4 is recorded. -/
def State.cfgOutcome (code : Nat) (data : List (Nat × Int)) (s : State) : State :=
  ({ s with sys.events := s.sys.events ||| 128#32 }).report code data

/-- The designated slot, or the other one, or none (Table 2-4, rows 4 to 6). -/
def State.useSlot (s : State) : State :=
  let a := s.cfg.selected
  let b := 1 - a
  match s.validateSlot a with
  | .ok m => { (s.noteSlot a 0 0) with cfg.image := some m, cfg.active := a }
  | .error (c, d) =>
    let s := s.noteSlot a c d
    match s.validateSlot b with
    | .ok m => ({ (s.noteSlot b 0 0) with cfg.image := some m, cfg.active := b, cfg.outcome := 3 }).cfgOutcome 0x0008 [(1, b), (1, c), (4, d)]
    | .error (e, f) =>
      let s := { (s.noteSlot b e f) with cfg.outcome := 4, sys.restricted := 1 }
      s.cfgOutcome 0x0009 [(1, s.cfg.errorA), (1, s.cfg.errorB)]

/-- The selection of the configuration slot (R41, Table 2-4). -/
def State.selectConfig (selectorBad : Bool) (s : State) : State :=
  let s := if selectorBad then ({ s with cfg.selected := 0, cfg.pending := none, cfg.selectorLost := true }).cfgOutcome 0x0005 []
    else { s with cfg.selectorLost := false }
  match s.cfg.pending with
  | none => s.useSlot
  | some p =>
    match s.validateSlot p with
    | .ok m =>
      ({ (s.noteSlot p 0 0) with cfg.image := some m, cfg.selected := p, cfg.active := p, cfg.pending := none, cfg.outcome := 1 }).cfgOutcome 0x0006 [(1, p)]
    | .error (c, d) =>
      (({ (s.noteSlot p c d) with cfg.pending := none, cfg.outcome := 2 }).cfgOutcome 0x0007 [(1, p), (1, c), (4, d)]).useSlot

/-- What the image read at START sets (R45, R86, R88, R150, R200): thresholds, signal enables, Decks, base position, leap seconds,
the domains that it enables. -/
def State.applyImage (i : StartIn) (m : Image) (s : State) : State :=
  let serves := fun (k : Nat) => m.nets.any (fun r => decide (r.mac = k) && bit r.flags 0)
  let s := { s with
    sys.vsense := m.unit.vsense, lake.sigEn := s.enabledSignals, rad.a.deck := m.deckTab 0, rad.b.deck := m.deckTab 1
    time.leap := m.site.leap, clk.eth0 := serves 0, clk.eth1 := serves 1, clk.viaduct := decide (m.unit.pair = 1) }
  let s := (([0, 1].filter serves).foldl (fun s m => s.wake (domEth0 + m)) s).when (decide (m.unit.pair = 1)) (State.wake domViaduct)
  let s := if m.station.baseMode = 0 then
      { s with meas.survey := { base := 3, source := 1, x := m.station.ecefX, y := m.station.ecefY, z := m.station.ecefZ } }
    else s
  let s := s.antImageRead i.supply
  match m.plans.find? (fun r => decide (r.radio = 0)) with
  | some p => if p.rate = 6 then s else s.report 0x0615 [(1, p.rate)]
  | none => s

/-- Table 2-3, 90.8 to 102.5 ms: the configuration is selected, read and applied, MEAS4 extended with the image. -/
def State.startConfig (i : StartIn) (s : State) : State :=
  let s := s.selectConfig i.selectorBad
  match s.cfg.image with
  | none => s
  | some m => (s.extend 4 (s.flash.readN (slotBase s.cfg.active) m.head.length)).applyImage i m

/-- A valid slot whose CRC fails is zeroed and recorded (R367). -/
def State.dropKey (n : Nat) (s : State) : State :=
  if (s.keySlot n).valid then ({ s.setKey n {} with kreg.events := s.kreg.events ||| 64#32 }).report 0x0C09 [(1, n)] else s

/-- A counter record whose effect is absent is recorded (R379). -/
def State.incomplete (s : State) : State :=
  match s.keys.records.find? (fun (r : CounterRec) => !r.applied) with
  | some r =>
    ({ s with keys.records := s.keys.records.map (fun (r : CounterRec) => { r with applied := true }), kreg.events := s.kreg.events ||| 16#32 }).report
      0x0C05 [(1, r.kind), (1, r.argument), (4, r.counter)]
  | none => s

/-- A tamper detection of DORMANT is recorded at the next START (Table 13-15). -/
def State.tellTamper (s : State) : State :=
  match s.keys.latch with
  | some l =>
    if l.mode = 0 ∧ l.told = false then ({ s with keys.latch := some { l with told := true } }).report 0x0C08 [(2, l.sources), (4, l.optime)]
    else s
  | none => s

/-- Table 2-3, 102.5 to 104 ms: the tamper latches, the key store, the Class I keys (R364, R367, R379), and MEAS5 with the slot and
the flags of its selection, bit 0 fallback, bit 1 activation (R40). -/
def State.startKeys (i : StartIn) (s : State) : State :=
  let s := (s.tellTamper.each i.keysBad State.dropKey).incomplete
  let s := { s with pair.tamperSeen := s.keys.latch.isSome }
  (s.extend 5 (leBytes 1 s.cfg.active ++ leBytes 1 (flag (decide (s.cfg.outcome = 3)) + 2 * flag (decide (s.cfg.outcome = 1))))).deriveClass 2

/-! ### Self-test and the end of START -/

/-- Table 2-3, 104 to 306 ms: the self-test with the domains that start beside it; a failure makes the unit degraded (R39). -/
def State.startTests (i : StartIn) (s : State) : State :=
  let s := { s with clk.gnss := true, clk.metering := true, sys.selftest := i.failures % 4096
                    met.settled := some (domStart domMetering + s.ns) }
  let s := (s.wake domGnss).wake domMetering
  let bad := onesBelow 12 i.failures
  let s := s.each bad (fun t s => s.report 0x0004 [(1, t), (4, i.detail)])
  if bad = [] then s else s.degrade 2 0xFF

/-- START counts as having detected tamper (R367). -/
def State.tampered (s : State) : Bool := s.keys.latch.isSome || !(s.keySlot 0).valid || !(s.keySlot 2).valid

/-- The unit accepts its partner as the lead (R42 step 2, R343, Table 13-17): the images classify as MATCHED or MIXED, the partner's
protocol is one that the firmware pairs with, and the check values of slots 0 and 2 are equal. -/
def State.accepts (s : State) : Bool :=
  match s.cfg.image, s.cfg.partner with
  | some a, some b => decide (classifyPair a b ≠ .mismatch) && decide (s.protocolLow ≤ bits s.pair.peer 24 8) &&
      [0, 2].all (fun n => decide ((s.pair.checks[n]?).getD 0 = (s.keySlot n).check))
  | _, _ => false

/-- The unit enters SHADOW at the end of START. -/
def State.enterShadow (s : State) : State :=
  let s := { s with sys.restricted := 0, sys.mismatch := false, sys.waitViaduct := false }
  (s.toMode .shadow 3).adoptClass

/-- A unit that does not accept its lead is held in START (R43). -/
def State.holdMismatch (s : State) : State := ({ s with sys.restricted := 6, sys.mismatch := true, sys.waitViaduct := false }).recordMismatch (bits s.pair.peer 24 8)

/-- Steps 2 and 3 of R42. -/
def State.decide42 (s : State) : State :=
  if s.paired && s.pair.peerClaim then
    if s.pair.viaUp && s.cfg.partner.isSome then (if s.accepts then s.enterShadow else s.holdMismatch)
    else
      let s := { s with sys.waitViaduct := true }
      if s.pair.viaUp || s.pair.viaDown then s else s.viaductDown
  else State.decideClaim ⟨0, 0, 0⟩ { s with pair.seeking := 6, sys.waitViaduct := false }

/-- A tampered unit ends START in HOLD with stop cause TAMPER; only a lone unit claims (R42 step 1). -/
def State.endTampered (s : State) : State :=
  let s := State.setCell causeTamper 0 s
  if s.paired || s.pair.peerClaim || s.pair.forceIn then ((s.toMode .hold 2).setCell causeCorrAge 0).checkInputs
  else State.decideClaim ⟨0, 0, 0⟩ { s with pair.seeking := 6 }

/-- What START learns of its partner at its end. -/
def State.meetPartner (i : StartIn) (s : State) : State :=
  { s with pair.peerClaim := i.claimIn
           pair.peerFree := if i.claimIn then none else if s.pair.peerFree.isNone then some s.ns else s.pair.peerFree
           pair.viaUp := s.pair.viaUp || (i.viaduct && s.paired), pair.lanes := if i.viaduct then 3 else s.pair.lanes
           cfg.partner := i.partner.or s.cfg.partner, pair.checks := if i.partner.isSome then i.checks else s.pair.checks
           pair.peer := if i.partner.isSome then s.pair.peer % 2 ^ 24 + 2 ^ 24 * (i.protocol % 256) else s.pair.peer }

/-- START_COMPLETE (Table 2-3, Table 17-4). -/
def State.startComplete (i : StartIn) (s : State) : State := s.reportNow 0x0002 [(4, i.duration), (2, s.sys.selftest)]

/-- The decision of R42 leaves the unit in START: it waits for the Viaduct, or holds for a mismatch. -/
def State.staysInStart (s : State) : Bool := s.paired && s.pair.peerClaim && !(s.pair.viaUp && s.cfg.partner.isSome && s.accepts)

/-- Table 2-3, 306 ms: device time runs from its provisional anchor, the lighting starts (R438), the pair decision falls (R42),
START_COMPLETE is recorded, and then the mode changes. Without a configuration no service mode is entered (Table 2-4, log 151). -/
def State.startEnd (i : StartIn) (s : State) : State :=
  let s := (s.atLeast (s.sys.startT0 + 1000000 * i.duration)).whenReady domGnss
  let s := { s with time.fAnchor := s.time.frc, time.rho := 0, time.running := true, sys.duration := sat 16 i.duration, sys.startStep := 12
                    sys.watchdog := false, diag.stallStep := none, rad.beaconGap := s.ns, meas.withheldSince := s.ns }
  if s.sys.restricted = 1 then { s.startComplete i with sys.startStep := 13 }
  else
    let s := (s.meetPartner i).lumStart
    if s.tampered then (s.startComplete i).endTampered
    else if s.staysInStart then s.decide42.startComplete i
    else (s.startComplete i).decide42

/-- Step `k` of Table 2-3 runs where the steps before it have completed; a step that hangs leaves START there. -/
def State.runStep (i : StartIn) (k : Nat) (f : State → State) (s : State) : State :=
  if s.sys.startStep ≠ k ∨ i.stall = some k ∨ s.diag.stallStep = some k then s else f { s with sys.startStep := k + 1 }

/-- The steps of Table 2-3 in their order (R38). -/
def State.runStart (i : StartIn) (s : State) : State :=
  s |> State.runStep i 0 (fun s => { s with sys.meas := List.replicate 8 0#384 })
    |> State.runStep i 1 (fun s => { s with clk.system := true })
    |> State.runStep i 2 State.startFuse
    |> State.runStep i 3 State.startHeader
    |> State.runStep i 4 (State.startJournal i)
    |> State.runStep i 5 (State.startVerify i)
    |> State.runStep i 6 State.startWindows
    |> State.runStep i 7 (State.startRestore i)
    |> State.runStep i 8 (State.startConfig i)
    |> State.runStep i 9 (State.startKeys i)
    |> State.runStep i 10 (State.startTests i)
    |> State.runStep i 11 (State.startEnd i)

/-- START (R38). -/
def execStart (input : StartIn) : State → Host.Outcome State Fault Refusal :=
  done fun s => if s.sys.mode = Mode.start ∧ s.sys.startStep = 0 ∧ s.sys.resetHeld = false ∧ s.sys.saving = false then s.runStart input else s

/-- START_TIMEOUT (R39): the watchdog of 5 s, longer by the copies, expires; the record is the first of the new START, since a restart
of this cause flushes nothing (log 71). -/
def execStartTimeout : State → Host.Outcome State Fault Refusal :=
  done fun s =>
    if s.sys.mode ≠ Mode.start ∨ !s.sys.watchdog ∨ 12 ≤ s.sys.startStep ∨ s.sys.resetHeld ∨ s.sys.saving then s
    else
      let s := s.atLeast (s.sys.startT0 + 1000000000 * (5 + s.sys.startExtra))
      let k := s.sys.startStep
      ({ s.enterStart 5 4 with diag.stallStep := none }).reportNow 0x0003 [(1, k)]

/-- DEGRADED_SUCCESSION_RESET (R39): 60 s in a service mode without being degraded. -/
def execDegradedSuccessionReset : State → Host.Outcome State Fault Refusal :=
  done fun s =>
    match s.sys.serviceSince with
    | some t => if s.inService && !s.sys.degraded && !s.sys.saving then { s.atLeast (60000000000 + t) with sys.succession := 0 } else s
    | none => s

/-- FIRMWARE_WATCHDOG (Table 2-5): nothing is flushed (R457). -/
def execFirmwareWatchdog : State → Host.Outcome State Fault Refusal :=
  done fun s => if s.powered && !s.sys.saving && !s.sys.resetHeld && decide (s.clk.cores ≠ 0#8) then s.enterStart 6 12 else s

/-- VIADUCT_WAIT_RETRY (R42): a unit that waits at the end of START decides again; over the trained Viaduct it has learnt the partner's
digests, check values and protocol. -/
def execViaductWaitRetry (partner : Option Image) (checks : List Nat) (protocol : Nat) : State → Host.Outcome State Fault Refusal :=
  done fun s =>
    if s.sys.mode ≠ Mode.start ∨ !s.sys.waitViaduct ∨ s.sys.saving then s
    else
      let s := if partner.isSome && s.pair.viaUp then
          { s with cfg.partner := partner, pair.checks := checks, pair.peer := s.pair.peer % 2 ^ 24 + 2 ^ 24 * (protocol % 256) }
        else s
      if s.pair.viaUp || !s.pair.peerClaim then s.decide42 else s

/-- PAIR_MISMATCH_RECHECK (R43): a held unit classifies again, and enters SHADOW as soon as it accepts a partner that holds its claim. -/
def execPairMismatchRecheck (partner : Option Image) (checks : List Nat) (protocol : Nat) : State → Host.Outcome State Fault Refusal :=
  done fun s =>
    if s.sys.mode ≠ Mode.start ∨ !s.sys.mismatch ∨ !s.pair.viaUp ∨ s.sys.saving then s
    else
      let s := { s with cfg.partner := partner.or s.cfg.partner, pair.checks := if partner.isSome then checks else s.pair.checks
                        pair.peer := s.pair.peer % 2 ^ 24 + 2 ^ 24 * (protocol % 256) }
      if s.pair.peerClaim && s.accepts then s.enterShadow else s

end Sys2Proof.Machine
end

