-- ==== Sys2Proof/Machine/Power.lean ====
section
/-! DEFINITION. Power (R35, R44–R56): RESET_N and the rails, power-fail detection and the save, the return of the supplies, the
always-on counters, VBAT, the die temperature. -/

namespace Sys2Proof.Machine

/-! ### Entering and leaving DORMANT, RESET_N -/

/-- POWER_ON (Table 2-2, Table 2-5): START with cause 0x01, PAIR_SEL sampled; the free-running counter starts from 0 (R178). -/
def execPowerOn (pairSel : Bool) : State → Host.Outcome State Fault Refusal :=
  done fun s =>
    if s.sys.mode ≠ Mode.dormant then s
    else
      State.enterStart 1 0 { s with time := {}, sys.pairSel := pairSel, sys.resetHeld := false, sys.vsenseOk := true, clk := {} }

/-- RESET_N low (R44, R49, R53): START with cause 0x02 waits for its release; during a save it acts when the save has ended. -/
def State.resetLow (s : State) : State :=
  let s := { s with sys.resetHeld := true }
  if !s.powered then s
  else if s.sys.saving && !s.sys.saveEnded then { s with sys.resetDue := true }
  else s.enterStart 2 12

/-- RESET_N_ASSERTED (R44, R49). -/
def execResetNAsserted : State → Host.Outcome State Fault Refusal := done State.resetLow

/-- RAIL_MONITOR_TRIP (R499): acts as RESET_N asserted. -/
def execRailMonitorTrip : State → Host.Outcome State Fault Refusal := done State.resetLow

/-- RESET_N_RELEASED (R38): START begins at t = 0 with PAIR_SEL sampled. -/
def execResetNReleased (pairSel : Bool) : State → Host.Outcome State Fault Refusal :=
  done fun s =>
    if !s.sys.resetHeld then s
    else
      let s := { s with sys.resetHeld := false }
      if s.sys.mode = Mode.start ∧ s.sys.startStep = 0 ∧ s.sys.saving = false then { s with sys.pairSel := pairSel, sys.startT0 := s.ns } else s

/-- Area 6 of the save (Table 2-7): every record in the buffer not yet flushed joins the MRAM ring. -/
def State.saveRecords (s : State) : State :=
  let t := s.drain.flush
  { t with saved.appended := t.store.flushed - s.store.flushed }

/-- VDD_CORE_POR (R35, R36): DORMANT without a record. What lives without VDD_CORE stays; a save in progress has completed its first
`areas` areas (R52). -/
def execVddCorePor (areas : Fin 8) : State → Host.Outcome State Fault Refusal :=
  done fun s =>
    if !s.powered then s
    else
      let s := s.when (s.sys.saving && !s.sys.saveEnded && decide (6 ≤ areas.val)) State.saveRecords
      let saved := if s.sys.saving && !s.sys.saveEnded then { s.saved with valid := 2 ^ areas.val - 1 } else s.saved
      let keepOut := s.releaseClaim
      let s := { keepOut.fresh with saved := saved, time := {}, clk := {}, diag := {}, pair := { forceIn := s.pair.forceIn, peerClaim := s.pair.peerClaim, peerFree := if s.pair.peerClaim then none else some 0 } }
      { s with sys.mode := .dormant, sys.succession := 0, sys.degradedInSave := false, sys.vsenseOk := false, ao.vbatLow := false, kreg.vbatRun := false }

/-! ### The save -/

/-- The entries of the dispatcher digest (R516): queued and served fleet tasks in ascending task number. -/
def dspEntries (d : Dsp) : List (Nat × Nat × Nat × Nat) :=
  let queued := (d.queues.filter (fun p => decide (p.1 < 28))).flatMap (fun p => p.2.ring.filterMap (fun (x : Option Desc) => x.map (fun e => (e.task, p.1, 0, 0xFF))))
  let code := fun (v : Service) => if v.confirmed then 2 else 1
  let served := (d.workers.filter (fun p => decide (p.1 < 256))).flatMap (fun p =>
    (p.2.task.map (fun v => (v.desc.task, v.desc.queue, (if p.2.suspended then 3 else code v), p.1))).toList ++
    (p.2.retreat.map (fun v => (v.desc.task, v.desc.queue, code v, p.1))).toList)
  sortBy (fun a b => decide (a.1 < b.1)) (queued ++ served)

/-- The dispatcher digest of R516. -/
def dspDigest (d : Dsp) : BitVec 256 :=
  Config.sha256 ((dspEntries d).flatMap (fun e => leBytes 4 e.1 ++ leBytes 1 e.2.1 ++ leBytes 1 e.2.2.1 ++ leBytes 1 e.2.2.2 ++ [0#8]))

/-- The arbiter digest of R516: the holdings of each span in ascending order. -/
def State.xarbDigest (s : State) : BitVec 256 :=
  let t := { s with fleet.xarb := s.pub.xarb }
  let spans := sortBy (fun a b => decide (a < b)) ((t.recs (·.spans)).map (·.span))
  Config.sha256 (spans.flatMap (fun x => (t.holders x).flatMap (fun h => leBytes 2 x ++ leBytes 2 h)))

/-- The requests that the host bridge holds unanswered in processing (R484). -/
def State.unanswered (s : State) : List (ChpFrame × Nat) :=
  s.host.awaiting.map (fun (a : Awaiting) => (a.frame, a.kind)) ++ s.inp.submissions.map (fun (x : Submission) => (x.frame, 0x0020)) ++
  (s.inp.releases ++ s.inp.forces).filterMap (fun (o : HostOrder) => o.frame.map (fun f => (f, o.kind))) ++
  (s.ureg.verify.map (fun f => (f, 0x0043))).toList

/-- Every request held unanswered receives SAVING (R484). -/
def State.answerSaving (s : State) : State :=
  let held := s.unanswered
  let waiting := s.host.spiRx.map spiFrame
  let s := s.each held (fun p s => s.finish p.1 p.2 0x0A [])
  let s := s.each waiting (fun p s => s.sendReply p.1 p.2 0x0A [] none)
  { s with host.awaiting := [], host.spiRx := [], inp := {}, ureg.verify := none, ureg.verifying := false }

/-- The engines that stop at t = 0 (Table 2-6, R109, R124, R140, R438): searches are cancelled, channels are FREE, computations
abandoned, sinks and boost off; the tick in progress is not published. -/
def State.stopEngines (s : State) : State :=
  { s.lumOff.cancelForSave with
    trk.channels := [], trk.fifo := [], trk.requeue := []
    loop.jobs := []
    loop.objects := Tab.mapVals {} (fun _ (o : LoopObj) => { o with due := none, lateDue := none, finish := none }) s.loop.objects
    tick := none, clk := { s.clk with gnss := false, lake := false, viaduct := false, eth0 := false, eth1 := false, metering := false, lighting := false }
    rcd.archiving := false, pair.viaUp := false, time.running := false
    time.ptp := s.time.ptp.map (fun (p : PtpPort) => { p with state := .disabled, queue := [] }) }

/-- The end of a radio's frame on air, as the free-running counter shows it, at most 3.5 ms after `t0` (R46). -/
def State.airEnd (t0 : Nat) (i : Nat) (s : State) : Nat :=
  match (s.radio i).onAir with
  | some (_, finish) => min (3500000 + t0) (max t0 (s.time.frcFor finish).toNat)
  | none => t0

/-- The claim goes at the end of the later frame, or at 1 µs with none on air, or at 3.5 ms (R46); a frame that has not ended by then
is cut, and the radios stop. -/
def State.saveAir (t0 : Nat) (s : State) : State :=
  let last := max (s.airEnd t0 0) (s.airEnd t0 1)
  let s := s.atLeast (if last = t0 then t0 + 1000 else last)
  { s.releaseClaim with rad.a.awake := false, rad.b.awake := false, clk.radioA := false, clk.radioB := false }

/-- The drop counters of a radio in the order of area 4. -/
def Radio.drops (r : Radio) : List Word :=
  [r.cntDup, r.cntFiltered, r.cntFcs, r.cntMic, r.cntReplay, r.cntSkipDwell, r.cntSkipDuty, r.cntNoAck]

/-- All recorder and radio drop counters and the ECC counts of the memories 0 to 10 (Table 2-7, area 4). -/
def State.dropCounters (s : State) : List Nat :=
  ([s.rcd.cntSuppressed, s.rcd.cntIntakeOvf, s.rcd.cntLost, s.rcd.cntOverwritten] ++ s.rad.a.drops ++ s.rad.b.drops).map (·.toNat) ++
    (List.range 11).map (Tab.get 0 s.sys.ecc)

/-- What areas 1 to 5 of the save hold (Table 2-7); `now` is device time at t = 0. None of them holds until its write is complete. -/
def State.saveAreas (now : Nat) (s : State) : SavedAreas :=
  { s.saved with
    seq := s.sys.saveSeq, valid := 0, begun := true, mode := s.sys.mode.code, time := now, trigger := 0, cursor := s.upd.journal.cursor
    step := s.upd.journal.state, appended := 0, cursorOk := false
    counters := (s.ao.optime, s.ao.pwrcyc, s.ao.restarts, s.ao.intake), digestTick := s.pub.tick, dsp := dspDigest s.pub.dsp
    xarb := s.xarbDigest, drops := s.dropCounters }

/-- A save within 15 ms of a latch abandons the epoch: nothing of it is published or stored in the ring (Table 6-12). -/
def State.abandonEpoch (s : State) : State :=
  match s.meas.job with
  | none => s
  | some j =>
    if s.ns < j.since + 15000000 then
      { s with meas.job := none, meas.lastValidDue := none
               meas.ring := s.meas.ring.filter (fun e => decide (e.second * perSec ≠ s.meas.epochT)) }
    else { s with meas.job := none }

/-- The save begins (R45, R46): metering takes the block in progress, the engines stop, the bridge answers, the claim goes with the
air. -/
def State.beginSave (blocks : List BlockIn) (s : State) : State :=
  let t0 := s.ns
  let now := s.now
  let s := s.abandonEpoch
  let s := { s with sys.saveSeq := (s.sys.saveSeq + 1) % 65536, sys.saveT0 := t0 }
  let s := s.metFreeze blocks
  let s := s.answerSaving
  let s := { s with sys.saving := true, saved := s.saveAreas now, mets.area := s.metCopy }
  s.stopEngines.saveAir t0

/-- A power failure within a copy of the journal step of START (Table 2-8): the save writes the journal cursor and nothing else, since
the areas of the previous power loss stay (R53, log 153). -/
def State.saveCursor (s : State) : State :=
  { s with sys.saving := true, sys.saveEnded := true, rcd.closed := true
           saved := { s.saved with cursor := s.upd.journal.cursor, step := s.upd.journal.state, cursorOk := true } }

/-- POWER_FAIL_DETECT (R45, R46, R53): VSENSE has been below its threshold for 2 µs. `blocks` is the metering block in progress. Before
the MRAM restore of START nothing is written, but for the journal cursor within a copy. -/
def execPowerFailDetect (blocks : List BlockIn) : State → Host.Outcome State Fault Refusal :=
  done fun s =>
    let s := { s with sys.vsenseOk := false }
    if !s.powered || s.sys.saving || s.sys.resetHeld then s
    else if s.sys.mode = Mode.start ∧ s.sys.restored = false then (if s.sys.startStep = 4 then s.saveCursor else s)
    else s.commitPast.beginSave blocks

/-- The last words of a save are written; the recorder is closed (R49). -/
def State.saveCommit (s : State) : State :=
  { s with saved := { s.saved with valid := 127, copy := (s.ao.optime, s.ao.pwrcyc, s.ao.restarts)
                                   counters := (s.ao.optime, s.ao.pwrcyc, s.ao.restarts, s.ao.intake) }
           sys.saveEnded := true, rcd.closed := true }

/-- SAVE_END (R47, R49, R55): the recorder area and the commit word are written. The unit does nothing more until START or DORMANT;
RESET_N that fell during the save takes effect. -/
def execSaveEnd : State → Host.Outcome State Fault Refusal :=
  done fun s =>
    if !s.sys.saving ∨ s.sys.saveEnded then s
    else
      s.saveRecords.saveCommit.when s.sys.resetDue (fun s => s.enterStart 2 12)

/-- POWER_RESTORED (R51, Table 2-8): after a save that has ended, START with cause 0x08, or 0x04 where the unit became degraded in it,
which counts as any degraded restart (R39). -/
def execPowerRestored : State → Host.Outcome State Fault Refusal :=
  done fun s =>
    let s := { s with sys.vsenseOk := true }
    if !s.sys.saving ∨ !s.sys.saveEnded ∨ s.sys.resetHeld then s
    else if s.sys.degradedInSave then
      let last := decide (3 ≤ s.sys.succession)
      let s := { s with sys.degradedInSave := false }.enterStart 4 12
      if last then { s.restrict 3 with sys.degraded := true } else s
    else s.enterStart 8 12

/-! ### The always-on counters -/

/-- OPTIME_TICK (R54): a second of the crystal with VDD_CORE in range. -/
def execOptimeTick : State → Host.Outcome State Fault Refusal :=
  done fun s => if s.powered then { s with ao.optime := min (s.ao.optime + 1) 0xFFFFFFFF } else s

/-- COUNTER_CHECKPOINT (R55, R224): a whole 10 s: the three counters and the last accepted frame counters go to MRAM. -/
def execCounterCheckpoint : State → Host.Outcome State Fault Refusal :=
  done fun s =>
    if !s.powered || s.sys.saving || !s.sys.restored || !s.time.running then s
    else
      let s := s.mark 26 (10 * perSec)
      { s with saved.copy := (s.ao.optime, s.ao.pwrcyc, s.ao.restarts), rad.lastCounter := s.fleet.counters }

/-- VBAT_APPLIED (R55, R508): in DORMANT the always-on domain has been without supply: the key store is empty, its counters are gone,
the loss is latched, and the crystal check arms once the oscillator has run for 1 s. While VDD_IO33 is in range nothing is lost. -/
def execVbatApplied : State → Host.Outcome State Fault Refusal :=
  done fun s =>
    if s.powered then s else { s.zeroStore with ao := { vbatLost := true, intakeValid := false, crystalArmed := true } }

/-- The maximum junction temperature of the ordering code in 0.1 °C (Table 0-1). -/
def State.junctionMax (s : State) : Int := if s.keys.fuse.extended then 1250 else 1100

/-- TEMP_HIGH (R460, R463): the die sensor reads `temperature`, in 0.1 °C, with what an injection adds. Above the maximum it is recorded
once, and again after a fall of 5 °C below it. -/
def execTempHigh (temperature : Int) : State → Host.Outcome State Fault Refusal :=
  done fun s =>
    let t := temperature + s.diag.tempOffset
    let s := { s with kreg.temp := t }
    if !s.powered then s
    else if s.junctionMax < t then
      if s.sys.tempHigh then s
      else ({ s with sys.tempHigh := true, sys.events := s.sys.events ||| 16#32 }).report 0x000F [(4, t)]
    else if t ≤ s.junctionMax - 50 then { s with sys.tempHigh := false }
    else s

end Sys2Proof.Machine
end

