-- ==== Sys2Proof/Machine/Diag.lean ====
section
/-! DEFINITION. The DIAG block (R461–R464, R467): diagnostic sessions, injections at the points of Table 17-6, their results. -/

namespace Sys2Proof.Machine

/-- A diagnostic session may open or an injection act (R461, R463): any mode in VENDOR and SERVICE, SHADOW in FIELD. -/
def State.diagPermitted (s : State) : Bool :=
  match s.life with
  | .vendor | .service => true
  | .field => decide (s.sys.mode = Mode.shadow)
  | .provision | .retired => false

/-- DIAG_OPEN (R461): recorded, and MEAS7 extended with the host and the session ID of the opening (log 72). -/
def execDiagOpen (frame : ChpFrame) : State → Host.Outcome State Fault Refusal :=
  done (State.chp 0x0060 (some 6) false false (decide (frame.body = [])) frame fun h s =>
    if !s.diagPermitted then s.refuse frame 0x0060 1
    else if s.diag.session then s.refuse frame 0x0060 2
    else
      let k := (s.slotOf frame true).getD 0
      let s := { s with diag.session := true, diag.host := h, diag.slot := k, diag.lastWrite := s.ns }
      ((s.extend 7 (leBytes 1 h ++ leBytes 4 frame.session.toNat)).report 0x1201 [(1, h)]).finish frame 0x0060 0x00 [])

/-- DIAG_CLOSE (R461): the session's own host closes it; another's message is refused under the session rule. -/
def execDiagClose (frame : ChpFrame) : State → Host.Outcome State Fault Refusal :=
  done (State.chp 0x0061 (some 6) false false (decide (frame.body = [])) frame fun h s =>
    if s.diag.session && decide (s.diag.host ≠ h) then s.finish frame 0x0061 0x08 []
    else (s.diagClose 0).finish frame 0x0061 0x00 [])

/-- DIAG_IDLE_TIMEOUT (R461): 600 s without a write to DIAG. -/
def execDiagIdleTimeout : State → Host.Outcome State Fault Refusal :=
  done fun s => if s.powered && s.diag.session && !s.sys.saving then (s.atLeast (600000000000 + s.diag.lastWrite)).diagClose 1 else s

/-- The target of a detector is in range and applicable (Table 17-6). -/
def State.targetOk (d t a : Nat) (s : State) : Bool :=
  match d with
  | 0x01 => decide (t ≤ 10) && decide (1 ≤ bits a 0 2 ∧ bits a 0 2 ≤ 2) && (decide (t = 8 ∨ t = 9) || decide (bits a 2 3 = 0))
  | 0x02 | 0x03 => decide (t ≤ 12) && !s.tres.frozen.getLsbD t
  | 0x04 => decide (t ≤ 7) && !s.tres.frozen.getLsbD t
  | 0x05 => decide (a ≤ 11)
  | 0x06 | 0x07 | 0x08 => true
  | 0x09 => decide (t ≤ 8)
  | 0x0A => decide (t ≤ 1)
  | 0x0B => decide (t ≤ 1) && decide (a ≤ 1)
  | 0x0C => decide (t ≤ 2)
  | 0x0D => decide (t ≤ 1) && within a 21 1000
  | 0x0E => s.paired && within t 1 9
  | 0x0F => decide (t ≤ 37) && within a 1 60
  | 0x10 => decide (t ≤ 579)
  | 0x11 => decide (t ≤ 255) && decide ((s.rs t).state ≠ 0)
  | _ => false

/-- Why an injection is refused (R462), as DIAG_RESULT numbers reasons: 1 state, 2 no session, 3 busy, 4 target, 5 saving. -/
def State.injectRefusal (s : State) : Option Nat :=
  let d := s.diag.selDetector
  if !s.diag.session then some 2
  else if !s.diagPermitted || (decide (d = 0x05) && decide (s.life = .field)) || (decide (d = 0x0C) && decide (s.lake.ant ≠ .on)) then some 1
  else if s.diag.active.isSome then some 3
  else if !s.targetOk d s.diag.selTarget s.diag.argument.toNat then some 4
  else if s.sys.saving then some 5
  else none

/-- The saved area that an MRAM address of an injection lies in, the areas of Table 2-7 standing in order from 0 (log 72). -/
def areaAt (a : Nat) : Option Nat :=
  let ends := [64, 4160, 4224, 5248, 5376, 136448, 136456]
  (List.range 7).find? (fun i => decide (a < (ends[i]?).getD 0)) |>.map (· + 1)

/-- The injection acts at its injection point (Table 17-6). Where the detector then finds something at a later instant (a memory's next read, the
watchdog's end, the comparator's 2 µs, the next START, entry, frame or computation) the point is armed, and the response comes with that command.
`secure` and `address` are those of the master's next request. -/
def State.injectAct (d t a : Nat) (secure : Bool) (address : Nat) (s : State) : State :=
  match d with
  | 0x01 => if t = 7 then { s with saved := { s.saved with struck := areaAt (bits a 8 24) } } else { s with diag.eccArmed := some (t, a) }
  | 0x02 => s.freeze t (worldOf t secure) address .parity
  | 0x03 => s.freeze t (worldOf t secure) address .overstay
  | 0x05 => { s with diag.stallStep := some a }
  | 0x06 => s.refFault 250
  | 0x08 => { s with diag.tempOffset := ofSbits 32 a, diag.timedEnd := some (10000000000 + s.ns) }
  | 0x09 => s.tamper (BitVec.ofNat 9 (2 ^ t))
  | 0x0A => { s with diag.synthFault := some t }
  | 0x0B => { s with diag.paFault := some (t, a) }
  | 0x0C => { s with diag.biasSense := some t, diag.timedEnd := some (s.ns + 1000000 * a) }
  | 0x0D => { s with diag.stopHold := some t, diag.timedEnd := some (s.ns + 1000000 * a) }.compare
  | 0x0E => { s with diag.viaCorrupt := some t }
  | 0x0F => { s with diag.satChannel := some t, diag.timedEnd := some (s.ns + 1000000000 * a) }
  | 0x10 => { s with diag.loopDelay := some (t, a) }
  | 0x11 => { s with diag.authCut := some (t, a) }
  | _ => s

/-- A write of INJECT (R462): refused with its reason, or measured, recorded and acted on. -/
def State.inject (secure : Bool) (address : Nat) (s : State) : State :=
  let d := s.diag.selDetector
  let t := s.diag.selTarget
  let a := s.diag.argument.toNat
  match s.injectRefusal with
  | some why =>
    ({ s with diag.resDetector := d, diag.resOutcome := 3, diag.resReason := why, diag.resLatency := 0
              diag.events := s.diag.events ||| 4#32 }).report 0x1205 [(1, d), (1, why)]
  | none =>
    let s := (s.extend 7 (leBytes 1 d ++ leBytes 2 t ++ leBytes 4 a)).report 0x1203 [(1, d), (2, t), (4, a)]
    let s := { s with diag.active := some ⟨d, t, a, s.ns, true, none⟩, diag.count := incr s.diag.count }
    s.injectAct d t a secure address

/-- A write of DIAG_SEL. -/
def State.writeDiagSel (v : Nat) (s : State) : State := { s with diag.selDetector := bits v 0 8, diag.selTarget := bits v 16 10, diag.lastWrite := s.ns }

/-- A write of DIAG_ARG. -/
def State.writeDiagArg (v : Nat) (s : State) : State := { s with diag.argument := BitVec.ofNat 32 v, diag.lastWrite := s.ns }

/-- A write of DIAG_CTL: INJECT, then CANCEL. -/
def State.writeDiagCtl (v : Nat) (secure : Bool) (address : Nat) (s : State) : State :=
  let s := { s with diag.lastWrite := s.ns }
  let s := if bit v 0 then s.inject secure address else s
  if bit v 1 then s.cancelInjection else s

/-- DIAG_INJECT (R462): INJECT written from CHP session slot `writer`; another session's write is refused (R467). With no session open
the injection itself is refused. -/
def execDiagInject (writer : Fin 8) (secure : Bool) (address : Nat) : State → Host.Outcome State Fault Refusal :=
  done fun s =>
    if !s.powered || (s.diag.session && decide (s.diag.slot ≠ writer.val)) then s else s.writeDiagCtl 1 secure address

/-- DIAG_CANCEL (R464): CANCEL written from CHP session slot `writer`. -/
def execDiagCancel (writer : Fin 8) : State → Host.Outcome State Fault Refusal :=
  done fun s => if s.powered && !s.sys.saving && s.diag.session && decide (s.diag.slot = writer.val) then s.writeDiagCtl 2 false 0 else s

/-- The deadline of a detector's check record in ns (Table 17-6). -/
def injectDeadline (d : Nat) : Nat :=
  match d with
  | 0x02 | 0x03 | 0x09 => 10000
  | 0x04 | 0x0C | 0x0F => 2000000000
  | 0x05 => 6000000000
  | 0x06 => 20000
  | 0x08 | 0x0A | 0x0B => 100000000
  | 0x0D => 25000000
  | 0x10 => 10000000
  | 0x11 => 20000000
  | _ => 1000000000

/-- The instant from which the deadline counts: the injection, or for the START watchdog the START that follows it. -/
def State.injectFrom (i : Injection) (s : State) : Nat := if i.detector = 0x05 then max i.began s.sys.startT0 else i.began

/-- The injection's result (R462): PASS where the check came within the deadline; a power-fail injection also needs cause 0x08 and
no SAVE_INCOMPLETE. The points that act once return to normal. -/
def State.injectResult (i : Injection) (s : State) : State :=
  let due := s.injectFrom i + injectDeadline i.detector
  let s := if i.seen.isSome then s else s.atLeast due
  let at_ := i.seen.getD s.ns
  let pass := i.seen.isSome && decide (at_ ≤ due) && (decide (i.detector ≠ 7) || (decide (s.sys.cause = 8) && !bit s.sys.events.toNat 5))
  let us := sat 16 ((at_ - i.began) / 1000)
  let s := { s with
    diag.active := none, diag.resDetector := i.detector, diag.resOutcome := if pass then 1 else 2, diag.resReason := 0, diag.resLatency := us
    diag.events := s.diag.events ||| (if pass then 1#32 else 2#32), diag.viaCorrupt := none, diag.loopDelay := none, diag.authCut := none
    diag.synthFault := none, diag.paFault := none, diag.eccArmed := none }
  s.report 0x1204 [(1, i.detector), (1, if pass then 1 else 2), (2, us)]

/-- INJECT_RESULT (R462): the check record has been stored, or the deadline expires. -/
def execInjectResult : State → Host.Outcome State Fault Refusal :=
  done fun s =>
    match s.diag.active with
    | some i => if s.powered && !s.sys.saving then s.injectResult i else s
    | none => s

/-- INJECTION_DURATION_END (R463): the timed action of an injection ends. -/
def execInjectionDurationEnd : State → Host.Outcome State Fault Refusal :=
  done fun s =>
    match s.diag.timedEnd with
    | some t =>
      if !s.powered then s
      else
        let s := s.atLeast t
        { s with diag.timedEnd := none, diag.tempOffset := 0, diag.biasSense := none, diag.stopHold := none, diag.satChannel := none }.compare
    | none => s

end Sys2Proof.Machine
end

