-- ==== Sys2Proof/Machine/Hosts.lean ====
section
/-! DEFINITION. The host messages of Table 18-5 that act on the fleet, the nodes, device time and the unit (R477, R480–R483). -/

namespace Sys2Proof.Machine

/-- The tick whose snapshot takes a request received now. -/
def State.nextTick (s : State) : Nat := tickOf s.now + 1

/-- A request refused by its message's own rule, answered when the next tick is published (R481, R483). -/
def State.awaitRefusal (f : ChpFrame) (kind code : Nat) (s : State) : State :=
  { s with host.awaiting := s.host.awaiting ++ [{ frame := f, kind := kind, refusal := code, tick := s.nextTick, outcome := [] }] }

/-- The scope and session octets of STOP and RELEASE. -/
def scopeOk (f : ChpFrame) : Bool := decide (f.body.length = 4) && decide (getLe f.body 0 1 ≤ 1) && zeros f.body 2 2

/-- STOP sets HOST in the cell or the session at once; the reply follows when it is set (R324, R483). -/
def execStop (frame : ChpFrame) : State → Host.Outcome State Fault Refusal :=
  done (State.chp 0x0030 (some 3) true false (scopeOk frame) frame
    fun h s =>
      let n := getLe frame.body 1 1
      let s := if getLe frame.body 0 1 = 0 then (s.keepCause 0 0 causeHost).setCell causeHost h
        else (s.keepCause 1 n sessHost).setSess n sessHost h
      s.finish frame 0x0030 0x00 [])

/-- RELEASE waits for the next snapshot, which applies it, and is answered after that tick's publication (R324, R483). -/
def execRelease (frame : ChpFrame) : State → Host.Outcome State Fault Refusal :=
  done (State.chp 0x0031 (some 3) true false (scopeOk frame) frame
    fun h s => { s with inp.releases := s.inp.releases ++
      [{ kind := 0x0031, scope := getLe frame.body 0 1, target := getLe frame.body 1 1, host := h, frame := some frame }] })

/-- ROBOT_CLOSE orders the host close of Table 8-20: CLOSE is queued; a FREE session is refused with 1 (R481, R482). -/
def execRobotClose (frame : ChpFrame) : State → Host.Outcome State Fault Refusal :=
  done (State.chp 0x0032 (some 3) true false (decide (frame.body.length = 4) && zeros frame.body 1 3) frame
    fun _ s =>
      let n := getLe frame.body 0 1
      let v := s.rs n
      if v.state = 0 then s.awaitRefusal frame 0x0032 1
      else
        let s := if v.closing then s
          else (s.setRs n { v with closing := true }).queueFrame
            { radio := 0, kind := 0x07, dest := n, extended := false, payload := [0x07#8, 0#8], tick := tickOf s.now }
        s.await frame 0x0032 s.nextTick [])

/-- FORCE_RELEASE waits for the next arbiter stage (R298) and is answered after that tick's publication. -/
def execForceRelease (frame : ChpFrame) : State → Host.Outcome State Fault Refusal :=
  done (State.chp 0x0080 (some 8) true false
    (decide (frame.body.length = 4) && decide (getLe frame.body 0 1 ≤ 3) && zeros frame.body 1 1) frame
    fun h s => { s with inp.forces := s.inp.forces ++
      [{ kind := 0x0080, scope := getLe frame.body 0 1, target := getLe frame.body 2 2, host := h, frame := some frame }] })

/-- TASK_SUBMIT waits for the next snapshot with its descriptors in order (R244). -/
def execTaskSubmit (frame : ChpFrame) : State → Host.Outcome State Fault Refusal :=
  let n := getLe frame.body 0 1
  done (State.chp 0x0020 (some 2) true false
    (decide (1 ≤ n ∧ n ≤ 16) && decide (frame.body.length = 4 + 64 * n) && zeros frame.body 1 3) frame
    fun h s => { s with inp.submissions := s.inp.submissions ++
      [{ frame := frame, host := h, tasks := (List.range n).map (fun i => slice frame.body (4 + 64 * i) 64) }] })

/-- The frames that wait for a node. -/
def State.waitingFor (a : Nat) (s : State) : List Unicast := s.fleet.unicast.filter (fun u => decide (u.radio = 1 ∧ u.dest = a))

/-- NODE_SEND queues a NODE_DATA frame for the node's next contact, which sets its pending entry (R482); 1 refuses a node
that is not in the roster, 2 a node for which four frames wait. -/
def execNodeSend (frame : ChpFrame) : State → Host.Outcome State Fault Refusal :=
  let n := getLe frame.body 2 1
  done (State.chp 0x0021 (some 2) true false
    (decide (1 ≤ n ∧ n ≤ 64) && decide (frame.body.length = 4 + n) && zeros frame.body 3 1) frame
    fun _ s =>
      let a := getLe frame.body 0 2
      if s.nodeRec a = none then s.awaitRefusal frame 0x0021 1
      else if 4 ≤ ((s.waitingFor a).filter (fun u => decide (u.kind = 0x21))).length then s.awaitRefusal frame 0x0021 2
      else
        let s := s.queueFrame { radio := 1, kind := 0x21, dest := a, extended := false, tick := tickOf s.now
                                payload := [0x21#8] ++ leBytes 1 n ++ slice frame.body 4 n }
        s.await frame 0x0021 s.nextTick [])

/-- The NODE_REPORT payload of a battery value and items (Table 8-21). -/
def nodePayload (battery : Nat) (items : List NodeItem) : List Octet :=
  [0x30#8] ++ leBytes 1 battery ++ leBytes 1 items.length ++
    items.flatMap (fun i => leBytes 1 i.quantity ++ leBytes 1 i.sensor ++ leBytes 4 (sbits 32 i.value))

/-- NODE_LAST returns the last NODE_REPORT accepted from the node with the seconds of its receipt, or length 0 (R482). -/
def execNodeLast (frame : ChpFrame) : State → Host.Outcome State Fault Refusal :=
  done (State.chp 0x0022 (some 0) false false (decide (frame.body.length = 4) && zeros frame.body 2 2) frame
    fun _ s =>
      let v := s.node (getLe frame.body 0 2)
      match v.reported with
      | some sec =>
        let p := nodePayload v.battery v.items
        s.finish frame 0x0022 0x00 (leBytes 4 sec ++ leBytes 1 p.length ++ [0#8, 0#8, 0#8] ++ p)
      | none => s.finish frame 0x0022 0x00 (leBytes 4 0 ++ [0#8] ++ [0#8, 0#8, 0#8]))

/-- Why a time step is refused (R187): 1 NOT_HOLD, 2 PROVISIONAL, 3 PENDING, 4 ZERO; 0 when it is accepted. -/
def State.stepRefusal (amount : Int) (s : State) : Nat :=
  if s.sys.mode ≠ Mode.hold then 1
  else if s.time.servo = .provisional then 2
  else if s.time.step.isSome then 3
  else if amount = 0 then 4 else 0

/-- TIME_STEP: an accepted step is set for the first whole second at least 1 s away (R187, R480). -/
def execTimeStep (frame : ChpFrame) : State → Host.Outcome State Fault Refusal :=
  done (State.chp 0x0070 (some 7) true false (decide (frame.body.length = 16) && zeros frame.body 12 4) frame
    fun _ s =>
      let amount := getLeS frame.body 0 8
      let why := s.stepRefusal amount
      let w := ceilDiv (perSec + s.now) perSec
      let s := if why = 0 then { s with time.step := some ⟨amount, getLe frame.body 8 4, w⟩ } else s
      s.finish frame 0x0070 0x00 (leBytes 1 why ++ [0#8, 0#8, 0#8] ++ leBytes 4 (if why = 0 then w else 0)))

/-- RESTART is recorded and answered; then the unit releases its claim and restarts with cause 0x03 (R483, R484). -/
def execRestart (frame : ChpFrame) : State → Host.Outcome State Fault Refusal :=
  done fun s => s.chp 0x0012 (some 1) false (decide (s.sys.restricted = 1 ∨ s.sys.restricted = 2)) (decide (frame.body = [])) frame
    fun h s => ((s.report 0x1109 [(1, h), (1, frame.source.transport)]).finish frame 0x0012 0x00 []).restart 3

end Sys2Proof.Machine
end

