-- ==== Sys2Proof/Machine/RegsPair.lean ====
section
/-! DEFINITION. The register maps of PAIR (Table 12-12), KEY (Table 13-19) and UPD (Table 14-10). -/

namespace Sys2Proof.Machine

/-! ### PAIR -/

/-- The class of a pair as PAIR_STATUS numbers it (Table 3-28). -/
def PairClass.code : PairClass → Nat
  | .none => 0 | .matched => 1 | .mixed => 2 | .mismatch => 3

/-- Seconds of clean health in SHADOW (R352). -/
def State.holdoffS (s : State) : Nat :=
  if s.sys.mode = Mode.shadow ∧ s.clean = true then sat 12 ((s.ns - s.pair.holdFrom) / 1000000000) else 0

/-- PAIR_MIXn_0 and _1 (R80): the counts of changes of the nth record type of Table 3-6; 0 outside MIXED. -/
def State.mixWord (n r : Nat) (s : State) : Option Word :=
  match recTypes[n]? with
  | none => none
  | some t =>
    let count := fun (c : Nat) => sat 16 (changeCount t.kind c s.cfg.changes)
    if s.pair.cls ≠ PairClass.mixed then (if r % 4 = 0 then some 0#32 else none)
    else
      match r with
      | 0 => some (pack [(0, 16, count 0), (16, 16, count 1)])
      | 4 => some (pack [(0, 16, count 2), (16, 16, t.kind)])
      | _ => none

/-- A PAIR register's word; none for an unassigned offset (Table 12-12). -/
def readPair (off : Nat) (s : State) : Option Word :=
  let p := s.pair
  match off with
  | 0x00 => some (pack [(0, 2, s.unitNo), (2, 1, flag p.claim), (3, 1, flag p.peerClaim), (4, 1, flag p.forceOut), (5, 1, flag p.forceIn),
      (6, 1, flag (s.paired && p.mirrored)), (7, 1, flag s.clean), (8, 2, p.cls.code), (10, 1, flag s.holdoffDone), (16, 12, s.holdoffS)])
  | 0x04 => some p.events
  | 0x08 => some (pack [(0, 1, flag p.takeback)])
  | 0x0C => some (uword (s.health s.protocol))
  | 0x10 => some (uword p.peer)
  | 0x14 => some (pack [(0, 2, p.lanes), (2, 1, flag p.viaUp), (8, 8, sat 8 p.missed), (16, 16, sat 16 p.retrains)])
  | 0x18 => some (pack [(0, 3, p.lastKind), (8, 13, sat 13 p.lastDuration)])
  | 0x20 => some p.cntTakeovers
  | 0x24 => some p.cntHandovers
  | 0x28 => some p.cntHbMissed
  | 0x2C => some p.cntCrc
  | 0x30 => some p.cntResyncs
  | 0x34 => some p.cntDeltaLate
  | _ =>
    match window 0x100 8 19 off with
    | some (n, r) => s.mixWord n r
    | none => none

/-- A write to a PAIR register (R359, R479): TAKEBACK is kept, FORCE_CLR releases FORCE_OUT, HANDOVER requests a handover; HANDOVER at
a unit that is not lead is refused and nothing of the word applies. -/
def writePair (off v : Nat) (s : State) : Nat × State :=
  match off with
  | 0x04 => taken { s with pair.events := w1c s.pair.events v }
  | 0x08 =>
    if bit v 1 && !s.isLead then (wrNotLead, s)
    else
      let s := { s with pair.takeback := bit v 0 }
      let s := if bit v 2 then s.forceClr else s
      taken (if bit v 1 then s.hostHandover else s)
  | 0x00 => readOnly true s
  | _ => readOnly false s

/-! ### KEY -/

/-- The key store is whole: slots 0 and 2 valid and the latch clear (Table 13-19). -/
def State.storeOk (s : State) : Bool := (s.keySlot 0).valid && (s.keySlot 2).valid && s.keys.latch.isNone

/-- The valid slots, slot i at bit i. -/
def State.validSlots (s : State) : Nat := ((List.range 64).filter (fun i => (s.keySlot i).valid)).foldl setBit 0

/-- The identity public key as the octets of its two big-endian coordinates, X first. -/
def State.identityOctets (s : State) : List Octet := beBytes 48 s.identityX.toNat ++ beBytes 48 s.identityY.toNat

/-- A register of slot `n`'s window (Table 13-3). They never show material. -/
def KeySlot.word (k : KeySlot) (r : Nat) : Option Word :=
  match r with
  | 0x0 => some (pack [(0, 8, if k.valid then 0xA5 else 0), (8, 8, k.kind), (16, 8, k.length), (24, 8, k.epoch % 256)])
  | 0x4 => some (pack [(0, 13, k.masters), (13, 2, k.worlds), (16, 5, k.states), (24, 5, k.ops)])
  | 0x8 => some (uword k.id)
  | 0xC => some (uword k.check)
  | _ => none

/-- A KEY register's word; none for an unassigned offset (Table 13-19). -/
def readKey (off : Nat) (s : State) : Option Word :=
  let f := s.keys.fuse
  let k := s.kreg
  match off with
  | 0x00 => some (pack [(0, 3, s.life.code), (3, 4, ones f.word 3 8), (7, 1, flag f.committed), (8, 1, flag s.storeOk),
      (9, 1, flag s.keys.latch.isSome), (10, 1, flag k.switch.isSome), (11, 1, flag f.authProg), (12, 4, f.cfgProg), (16, 4, f.cfgRevoked),
      (20, 1, flag s.keys.pendingLc.isSome), (21, 1, flag s.openUpdate)])
  | 0x04 => some k.events
  | 0x08 => some (pack [(0, 16, s.epoch), (16, 16, k.switch.elim 0 (·.1))])
  | 0x0C => some (BitVec.ofNat 32 (k.switch.elim 0 (·.2)))
  | 0x10 => some (uword s.storedCounter)
  | 0x14 => some (s.keys.latch.elim 0#32 (fun t => pack [(0, 9, t.sources), (16, 3, t.mode), (19, 1, flag t.aborted)]))
  | 0x18 => some (uword (s.keys.latch.elim 0 (·.optime)))
  | 0x1C => some (pack [(0, 9, k.live)])
  | 0x20 => some (pack [(0, 16, sbits 16 (ssat 16 k.temp)), (16, 16, sat 16 k.vbat)])
  | 0x24 => some (wordOf s.validSlots 0)
  | 0x28 => some (wordOf s.validSlots 1)
  | 0x2C => some (pack [(0, 8, k.lastResult), (8, 8, k.lastKind), (16, 8, k.lastArg)])
  | 0x30 => some k.updates
  | 0x34 => some k.refused
  | 0x38 => some k.jobs
  | 0x3C => some k.aborted
  | 0x40 => some k.violations
  | 0x44 => some k.tampers
  | 0x50 => some (wordOf f.serial 0)
  | 0x54 => some (wordOf f.serial 1)
  | _ =>
    if off % 4 ≠ 0 then none
    else if 0x60 ≤ off ∧ off < 0xC0 then some (octetWord s.identityOctets ((off - 0x60) / 4))
    else match window 0x100 48 8 off with
      | some (n, r) => some (octetWord (beBytes 48 ((s.sys.meas[n]?).getD 0#384).toNat) (r / 4))
      | none =>
        match window 0x400 16 64 off with
        | some (n, r) => (s.keySlot n).word r
        | none => none

/-- A long value's first offset and words: the valid slots, the serial number, the identity key, MEASn. -/
def wideKey (off : Nat) : Option (Nat × Nat) :=
  if off = 0x24 ∨ off = 0x28 then some (0x24, 2)
  else if off = 0x50 ∨ off = 0x54 then some (0x50, 2)
  else if 0x60 ≤ off ∧ off < 0xC0 then some (0x60, 24)
  else (window 0x100 48 8 off).map (fun p => (0x100 + 48 * p.1, 12))

/-- A write to a KEY register (R389): only its latched events can be written. -/
def writeKey (off v : Nat) (s : State) : Nat × State :=
  match off with
  | 0x04 => taken { s with kreg.events := w1c s.kreg.events v }
  | _ => readOnly false s

/-! ### UPD -/

/-- The version registers: the firmware version of the partition's image; 0 where it holds no valid image. -/
def State.versionWord (base : Nat) (s : State) : Word := if s.fwOutcome base = 0 then uword (fwVersion (s.fwHead base)) else 0#32

/-- The download's state as UPD_STATUS numbers it. -/
def State.dlState (s : State) : Nat :=
  if s.ureg.verifying then 3 else if s.dlComplete then 2 else if s.upd.length ≠ 0 then 1 else 0

/-- Seconds left in an open trial window. -/
def State.trialLeft (s : State) : Nat :=
  s.ureg.opened.elim 0 (fun t => ceilDiv (t + 1000000000 * s.upd.journal.window - s.ns) 1000000000)

/-- A UPD register's word; none for an unassigned offset (Table 14-10). -/
def readUpd (off : Nat) (s : State) : Option Word :=
  let j := s.upd.journal
  let h := s.fwHead fwActive
  let valid := decide (s.fwOutcome fwActive = 0)
  match off with
  | 0x00 => some (pack [(0, 3, j.state), (3, 2, s.dlState), (5, 1, flag (valid && bit (getLe h 21 1) 0)), (6, 1, flag s.ureg.recovery),
      (8, 3, j.outcome), (16, 8, j.cursor)])
  | 0x04 => some s.ureg.events
  | 0x08 => some 0#32
  | 0x0C => some (uword s.upd.length)
  | 0x10 => some (pack [(0, 13, s.dlBlocks), (16, 13, s.dlTotal)])
  | 0x14 => some (pack [(0, 12, j.window), (12, 12, sat 12 s.trialLeft), (24, 2, j.starts), (26, 1, flag s.ureg.opened.isSome)])
  | 0x18 => some (s.versionWord fwActive)
  | 0x1C => some (s.versionWord fwFallback)
  | 0x20 => some (s.versionWord fwStaging)
  | 0x24 => some (pack [(0, 16, if valid then getLe h 16 2 else 0), (16, 4, s.keys.fuse.vendorRevoked),
      (20, 2, if valid then getLe h 20 1 else 0)])
  | 0x30 => some s.ureg.cntBlocks
  | 0x34 => some s.ureg.cntErrors
  | 0x38 => some s.ureg.cntActivations
  | 0x3C => some s.ureg.cntReverts
  | _ =>
    if off % 4 ≠ 0 then none
    else if 0x1000 ≤ off ∧ off < 0x1200 then some (wordOf s.upd.blocks ((off - 0x1000) / 4))
    else none

/-- A write to a UPD register (R410): UPD_CTL needs right bit 4. -/
def writeUpd (w : Writer) (off v : Nat) (s : State) : Nat × State :=
  match off with
  | 0x04 => taken { s with ureg.events := w1c s.ureg.events v }
  | 0x08 =>
    if !bit w.rights 4 then (wrRight, s)
    else
      let s := if bit v 0 then s.updCancel else s
      taken (if bit v 1 && decide (s.upd.journal.state = 4) then s.revertTrial 4 else s)
  | _ => readOnly false s

end Sys2Proof.Machine
end

