-- ==== Sys2Proof/Machine/RegsUnit.lean ====
section
/-! DEFINITION. The register maps of MET (Table 15-7), LUM (Table 16-4), REC (Table 17-8), DIAG (Table 17-9) and HOST
(Table 18-13). -/

namespace Sys2Proof.Machine

/-! ### MET -/

/-- Accumulator `k` of Table 15-2 in a list of them. -/
def accOf (l : List Nat) (k : Nat) : Nat := (l[k]?).getD 0

/-- A word of point `p`'s snapshot (R423): accumulator k at +12k; offsets from +0x54 are unassigned. -/
def State.snapWord (p r : Nat) (s : State) : Option Word :=
  if r % 4 = 0 ∧ r < 0x54 then some (wordOf (accOf (Tab.get [] s.met.snap p) (r / 12)) (r % 12 / 4)) else none

/-- A live register of point `p` (Table 15-7). -/
def State.pointWord (p r : Nat) (s : State) : Option Word :=
  let m := s.mp p
  let c := s.pointRec p
  if r % 4 ≠ 0 then none
  else
    match r with
    | 0x00 => some (pack [(0, 1, flag c.isSome), (1, 1, c.elim 0 (·.arrangement)), (2, 1, c.elim 0 (·.feeder)), (3, 2, c.elim 0 (·.sensor)),
        (5, 1, flag m.valid), (6, 1, c.elim 0 (fun c => flag (decide ((s.met.lost[c.feeder]?).getD 0 ≠ 0)))), (7, 1, flag m.creep),
        (8, 2, m.quadrant)])
    | 0x20 => some (sword m.p)
    | 0x24 => some (sword m.q)
    | 0x28 => some (uword m.s)
    | 0x2C => some (pack [(0, 16, sbits 16 (ssat 16 m.pf))])
    | 0x30 => some (uword ((m.irms[0]?).getD 0))
    | 0x34 => some (uword ((m.irms[1]?).getD 0))
    | 0x38 => some (uword ((m.irms[2]?).getD 0))
    | 0x3C => some (uword m.maxp)
    | _ => some (wordOf (accOf m.acc ((r - 4) / 4) / 1000000000) 0)

/-- A MET register's word; none for an unassigned offset (Table 15-7). -/
def readMet (off : Nat) (s : State) : Option Word :=
  let m := s.met
  match off with
  | 0x00 => some (pack [(0, 1, flag m.settled.isSome), (1, 1, flag m.calValid), (8, 5, (s.recs (·.points)).length), (16, 1, flag m.accumulating)])
  | 0x04 => some m.events
  | 0x08 => some 0#32
  | 0x0C => some (pack [(0, 16, m.snapSeq), (16, 16, m.snapCal)])
  | 0x10 => some (timeWord m.snapTime 0)
  | 0x14 => some (timeWord m.snapTime 1)
  | 0x18 => some (timeWord m.snapTime 2)
  | 0x1C => some (pack [(0, 16, m.calSeq)])
  | 0x50 => some (wordOf m.sat 0)
  | 0x54 => some (pack [(0, 6, m.sat / 2 ^ 32)])
  | 0x58 => some (pack [(0, 8, m.bsFault)])
  | 0x60 => some m.cntChecks
  | 0x64 => some m.cntSat
  | 0x68 => some m.cntBs
  | 0x6C => some m.cntSnap
  | 0x80 => some (pack [(0, 2, m.gapState), (2, 1, flag m.gapSaved)])
  | 0x84 => some (uword m.gapStart)
  | 0x88 => some (if m.gapState = 1 then 0#32 else uword m.gapLen)
  | _ =>
    if off % 4 ≠ 0 then none
    else if 0x20 ≤ off ∧ off < 0x28 then
      let f := (off - 0x20) / 4
      some (pack [(0, 17, (m.freq[f]?).getD 0), (17, 1, flag (decide ((m.lost[f]?).getD 0 ≠ 0)))])
    else if 0x30 ≤ off ∧ off < 0x48 then some (pack [(0, 20, sat 20 ((m.vrms[(off - 0x30) / 4]?).getD 0))])
    else if 0x100 ≤ off ∧ off < 0x160 then some (if m.gapState = 1 then 0#32 else uword (Tab.get 0 m.gapBound ((off - 0x100) / 4)))
    else if 0x200 ≤ off ∧ off < 0x330 then some (uword (calWord (s.calRec ((off - 0x200) / 8)) ((off - 0x200) / 4 % 2)))
    else match window 0x1000 128 24 off with
      | some (p, r) => s.snapWord p r
      | none =>
        match window 0x2000 64 24 off with
        | some (p, r) => s.pointWord p r
        | none => none

/-- A long value's first offset and words: the snapshot's device time, the saturated channels. The snapshot itself takes no part in R13. -/
def wideMet (off : Nat) : Option (Nat × Nat) :=
  if 0x10 ≤ off ∧ off < 0x1C then some (0x10, 3) else if off = 0x50 ∨ off = 0x54 then some (0x50, 2) else none

/-- A write to a MET register (R416, R423, R432). -/
def writeMet (off v : Nat) (s : State) : Nat × State :=
  match off with
  | 0x04 => taken { s with met.events := w1c s.met.events v }
  | 0x08 => taken (if bit v 0 then s.latchSnapshot else s)
  | _ =>
    if 0x200 ≤ off ∧ off < 0x330 then
      let w := s.writeCal ((off - 0x200) / 8) ((off - 0x200) / 4 % 2) v
      (if w.1 then wrOk else wrAccess, w.2)
    else readOnly (decide (off = 0x00) || (window 0x2000 64 24 off).elim false (fun p => decide (p.2 = 0))) s

/-! ### LUM -/

/-- The state of the boost as LUM_STATUS numbers it. -/
def BoostState.code : BoostState → Nat
  | .off => 0 | .softStart => 1 | .run => 2 | .faultWait => 3 | .latched => 4

/-- One bit for each string of which `f` holds, string n at bit n. -/
def State.stringBits (f : LumString → Bool) (s : State) : Nat := ((List.range 24).filter (fun n => f (s.lstr n))).foldl setBit 0

/-- A register of string `n` (Table 16-4). -/
def State.stringWord (n r : Nat) (s : State) : Option Word :=
  let v := s.lstr n
  match r with
  | 0 => some ((s.strRec n).elim 0#32 (fun c => pack [(0, 6, c.zone), (6, 2, c.colour), (8, 7, c.current), (15, 1, flag (bit c.flags 0)),
      (16, 12, c.level), (28, 1, 1)]))
  | 4 => some (pack [(0, 16, v.on), (16, 3, spread v.on), (19, 1, flag (s.lit n)),
      (20, 2, if v.heldOv || v.heldAdj then 3 else if v.opened then 1 else if v.stale then 2 else 0), (24, 8, sat 8 (v.sink / 50))])
  | _ => none

/-- LUM_ZONEz: the zone as shown. -/
def State.zoneWord (z : Nat) (s : State) : Word :=
  let e := Tab.get 0 s.lum.active z
  let c := (s.recs (·.zones)).find? (fun r => decide (r.zone = z))
  pack [(0, 2, e % 4), (2, 1, flag c.isSome), (4, 3, e / 4 % 16), (16, 16, c.elim 0 (·.tower))]

/-- A LUM register's word; none for an unassigned offset (Table 16-4). -/
def readLum (off : Nat) (s : State) : Option Word :=
  let l := s.lum
  let duty := ((s.obj 578).output / loopOne).toNat
  match off with
  | 0x00 => some (pack [(0, 3, l.boost.code), (3, 1, flag s.clk.lighting), (4, 1, flag l.override), (5, 1, flag s.blinkOn),
      (8, 5, (s.recs (·.strings)).length), (16, 3, l.faults)])
  | 0x04 => some l.events
  | 0x08 => some 0#32
  | 0x0C => some (pack [(0, 10, ((s.obj 578).setpoint / (100 * loopOne)).toNat), (16, 10, sat 10 l.output)])
  | 0x10 => some (pack [(0, 16, sat 16 duty), (16, 16, sat 16 l.minSink)])
  | 0x14 => some (pack [(0, 10, s.unitRec.elim 0 (·.boostMax)), (12, 17, s.unitRec.elim 0 (·.shortTest))])
  | 0x18 => some (pack [(0, 24, s.stringBits (·.opened))])
  | 0x1C => some (pack [(0, 24, s.stringBits (·.stale))])
  | 0x20 => some (pack [(0, 23, l.adj)])
  | 0x24 => some (pack [(0, 24, s.stringBits (fun v => v.heldOv || v.heldAdj))])
  | 0x28 => some (uword l.testTime)
  | 0x30 => some l.opens
  | 0x34 => some l.adjFails
  | 0x38 => some l.boostFaults
  | 0x3C => some l.curlim
  | 0x40 => some (if s.pair.claim then pack [(0, 8, s.rad.tower.serial), (8, 1, flag s.rad.tower.opened), (16, 16, sat 16 l.missed)] else 0#32)
  | _ =>
    if off % 4 ≠ 0 then none
    else if 0x200 ≤ off ∧ off < 0x300 then some (s.zoneWord ((off - 0x200) / 4))
    else match window 0x100 8 24 off with
      | some (n, r) => s.stringWord n r
      | none => none

/-- A write to a LUM register (R449). -/
def writeLum (off v : Nat) (s : State) : Nat × State :=
  match off with
  | 0x04 => taken { s with lum.events := w1c s.lum.events v }
  | 0x08 => taken (s.writeLumCtl v)
  | 0x00 | 0x14 => readOnly true s
  | _ => readOnly (decide (0x200 ≤ off) || (window 0x100 8 24 off).elim false (fun p => decide (p.2 = 0))) s

/-! ### REC -/

/-- A REC register's word; none for an unassigned offset (Table 17-8). -/
def readRec (off : Nat) (s : State) : Option Word :=
  let r := s.rcd
  let refill := fun (c : Nat) => s.unitRec.elim 0 (fun u => (u.refill[c]?).getD 0)
  match off with
  | 0x00 => some (pack [(0, 13, r.unflushed), (13, 1, flag (r.flushing || r.flushDue)), (14, 1, flag r.archiving), (16, 16, sat 16 s.store.unarchived)])
  | 0x04 => some r.events
  | 0x08 => some 0#32
  | 0x0C => some (pack [(0, 16, refill 0), (16, 16, refill 1)])
  | 0x10 => some (pack [(0, 16, refill 2), (16, 16, refill 3)])
  | 0x20 => some r.cntRecords
  | 0x24 => some r.cntSuppressed
  | 0x28 => some r.cntIntakeOvf
  | 0x2C => some r.cntLost
  | 0x30 => some r.cntFlushes
  | 0x34 => some r.cntArchived
  | 0x38 => some r.cntOverwritten
  | 0x40 => some (pack [(0, 2, r.selTier), (8, 18, r.selIndex)])
  | 0x44 => some (pack [(0, 1, flag r.rdValid)])
  | _ => if off % 4 = 0 ∧ 0x60 ≤ off ∧ off < 0x80 then some (octetWord r.rd ((off - 0x60) / 4)) else none

/-- A write of REC_CTL (R457, R458). -/
def State.writeRecCtl (v : Nat) (s : State) : State :=
  let s := if bit v 0 && !s.sys.saving then { s with rcd.flushing := true } else s
  if bit v 1 then s.startArchive else s

/-- A write to a REC register (R466). -/
def writeRec (off v : Nat) (s : State) : Nat × State :=
  match off with
  | 0x04 => taken { s with rcd.events := w1c s.rcd.events v }
  | 0x08 => taken (s.writeRecCtl v)
  | 0x40 => inRange (decide (bits v 0 2 < 3 ∧ bits v 8 18 ≤ 261887)) (State.writeRdSel v) s
  | 0x0C | 0x10 => readOnly true s
  | _ => readOnly false s

/-! ### HOST -/

/-- A register of CHP session slot `k` (Table 18-13). -/
def State.sessWord (k r : Nat) (s : State) : Option Word :=
  let h := s.hs k
  match r with
  | 0 => some (if !h.inUse then 0#32
      else pack [(0, 1, 1), (1, 1, flag h.authed), (2, 1, h.source.transport),
        (3, 1, match h.source with | .ethernet m _ _ => m.val | .spi => 0), (4, 4, h.host),
        (8, 1, flag (s.diag.session && decide (s.diag.slot = k))), (16, 16, sat 16 ((s.ns - h.lastFrame) / 1000000000))])
  | 4 => some (uword h.lastSeq)
  | _ => none

/-- HOST_LINKm. -/
def State.linkWord (m : Nat) (s : State) : Word :=
  let c := s.netRec m
  let f := c.elim 0 (·.flags)
  pack [(0, 1, flag (s.host.linkUp.getLsbD m)), (1, 2, (s.host.linkSpeed[m]?).getD 0), (3, 4, f % 16), (8, 5, c.elim 0 (·.pfxLen)),
    (16, 16, c.elim 0 (·.chpPort))]

/-- HOST_ACCESSh. -/
def State.accessWord (h : Nat) (s : State) : Word :=
  (s.accessRec h).elim 0#32 (fun a => pack [(0, 1, 1), (1, 2, a.transports), (6, 10, a.rights), (16, 6, a.slot),
    (22, 1, flag (s.hostKey h).isSome), (23, 1, flag (decide (Tab.get 0 s.host.lockout h ≠ 0)))])

/-- A HOST register's word; none for an unassigned offset (Table 18-13). -/
def readHost (off : Nat) (s : State) : Option Word :=
  let h := s.host
  match off with
  | 0x00 => some (pack [(0, 4, s.hostSessions), (4, 2, h.linkUp.toNat), (6, 1, h.spiLast.elim 0 (fun t => flag (decide (s.ns < 1000000000 + t))))])
  | 0x04 => some h.events
  | 0x08 => some 0#32
  | 0x10 => some (s.linkWord 0)
  | 0x14 => some (s.linkWord 1)
  | 0x18 => some (uword ((s.netRec 0).elim 0 (·.address)))
  | 0x1C => some (uword ((s.netRec 1).elim 0 (·.address)))
  | 0x20 => some (pack [(0, 1, flag h.spiQuad), (1, 1, flag (decide (4 ≤ h.spiRx.length))), (2, 1, flag (decide (h.spiTx ≠ []))),
      (3, 3, h.spiRx.length)])
  | 0x30 => some h.rxFrames
  | 0x34 => some h.txFrames
  | 0x38 => some h.authFail
  | 0x3C => some h.replay
  | 0x40 => some h.right
  | 0x44 => some h.reassemblyDrop
  | 0x48 => some h.spiOvf
  | 0x4C => some h.backboneRx
  | 0x50 => some h.backboneTx
  | 0x54 => some h.backboneDrop
  | _ =>
    if off % 4 ≠ 0 then none
    else if 0x200 ≤ off ∧ off < 0x240 then some (s.accessWord ((off - 0x200) / 4))
    else match window 0x100 8 8 off with
      | some (k, r) => s.sessWord k r
      | none => none

/-- A write to a HOST register (R492): CLOSE_OTHERS closes every session but the writer's. -/
def writeHost (w : Writer) (off v : Nat) (s : State) : Nat × State :=
  match off with
  | 0x04 => taken { s with host.events := w1c s.host.events v }
  | 0x08 => taken (if bit v 0 then s.closeOthers (some w.slot) else s)
  | _ => readOnly (decide (0x10 ≤ off ∧ off < 0x20) || decide (0x200 ≤ off)) s

/-! ### DIAG -/

/-- A DIAG register's word; none for an unassigned offset (Table 17-9). -/
def readDiag (off : Nat) (s : State) : Option Word :=
  let d := s.diag
  match off with
  | 0x00 => some (pack [(0, 1, flag d.session), (1, 1, flag d.active.isSome), (8, 4, if d.session then d.host else 0),
      (16, 10, if d.session then sat 10 ((s.ns - d.lastWrite) / 1000000000) else 0)])
  | 0x04 => some d.events
  | 0x08 => some (pack [(0, 8, d.selDetector), (16, 10, d.selTarget)])
  | 0x0C => some d.argument
  | 0x10 => some 0#32
  | 0x14 => some (pack [(0, 8, d.resDetector), (8, 3, d.resOutcome), (11, 3, d.resReason), (16, 16, d.resLatency)])
  | 0x18 => some d.count
  | _ => none

/-- A write to a DIAG register (R467): DIAG_SEL, DIAG_ARG and DIAG_CTL only from the session that holds the diagnostic session. What an
injection into a master meets is that master's next request, which no rule fixes: a free value (log 2). -/
def writeDiag (w : Writer) (off v : Nat) (s : State) : Nat × State :=
  match off with
  | 0x04 => taken { s with diag.events := w1c s.diag.events v }
  | 0x08 => if w.diag then taken (s.writeDiagSel v) else (wrAccess, s)
  | 0x0C => if w.diag then taken (s.writeDiagArg v) else (wrAccess, s)
  | 0x10 =>
    if !w.diag then (wrAccess, s)
    else if bit v 0 then
      let a := s.takeFree
      let b := a.2.takeFree
      taken (b.2.writeDiagCtl v (bit (Config.freeWord a.1).toNat 0) (Config.freeWord b.1).toNat)
    else taken (s.writeDiagCtl v false 0)
  | _ => readOnly false s

end Sys2Proof.Machine
end

