-- ==== Sys2Proof/Machine/Status.lean ====
section
/-! DEFINITION. The status space (R12–R14, R478, R479, R490): which registers there are, long values, STATUS_READ, STATUS_WRITE, and
pair-wide writes (R115). -/

namespace Sys2Proof.Machine

/-- The register at an offset of a block, live; none for an unassigned offset (Table 18-11). -/
def readReg (block off : Nat) (s : State) : Option Word :=
  match block with
  | 0x00 => readSys off s
  | 0x01 => readLake off s
  | 0x02 => readTrk off s
  | 0x03 => readLoop off s
  | 0x04 => readMeas off s
  | 0x05 => readTime off s
  | 0x06 => readRad 0 off s
  | 0x07 => readRad 1 off s
  | 0x08 => readDsp off s
  | 0x09 => readXarb off s
  | 0x0A => readProf off s
  | 0x0B => readPair off s
  | 0x0C => readKey off s
  | 0x0D => readUpd off s
  | 0x0E => readMet off s
  | 0x0F => readLum off s
  | 0x10 => readRec off s
  | 0x11 => readHost off s
  | 0x12 => readDiag off s
  | 0x13 => readFstop off s
  | _ => none

/-- The long value that an offset belongs to: its first offset and its words (R13; UPD_BITMAP one value, DEDUCED, log 157). -/
def wideReg (block off : Nat) : Option (Nat × Nat) :=
  match block with
  | 0x00 => wideSys off
  | 0x02 => wideTrk off
  | 0x04 => wideMeas off
  | 0x05 => wideTime off
  | 0x06 | 0x07 => wideRad off
  | 0x0C => wideKey off
  | 0x0D => if 0x1000 ≤ off ∧ off < 0x1200 then some (0x1000, 128) else none
  | 0x0E => wideMet off
  | _ => none

/-- The bits of a higher word that belong to its long value. -/
def maskReg (block off : Nat) : Word := if block = 0x04 then maskMeas off else 0xFFFFFFFF#32

/-- The block and the offset of an address. -/
def blockOf (a : Nat) : Nat := a / 0x10000
def offsetOf (a : Nat) : Nat := a % 0x10000

/-- The register at an address, live; none where R12 refuses the access. -/
def liveReg (a : Nat) (s : State) : Option Word := if a % 4 = 0 then readReg (blockOf a) (offsetOf a) s else none

/-- The higher words of a long value latched (R13). -/
def State.latchWords (block base n : Nat) (s : State) : State :=
  let one := fun (t : Tab Word) (i : Nat) =>
    Tab.set 0#32 t (block * 0x10000 + base + 4 * (i + 1)) ((readReg block (base + 4 * (i + 1)) s).getD 0#32)
  { s with latch := (List.range (n - 1)).foldl one s.latch }

/-- A read of an assigned register (R13): the first word of a long value is live and latches the others, a higher one is the latched
word. -/
def State.readWord (a : Nat) (s : State) : Word × State :=
  let live := (liveReg a s).getD 0#32
  match wideReg (blockOf a) (offsetOf a) with
  | none => (live, s)
  | some (base, n) =>
    if offsetOf a = base then (live, s.latchWords (blockOf a) base n)
    else
      let m := maskReg (blockOf a) (offsetOf a)
      ((Tab.get 0#32 s.latch a &&& m) ||| (live &&& ~~~m), s)

/-- Words read one after the other. -/
def State.readWords : List Nat → State → List Word × State
  | [], s => ([], s)
  | a :: rest, s =>
    let r := s.readWord a
    let t := State.readWords rest r.2
    (r.1 :: t.1, t.2)

/-- The addresses of a STATUS_READ. -/
def readAddresses (a n : Nat) : List Nat := (List.range n).map (fun i => a + 4 * i)

/-- A register that an anonymous STATUS_READ may read (R477): SYS_ID, SYS_MODE, KEY_STATUS, the serial number, the identity key. -/
def openAddress (a : Nat) : Bool :=
  [0x00, 0x04, 0xC0000, 0xC0050, 0xC0054].contains a || (decide (0xC0060 ≤ a ∧ a < 0xC00C0) && decide (a % 4 = 0))

/-- An anonymous STATUS_READ is admitted (R477, R485). -/
def State.anonRead (as : List Nat) (s : State) : Bool := decide (1 ≤ s.sys.restricted ∧ s.sys.restricted ≤ 5) || as.all openAddress

/-- The credits that a STATUS_READ carries (R245): of queues 0–27, 0 without a QUEUE record. -/
def State.credits (s : State) : List Octet :=
  let p := s.shown
  (List.range 28).flatMap (fun q => leBytes 2 (if (p.queueGeo q).isSome then p.credit q else 0))

/-- STATUS_READ served (R478): refused with the first address that is not assigned or leaves the block. -/
def State.statusRead (f : ChpFrame) (as : List Nat) (s : State) : State :=
  let first := as.head?.getD 0
  match as.find? (fun a => (liveReg a s).isNone || decide (blockOf a ≠ blockOf first)) with
  | some a => s.finish f 0x0010 wrAddress (leBytes 4 a)
  | none =>
    let head := leBytes 2 as.length ++ [0#8, 0#8] ++ leBytes 4 s.pub.tick ++ s.credits
    let r := s.readWords as
    r.2.finish f 0x0010 0x00 (head ++ r.1.flatMap (fun w => leBytes 4 w.toNat))

/-- STATUS_READ (R478). -/
def execStatusRead (frame : ChpFrame) : State → Host.Outcome State Fault Refusal :=
  done fun s =>
    let n := getLe frame.body 4 2
    let as := readAddresses (getLe frame.body 0 4) n
    let ok := decide (frame.body.length = 8) && decide (1 ≤ n ∧ n ≤ 256) && zeros frame.body 6 2
    s.chp 0x0010 (some 0) false (ok && s.anonRead as) ok frame (fun _ s => s.statusRead frame as)

/-- A pair-wide register (R115, Table 18-11). -/
def pairWide (block off : Nat) : Bool :=
  match block with
  | 0x01 => pairLake off
  | 0x02 => pairTrk off
  | 0x04 => pairMeas off
  | 0x05 => decide (off = 0x4C)
  | 0x07 => decide (off = 0x80)
  | 0x0A => pairProf off
  | _ => false

/-- The fields of a word written to a pair-wide register lie in their ranges. -/
def pairWideOk (block off v : Nat) : Bool :=
  match block with
  | 0x01 => pairLakeOk off v
  | 0x02 => pairTrkOk off v
  | 0x04 => pairMeasOk off v
  | 0x07 => pairRadOk v
  | 0x0A => pairProfOk off v
  | _ => true

/-- A pair-wide register takes its value in this unit. -/
def applyReg (block off v : Nat) (s : State) : State :=
  match block with
  | 0x01 => applyLake off v s
  | 0x02 => applyTrk off v s
  | 0x04 => applyMeas off v s
  | 0x05 => applyTime v s
  | 0x07 => applyRad v s
  | 0x0A => applyProf off v s
  | _ => s

/-- A write to a register that is not pair-wide. -/
def writeOwn (w : Writer) (block off v : Nat) (s : State) : Nat × State :=
  match block with
  | 0x00 => writeSys off v s
  | 0x01 => writeLake off v s
  | 0x02 => writeTrk off v s
  | 0x03 => writeLoop off v s
  | 0x04 => writeMeas off v s
  | 0x05 => writeTime off v s
  | 0x06 => writeRad 0 off v s
  | 0x07 => writeRad 1 off v s
  | 0x08 => writeDsp off v s
  | 0x09 => writeXarb off v s
  | 0x0A => writeProf off v s
  | 0x0B => writePair off v s
  | 0x0C => writeKey off v s
  | 0x0D => writeUpd w off v s
  | 0x0E => writeMet off v s
  | 0x0F => writeLum off v s
  | 0x10 => writeRec off v s
  | 0x11 => writeHost w off v s
  | 0x12 => writeDiag w off v s
  | _ => writeFstop off v s

/-- A pair-wide write waits for the next whole second of device time in both units (R115). -/
def State.deferReg (a v : Nat) (s : State) : State :=
  let second := secOf s.now + 1
  let s := { s with pair.regDue := s.pair.regDue ++ [(a, v, second)] }
  if s.paired then s.viaduct 0x06 (leBytes 4 a ++ leBytes 4 v ++ leBytes 4 second) else s

/-- One pair of a STATUS_WRITE (R14, R479): its result code and the state after it. -/
def State.writeReg (w : Writer) (a v : Nat) (s : State) : Nat × State :=
  if (liveReg a s).isNone then (wrAddress, s)
  else if pairWide (blockOf a) (offsetOf a) then
    if !s.isLead then (wrNotLead, s)
    else if pairWideOk (blockOf a) (offsetOf a) v then (wrOk, s.deferReg a v)
    else (wrAccess, s)
  else writeOwn w (blockOf a) (offsetOf a) v s

/-- The pairs of address and value of a STATUS_WRITE, in order. -/
def writePairs (b : List Octet) (n : Nat) : List (Nat × Nat) := (List.range n).map (fun i => (getLe b (4 + 8 * i) 4, getLe b (8 + 8 * i) 4))

/-- Who writes: the session slot of a frame with its host's rights. -/
def State.writer (f : ChpFrame) (s : State) : Option Writer :=
  (s.slotOf f true).map (fun k => ⟨k, (s.accessRec (s.hs k).host).elim 0 (·.rights), s.diag.session && decide (s.diag.slot = k)⟩)

/-- The pairs applied in order until one is refused (R479): index and result of the refused pair, or 0xFFFF and OK. A write that ends
the session, by restarting the unit, ends the rest with it. -/
def State.writeGo (f : ChpFrame) : Nat → List (Nat × Nat) → State → (Nat × Nat) × State
  | _, [], s => ((0xFFFF, wrOk), s)
  | i, (a, v) :: rest, s =>
    match s.writer f with
    | none => ((0xFFFF, wrOk), s)
    | some w =>
      let r := s.writeReg w a v
      if r.1 = wrOk then State.writeGo f (i + 1) rest r.2 else ((i, r.1), r.2)

/-- STATUS_WRITE (R479). -/
def execStatusWrite (frame : ChpFrame) : State → Host.Outcome State Fault Refusal :=
  let n := getLe frame.body 0 2
  done (State.chp 0x0011 (some 1) false false
    (decide (1 ≤ n ∧ n ≤ 64) && decide (frame.body.length = 4 + 8 * n) && zeros frame.body 2 2) frame fun _ s =>
      let r := State.writeGo frame 0 (writePairs frame.body n) s
      r.2.finish frame 0x0011 0x00 (leBytes 2 r.1.1 ++ leBytes 1 r.1.2 ++ [0#8]))

/-- PAIR_WIDE_REG_APPLY (R115): at a whole second of device time the pair-wide writes that wait for it take effect. -/
def execPairWideRegApply : State → Host.Outcome State Fault Refusal :=
  done fun s =>
    if !s.powered || s.sys.saving || !s.time.running then s
    else
      let s := s.mark 27 perSec
      let ready := s.pair.regDue.filter (fun p => decide (p.2.2 ≤ secOf s.now))
      let s := { s with pair.regDue := s.pair.regDue.filter (fun p => decide (secOf s.now < p.2.2)) }
      s.each ready (fun p s => applyReg (blockOf p.1) (offsetOf p.1) p.2.1 s)

end Sys2Proof.Machine
end

