-- ==== Sys2Proof/Machine/Dispatch.lean ====
section
/-! DEFINITION. One arm per command: the meaning of each, or its rejection by name. -/

namespace Sys2Proof.Machine

/-- The effect of one command on everything but the queue. -/
def exec (i : Instr) (s : State) : Host.Outcome State Fault Refusal :=
  match i with
  | .powerOn pairSel => Sys2Proof.Machine.execPowerOn pairSel s
  | .resetNAsserted => Sys2Proof.Machine.execResetNAsserted s
  | .vddCorePor areas => Sys2Proof.Machine.execVddCorePor areas s
  | .railMonitorTrip => Sys2Proof.Machine.execRailMonitorTrip s
  | .start input => Sys2Proof.Machine.execStart input s
  | .startTimeout => Sys2Proof.Machine.execStartTimeout s
  | .degradedSuccessionReset => Sys2Proof.Machine.execDegradedSuccessionReset s
  | .firmwareWatchdog => Sys2Proof.Machine.execFirmwareWatchdog s
  | .viaductWaitRetry partner checks protocol => Sys2Proof.Machine.execViaductWaitRetry partner checks protocol s
  | .pairMismatchRecheck partner checks protocol => Sys2Proof.Machine.execPairMismatchRecheck partner checks protocol s
  | .powerFailDetect blocks => Sys2Proof.Machine.execPowerFailDetect blocks s
  | .saveEnd => Sys2Proof.Machine.execSaveEnd s
  | .powerRestored => Sys2Proof.Machine.execPowerRestored s
  | .optimeTick => Sys2Proof.Machine.execOptimeTick s
  | .counterCheckpoint => Sys2Proof.Machine.execCounterCheckpoint s
  | .trestleWindow cycles => Sys2Proof.Machine.execTrestleWindow cycles s
  | .bankOverstay master secure address => Sys2Proof.Machine.execBankOverstay master secure address s
  | .worldWindowViolation master secure access address => Sys2Proof.Machine.execWorldWindowViolation master secure access address s
  | .scrubAccess scrubber site finding address => Sys2Proof.Machine.execScrubAccess scrubber site finding address s
  | .tableCommit table entries commit => Sys2Proof.Machine.execTableCommit table entries commit s
  | .tableExchange table => Sys2Proof.Machine.execTableExchange table s
  | .arbitrationTick => Sys2Proof.Machine.execArbitrationTick s
  | .publishDeadline => Sys2Proof.Machine.execPublishDeadline s
  | .spectrumMonitorRun band power => Sys2Proof.Machine.execSpectrumMonitorRun band power s
  | .notchEngaged band notch offset depth => Sys2Proof.Machine.execNotchEngaged band notch offset depth s
  | .blankEval hits => Sys2Proof.Machine.execBlankEval hits s
  | .agcReferenceUpdate band need full blanking => Sys2Proof.Machine.execAgcReferenceUpdate band need full blanking s
  | .searchRequest request defaults => Sys2Proof.Machine.execSearchRequest request defaults s
  | .searchRecordDone slot parityError doppler ratio => Sys2Proof.Machine.execSearchRecordDone slot parityError doppler ratio s
  | .searchDone slot => Sys2Proof.Machine.execSearchDone slot s
  | .verifyDone slot ratio cn0 codePhase doppler => Sys2Proof.Machine.execVerifyDone slot ratio cn0 codePhase doppler s
  | .noChannel slot => Sys2Proof.Machine.execNoChannel slot s
  | .handoverAccepted slot => Sys2Proof.Machine.execHandoverAccepted slot s
  | .searchCancel tag => Sys2Proof.Machine.execSearchCancel tag s
  | .aidRequeue => Sys2Proof.Machine.execAidRequeue s
  | .lakeDomainStop => Sys2Proof.Machine.execLakeDomainStop s
  | .antOpen current voltage => Sys2Proof.Machine.execAntOpen current voltage s
  | .antOpenRestored current voltage => Sys2Proof.Machine.execAntOpenRestored current voltage s
  | .antShort current voltage => Sys2Proof.Machine.execAntShort current voltage s
  | .antShortWaitEnd current voltage => Sys2Proof.Machine.execAntShortWaitEnd current voltage s
  | .antShortCountReset => Sys2Proof.Machine.execAntShortCountReset s
  | .antSupplyFault current voltage supply => Sys2Proof.Machine.execAntSupplyFault current voltage supply s
  | .antSupplyRestored current voltage supply => Sys2Proof.Machine.execAntSupplyRestored current voltage supply s
  | .antRetry => Sys2Proof.Machine.execAntRetry s
  | .vddIo33Loss => Sys2Proof.Machine.execVddIo33Loss s
  | .specLatch value => Sys2Proof.Machine.execSpecLatch value s
  | .pairWideRegApply => Sys2Proof.Machine.execPairWideRegApply s
  | .coherentIntervalEnd c samples symbol => Sys2Proof.Machine.execCoherentIntervalEnd c samples symbol s
  | .fllTimeEnd c => Sys2Proof.Machine.execFllTimeEnd c s
  | .pullinFailed c => Sys2Proof.Machine.execPullinFailed c s
  | .chDropped c => Sys2Proof.Machine.execChDropped c s
  | .reacqRequeue => Sys2Proof.Machine.execReacqRequeue s
  | .polarityReport c inverted => Sys2Proof.Machine.execPolarityReport c inverted s
  | .trkChCfgWrite c value => Sys2Proof.Machine.execTrkChCfgWrite c value s
  | .loopPeriodBoundary object sample => Sys2Proof.Machine.execLoopPeriodBoundary object sample s
  | .fixedPhaseApply object => Sys2Proof.Machine.execFixedPhaseApply object s
  | .epochLatch sky => Sys2Proof.Machine.execEpochLatch sky s
  | .auditEvaluate session sats => Sys2Proof.Machine.execAuditEvaluate session sats s
  | .auditOverdue session => Sys2Proof.Machine.execAuditOverdue session s
  | .auditSnapshotDiscard session => Sys2Proof.Machine.execAuditSnapshotDiscard session s
  | .anchorUpdate offsets => Sys2Proof.Machine.execAnchorUpdate offsets s
  | .refFault deviation => Sys2Proof.Machine.execRefFault deviation s
  | .timeStep frame => Sys2Proof.Machine.execTimeStep frame s
  | .stepApply => Sys2Proof.Machine.execStepApply s
  | .ppsEdge output => Sys2Proof.Machine.execPpsEdge output s
  | .evtCapture input rising quarter => Sys2Proof.Machine.execEvtCapture input rising quarter s
  | .evtPop value => Sys2Proof.Machine.execEvtPop value s
  | .ptpMessageRx mac message => Sys2Proof.Machine.execPtpMessageRx mac message s
  | .ptpTx mac follow => Sys2Proof.Machine.execPtpTx mac follow s
  | .txtsStale mac => Sys2Proof.Machine.execTxtsStale mac s
  | .radioWake radio => Sys2Proof.Machine.execRadioWake radio s
  | .radioSleep radio => Sys2Proof.Machine.execRadioSleep radio s
  | .beaconEntry => Sys2Proof.Machine.execBeaconEntry s
  | .beaconStartTimeout => Sys2Proof.Machine.execBeaconStartTimeout s
  | .stopEntry => Sys2Proof.Machine.execStopEntry s
  | .corrEntry => Sys2Proof.Machine.execCorrEntry s
  | .downEntry radio => Sys2Proof.Machine.execDownEntry radio s
  | .upAssignedEntry => Sys2Proof.Machine.execUpAssignedEntry s
  | .upContentionEntry radio => Sys2Proof.Machine.execUpContentionEntry radio s
  | .ceilingAckTimeout => Sys2Proof.Machine.execCeilingAckTimeout s
  | .frameReceived radio frame => Sys2Proof.Machine.execFrameReceived radio frame s
  | .report => Sys2Proof.Machine.execReport s
  | .ask => Sys2Proof.Machine.execAsk s
  | .route => Sys2Proof.Machine.execRoute s
  | .audit => Sys2Proof.Machine.execAudit s
  | .join => Sys2Proof.Machine.execJoin s
  | .ackReceived radio seq => Sys2Proof.Machine.execAckReceived radio seq s
  | .sessionSilent session => Sys2Proof.Machine.execSessionSilent session s
  | .nodeReport => Sys2Proof.Machine.execNodeReport s
  | .nodeContactMissed node => Sys2Proof.Machine.execNodeContactMissed node s
  | .nodeDataSend => Sys2Proof.Machine.execNodeDataSend s
  | .pllUnlock radio => Sys2Proof.Machine.execPllUnlock radio s
  | .paFault radio detector power => Sys2Proof.Machine.execPaFault radio detector power s
  | .taskSubmit frame => Sys2Proof.Machine.execTaskSubmit frame s
  | .coreAsk core mask => Sys2Proof.Machine.execCoreAsk core mask s
  | .coreDescriptorArrive queue descriptor => Sys2Proof.Machine.execCoreDescriptorArrive queue descriptor s
  | .coreTaskComplete core => Sys2Proof.Machine.execCoreTaskComplete core s
  | .dspFlush value => Sys2Proof.Machine.execDspFlush value s
  | .dspStatClr => Sys2Proof.Machine.execDspStatClr s
  | .peekLatch queue index bad => Sys2Proof.Machine.execPeekLatch queue index bad s
  | .xarbClassSet session cls => Sys2Proof.Machine.execXarbClassSet session cls s
  | .xarbAlarmClr => Sys2Proof.Machine.execXarbAlarmClr s
  | .forceRelease frame => Sys2Proof.Machine.execForceRelease frame s
  | .guestRequest frame => Sys2Proof.Machine.execGuestRequest frame s
  | .guestAnswer frame => Sys2Proof.Machine.execGuestAnswer frame s
  | .guestRelease frame => Sys2Proof.Machine.execGuestRelease frame s
  | .guestReleaseResend => Sys2Proof.Machine.execGuestReleaseResend s
  | .backboneAlive received => Sys2Proof.Machine.execBackboneAlive received s
  | .guestLost cell => Sys2Proof.Machine.execGuestLost cell s
  | .stopInput input high => Sys2Proof.Machine.execStopInput input high s
  | .discrepancy => Sys2Proof.Machine.execDiscrepancy s
  | .stop frame => Sys2Proof.Machine.execStop frame s
  | .release frame => Sys2Proof.Machine.execRelease frame s
  | .robotClose frame => Sys2Proof.Machine.execRobotClose frame s
  | .claimDecision take => Sys2Proof.Machine.execClaimDecision take s
  | .claimBRecheck released take => Sys2Proof.Machine.execClaimBRecheck released take s
  | .claimConflict => Sys2Proof.Machine.execClaimConflict s
  | .forceInAsserted => Sys2Proof.Machine.execForceInAsserted s
  | .healthRefresh => Sys2Proof.Machine.execHealthRefresh s
  | .heartbeatSend => Sys2Proof.Machine.execHeartbeatSend s
  | .heartbeatKeepaliveExpiry => Sys2Proof.Machine.execHeartbeatKeepaliveExpiry s
  | .heartbeatReceived beat crcOk received => Sys2Proof.Machine.execHeartbeatReceived beat crcOk received s
  | .heartbeatMissed => Sys2Proof.Machine.execHeartbeatMissed s
  | .viaductLinkDown lanes => Sys2Proof.Machine.execViaductLinkDown lanes s
  | .viaductLinkUp training => Sys2Proof.Machine.execViaductLinkUp training s
  | .tickDelta delta => Sys2Proof.Machine.execTickDelta delta s
  | .deltaAck tick digestOk ceiling => Sys2Proof.Machine.execDeltaAck tick digestOk ceiling s
  | .epochFrame frame => Sys2Proof.Machine.execEpochFrame frame s
  | .ceiling key ceiling => Sys2Proof.Machine.execCeiling key ceiling s
  | .registerFrame address value second => Sys2Proof.Machine.execRegisterFrame address value second s
  | .configFrame partner checks => Sys2Proof.Machine.execConfigFrame partner checks s
  | .resync tick image => Sys2Proof.Machine.execResync tick image s
  | .handoverRequest => Sys2Proof.Machine.execHandoverRequest s
  | .handoverGrant tick => Sys2Proof.Machine.execHandoverGrant tick s
  | .handoverRefused reason => Sys2Proof.Machine.execHandoverRefused reason s
  | .handoverRetry => Sys2Proof.Machine.execHandoverRetry s
  | .swapInstant take => Sys2Proof.Machine.execSwapInstant take s
  | .pairCtlHandover => Sys2Proof.Machine.execPairCtlHandover s
  | .forceClr => Sys2Proof.Machine.execForceClr s
  | .claimInReleased take => Sys2Proof.Machine.execClaimInReleased take s
  | .beaconWatch heard released take => Sys2Proof.Machine.execBeaconWatch heard released take s
  | .forceOutAssert => Sys2Proof.Machine.execForceOutAssert s
  | .cryptoJob master secure key op => Sys2Proof.Machine.execCryptoJob master secure key op s
  | .keyUpdateAuthority frame => Sys2Proof.Machine.execKeyUpdateAuthority frame s
  | .keyUpdateWrite frame => Sys2Proof.Machine.execKeyUpdateWrite frame s
  | .keyUpdateErase frame => Sys2Proof.Machine.execKeyUpdateErase frame s
  | .keyUpdateEpochSwitch frame => Sys2Proof.Machine.execKeyUpdateEpochSwitch frame s
  | .keyUpdateConfigKey frame => Sys2Proof.Machine.execKeyUpdateConfigKey frame s
  | .keyUpdateConfigRevoke frame => Sys2Proof.Machine.execKeyUpdateConfigRevoke frame s
  | .keyUpdateLifecycle frame => Sys2Proof.Machine.execKeyUpdateLifecycle frame s
  | .keyUpdateFloor frame => Sys2Proof.Machine.execKeyUpdateFloor frame s
  | .epochSwitchApply => Sys2Proof.Machine.execEpochSwitchApply s
  | .previousEpochClear => Sys2Proof.Machine.execPreviousEpochClear s
  | .tamper sources => Sys2Proof.Machine.execTamper sources s
  | .vbatLow vbat => Sys2Proof.Machine.execVbatLow vbat s
  | .tempHigh temperature => Sys2Proof.Machine.execTempHigh temperature s
  | .updateBegin frame => Sys2Proof.Machine.execUpdateBegin frame s
  | .updateBlock frame failures => Sys2Proof.Machine.execUpdateBlock frame failures s
  | .updateQuery frame => Sys2Proof.Machine.execUpdateQuery frame s
  | .updateVerify frame => Sys2Proof.Machine.execUpdateVerify frame s
  | .verifyComplete => Sys2Proof.Machine.execVerifyComplete s
  | .verifyRestart => Sys2Proof.Machine.execVerifyRestart s
  | .trialConfirm => Sys2Proof.Machine.execTrialConfirm s
  | .trialExpired => Sys2Proof.Machine.execTrialExpired s
  | .updCancel => Sys2Proof.Machine.execUpdCancel s
  | .updRevert => Sys2Proof.Machine.execUpdRevert s
  | .meterBlock blocks => Sys2Proof.Machine.execMeterBlock blocks s
  | .meterSecond => Sys2Proof.Machine.execMeterSecond s
  | .meterCheckpoint failure => Sys2Proof.Machine.execMeterCheckpoint failure s
  | .bitstreamFault pair => Sys2Proof.Machine.execBitstreamFault pair s
  | .bitstreamRecovered pair => Sys2Proof.Machine.execBitstreamRecovered pair s
  | .snapshotLatch => Sys2Proof.Machine.execSnapshotLatch s
  | .calWrite channel half value => Sys2Proof.Machine.execCalWrite channel half value s
  | .lumBasePeriod string sink current => Sys2Proof.Machine.execLumBasePeriod string sink current s
  | .diagPulse string => Sys2Proof.Machine.execDiagPulse string s
  | .boostHeadroomPeriod sinks output => Sys2Proof.Machine.execBoostHeadroomPeriod sinks output s
  | .bstCsTrip => Sys2Proof.Machine.execBstCsTrip s
  | .boostFault excess output => Sys2Proof.Machine.execBoostFault excess output s
  | .boostFaultWaitEnd => Sys2Proof.Machine.execBoostFaultWaitEnd s
  | .boostRun output => Sys2Proof.Machine.execBoostRun output s
  | .boostRetry => Sys2Proof.Machine.execBoostRetry s
  | .stringRetry => Sys2Proof.Machine.execStringRetry s
  | .adjTestDue => Sys2Proof.Machine.execAdjTestDue s
  | .lumTest => Sys2Proof.Machine.execLumTest s
  | .adjTest phaseA phaseB => Sys2Proof.Machine.execAdjTest phaseA phaseB s
  | .eventIntake code data => Sys2Proof.Machine.execEventIntake code data s
  | .recordStore => Sys2Proof.Machine.execRecordStore s
  | .tokenRefill code => Sys2Proof.Machine.execTokenRefill code s
  | .flush => Sys2Proof.Machine.execFlush s
  | .recFlushCmd => Sys2Proof.Machine.execRecFlushCmd s
  | .archive pageFaults pages => Sys2Proof.Machine.execArchive pageFaults pages s
  | .recArchiveCmd => Sys2Proof.Machine.execRecArchiveCmd s
  | .archiveHourly => Sys2Proof.Machine.execArchiveHourly s
  | .recReadLatch value => Sys2Proof.Machine.execRecReadLatch value s
  | .diagOpen frame => Sys2Proof.Machine.execDiagOpen frame s
  | .diagClose frame => Sys2Proof.Machine.execDiagClose frame s
  | .diagIdleTimeout => Sys2Proof.Machine.execDiagIdleTimeout s
  | .diagInject writer secure address => Sys2Proof.Machine.execDiagInject writer secure address s
  | .diagCancel writer => Sys2Proof.Machine.execDiagCancel writer s
  | .injectResult => Sys2Proof.Machine.execInjectResult s
  | .open_ frame => Sys2Proof.Machine.execOpen frame s
  | .auth frame => Sys2Proof.Machine.execAuth frame s
  | .close frame => Sys2Proof.Machine.execClose frame s
  | .authPendingTimeout slot => Sys2Proof.Machine.execAuthPendingTimeout slot s
  | .sessionIdleTimeout slot => Sys2Proof.Machine.execSessionIdleTimeout slot s
  | .lockoutEnd host => Sys2Proof.Machine.execLockoutEnd host s
  | .closeOthers writer => Sys2Proof.Machine.execCloseOthers writer s
  | .statusRead frame => Sys2Proof.Machine.execStatusRead frame s
  | .statusWrite frame => Sys2Proof.Machine.execStatusWrite frame s
  | .restart frame => Sys2Proof.Machine.execRestart frame s
  | .nodeSend frame => Sys2Proof.Machine.execNodeSend frame s
  | .nodeLast frame => Sys2Proof.Machine.execNodeLast frame s
  | .configWrite frame => Sys2Proof.Machine.execConfigWrite frame s
  | .configCommit frame => Sys2Proof.Machine.execConfigCommit frame s
  | .reassemblyTimeout => Sys2Proof.Machine.execReassemblyTimeout s
  | .spiWriteFrame quad length octets => Sys2Proof.Machine.execSpiWriteFrame quad length octets s
  | .spiReadReply clocked => Sys2Proof.Machine.execSpiReadReply clocked s
  | .spiReadStatus => Sys2Proof.Machine.execSpiReadStatus s
  | .backboneRejected kind frame => Sys2Proof.Machine.execBackboneRejected kind frame s
  | .linkChanged mac up speed => Sys2Proof.Machine.execLinkChanged mac up speed s
  | .resetNReleased pairSel => Sys2Proof.Machine.execResetNReleased pairSel s
  | .manufacturingMessage retire => Sys2Proof.Machine.execManufacturingMessage retire s
  | .boostFaultCountReset => Sys2Proof.Machine.execBoostFaultCountReset s
  | .ptpAnnounceReceiptTimeout mac => Sys2Proof.Machine.execPtpAnnounceReceiptTimeout mac s
  | .injectionDurationEnd => Sys2Proof.Machine.execInjectionDurationEnd s
  | .vbatApplied => Sys2Proof.Machine.execVbatApplied s

end Sys2Proof.Machine
end

