-- ==== Sys2Proof/Safety.lean ====
section
/-! DEFINITION. What counts as safe, in the terms that statements use. -/

namespace Sys2Proof.Machine

/-- The flash is in its canonical form: addresses strictly rising, and no entry that reads as an unprogrammed octet does. -/
def State.flashOk (s : State) : Prop := s.flash.wf = true

end Sys2Proof.Machine
end

