-- ==== Sys2Proof/Certificates/Slice0/Obligations.lean ====
section
/-! DEFINITION. The statements for the provers. Every command's statement concludes that exec answers a next state and says what that state
holds and what it leaves as it was. A docstring that names logs rests, in that part, on what the model chose there and no rule states. -/

open Sys2Proof Sys2Proof.Machine

/-- With a command at the front of the queue, a step runs exactly it on the state with the queue's rest. The block idles on an empty
queue: 1 ns passes on the free-running counter where it counts, and nothing else changes. The model's choice (log 1), no rule of
the spec. -/
def Obligations.StepRunsFront : Prop :=
  (∀ (s : State) (c : Instr) (rest : List Instr), step { s with pending := c :: rest } = exec c { s with pending := rest }) ∧
  (∀ s : State, s.pending = [] → s.sys.mode ≠ .dormant → s.clk.system = true → step s = .next { s with time.frc := s.time.frc + 1 }) ∧
  (∀ s : State, s.pending = [] → s.sys.mode = .dormant ∨ s.clk.system = false → step s = .next s)

/-- Every command answers a next state, and its effect leaves the queue of waiting commands as it found it. Model's choices: logs 4,
7. -/
def Obligations.EveryCommandAnswers : Prop := ∀ (c : Instr) (s : State), ∃ t, exec c s = .next t ∧ t.pending = s.pending

/-- What reset leaves: START with no step done, no claim, no session, no command waiting, no image in use, the boot flash in its
canonical form with nothing programmed, and the metering table in its. The mode is log 9's, the flash's contents log 3's. Model's
choices: logs 3, 9. -/
def Obligations.ResetState : Prop :=
  State.reset.sys.mode = .start ∧ State.reset.sys.startStep = 0 ∧ State.reset.pair.claim = false ∧ State.reset.hostSessions = 0 ∧
  State.reset.pending = [] ∧ State.reset.out = [] ∧ State.reset.cfg.image = none ∧ State.reset.flash.wf = true ∧
  (∀ a, State.reset.flash.read a = 0xFF#8) ∧ Tab.wf {} State.reset.met.points = true

/-- What an entry to START leaves as it was: flash, MRAM, fuses and key store, the metering store, the kept position, the update store and the
queue. -/
def keptByStart (s t : State) : Prop :=
  t.flash = s.flash ∧ t.store = s.store ∧ t.keys = s.keys ∧ t.mets = s.mets ∧ t.kept = s.kept ∧ t.upd = s.upd ∧ t.saved = s.saved ∧
  t.ao.optime = s.ao.optime ∧ t.pending = s.pending

/-- An entry to START for a cause other than power applied: the claim is released, the restart count rises and saturates, the power-cycle
count stands, and the first event of the new START is MODE_CHANGE with the old code, the code of START and the trigger. -/
def restarted (cause trigger : Nat) (s t : State) : Prop :=
  t.sys.mode = .start ∧ t.sys.cause = cause ∧ t.sys.startStep = 0 ∧ t.pair.claim = false ∧
  t.ao.restarts = min (s.ao.restarts + 1) 0xFFFF ∧ t.ao.pwrcyc = s.ao.pwrcyc ∧ keptByStart s t ∧
  (t.rcd.fifo.head?.map (fun (e : Entry) => (e.code, e.data.take 3)) =
    some (0x0001#16, [BitVec.ofNat 8 s.sys.mode.code, 1#8, BitVec.ofNat 8 trigger]))

/-- POWER_ON in DORMANT enters START with cause 0x01: PAIR_SEL is sampled, the FRC starts from 0, the power-cycle count rises and
saturates, the restart count stands. The restarts of Table 2-5 that a pin, a supply or a watchdog brings: RESET_N or a rail
monitor outside a save (0x02), the firmware watchdog (0x06), supplies back after a save that ended (0x08): each is counted,
recorded, and releases the claim. The START watchdog expires 5 s after the start of START, or later by the time of the copies:
START begins again with cause 0x05, counted as a restart, and START_TIMEOUT with the step in progress is stored. RESET_N or a rail
monitor during a save waits for its end, and changes nothing else before; the end of RESET_N samples PAIR_SEL and starts START's
clock. VDD_CORE below its power-on-reset level: DORMANT, without a record; the claim is not driven, and what lives without
VDD_CORE stays. A save that it cuts short has completed its first areas only: with six of them the records that waited are in the
MRAM ring, with fewer they are lost. Rules: R36, R38, R44, R54, R51, R499, R39, R49, R35, R47, R52. Model's choices: logs 10, 11,
15, 17, 18, 71. -/
def Obligations.EntriesToStart : Prop :=
  (∀ (s : State) (p : Bool), s.sys.mode = .dormant →
    ∃ t, exec (.powerOn p) s = .next t ∧ t.sys.mode = .start ∧ t.sys.cause = 1 ∧ t.sys.pairSel = p ∧ t.time.frc = 0#64 ∧
      t.pair.claim = false ∧ t.sys.succession = 0 ∧ t.ao.pwrcyc = min (s.ao.pwrcyc + 1) 0xFFFFFF ∧ t.ao.restarts = s.ao.restarts ∧
      keptByStart s t) ∧
  (∀ s : State, s.sys.mode ≠ .dormant → (s.sys.saving = false ∨ s.sys.saveEnded = true) →
    ∃ t, exec .resetNAsserted s = .next t ∧ restarted 2 12 s t ∧ t.sys.resetHeld = true ∧ t.sys.succession = 0) ∧
  (∀ s : State, s.sys.mode ≠ .dormant → (s.sys.saving = false ∨ s.sys.saveEnded = true) →
    ∃ t, exec .railMonitorTrip s = .next t ∧ restarted 2 12 s t ∧ t.sys.resetHeld = true ∧ t.sys.succession = 0) ∧
  (∀ s : State, s.sys.mode ≠ .dormant → s.sys.saving = false → s.sys.resetHeld = false → s.clk.cores ≠ 0#8 →
    ∃ t, exec .firmwareWatchdog s = .next t ∧ restarted 6 12 s t) ∧
  (∀ s : State, s.sys.mode ≠ .dormant → s.sys.saving = true → s.sys.saveEnded = true → s.sys.resetHeld = false →
    s.sys.degradedInSave = false →
    ∃ t, exec .powerRestored s = .next t ∧ restarted 8 12 s t ∧ t.sys.saving = false) ∧
  (∀ s : State, s.sys.mode = .start → s.sys.watchdog = true → s.sys.startStep < 12 → s.sys.resetHeld = false → s.sys.saving = false →
    ∃ t, exec .startTimeout s = .next t ∧ t.sys.mode = .start ∧ t.sys.cause = 5 ∧ t.sys.startStep = 0 ∧ t.pair.claim = false ∧
      t.ao.restarts = min (s.ao.restarts + 1) 0xFFFF ∧ t.ao.pwrcyc = s.ao.pwrcyc ∧ t.diag.stallStep = none ∧ keptByStart s t) ∧
  (∀ s : State, s.sys.mode ≠ .dormant → s.sys.saving = true → s.sys.saveEnded = false →
    exec .resetNAsserted s = .next { s with out := [], sys.resetHeld := true, sys.resetDue := true } ∧
    exec .railMonitorTrip s = .next { s with out := [], sys.resetHeld := true, sys.resetDue := true }) ∧
  (∀ (s : State) (p : Bool), s.sys.resetHeld = true → s.sys.mode = .start → s.sys.startStep = 0 → s.sys.saving = false →
    exec (.resetNReleased p) s = .next { s with out := [], sys.resetHeld := false, sys.pairSel := p, sys.startT0 := s.ns }) ∧
  (∀ (s : State) (areas : Fin 8), s.sys.mode ≠ .dormant → (s.sys.saving = false ∨ s.sys.saveEnded = true ∨ areas.val < 6) →
    ∃ t, exec (.vddCorePor areas) s = .next t ∧ t.sys.mode = .dormant ∧ t.pair.claim = false ∧ t.rcd = {} ∧ t.clk = {} ∧
      t.ao = { s.ao with vbatLow := false } ∧ t.flash = s.flash ∧ t.store = s.store ∧ t.keys = s.keys ∧ t.mets = s.mets ∧
      t.kept = s.kept ∧ t.upd = s.upd ∧ t.pending = s.pending ∧
      t.saved = (if s.sys.saving = true ∧ s.sys.saveEnded = false then { s.saved with valid := 2 ^ areas.val - 1 } else s.saved)) ∧
  (∀ (s : State) (areas : Fin 8), s.sys.mode ≠ .dormant → s.sys.saving = true → s.sys.saveEnded = false → 6 ≤ areas.val →
    s.rcd.fifo = [] → s.rcd.lostRun = 0 → s.store.unarchived + s.rcd.unflushed ≤ 32768 →
    ∃ t, exec (.vddCorePor areas) s = .next t ∧ t.sys.mode = .dormant ∧ t.pair.claim = false ∧ t.rcd = {} ∧ t.clk = {} ∧
      t.store.ring = (s.rcd.buffer.take s.rcd.unflushed ++ s.store.ring).take 32768 ∧
      t.store.flushed = s.store.flushed + s.rcd.unflushed ∧ t.ao = { s.ao with vbatLow := false } ∧ t.flash = s.flash ∧
      t.keys = s.keys ∧ t.mets = s.mets ∧ t.kept = s.kept ∧ t.upd = s.upd ∧ t.pending = s.pending ∧
      t.saved = { s.saved with valid := 2 ^ areas.val - 1, appended := s.rcd.unflushed })

/-- A power-fail detection after the MRAM restore begins the save: SAVING is set, the save sequence number rises, searches, channels,
the tick in progress and the radios stop, the claim is released. SAVE_END: every record still waiting joins the MRAM ring, all
seven areas hold, the counters are copied, the recorder is closed; the mode stays as it was. Rules: R45, R46, R47, R55. Model's
choices: logs 15, 17. -/
def Obligations.SaveRuns : Prop :=
  (∀ (s : State) (blocks : List BlockIn), s.sys.mode ≠ .dormant → s.sys.saving = false → s.sys.resetHeld = false →
    (s.sys.mode = .start → s.sys.restored = true) →
    ∃ t, exec (.powerFailDetect blocks) s = .next t ∧ t.sys.saving = true ∧ t.sys.saveSeq = (s.sys.saveSeq + 1) % 65536 ∧
      t.sys.mode = s.sys.mode ∧ t.pair.claim = false ∧ (∀ n, n < 96 → (t.slot n).state = .idle) ∧ t.lake.fifo = [] ∧
      t.lake.requeue = [] ∧ t.trk.channels = [] ∧ t.loop.jobs = [] ∧ t.meas.job = none ∧ t.tick = none ∧
      t.rad.a.awake = false ∧ t.rad.b.awake = false ∧ t.time.running = false ∧ t.saved.valid = 0 ∧
      t.saved.seq = t.sys.saveSeq ∧ t.saved.mode = s.sys.mode.code ∧ t.saved.time = s.now ∧
      t.flash = s.flash ∧ t.store = s.store ∧ t.keys = s.keys ∧ t.kept = s.kept ∧ t.pending = s.pending) ∧
  (∀ s : State, s.sys.saving = true → s.sys.saveEnded = false → s.sys.resetDue = false → s.rcd.fifo = [] → s.rcd.lostRun = 0 →
    s.store.unarchived + s.rcd.unflushed ≤ 32768 →
    ∃ t, exec .saveEnd s = .next t ∧ t.sys = { s.sys with saveEnded := true } ∧ t.saved.valid = 127 ∧
      t.saved.copy = (s.ao.optime, s.ao.pwrcyc, s.ao.restarts) ∧
      t.saved.counters = (s.ao.optime, s.ao.pwrcyc, s.ao.restarts, s.ao.intake) ∧ t.rcd.closed = true ∧ t.rcd.unflushed = 0 ∧
      t.store.ring = (s.rcd.buffer.take s.rcd.unflushed ++ s.store.ring).take 32768 ∧
      t.store.flushed = s.store.flushed + s.rcd.unflushed ∧ t.ao = s.ao ∧ t.keys = s.keys ∧ t.flash = s.flash ∧ t.pair = s.pair ∧
      t.fleet = s.fleet ∧ t.pending = s.pending)

/-- The always-on counters: a second with VDD_CORE in range adds 1 to the operating time, which saturates; a checkpoint copies the
three counters and the last accepted frame counters; VBAT applied in DORMANT finds the key store empty and latches the loss; 60 s
in service without degradation return the succession to 0. Rules: R39, R54, R55, R508. Model's choices: logs 5, 19. -/
def Obligations.AlwaysOnCounters : Prop :=
  (∀ s : State, s.sys.mode ≠ .dormant →
    exec .optimeTick s = .next { s with out := [], ao.optime := min (s.ao.optime + 1) 0xFFFFFFFF }) ∧
  (∀ s : State, s.sys.mode ≠ .dormant → s.sys.saving = false → s.sys.restored = true → s.time.running = true →
    ∃ t, exec .counterCheckpoint s = .next t ∧ t.saved = { s.saved with copy := (s.ao.optime, s.ao.pwrcyc, s.ao.restarts) } ∧
      t.rad = { s.rad with lastCounter := s.fleet.counters } ∧ { t with saved := s.saved, rad := s.rad, time := s.time } = { s with out := [] }) ∧
  (∀ s : State, s.sys.mode = .dormant →
    exec .vbatApplied s = .next { s with out := [], keys.slots := [], ao := { vbatLost := true, intakeValid := false, crystalArmed := true } }) ∧
  (∀ (s : State) (n : Nat), s.sys.serviceSince = some n → s.inService = true → s.sys.degraded = false → s.sys.saving = false →
    ∃ t, exec .degradedSuccessionReset s = .next t ∧ t.sys = { s.sys with succession := 0 } ∧
      { t with sys := s.sys, time := s.time } = { s with out := [] })

/-- START runs its steps in order and none after one that hangs: MEAS0 to MEAS7 are set to zero first, then the system domain runs,
and the step that hangs is the one in progress. With no step hung, no journal step pending and every self-test passed, START ends:
with its last step, device time running, MRAM restored, the world windows locked and all eight cores started, or before it in
restricted host service. In FIELD, firmware that verifies in ACTIVE and a configuration that validates in the selected slot take
it to its last step with that configuration. A unit whose ACTIVE and FALLBACK partitions hold no image that verifies stays in the
boot ROM: START ends in START, restricted, with MEAS0 extended by the boot ROM's digest and the life-cycle state. Rules: R38, R40,
R41, R404. Model's choices: logs 8, 19, 73, 151. -/
def Obligations.StartRuns : Prop :=
  (∀ (s : State) (i : StartIn), s.sys.mode = .start → s.sys.startStep = 0 → s.sys.resetHeld = false → s.sys.saving = false →
    i.stall = some 0 → exec (.start i) s = .next { s with out := [] }) ∧
  (∀ (s : State) (i : StartIn), s.sys.mode = .start → s.sys.startStep = 0 → s.sys.resetHeld = false → s.sys.saving = false →
    s.diag.stallStep = none → i.stall = some 1 →
    exec (.start i) s = .next { s with out := [], sys.meas := List.replicate 8 0#384, sys.startStep := 1 }) ∧
  (∀ (s : State) (i : StartIn), s.sys.mode = .start → s.sys.startStep = 0 → s.sys.resetHeld = false → s.sys.saving = false →
    s.diag.stallStep = none → i.stall = some 2 →
    exec (.start i) s = .next { s with out := [], sys.meas := List.replicate 8 0#384, sys.startStep := 2, clk.system := true }) ∧
  (∀ (s : State) (i : StartIn), s.sys.mode = .start → s.sys.startStep = 0 → s.sys.resetHeld = false → s.sys.saving = false →
    s.diag.stallStep = none → i.stall = none → i.failures = 0 → i.copyCut = none → (s.flash.journalLast.getD {}).state = 0 →
    s.ureg.bootFallback = false → s.sys.restricted = 0 →
    ∃ t, exec (.start i) s = .next t ∧ (t.sys.startStep = 12 ∨ t.sys.startStep = 13) ∧ t.clk.system = true ∧ t.pending = s.pending ∧
      (t.sys.startStep = 13 → t.sys.mode = .start ∧ t.sys.restricted ≠ 0 ∧ t.pair.claim = s.pair.claim) ∧
      (t.sys.startStep = 12 → t.time.running = true ∧ t.sys.restored = true ∧ t.tres.locked = true ∧ t.clk.cores = 0xFF#8 ∧
        t.sys.watchdog = false ∧ t.saved.valid = 0) ∧
      (s.life = .field → s.keys.pendingLc = none → s.fwOutcome fwActive = 0 → i.selectorBad = false → s.cfg.pending = none →
        ∀ m, s.validateSlot s.cfg.selected = .ok m → t.sys.startStep = 12 ∧ t.cfg.image = some m ∧ t.cfg.active = s.cfg.selected)) ∧
  (∀ (s : State) (i : StartIn), s.sys.mode = .start → s.sys.startStep = 0 → s.sys.resetHeld = false → s.sys.saving = false →
    s.diag.stallStep = none → i.stall = none → s.life = .field → s.keys.pendingLc = none → (s.flash.journalLast.getD {}).state = 0 →
    s.ureg.bootFallback = false → s.fwOutcome fwActive ≠ 0 → s.fwOutcome fwFallback ≠ 0 →
    ∃ t, exec (.start i) s = .next t ∧ t.sys.mode = .start ∧ t.sys.restricted = 2 ∧ t.ureg.recovery = true ∧ t.sys.startStep = 13 ∧
      t.sys.meas[0]? = some (Config.sha384 (beBytes 48 (Config.sha384 (beBytes 48 0 ++ beBytes 48 (Config.sha384 Config.romDigest).toNat)).toNat ++
        beBytes 48 (Config.sha384 [2#8]).toNat)) ∧ t.sys.meas[6]? = some 0#384 ∧ t.sys.meas[7]? = some 0#384 ∧
      t.keys = s.keys ∧ t.flash = s.flash ∧ t.pair = s.pair ∧ t.pending = s.pending)

/-- R49 whole. RESET_N asserted during a save only waits; it takes effect when the save has ended, as an entry to START with cause
0x02 and every area of the save held; a host's RESTART during a save is not received: nothing answers it and nothing changes. -/
def Obligations.SaveOutranksReset : Prop :=
  (∀ s : State, s.sys.mode ≠ .dormant → s.sys.saving = true → s.sys.saveEnded = false →
    exec .resetNAsserted s = .next { s with out := [], sys.resetHeld := true, sys.resetDue := true }) ∧
  (∀ s : State, s.sys.saving = true → s.sys.saveEnded = false → s.sys.resetDue = true →
    ∃ t, exec .saveEnd s = .next t ∧ t.sys.mode = .start ∧ t.sys.cause = 2 ∧ t.saved.valid = 127 ∧ t.pair.claim = false ∧
      t.pending = s.pending) ∧
  (∀ (s : State) (f : ChpFrame), s.sys.saving = true → exec (.restart f) s = .next { s with out := [] })

/-- R53 whole. Before START's MRAM restore a power-fail detection changes nothing but the supply's state, so the saved areas stay as
they are; from the restore on it begins a save, whose end holds all seven areas under the next save sequence number. -/
def Obligations.DetectionDuringStart : Prop :=
  (∀ (s : State) (b : List BlockIn), s.sys.mode = .start → s.sys.restored = false →
    exec (.powerFailDetect b) s = .next { s with out := [], sys.vsenseOk := false }) ∧
  (∀ (s : State) (b : List BlockIn), s.sys.mode = .start → s.sys.restored = true → s.sys.saving = false → s.sys.resetHeld = false →
    s.sys.saveEnded = false →
    ∃ t u, exec (.powerFailDetect b) s = .next t ∧ t.sys.saving = true ∧ t.sys.mode = .start ∧ exec .saveEnd t = .next u ∧
      u.saved.valid = 127 ∧ u.saved.time = s.now ∧ u.saved.seq = (s.sys.saveSeq + 1) % 65536)

/-- The transitions of Table 2-2, and staying. -/
def transitionOk : Mode → Mode → Bool
  | .dormant, m => decide (m = .dormant ∨ m = .start)
  | .start, m => decide (m ≠ .lead)
  | .survey, m => decide (m ≠ .lead)
  | .hold, _ => true
  | .lead, _ => true
  | .shadow, _ => true

/-- The unit changes mode only by the transitions of Table 2-2, through every step from every state: DORMANT is left only for START,
and LEAD is never entered from START or from SURVEY. Rules: R35, R36. -/
def Obligations.ModesFollowTheTable : Prop :=
  ∀ s t : State, step s = .next t → transitionOk s.sys.mode t.sys.mode = true

/-- A Trestle window begins at the next whole microsecond of the FRC with every quota reloaded. In a bank cycle of it the bank serves,
of the masters that ask and are not frozen, the first in round-robin order from its pointer: that master's quota goes down by one
access and the pointer moves to the master after it. Nothing else changes. A master that holds a bank is served there before any
that asks; while it keeps the bank its writes wait, and they reach the array when it lets go. A cycle that serves no master takes
a scrubber's access, which spends no quota. Rules: R18, R19, R24. Model's choices: log 5. -/
def Obligations.TrestleServesRoundRobin : Prop :=
  (∀ s : State, s.sys.mode ≠ .dormant →
    exec (.trestleWindow []) s = .next { s with
      out := [], time.frc := BitVec.ofNat 64 ((s.time.frc.toNat / 1000 + 1) * 1000)
      tres.quota := [160, 160, 160, 160, 160, 160, 160, 160, 64, 256, 32, 96, 128] }) ∧
  (∀ (s : State) (c : BankCycle) (h : BankHold) (ws : List (Nat × Octet)), s.sys.mode ≠ .dormant →
    s.tres.holder c.bank.val = some h → c.keep = some ws →
    ∃ t, exec (.trestleWindow [c]) s = .next t ∧ t.tres.holder c.bank.val = some { h with writes := h.writes ++ ws } ∧
      t.tres.pointer = updAt s.tres.pointer c.bank.val (fun _ => (h.master + 1) % 13) ∧ t.tres.sram = s.tres.sram ∧
      t.tres.frozen = s.tres.frozen ∧ { t with tres := s.tres, time := s.time } = { s with out := [] }) ∧
  (∀ (s : State) (c : BankCycle) (h : BankHold) (a : Nat) (v : Octet), s.sys.mode ≠ .dormant → s.tres.holder c.bank.val = some h →
    h.writes = [(a, v)] → v ≠ 0#8 → c.keep = none →
    ∃ t, exec (.trestleWindow [c]) s = .next t ∧ Tab.get 0#8 t.tres.sram a = v ∧
      (∀ x, x ≠ a → Tab.get 0#8 t.tres.sram x = Tab.get 0#8 s.tres.sram x) ∧
      t.tres.pointer = updAt s.tres.pointer c.bank.val (fun _ => (h.master + 1) % 13) ∧
      { t with tres := s.tres, time := s.time } = { s with out := [] }) ∧
  (∀ (s : State) (c : BankCycle), s.sys.mode ≠ .dormant → s.tres.holder c.bank.val = none → c.asking = 0#13 → c.scrub = true →
    ∃ t, exec (.trestleWindow [c]) s = .next t ∧ (Tab.get {} t.tres.scrubs 0).next = (Tab.get {} s.tres.scrubs 0).next + 1 ∧
      t.tres.quota = [160, 160, 160, 160, 160, 160, 160, 160, 64, 256, 32, 96, 128] ∧ t.tres.pointer = s.tres.pointer ∧
      { t with tres := s.tres, time := s.time } = { s with out := [] }) ∧
  (∀ (s : State) (c : BankCycle) (p d : Nat), s.sys.mode ≠ .dormant → s.tres.pointer[c.bank.val]? = some p → p < 13 → d < 13 →
    s.tres.holder c.bank.val = none → c.keep = none →
    c.asking.getLsbD ((p + d) % 13) = true → s.tres.frozen.getLsbD ((p + d) % 13) = false →
    (∀ e, e < d → c.asking.getLsbD ((p + e) % 13) = false ∨ s.tres.frozen.getLsbD ((p + e) % 13) = true) →
    ∃ t, exec (.trestleWindow [c]) s = .next t ∧ t.tres.frozen = s.tres.frozen ∧
      t.tres.pointer = s.tres.pointer.set c.bank.val (((p + d) % 13 + 1) % 13) ∧
      (∀ m, m < 13 → t.tres.quota[m]? = ([160, 160, 160, 160, 160, 160, 160, 160, 64, 256, 32, 96, 128][m]?).map
        (fun q => if m = (p + d) % 13 then q - 1 else q)) ∧
      { t with tres := s.tres, time := s.time } = { s with out := [] })

/-- A core that overstays at a bank, or whose access falls outside every window of its world, is frozen: SYS_FROZEN gains its bit, its
clock stops, every bank that it held is released with its waiting writes lost, SYS_EVENTS shows it, the unit stays in its mode
while fewer than three cores and no DMA master are frozen. A read that is not performed returns 0. A master already frozen stays
so and nothing changes; an access that a window permits freezes nothing. A DMA master that freezes makes the unit degraded. A lone
unit in LEAD then sets stop cause DEGRADED and enters HOLD with its claim held and the master shown frozen. Rules: R19, R20, R21,
R22, R23. Model's choices: logs 13, 14, 150, 158. -/
def Obligations.MastersFreeze : Prop :=
  (∀ (s : State) (m : Fin 13) (w : Bool) (a : Nat), s.sys.mode ≠ .dormant → m.val < 8 → s.tres.frozen.getLsbD m.val = false →
    bits (s.tres.frozen ||| BitVec.ofNat 13 (2 ^ m.val)).toNat 9 4 = 0 → ones (s.tres.frozen ||| BitVec.ofNat 13 (2 ^ m.val)).toNat 0 8 < 3 →
    ∃ t, exec (.bankOverstay m w a) s = .next t ∧ t.tres = { s.tres with
        frozen := s.tres.frozen ||| BitVec.ofNat 13 (2 ^ m.val)
        holds := s.tres.holds.filter (fun p => p.2.elim true (fun h => decide (h.master ≠ m.val))) } ∧
      t.sys = { s.sys with events := s.sys.events ||| 2#32 } ∧ t.clk = { s.clk with cores := s.clk.cores &&& ~~~(BitVec.ofNat 8 (2 ^ m.val)) } ∧
      t.pair.claim = s.pair.claim ∧ t.flash = s.flash ∧ t.keys = s.keys ∧ t.rad = s.rad ∧ t.pending = s.pending) ∧
  (∀ (s : State) (m : Fin 13) (w : Bool) (r : Fin 3) (a : Nat), s.sys.mode ≠ .dormant → m.val < 8 → s.tres.frozen.getLsbD m.val = false →
    (∀ v ∈ s.tres.windows, v.master = m.val → v.secure = w → bit v.perms r.val = true → a < v.base ∨ v.base + v.size ≤ a) →
    bits (s.tres.frozen ||| BitVec.ofNat 13 (2 ^ m.val)).toNat 9 4 = 0 → ones (s.tres.frozen ||| BitVec.ofNat 13 (2 ^ m.val)).toNat 0 8 < 3 →
    ∃ t, exec (.worldWindowViolation m w r a) s = .next t ∧ t.tres = { s.tres with
        frozen := s.tres.frozen ||| BitVec.ofNat 13 (2 ^ m.val)
        holds := s.tres.holds.filter (fun p => p.2.elim true (fun h => decide (h.master ≠ m.val))) } ∧
      (r.val ≠ 1 → t.out.head? = some (.readEnd m.val 0)) ∧
      t.sys = { s.sys with events := s.sys.events ||| 2#32 } ∧ t.clk = { s.clk with cores := s.clk.cores &&& ~~~(BitVec.ofNat 8 (2 ^ m.val)) } ∧
      t.pair.claim = s.pair.claim ∧ t.flash = s.flash ∧ t.keys = s.keys ∧ t.rad = s.rad ∧ t.pending = s.pending) ∧
  (∀ (s : State) (m : Fin 13) (w : Bool) (r : Fin 3) (a : Nat), s.tres.frozen.getLsbD m.val = true →
    (∃ t, exec (.bankOverstay m w a) s = .next t ∧ { t with time := s.time } = { s with out := [] }) ∧
    exec (.worldWindowViolation m w r a) s = .next { s with out := [] }) ∧
  (∀ (s : State) (m : Fin 13) (w : Bool) (r : Fin 3) (a : Nat) (v : WorldWindow), m.val < 8 → v ∈ s.tres.windows → v.master = m.val →
    v.secure = w → bit v.perms r.val = true → v.base ≤ a → a < v.base + v.size →
    exec (.worldWindowViolation m w r a) s = .next { s with out := [] }) ∧
  (∀ (s : State) (m : Fin 13) (w : Bool) (a : Nat), s.sys.mode = .lead → s.paired = false → s.sys.degraded = false → s.sys.saving = false →
    8 < m.val → s.tres.frozen.getLsbD m.val = false → bit s.cellSet causeDegraded = false →
    ∃ t, exec (.bankOverstay m w a) s = .next t ∧ t.sys.mode = .hold ∧ t.sys.degraded = true ∧ t.tres.frozen.getLsbD m.val = true ∧
      bit t.cellSet causeDegraded = true ∧ t.pair.claim = s.pair.claim ∧ t.fleet.go = 0#256 ∧ t.flash = s.flash ∧ t.keys = s.keys ∧
      t.pending = s.pending)

/-- A read that finds a clean word changes nothing, and a scrubber's step moves its walk of the memory on by that word; a correctable
error is counted for its memory and changes nothing else; an uncorrectable one in an L1 data cache, or in SRAM read by a DMA
master, which gets a transfer error, is recorded with its memory and address and breaks clean health. An L1 instruction line is
fetched again. A session, span or profiler word that cannot be corrected degrades the unit: a lone unit in LEAD enters HOLD with
stop cause DEGRADED. Rules: R24, R25, R352, R23. Model's choices: logs 13, 14, 131, 158. -/
def Obligations.EccFindings : Prop :=
  (∀ (s : State) (site : EccSite) (a : Nat), s.diag.eccArmed = none → exec (.scrubAccess false site .clean a) s = .next { s with out := [] }) ∧
  (∀ (s : State) (c : Fin 8) (f : EccFinding) (a : Nat), s.diag.eccArmed = none →
    exec (.scrubAccess false (.l1i c) f a) s = .next { s with out := [] }) ∧
  (∀ (s : State) (site : EccSite) (a words period : Nat), s.sys.mode ≠ .dormant → s.diag.eccArmed = none →
    scrubPass site.memory = some (words, period) →
    ∃ t, exec (.scrubAccess true site .clean a) s = .next t ∧
      (Tab.get {} t.tres.scrubs site.memory).next = a / 8 % words + 1 ∧
      (Tab.get {} t.tres.scrubs site.memory).passes = (if (Tab.get {} s.tres.scrubs site.memory).next ≤ a / 8 % words then
        (Tab.get {} s.tres.scrubs site.memory).passes else (Tab.get {} s.tres.scrubs site.memory).passes + 1) ∧
      { t with tres := s.tres, time := s.time } = { s with out := [] }) ∧
  (∀ (s : State) (m : Option (Fin 13)) (a : Nat), s.sys.mode ≠ .dormant → s.diag.eccArmed = none → s.diag.active = none →
    exec (.scrubAccess false (.sram m) .correctable a) s = .next { s with out := [], sys.ecc := Tab.upd 0 s.sys.ecc 0 (· + 1) }) ∧
  (∀ (s : State) (q : Fin 32) (k a : Nat), s.sys.mode ≠ .dormant → s.diag.eccArmed = none → s.diag.active = none →
    ∃ t, exec (.scrubAccess false (.queue q k) .correctable a) s = .next t ∧ t.sys = { s.sys with ecc := Tab.upd 0 s.sys.ecc 1 (· + 1) } ∧
      (Tab.get {} t.freg.waits q.val).corrected = sat 16 ((Tab.get {} s.freg.waits q.val).corrected + 1) ∧
      { t with sys := s.sys, freg := s.freg } = { s with out := [] }) ∧
  (∀ (s : State) (site : EccSite) (a : Nat), (site = .sram none ∨ (∃ c, site = .l1d c) ∨ (∃ m : Fin 13, 8 ≤ m.val ∧ site = .sram (some m))) →
    s.sys.mode ≠ .dormant → s.diag.eccArmed = none →
    ∃ t, exec (.scrubAccess false site .uncorrectable a) s = .next t ∧ t.sys = { s.sys with events := s.sys.events ||| 8#32 } ∧
      (∀ m : Fin 13, 8 ≤ m.val → site = .sram (some m) → t.out = [.transferError m.val a]) ∧
      t.pair = { s.pair with eccSeen := true, holdFrom := s.ns, brokenAt := s.ns, asked := none } ∧ t.fleet = s.fleet ∧ t.tres = s.tres ∧
      t.flash = s.flash ∧ t.keys = s.keys ∧ t.store = s.store ∧ t.rad = s.rad ∧ t.pending = s.pending) ∧
  (∀ (s : State) (site : EccSite) (a : Nat), ((∃ n, site = .session n) ∨ (∃ n, site = .span n) ∨ (∃ n, site = .profiler n)) →
    s.sys.mode = .lead → s.paired = false → s.sys.degraded = false → s.sys.saving = false → s.diag.eccArmed = none →
    bit s.cellSet causeDegraded = false →
    ∃ t, exec (.scrubAccess false site .uncorrectable a) s = .next t ∧ t.sys.mode = .hold ∧ t.sys.degraded = true ∧
      bit t.cellSet causeDegraded = true ∧ t.pair.claim = s.pair.claim ∧ t.fleet.go = 0#256 ∧ t.flash = s.flash ∧ t.pending = s.pending)

/-- Entries are written to the shadow copy of a table, and its commit flag, once set, closes that copy until the exchange: a write is
then answered with an error and changes nothing. At the table's boundary the two copies change places where the flag was set at
least 50 µs before, the flag clears and the exchange is counted; with the flag not set, or set later, nothing is exchanged. Rules:
R28. Model's choices: log 5. -/
def Obligations.TablesExchangeAtBoundary : Prop :=
  (∀ (s : State) (n : Fin 5) (e : List (Nat × List Octet)) (c : Bool), s.sys.mode ≠ .dormant → (s.table n.val).committed ≠ none →
    exec (.tableCommit n e c) s = .next { s with out := [.tableError n.val] }) ∧
  (∀ (s : State) (n : Fin 5) (e : List (Nat × List Octet)) (c : Bool), s.sys.mode ≠ .dormant → s.tables.length = 5 →
    (s.table n.val).committed = none →
    ∃ t, exec (.tableCommit n e c) s = .next t ∧ (t.table n.val).committed = (if c then some s.now else none) ∧ t.rad.a.deck = s.rad.a.deck ∧
      t.rad.b.deck = s.rad.b.deck ∧ (∀ i o, n.val = 0 → e = [(i, o)] → i < 640 → o.length = 8 → Tab.get [] t.rad.a.shadow i = o) ∧
      (∀ i o, n.val = 1 → e = [(i, o)] → i < 640 → o.length = 8 → Tab.get [] t.rad.b.shadow i = o) ∧
      (∀ i o, 2 ≤ n.val → e = [(i, o)] → i < 640 → o.length = 8 → Tab.get [] (t.table n.val).shadow i = o) ∧
      (t.table n.val).active = (s.table n.val).active ∧ (∀ k, k ≠ n.val → t.table k = s.table k) ∧
      { t with tables := s.tables, rad := s.rad } = { s with out := [] }) ∧
  (∀ (s b : State) (n : Fin 5) (c : Nat), n.val = 2 ∨ n.val = 3 → s.sys.mode ≠ .dormant → s.time.running = true → s.tables.length = 5 →
    b = State.mark (20 + n.val) perSec { s with out := [] } → (s.table n.val).committed = some c → c + 50 * perUs ≤ b.now →
    ∃ t, exec (.tableExchange n) s = .next t ∧ (t.table n.val).active = (s.table n.val).shadow ∧
      (t.table n.val).shadow = (s.table n.val).active ∧ (t.table n.val).committed = none ∧
      (t.table n.val).exchanges = ((s.table n.val).exchanges + 1) % 65536 ∧ (∀ k, k ≠ n.val → t.table k = s.table k) ∧ t.time = b.time ∧
      { t with tables := s.tables, time := s.time } = { s with out := [] }) ∧
  (∀ (s b : State) (c : Nat), s.sys.mode ≠ .dormant → s.time.running = true → s.tables.length = 5 →
    b = State.mark 20 perSec { s with out := [] } → (s.table 0).committed = some c → c + 50 * perUs ≤ b.now →
    ∃ t, exec (.tableExchange 0) s = .next t ∧ t.rad.a.deck = s.rad.a.shadow ∧ t.rad.a.shadow = s.rad.a.deck ∧
      t.rad.a.decks = (s.rad.a.decks + 1) % 65536 ∧ (t.table 0).committed = none ∧ t.rad.b = s.rad.b ∧ t.time = b.time ∧
      { t with tables := s.tables, rad := s.rad, time := s.time } = { s with out := [] }) ∧
  (∀ (s b : State) (n : Fin 5), s.sys.mode ≠ .dormant → s.time.running = true →
    b = State.mark (20 + n.val) (if n.val = 4 then 10 * perMs else perSec) { s with out := [] } →
    (∀ c, (s.table n.val).committed = some c → b.now < c + 50 * perUs) → exec (.tableExchange n) s = .next b)

/-- A tick opens at the next whole 10 ms of device time. A standby, and a unit in a save, runs no stage. A lead takes every input that
waits as the tick's snapshot and leaves none, commits the state under its mode, and keeps it from every status read until
publication; claim, flash and keys are as they were. A tick that no acknowledgement has released by t0 + 8 ms is published at the
deadline, and a standby that still owes one is counted late and no longer mirrored: what status reads and frames see from then is
the committed state. With no tick decided the deadline changes nothing. Rules: R30, R31, R32. Model's choices: logs 5, 86, 111. -/
def Obligations.TickStages : Prop :=
  (∀ (s b : State), s.sys.mode = .shadow → s.time.running = true → s.tick = none →
    b = State.mark 1 (10 * perMs) { s with out := [] } → exec .arbitrationTick s = .next b.epochPast) ∧
  (∀ s : State, s.isLead = true → s.time.running = true → s.sys.saving = false → s.tick = none → s.pair.unapplied = false →
    ∃ t, exec .arbitrationTick s = .next t ∧ t.inp = {} ∧ t.fleet.mode = t.sys.mode ∧ t.pub = s.pub ∧ t.pair.claim = s.pair.claim ∧
      t.tick.map (·.committed) = some false ∧
      t.flash = s.flash ∧ t.keys = s.keys ∧ t.pending = s.pending) ∧
  (∀ (s : State) (o : TickOut), s.tick = some o → s.pair.deltaDue = true → s.pair.mirrored = true →
    ∃ t, exec .publishDeadline s = .next t ∧ t.tick = none ∧ t.pub.tick = o.tick % 2 ^ 32 ∧ t.pub.dsp = s.fleet.dsp ∧
      t.pub.xarb = s.fleet.xarb ∧ t.pub.prof = s.fleet.prof ∧ t.pair.mirrored = false ∧ t.pair.deltaDue = false ∧
      t.pair.cntDeltaLate = s.pair.cntDeltaLate + 1#32 ∧ t.sys.mode = s.sys.mode ∧ t.flash = s.flash ∧ t.keys = s.keys ∧ t.pending = s.pending) ∧
  (∀ s : State, s.tick = none → exec .publishDeadline s = .next { s with out := [] })

/-- The antenna bias leaves ON, OPEN, SHORT_WAIT, LATCHED_OFF and SUPPLY_FAULT by the transitions of Table 4-3: the state and its
instant, the sense readings, the consecutive-short count and the latched event are those of the row, the record carries its data,
and nothing else changes; SHORT_WAIT lasts a second. In PASSIVE and OFF nothing is sensed. 60 s in ON reset the consecutive-short
count; RETRY returns LATCHED_OFF to ON with the count at 0; the loss of VDD_IO33 makes the switch PASSIVE from every state. RETRY
in any other state changes nothing. Rules: R87, R88, R89. Model's choices: logs 5, 6, 173. -/
def Obligations.AntennaBias : Prop :=
  (∀ (s : State) (c : BitVec 8) (v : BitVec 12), s.lake.ant = .on → c.toNat < 2 →
    exec (.antOpen c v) s = .next (State.report 0x0102 [(1, c.toNat)] { s with
      out := [], lake.ant := .openCircuit, lake.antSince := s.ns, lake.antCurrent := c.toNat, lake.antVoltage := v.toNat
      lake.events := s.lake.events ||| 2#32 })) ∧
  (∀ (s : State) (c : BitVec 8) (v : BitVec 12), s.lake.ant = .passive ∨ s.lake.ant = .off →
    exec (.antOpen c v) s = .next { s with out := [] } ∧ exec (.antShort c v) s = .next { s with out := [] }) ∧
  (∀ (s : State) (c : BitVec 8) (v : BitVec 12), s.lake.ant = .openCircuit → 4 ≤ c.toNat →
    exec (.antOpenRestored c v) s = .next (State.report 0x0105 [(1, 3), (1, c.toNat)] { s with
      out := [], lake.ant := .on, lake.antSince := s.ns, lake.antCurrent := c.toNat, lake.antVoltage := v.toNat })) ∧
  (∀ (s : State) (c : BitVec 8) (v : BitVec 12), s.lake.ant = .on ∨ s.lake.ant = .openCircuit → s.lake.shorts < 7 →
    s.biasShorted c.toNat v.toNat = true →
    exec (.antShort c v) s = .next (State.report 0x0101 [(1, c.toNat), (2, v.toNat), (1, (s.lake.shorts + 1 : Nat))] { s with
      out := [], lake.ant := .shortWait, lake.antSince := s.ns, lake.shorts := s.lake.shorts + 1, lake.antCurrent := c.toNat
      lake.antVoltage := v.toNat, lake.events := s.lake.events ||| 1#32 })) ∧
  (∀ (s b : State) (c : BitVec 8) (v : BitVec 12), s.lake.ant = .shortWait → s.lake.shorts ≤ 4 →
    b = State.atLeast (s.lake.antSince + 1000000000) { s with out := [] } →
    exec (.antShortWaitEnd c v) s = .next (State.report 0x0105 [(1, 4), (1, c.toNat)] { b with
      lake.ant := .on, lake.antSince := b.ns, lake.antCurrent := c.toNat, lake.antVoltage := v.toNat })) ∧
  (∀ (s b : State) (c : BitVec 8) (v : BitVec 12), s.lake.ant = .shortWait → s.lake.shorts = 5 →
    b = State.atLeast (s.lake.antSince + 1000000000) { s with out := [] } →
    exec (.antShortWaitEnd c v) s = .next (State.report 0x0103 [(1, c.toNat), (2, v.toNat)] { b with
      lake.ant := .latchedOff, lake.antSince := b.ns, lake.antCurrent := c.toNat, lake.antVoltage := v.toNat
      lake.events := s.lake.events ||| 4#32 })) ∧
  (∀ (s : State) (c : BitVec 8) (v : BitVec 12) (n : Nat), s.lake.ant = .on ∨ s.lake.ant = .openCircuit → s.biasSupplyOk n = false →
    exec (.antSupplyFault c v n) s = .next (State.report 0x0104 [(4, n)] { s with
      out := [], lake.ant := .supplyFault, lake.antSince := s.ns, lake.antCurrent := c.toNat, lake.antVoltage := v.toNat
      lake.events := s.lake.events ||| 8#32 })) ∧
  (∀ (s : State) (c : BitVec 8) (v : BitVec 12) (n : Nat), s.lake.ant = .supplyFault → s.biasSupplyOk n = true →
    exec (.antSupplyRestored c v n) s = .next (State.report 0x0105 [(1, 6), (1, c.toNat)] { s with
      out := [], lake.ant := .on, lake.antSince := s.ns, lake.antCurrent := c.toNat, lake.antVoltage := v.toNat })) ∧
  (∀ s : State, s.lake.ant = .on →
    exec .antShortCountReset s = .next { State.atLeast (s.lake.antSince + 60000000000) { s with out := [] } with lake.shorts := 0 }) ∧
  (∀ s : State, s.lake.ant = .latchedOff →
    exec .antRetry s = .next (State.report 0x0105 [(1, 5), (1, s.lake.antCurrent)] { s with
      out := [], lake.ant := .on, lake.antSince := s.ns, lake.shorts := 0 })) ∧
  (∀ s : State, s.lake.ant ≠ .latchedOff → exec .antRetry s = .next { s with out := [] }) ∧
  (∀ s : State, exec .vddIo33Loss s = .next { s with out := [], lake.ant := .passive, lake.antSince := s.ns })

/-- A search request is the 32 octets of Table 4-6, with the parameters of its kind where firmware asks for those. One that no check
of Table 4-7 refuses is placed in the FIFO: with the Lake domain running and every slot idle the lowest-numbered one takes it at
once; with the domain stopped it waits while the domain starts. One that a check refuses is counted and leaves FIFO and slots
unchanged. A record with a parity error is counted and does not advance NC_DONE; a good one advances it, its ratio is the slot's,
and ratio and Doppler stand in the slot view where they are the best so far. Every other slot is as it was. A request that waits
for the Lake domain is taken once the domain runs. After n_nc records and the search's time the ratio over all of them, at or
above the detection threshold, takes the slot to VERIFY; below it the search ends NOT_FOUND and is counted. A verification below
its threshold ends VERIFY_FAILED; 200 ms without a channel end NO_CHANNEL; a cancelled search ends CANCELLED. Rules: R102, R103,
R104, R111, R105, R107, R100, R109. Model's choices: logs 5, 6, 22, 25, 160, 161, 171, 175. -/
def Obligations.SearchesRun : Prop :=
  (∀ (s : State) (o : List Octet) (d : Bool) (q : SearchReq) (r : Nat), q = (if d then (searchReqOf o).withDefaults else searchReqOf o) →
    s.clk.gnss = true → s.searchRefusal q = some r → r ≠ 1 →
    exec (.searchRequest o d) s = .next { s with out := [], lcnt.refused := s.lcnt.refused + 1#32 }) ∧
  (∀ (s : State) (o : List Octet) (d : Bool) (q : SearchReq), q = (if d then (searchReqOf o).withDefaults else searchReqOf o) →
    s.clk.gnss = true → 32 ≤ s.lake.fifo.length →
    exec (.searchRequest o d) s = .next (State.report 0x010C [(1, q.sig.signal), (1, q.sig.sv), (1, q.kind)] { s with
      out := [], lcnt.refused := s.lcnt.refused + 1#32, lake.events := s.lake.events ||| 16#32 })) ∧
  (∀ (s : State) (o : List Octet) (d : Bool) (q : SearchReq), q = (if d then (searchReqOf o).withDefaults else searchReqOf o) →
    s.clk.gnss = true → s.clk.lake = true → s.domReady domLake = true → s.searchRefusal q = none → s.lake.slots = [] → s.lake.fifo = [] →
    ∃ t, exec (.searchRequest o d) s = .next t ∧ (t.slot 0).state = .search ∧ (t.slot 0).req = q ∧ (t.slot 0).since = s.ns ∧
      (∀ n, 0 < n → t.slot n = {}) ∧ t.lake.fifo = [] ∧ { t with lake := s.lake } = { s with out := [] }) ∧
  (∀ (s : State) (o : List Octet) (d : Bool) (q : SearchReq), q = (if d then (searchReqOf o).withDefaults else searchReqOf o) →
    s.clk.gnss = true → s.clk.lake = false → s.searchRefusal q = none →
    ∃ t, exec (.searchRequest o d) s = .next t ∧ t.lake = { s.lake with fifo := s.lake.fifo ++ [q] } ∧ t.clk.lake = true ∧
      Tab.get 0 t.clk.readyAt domLake = s.ns + 30000 ∧ { t with lake := s.lake, clk := s.clk } = { s with out := [] }) ∧
  (∀ (s : State) (n : Fin 96) (a : Nat) (d : Int) (r : Nat), (s.slot n.val).state = .search ∨ (s.slot n.val).state = .verify →
    s.diag.eccArmed = none → s.lake.fifo = [] →
    exec (.searchRecordDone n (some a) d r) s = .next (State.report 0x010B [(1, n.val), (4, a)] { s with
      out := [], lcnt.parity := s.lcnt.parity + 1#32, lake.events := s.lake.events ||| 32#32 })) ∧
  (∀ (s : State) (n : Fin 96) (d : Int) (r : Nat), (s.slot n.val).state = .search → s.diag.eccArmed = none → s.lake.fifo = [] →
    (s.slot n.val).ncDone < (s.slot n.val).req.nnc → (s.slot n.val).peak ≤ r → r < 65536 →
    ∃ t, exec (.searchRecordDone n none d r) s = .next t ∧
      t.slot n.val = { s.slot n.val with ncDone := (s.slot n.val).ncDone + 1, doppler := d, peak := r, ratio := r } ∧
      (∀ m, m ≠ n.val → t.slot m = s.slot m) ∧ { t with lake.slots := s.lake.slots } = { s with out := [] }) ∧
  (∀ (s : State) (n : Fin 96) (q : SearchReq) (p : Option Nat) (d : Int) (r : Nat), 0 < n.val → s.diag.eccArmed = none →
    s.clk.lake = true → Tab.get 0 s.clk.readyAt domLake < 2 ^ 64 → s.lake.slots = [] → s.lake.fifo = [q] →
    ∃ t, exec (.searchRecordDone n p d r) s = .next t ∧ (t.slot 0).state = .search ∧ (t.slot 0).req = q ∧ t.lake.fifo = [] ∧
      { t with lake := s.lake, time := s.time } = { s with out := [] }) ∧
  (∀ (s : State) (n : Fin 96), (s.slot n.val).state = .search → (s.slot n.val).req.nnc ≤ (s.slot n.val).ncDone →
    10 * s.lake.detect ≤ (s.slot n.val).ratio → (s.slot n.val).since + (s.slot n.val).req.searchNs < 2 ^ 64 →
    ∃ t, exec (.searchDone n) s = .next t ∧ t.slot n.val = { s.slot n.val with state := .verify, ncDone := 0, since := t.ns } ∧
      (s.slot n.val).since + (s.slot n.val).req.searchNs ≤ t.ns ∧
      (∀ m, m ≠ n.val → t.slot m = s.slot m) ∧ { t with lake.slots := s.lake.slots, time := s.time } = { s with out := [] }) ∧
  (∀ (s : State) (n : Fin 96), (s.slot n.val).state = .search → (s.slot n.val).req.nnc ≤ (s.slot n.val).ncDone →
    (s.slot n.val).ratio < 10 * s.lake.detect → s.lake.fifo = [] →
    ∃ t, exec (.searchDone n) s = .next t ∧ (t.slot n.val).state = .idle ∧ (t.slot n.val).outcome = 2 ∧
      t.lcnt = { s.lcnt with done := s.lcnt.done + 1#32, notFound := s.lcnt.notFound + 1#32 } ∧
      (∀ m, m ≠ n.val → t.slot m = s.slot m) ∧
      { t with lake.slots := s.lake.slots, lake.idleSince := s.lake.idleSince, lcnt := s.lcnt, time := s.time } = { s with out := [] }) ∧
  (∀ (s : State) (n : Fin 96) (r c p : Nat) (d : Int), (s.slot n.val).state = .verify → (s.slot n.val).req.nnc ≤ (s.slot n.val).ncDone →
    r < 10 * s.lake.verify → s.lake.fifo = [] →
    ∃ t, exec (.verifyDone n r c p d) s = .next t ∧ (t.slot n.val).state = .idle ∧ (t.slot n.val).outcome = 3 ∧
      t.lcnt = { s.lcnt with done := s.lcnt.done + 1#32, verifyFailed := s.lcnt.verifyFailed + 1#32 } ∧
      (∀ m, m ≠ n.val → t.slot m = s.slot m) ∧
      { t with lake.slots := s.lake.slots, lake.idleSince := s.lake.idleSince, lcnt := s.lcnt, time := s.time } = { s with out := [] }) ∧
  (∀ (s : State) (n : Fin 96), (s.slot n.val).state = .waitChannel → s.lake.fifo = [] →
    ∃ t, exec (.noChannel n) s = .next t ∧ (t.slot n.val).state = .idle ∧ (t.slot n.val).outcome = 5 ∧
      t.lcnt = { s.lcnt with done := s.lcnt.done + 1#32, noChannel := s.lcnt.noChannel + 1#32 } ∧
      (∀ m, m ≠ n.val → t.slot m = s.slot m) ∧
      { t with lake.slots := s.lake.slots, lake.idleSince := s.lake.idleSince, lcnt := s.lcnt, time := s.time } = { s with out := [] }) ∧
  (∀ (s : State) (g : BitVec 16) (n : Fin 96), (s.slot n.val).req.tag = g.toNat →
    (s.slot n.val).state = .search ∨ (s.slot n.val).state = .verify ∨ (s.slot n.val).state = .waitChannel →
    (∀ q ∈ s.lake.fifo, q.tag = g.toNat) →
    ∃ t, exec (.searchCancel g) s = .next t ∧ (t.slot n.val).state = .idle ∧ (t.slot n.val).outcome = 6 ∧ t.lake.fifo = [] ∧
      (∀ m, (s.slot m).req.tag ≠ g.toNat → t.slot m = s.slot m) ∧
      { t with lake.slots := s.lake.slots, lake.fifo := s.lake.fifo, lake.idleSince := s.lake.idleSince, lcnt := s.lcnt } =
        { s with out := [] })

/-- A verified candidate that no tracked signal explains is handed to the target channel where that is free: the slot enters HANDOVER
with the measured values at this instant of the FRC; with no channel free it waits. The channel that accepts a handover is loaded
with the signal, C/N0 and Doppler handed over and the code phase carried on to this instant, and enters PULL_IN with frequency
assist and HALF set; the search ends CONFIRMED; no other channel changes. Rules: R105, R106, R107, R108, R124, R127. Model's
choices: logs 5, 22. -/
def Obligations.HandoverToChannel : Prop :=
  (∀ (s : State) (n : Fin 96) (r c p : Nat) (d : Int), (s.slot n.val).state = .verify → (s.slot n.val).req.nnc ≤ (s.slot n.val).ncDone →
    10 * s.lake.verify ≤ r → s.lake.xcorrCheck = false → s.trk.channels = [] → (s.slot n.val).req.target ≤ 287 →
    (∀ v ∈ s.lake.slots, v.2.state ≠ .handover) →
    ∃ t, exec (.verifyDone n r c p d) s = .next t ∧
      t.slot n.val = { s.slot n.val with state := .handover, channel := some (s.slot n.val).req.target, cn0 := c, codePhase := p,
                                         doppler := d, instant := t.ns, since := t.ns } ∧
      (∀ m, m ≠ n.val → t.slot m = s.slot m) ∧ { t with lake.slots := s.lake.slots, time := s.time } = { s with out := [] }) ∧
  (∀ (s : State) (n : Fin 96) (r c p : Nat) (d : Int), (s.slot n.val).state = .verify → (s.slot n.val).req.nnc ≤ (s.slot n.val).ncDone →
    10 * s.lake.verify ≤ r → s.lake.xcorrCheck = false → (∀ k, k < 288 → (s.chan k).state ≠ .free) →
    ∃ t, exec (.verifyDone n r c p d) s = .next t ∧ (t.slot n.val).state = .waitChannel ∧ (t.slot n.val).since = t.ns ∧
      (∀ m, m ≠ n.val → t.slot m = s.slot m) ∧ { t with lake.slots := s.lake.slots, time := s.time } = { s with out := [] }) ∧
  (∀ (s : State) (n : Fin 96) (c : Nat), (s.slot n.val).state = .handover → (s.slot n.val).channel = some c → (s.chan c).state = .free →
    s.lake.fifo = [] →
    ∃ t, exec (.handoverAccepted n) s = .next t ∧ (t.chan c).state = .pullIn ∧ (t.chan c).sig = (s.slot n.val).req.sig ∧
      (t.chan c).half = true ∧ (t.chan c).fll = true ∧ (t.chan c).cn0 = (s.slot n.val).cn0 ∧ (t.chan c).doppler = (s.slot n.val).doppler ∧
      (t.chan c).codePhase = 2 ^ 22 * advancePhase (s.slot n.val).req.sig (s.slot n.val).codePhase (s.slot n.val).doppler
        (s.ns - (s.slot n.val).instant) ∧ (t.chan c).kind = (s.slot n.val).req.kind ∧
      (t.chan c).instant = s.ns ∧ (t.chan c).entered = s.ns ∧ (t.chan c).lockTime = 0 ∧
      (∀ k, k ≠ c → t.chan k = s.chan k) ∧ (t.slot n.val).state = .idle ∧ (t.slot n.val).outcome = 1 ∧
      (∀ m, m ≠ n.val → t.slot m = s.slot m) ∧
      t.lcnt = { s.lcnt with done := s.lcnt.done + 1#32, confirmed := s.lcnt.confirmed + 1#32 } ∧
      { t with lake := s.lake, trk := s.trk, loop := s.loop, lcnt := s.lcnt } = { s with out := [] })

/-- The band paths: a monitor run wakes the Lake domain, stores the band's 4,096 bins relative to their median and counts the run; an
acquiring notch is engaged at its line and marks the band changed, an engaged one follows its line by at most 100 kHz a
millisecond; the samples blanked in a millisecond and its pulses enter the history; the AGC takes the gain it needs, from 0 to 60
dB, holds it while the blanker is blanking, and its reference is the mean gain of the first 600 seconds without a flag. Each
touches its own band alone. LATCH copies the selected band's last run with its number and bin width; the Lake domain stops with no
slot busy, no request waiting and no run pending, and runs on otherwise; with nothing kept for requeueing a whole second queues
nothing, and a kept aided request whose source has lost lock is dropped. Rules: R91, R93, R95, R96, R97, R98, R110, R111. Model's
choices: logs 6, 20, 21, 162, 168, 169, 170, 172. -/
def Obligations.BandPaths : Prop :=
  (∀ (s : State) (b : Fin 3) (p : List Int), s.clk.gnss = true → s.lake.bands.length = 3 → p.length = 4096 →
    ∃ t, exec (.spectrumMonitorRun b p) s = .next t ∧ (t.band b.val).spectrum = p.map (fun x => ssat 16 (x - medianOf p)) ∧
      (t.band b.val).runs = (s.band b.val).runs + 1 ∧ (t.band b.val).runPending = false ∧
      (∀ k, k < 3 → k ≠ b.val → t.band k = { s.band k with runPending := decide (b.val < k) }) ∧ t.lake.slots = s.lake.slots ∧
      t.clk = { s.clk with lake := true } ∧
      { t with lake := s.lake, rcd := s.rcd, time := s.time, clk := s.clk } = { s with out := [] }) ∧
  (∀ (s : State) (b : Fin 3) (n : Fin 4) (o : Int) (d : BitVec 6) (v : Notch), s.clk.gnss = true → s.lake.bands.length = 3 →
    (s.band b.val).notches[n.val]? = some v → v.state = 1 → (∀ w ∈ (s.band b.val).notches, w.state ≠ 2) →
    ∃ t, exec (.notchEngaged b n o d) s = .next t ∧
      t.band b.val = { s.band b.val with
        changed := true
        notches := (s.band b.val).notches.set n.val { v with
          state := 2, offset := ssat 16 o, depth := d.toNat, epochAt := ssat 16 o, instant := s.ns } } ∧
      t.lake.events = s.lake.events ||| BitVec.ofNat 32 (2 ^ (6 + b.val)) ∧ (∀ k, k ≠ b.val → t.band k = s.band k) ∧
      { t with lake := s.lake, rcd := s.rcd } = { s with out := [] }) ∧
  (∀ (s : State) (b : Fin 3) (n : Fin 4) (o r a : Int) (d : BitVec 6) (v : Notch), s.clk.gnss = true → s.lake.bands.length = 3 →
    (s.band b.val).notches[n.val]? = some v → v.state = 2 → (∀ k w, (s.band b.val).notches[k]? = some w → k ≠ n.val → w.state ≠ 2) →
    r = 100 * max 1 ((s.ns - v.instant) / 1000000 : Nat) → a = max (v.offset - r) (min o (v.offset + r)) →
    ∃ t, exec (.notchEngaged b n o d) s = .next t ∧
      t.band b.val = { s.band b.val with
        changed := (s.band b.val).changed || decide (notchKhz s.lake.notchWidth < (a - v.epochAt).natAbs)
        notches := (s.band b.val).notches.set n.val { v with offset := ssat 16 a, depth := d.toNat, instant := s.ns } } ∧
      (∀ k, k ≠ b.val → t.band k = s.band k) ∧ { t with lake := s.lake } = { s with out := [] }) ∧
  (∀ (s : State) (l : List (Nat × Nat)) (r : Nat × Nat × Nat) (n : Nat), s.clk.gnss = true →
    r = blankGo s.lake.blankPost ((l.filter (fun h => s.lake.blankEn && decide (h.1 < 64000 ∧ s.lake.blankThreshold ≤ h.2))).map (·.1))
      (s.lake.blankCarry, s.lake.blankCarry, 0) → n = r.2.1 - (r.1 - 64000) →
    ∃ t, exec (.blankEval l) s = .next t ∧ t.lake.blankMs = (n :: s.lake.blankMs).take 1000 ∧
      t.lake.blankPulses = s.lake.blankPulses + BitVec.ofNat 32 r.2.2 ∧ t.lake.blankCarry = r.1 - 64000 ∧
      t.lake.blankSatMs = (if 12800 < n then s.lake.blankSatMs + 1 else 0) ∧
      t.lake.bands = s.lake.bands ∧ t.lake.ant = s.lake.ant ∧
      { t with lake := s.lake, lcnt := s.lcnt, rcd := s.rcd, time := s.time } = { s with out := [] }) ∧
  (∀ (s : State) (b : Fin 3) (g : Int) (f : BitVec 8), s.clk.gnss = true → s.lake.bands.length = 3 → s.bandFlagged b.val = false →
    0 ≤ g → g ≤ 120 → (s.band b.val).reference = 0xFF → (s.band b.val).learnCount = 599 →
    ∃ t, exec (.agcReferenceUpdate b g f false) s = .next t ∧ (t.band b.val).gain = g.toNat ∧ (t.band b.val).full = 38 ∧
      (t.band b.val).reference = ((s.band b.val).learnSum + g.toNat) / 600 ∧ (∀ k, k ≠ b.val → t.band k = s.band k) ∧
      { t with lake := s.lake, rcd := s.rcd, time := s.time } = { s with out := [] }) ∧
  (∀ (s : State) (g : Int) (f : BitVec 8), s.clk.gnss = true → s.lake.bands.length = 3 → s.lake.blankEn = true →
    ∃ t, exec (.agcReferenceUpdate 2 g f true) s = .next t ∧ (t.band 2).gain = (s.band 2).gain ∧ (t.band 2).full = f.toNat ∧
      (∀ k, k ≠ 2 → t.band k = s.band k) ∧ { t with lake := s.lake, rcd := s.rcd, time := s.time } = { s with out := [] }) ∧
  (∀ (s : State) (v : Word), v.getLsbD 8 = true →
    exec (.specLatch v) s = .next { s with
      out := [], lake.specBand := v.toNat % 4, lake.spec := (s.band (v.toNat % 4)).spectrum
      lake.specSeq := (s.band (v.toNat % 4)).runs % 65536, lake.specWidth := if v.toNat % 4 = 1 then 15625 else 31250 }) ∧
  (∀ s : State, s.clk.lake = true → s.lake.fifo = [] → (∀ n ∈ s.lake.slots, n.2.state = .idle) →
    (∀ b ∈ s.lake.bands, b.runPending = false) →
    exec .lakeDomainStop s = .next { State.atLeast (s.lake.idleSince + 10000000) { s with out := [] } with clk.lake := false }) ∧
  (∀ s : State, s.lake.fifo ≠ [] → exec .lakeDomainStop s = .next { s with out := [] }) ∧
  (∀ (s : State) (q : SearchReq) (c : Nat), s.lake.requeue = [(q, c)] → (s.chan c).state = .free →
    exec .aidRequeue s = .next { s with out := [], lake.requeue := [] }) ∧
  (∀ (s : State) (q : SearchReq) (c : Nat), s.lake.requeue = [(q, c)] → (s.chan c).state = .locked → sameSat (s.chan c).sig q.sig = true →
    s.searchRefusal (State.aidedReq s.ns (s.chan c) q.sig.signal) = none → s.duplicate q.sig = false → s.lake.slots = [] →
    s.lake.fifo = [] → s.clk.lake = true → s.domReady domLake = true →
    ∃ t, exec .aidRequeue s = .next t ∧ (t.slot 0).state = .search ∧ (t.slot 0).req = State.aidedReq s.ns (s.chan c) q.sig.signal ∧
      t.lake.requeue = [] ∧ t.lake.fifo = [] ∧ { t with lake := s.lake } = { s with out := [] })

/-- A pair-wide write that waits takes effect at the whole second that it names and not before: with none due, the boundary changes
nothing but time; LAKE_MON_CTL's three fields are those of the word written. Rules: R115. Model's choices: logs 5, 89, 140. -/
def Obligations.PairWideWritesAtSecond : Prop :=
  (∀ (s b : State), s.sys.mode ≠ .dormant → s.sys.saving = false → s.time.running = true → b = State.mark 27 perSec { s with out := [] } →
    (∀ p ∈ s.pair.regDue, secOf b.now < p.2.2) → exec .pairWideRegApply s = .next b) ∧
  (∀ (s b : State) (v second : Nat), s.sys.mode ≠ .dormant → s.sys.saving = false → s.time.running = true →
    b = State.mark 27 perSec { s with out := [] } → s.pair.regDue = [(0x000100B0, v, second)] → second ≤ secOf b.now →
    exec .pairWideRegApply s = .next { b with
      pair.regDue := [], lake.monPeriod := bits v 0 6, lake.monEngage := bits v 8 6, lake.monWideband := bits v 16 6 })

/-- FLL_TIME after a handover ends the frequency assist of a channel in PULL_IN; a polarity report resolves HALF without a slip and
adds half a cycle where the polarity is inverted, and one that contradicts the polarity resolved is a half-cycle slip; a write of
TRK_CHc_CFG waits for the channel's next period boundary, and is refused with nothing written on a FREE channel or with values
that break R118, R119 or Table 5-3. A channel that fails to lock within PULLIN_MAX, or coasts for COAST_MAX, goes FREE, is counted
and recorded, and queues a reacquisition request of its own signal at priority 0 for the same channel, carried on to that instant,
which an idle Lake takes in slot 0; a request kept for a second time is carried on in the same way. Rules: R118, R119, R124, R127,
R128, R139, R125. Model's choices: logs 4, 5, 24. -/
def Obligations.ChannelsTrack : Prop :=
  (∀ (s : State) (c : Fin 288), (s.chan c.val).state = .pullIn → (s.chan c.val).entered + 10000000 * s.trk.fllTime < 2 ^ 64 →
    ∃ t, exec (.fllTimeEnd c) s = .next t ∧ t.chan c.val = { s.chan c.val with fll := false } ∧ (∀ k, k ≠ c.val → t.chan k = s.chan k) ∧
      (s.chan c.val).entered + 10000000 * s.trk.fllTime ≤ t.ns ∧
      { t with trk.channels := s.trk.channels, time := s.time } = { s with out := [] }) ∧
  (∀ (s : State) (c : Fin 288) (i : Bool), (s.chan c.val).state ≠ .free → (s.chan c.val).half = false → (s.chan c.val).polarity = some i →
    ∃ t, exec (.polarityReport c (!i)) s = .next t ∧
      t.chan c.val = { s.chan c.val with
        polarity := some (!i), slip := true, slips := ((s.chan c.val).slips + 1) % 256, lockTime := 0
        halfDue := (s.chan c.val).halfDue + 1 } ∧
      t.trk.slips = s.trk.slips + 1#32 ∧ t.trk.halfSlips = s.trk.halfSlips + 1#32 ∧ (∀ k, k ≠ c.val → t.chan k = s.chan k) ∧
      { t with trk := s.trk, rcd := s.rcd } = { s with out := [] }) ∧
  (∀ (s : State) (c : Fin 288) (i : Bool), (s.chan c.val).state ≠ .free → halfBySync (s.chan c.val).sig.signal = false →
    (s.chan c.val).half = true →
    ∃ t, exec (.polarityReport c i) s = .next t ∧
      t.chan c.val = { s.chan c.val with half := false, polarity := some i
                                         halfDue := (s.chan c.val).halfDue + (if i then 1 else 0) } ∧
      (∀ k, k ≠ c.val → t.chan k = s.chan k) ∧ { t with trk.channels := s.trk.channels } = { s with out := [] }) ∧
  (∀ (s : State) (c : Fin 288) (v : Word), (s.chan c.val).state ≠ .free → chanCfgOk (s.chan c.val).sig (chanCfgOf v.toNat) = true →
    ∃ t, exec (.trkChCfgWrite c v) s = .next t ∧ t.chan c.val = { s.chan c.val with cfgNext := some (chanCfgOf v.toNat) } ∧
      (∀ k, k ≠ c.val → t.chan k = s.chan k) ∧ { t with trk.channels := s.trk.channels } = { s with out := [] }) ∧
  (∀ (s : State) (c : Fin 288) (v : Word), (s.chan c.val).state = .free ∨ chanCfgOk (s.chan c.val).sig (chanCfgOf v.toNat) = false →
    exec (.trkChCfgWrite c v) s = .next { s with out := [] }) ∧
  (∀ (s b : State) (c : Fin 288), b = State.atLeast ((s.chan c.val).entered + 10000000 * s.trk.pullinMax) { s with out := [] } →
    (s.chan c.val).state = .pullIn → Tab.wf Channel.reset s.trk.channels = true → s.lake.slots = [] → s.lake.fifo = [] →
    s.clk.lake = true → b.domReady domLake = true →
    reqInRange (reacqReq b.ns c.val (s.chan c.val)) = true → bit s.lake.sigEn (s.chan c.val).sig.signal = true → s.lake.lowJammed = false →
    (∀ v ∈ s.trk.channels, v.1 ≠ c.val → v.2.state ≠ .free → sameSignal v.2.sig (s.chan c.val).sig = false) →
    ∃ t, exec (.pullinFailed c) s = .next t ∧ t.chan c.val = {} ∧ (∀ k, k ≠ c.val → t.chan k = s.chan k) ∧
      t.trk.pullinFailed = s.trk.pullinFailed + 1#32 ∧ t.trk.events = s.trk.events ||| 1#32 ∧ (t.slot 0).state = .search ∧
      (t.slot 0).req = reacqReq b.ns c.val (s.chan c.val) ∧ t.clk = s.clk ∧ t.meas = s.meas ∧ t.time = b.time ∧ t.pending = s.pending) ∧
  (∀ (s b : State) (c : Fin 288), b = State.atLeast ((s.chan c.val).entered + 100000000 * s.trk.coastMax) { s with out := [] } →
    (s.chan c.val).state = .coast → Tab.wf Channel.reset s.trk.channels = true → s.lake.slots = [] → s.lake.fifo = [] →
    s.clk.lake = true → b.domReady domLake = true →
    reqInRange (reacqReq b.ns c.val (s.chan c.val)) = true → bit s.lake.sigEn (s.chan c.val).sig.signal = true → s.lake.lowJammed = false →
    (∀ v ∈ s.trk.channels, v.1 ≠ c.val → v.2.state ≠ .free → sameSignal v.2.sig (s.chan c.val).sig = false) →
    ∃ t, exec (.chDropped c) s = .next t ∧ t.chan c.val = {} ∧ (∀ k, k ≠ c.val → t.chan k = s.chan k) ∧
      t.trk.events = s.trk.events ||| 4#32 ∧ (t.slot 0).state = .search ∧ (t.slot 0).req = reacqReq b.ns c.val (s.chan c.val) ∧
      t.clk = s.clk ∧ t.meas = s.meas ∧ t.time = b.time ∧ t.pending = s.pending) ∧
  (∀ (s : State) (q : SearchReq) (w i : Nat), s.trk.requeue = [(q, w, i)] → w < s.ns →
    exec .reacqRequeue s = .next { s with out := [], trk.requeue := [] }) ∧
  (∀ (s : State) (q : SearchReq) (w i : Nat), s.trk.requeue = [(q, w, i)] → s.ns ≤ w → s.trk.channels = [] →
    s.searchRefusal (q.carried (s.ns - i)) = none → s.lake.slots = [] → s.lake.fifo = [] → s.clk.lake = true → s.domReady domLake = true →
    ∃ t, exec .reacqRequeue s = .next t ∧ (t.slot 0).state = .search ∧ (t.slot 0).req = q.carried (s.ns - i) ∧
      t.trk = { s.trk with requeue := [] } ∧ { t with lake := s.lake, trk := s.trk } = { s with out := [] })

/-- A coherent interval ends at the channel's code epoch. The block forms the seven taps from the samples of the interval, and from
them the channel's C/N0 over its window, its phase-lock indicator, the multipath metric and the discriminators; its NCOs have run
on to the epoch. Under frequency assist a channel in PULL_IN stays there; without, one that meets the lock condition is LOCKED
with lock time 0; a LOCKED or SYNCED channel counts lock time, synchronises where its criterion is met, and coasts with its lock
lost. A symbol that ends with the interval enters the FIFO at this instant. No other channel changes, and a FREE channel has no
interval. At the period boundary of a loop object the output computed from the period before, its computation finished, takes
effect, and the object's error of the period just ended gives the next one, which is handed to the engine: the period is counted,
an output is due again. A carrier object's output steers its channel's NCOs. An output whose computation has not finished is late:
the previous one stays in force. A fixed-phase object's output is applied at its phase; unfinished there, it falls back, counted
and recorded, and stays due. An object that takes no part does nothing. Rules: R116, R120, R122, R123, R124, R126, R129, R130,
R133, R134, R135, R138. Model's choices: logs 23, 24, 163 to 167, 176 to 179. -/
def Obligations.IntervalsAndLoops : Prop :=
  (∀ (s b : State) (c : Fin 288) (l : List Sample) (y : Option (Bool × Nat)) (u : TapSums) (ch : Channel), ch = s.chan c.val →
    ch.state = .pullIn → ch.fll = true → s.clk.gnss = true → b = State.atLeast (ch.instant + ch.toEpoch) { s with out := [] } → u = ch.taps l →
    ∃ t, exec (.coherentIntervalEnd c l y) s = .next t ∧ (t.chan c.val).state = .pullIn ∧ (t.chan c.val).sig = ch.sig ∧
      (t.chan c.val).lockTime = ch.lockTime ∧ (t.chan c.val).instant = b.ns ∧ (t.chan c.val).codePhase = ch.phaseAt b.ns ∧
      (t.chan c.val).prompt = u.prompt ∧ (t.chan c.val).phaseError = ch.phaseDisc u ∧
      (t.chan c.val).discSum = ch.discSum + codeDisc ch.cfg u ∧
      (t.chan c.val).pli = pliStep ch.pli (if power u.prompt = 0 then 0 else
        (u.prompt.1 * u.prompt.1 - u.prompt.2 * u.prompt.2) * 65536 / (power u.prompt : Int)) ch.coh ∧
      (t.chan c.val).cn0 = cn0Of (takeMs (fun e => e.2.2) 100
        ((power u.prompt, power (if ch.noiseTap then u.pilotPrompt else u.dataPrompt), ch.coh) :: ch.window)) ch.coh ∧
      (∀ k, k ≠ c.val → t.chan k = s.chan k) ∧
      (y = none → t.trk.fifo = s.trk.fifo) ∧
      (∀ p m, y = some (p, m) → s.trk.fifo = [] → t.trk.fifo = [⟨c.val, b.ns, p, m % 16⟩]) ∧
      t.time = b.time ∧ { t with trk := s.trk, rcd := s.rcd, loop := s.loop, time := s.time } = { s with out := [] }) ∧
  (∀ (s b : State) (c : Fin 288) (l : List Sample) (ch v : Channel), ch = s.chan c.val → ch.state = .pullIn → ch.fll = false →
    s.clk.gnss = true → b = State.atLeast (ch.instant + ch.toEpoch) { s with out := [] } →
    v = ch.interval b.ns s.trk.pliLock s.trk.pliSlip l → 100 ≤ v.pliGood → 5 * s.trk.lockCn0 ≤ v.cn0 → s.lake.autoAid = false →
    ch.sig.signal ≠ 10 →
    ∃ t, exec (.coherentIntervalEnd c l none) s = .next t ∧ (t.chan c.val).state = .locked ∧ (t.chan c.val).lockTime = 0 ∧
      (t.chan c.val).cn0 = v.cn0 ∧ (t.chan c.val).pli = v.pli ∧ t.trk.locks = s.trk.locks + 1#32 ∧
      (∀ k, k ≠ c.val → t.chan k = s.chan k) ∧ t.time = b.time ∧
      { t with trk := s.trk, rcd := s.rcd, loop := s.loop, time := s.time } = { s with out := [] }) ∧
  (∀ (s b : State) (c : Fin 288) (l : List Sample) (ch v : Channel), ch = s.chan c.val → ch.state = .locked ∨ ch.state = .synced →
    s.clk.gnss = true → b = State.atLeast (ch.instant + ch.toEpoch) { s with out := [] } →
    v = ch.interval b.ns s.trk.pliLock s.trk.pliSlip l → v.pliBad < 100 → v.window.foldl (fun a e => a + e.2.2) 0 < 1000 →
    v.pliDip = false → v.opposite < 3 →
    ∃ t, exec (.coherentIntervalEnd c l none) s = .next t ∧
      (t.chan c.val).state = (if ch.state = .locked ∧ v.syncAt.isSome = true then .synced else ch.state) ∧
      (t.chan c.val).lockTime = sat 32 (ch.lockTime + ch.coh) ∧ (t.chan c.val).cn0 = v.cn0 ∧ (t.chan c.val).pli = v.pli ∧
      (∀ k, k ≠ c.val → t.chan k = s.chan k) ∧ t.time = b.time ∧
      { t with trk := s.trk, rcd := s.rcd, loop := s.loop, time := s.time } = { s with out := [] }) ∧
  (∀ (s b : State) (c : Fin 288) (l : List Sample) (ch v : Channel), ch = s.chan c.val → ch.state = .locked ∨ ch.state = .synced →
    s.clk.gnss = true → b = State.atLeast (ch.instant + ch.toEpoch) { s with out := [] } →
    v = ch.interval b.ns s.trk.pliLock s.trk.pliSlip l → 100 ≤ v.pliBad →
    ∃ t, exec (.coherentIntervalEnd c l none) s = .next t ∧ (t.chan c.val).state = .coast ∧ (t.chan c.val).prior = ch.state ∧
      (t.chan c.val).entered = b.ns ∧ (t.chan c.val).doppler = ch.doppler ∧ t.trk.coasts = s.trk.coasts + 1#32 ∧
      (∀ k, k ≠ c.val → t.chan k = s.chan k) ∧ t.time = b.time ∧
      { t with trk := s.trk, rcd := s.rcd, loop := s.loop, time := s.time } = { s with out := [] }) ∧
  (∀ (s : State) (c : Fin 288) (l : List Sample) (y : Option (Bool × Nat)), (s.chan c.val).state = .free →
    exec (.coherentIntervalEnd c l y) s = .next { s with out := [] }) ∧
  (∀ (s b : State) (x : Int), s.objRuns 576 = true → (s.loopParams 3).fixed = false → s.diag.loopDelay = none → (s.obj 576).due = none →
    (s.obj 576).lateDue = none → s.loop.jobs = [] → b = State.mark (markLoop 0) perSec { s with out := [] } →
    ∃ t, exec (.loopPeriodBoundary 576 x) s = .next t ∧ (t.obj 576).periods = (s.obj 576).periods + 1#32 ∧
      (t.obj 576).due.isSome = true ∧ (t.obj 576).output = (s.obj 576).output ∧ (t.obj 576).error = (s.obj 576).setpoint - x * loopOne ∧
      (t.obj 576).boundary = b.ns ∧ (t.obj 577).inner = (s.obj 577).inner + 1 ∧
      t.loop.jobs = [(32 * b.ns + 32000 * 1000000, 576, 125 * 96)] ∧
      (∀ k, k ≠ 576 → k ≠ 577 → t.obj k = s.obj k) ∧ t.trk = s.trk ∧ t.lake = s.lake ∧ t.time = b.time ∧ t.pending = s.pending) ∧
  (∀ (s b : State) (x u : Int) (f : Nat), s.objRuns 576 = true → (s.loopParams 3).fixed = false → s.diag.loopDelay = none →
    (s.obj 576).due = some u → (s.obj 576).lateDue = none → u ≠ 0 → s.loop.jobs = [] →
    b = State.mark (markLoop 0) perSec { s with out := [] } → (s.obj 576).finish = some f → f ≤ 32 * b.ns →
    ∃ t, exec (.loopPeriodBoundary 576 x) s = .next t ∧ (t.obj 576).output = u ∧ (t.obj 576).fellBack = false ∧
      (t.obj 576).periods = (s.obj 576).periods + 1#32 ∧ (t.obj 576).error = (s.obj 576).setpoint - x * loopOne ∧
      (∀ k, k ≠ 576 → k ≠ 577 → t.obj k = s.obj k) ∧ t.trk = s.trk ∧ t.time = b.time ∧ t.pending = s.pending) ∧
  (∀ (s b : State) (x u : Int) (f : Nat), s.objRuns 576 = true → (s.loopParams 3).fixed = false → s.diag.loopDelay = none →
    (s.obj 576).due = some u → (s.obj 576).lateDue = none → s.loop.jobs = [] →
    b = State.mark (markLoop 0) perSec { s with out := [] } → (s.obj 576).finish = some f → 32 * b.ns < f →
    ∃ t, exec (.loopPeriodBoundary 576 x) s = .next t ∧ (t.obj 576).output = (s.obj 576).output ∧ (t.obj 576).lateDue = some u ∧
      t.loop.overrun = s.loop.overrun + 1#32 ∧ (t.obj 576).periods = (s.obj 576).periods + 1#32 ∧
      (∀ k, k ≠ 576 → k ≠ 577 → t.obj k = s.obj k) ∧ t.trk = s.trk ∧ t.time = b.time ∧ t.pending = s.pending) ∧
  (∀ (s : State) (o : Fin 580) (c : Nat) (x u : Int), o.val = 2 * c → c < 288 → s.objRuns o.val = true → (s.chan c).fresh = true →
    (s.loopParams 0).fixed = false → s.diag.loopDelay = none → (s.obj o.val).due = some u → (s.obj o.val).lateDue = none → u ≠ 0 →
    s.loop.jobs = [] → s.finished o.val = true →
    ∃ t, exec (.loopPeriodBoundary o x) s = .next t ∧ (t.obj o.val).output = u ∧ (t.obj o.val).periods = (s.obj o.val).periods + 1#32 ∧
      (t.obj o.val).error = (s.chan c).phaseError ∧ (t.chan c).doppler = u / loopOne ∧
      (t.chan c).codeRate = (s.obj o.val).setpoint / loopOne ∧ (t.chan c).state = (s.chan c).state ∧ (t.chan c).fresh = false ∧
      (t.obj (o.val + 1)).inner = (s.obj (o.val + 1)).inner + 1 ∧ (∀ k, k ≠ o.val → k ≠ o.val + 1 → t.obj k = s.obj k) ∧
      (∀ k, k ≠ c → t.chan k = s.chan k) ∧ t.time = s.time ∧ t.pending = s.pending) ∧
  (∀ (s b : State) (o : Fin 580) (u : Int), s.objRuns o.val = true → (s.loopParams (objKind o.val)).fixed = true → (s.obj o.val).due = some u →
    b = State.atLeast ((s.obj o.val).boundary + ceilDiv (125 * (s.loopParams (objKind o.val)).offset) 32) { s with out := [] } →
    b.finished o.val = false →
    ∃ t, exec (.fixedPhaseApply o) s = .next t ∧ (∀ m, t.obj m = s.obj m) ∧
      t.loop.fallback = s.loop.fallback + 1#32 ∧ t.loop.events = s.loop.events ||| 1#32 ∧ t.time = b.time ∧
      { t with loop := s.loop, rcd := s.rcd, time := s.time } = { s with out := [] }) ∧
  (∀ (s b : State) (u : Int), s.objRuns 578 = true → (s.loopParams 4).fixed = true → (s.obj 578).due = some u → u ≠ 0 →
    b = State.atLeast ((s.obj 578).boundary + ceilDiv (125 * (s.loopParams 4).offset) 32) { s with out := [] } → b.finished 578 = true →
    ∃ t, exec (.fixedPhaseApply 578) s = .next t ∧ t.obj 578 = { s.obj 578 with output := u, fellBack := false, due := none } ∧
      (∀ m, m ≠ 578 → t.obj m = s.obj m) ∧ t.time = b.time ∧ { t with loop := s.loop, time := s.time } = { s with out := [] }) ∧
  (∀ (s : State) (o : Fin 580) (x : Int), s.objRuns o.val = false →
    exec (.loopPeriodBoundary o x) s = .next { s with out := [] } ∧ exec (.fixedPhaseApply o) s = .next { s with out := [] })

/-- The session's audit is judged on a complete snapshot of an epoch that the ring holds, over the baseline to the robot: fewer than
six common satellites or an ambiguity ratio below 3.0 is INCONCLUSIVE; within the limits of its class it passes, which clears the
fail count and the hold; beyond them it fails, and the second fail in a row enters audit hold with cause FAIL. An epoch that the
ring does not hold is STALE and decides nothing; one already evaluated is ignored. Every other session is as it was. Three audit
periods without a conclusive result put the session in audit hold with cause OVERDUE; an incomplete snapshot is discarded 10 s
after it began; a complete one stays. Rules: R169, R170, R219. Model's choices: logs 5, 184, 185. -/
def Obligations.PositionAudits : Prop :=
  (∀ (s : State) (n : Fin 256) (sats : List SatState) (v : AuditSnap) (e : RingEntry) (b : Baseline) (h w : Nat), s.isLead = true →
    (s.rs n.val).state ≠ 0 → (s.rs n.val).snap = some v → v.complete = true →
    s.meas.ring.find? (fun (x : RingEntry) => decide (x.second = fullSecond (secOf s.now) v.epoch)) = some e → e.valid = true →
    6 ≤ (satellites (e.obs.filter (·.published))).length → (s.rs n.val).audit.seen.contains (fullSecond (secOf s.now) v.epoch) = false →
    b = baselineOf s.basePos sats v e.obs → h = (s.classRec (s.sessClass n.val)).elim 0 (·.auditH) →
    w = (s.classRec (s.sessClass n.val)).elim 0 (·.auditV) →
    ∃ t, exec (.auditEvaluate n sats) s = .next t ∧ (t.rs n.val).snap = none ∧
      (t.rs n.val).audit.result = (if b.common < 6 ∨ b.ratio < 30 then 3
        else if (b.east * b.east + b.north * b.north).toNat ≤ h * h ∧ b.up.natAbs ≤ w then 1 else 2) ∧
      ((t.rs n.val).audit.result = 1 → (t.rs n.val).audit.hold = false ∧ (t.rs n.val).audit.fails = 0 ∧
        (t.rs n.val).audit.conclusive = some (secOf s.now) ∧ t.mreg = { s.mreg with auditPass := s.mreg.auditPass + 1#32 }) ∧
      ((t.rs n.val).audit.result = 2 → (t.rs n.val).audit.hold = ((s.rs n.val).audit.hold || decide (1 ≤ (s.rs n.val).audit.fails)) ∧
        (t.rs n.val).audit.fails = min 2 ((s.rs n.val).audit.fails + 1) ∧ (t.rs n.val).audit.conclusive = some (secOf s.now) ∧
        t.mreg.auditFail = s.mreg.auditFail + 1#32) ∧
      ((t.rs n.val).audit.result = 3 → (t.rs n.val).audit.hold = (s.rs n.val).audit.hold ∧
        (t.rs n.val).audit.fails = (s.rs n.val).audit.fails ∧ t.mreg = { s.mreg with auditOther := s.mreg.auditOther + 1#32 }) ∧
      (∀ k, k ≠ n.val → t.rs k = s.rs k) ∧
      { t with fleet.sessions := s.fleet.sessions, mreg := s.mreg, rcd := s.rcd } = { s with out := [] }) ∧
  (∀ (s : State) (n : Fin 256) (sats : List SatState) (v : AuditSnap), s.isLead = true → (s.rs n.val).state ≠ 0 →
    (s.rs n.val).snap = some v → v.complete = true → (∀ x ∈ s.meas.ring, x.second ≠ fullSecond (secOf s.now) v.epoch) →
    (s.rs n.val).audit.seen.contains (fullSecond (secOf s.now) v.epoch) = false →
    ∃ t, exec (.auditEvaluate n sats) s = .next t ∧ (t.rs n.val).audit.result = 5 ∧ (t.rs n.val).audit.hold = (s.rs n.val).audit.hold ∧
      (t.rs n.val).audit.fails = (s.rs n.val).audit.fails ∧ (t.rs n.val).snap = none ∧
      t.mreg = { s.mreg with auditOther := s.mreg.auditOther + 1#32 } ∧ (∀ k, k ≠ n.val → t.rs k = s.rs k) ∧
      { t with fleet.sessions := s.fleet.sessions, mreg := s.mreg, rcd := s.rcd } = { s with out := [] }) ∧
  (∀ (s : State) (n : Fin 256) (sats : List SatState) (v : AuditSnap), s.isLead = true → (s.rs n.val).state ≠ 0 →
    (s.rs n.val).snap = some v → v.complete = true →
    (s.rs n.val).audit.seen.contains (fullSecond (secOf s.now) v.epoch) = true →
    ∃ t, exec (.auditEvaluate n sats) s = .next t ∧ (t.rs n.val).snap = none ∧ (t.rs n.val).audit.result = (s.rs n.val).audit.result ∧
      (t.rs n.val).audit.hold = (s.rs n.val).audit.hold ∧ (t.rs n.val).audit.fails = (s.rs n.val).audit.fails ∧
      (∀ k, k ≠ n.val → t.rs k = s.rs k) ∧ { t with fleet.sessions := s.fleet.sessions } = { s with out := [] }) ∧
  (∀ (s : State) (n : Fin 256) (c : ClassRec), s.isLead = true → (s.rs n.val).state ≠ 0 → (s.rs n.val).audit.hold = false →
    s.classRec (s.sessClass n.val) = some c → c.auditPeriod ≠ 0 →
    ∃ t, exec (.auditOverdue n) s = .next t ∧ (t.rs n.val).audit = { (s.rs n.val).audit with hold := true, cause := 1 } ∧
      t.mreg = { s.mreg with events := s.mreg.events ||| 256#32 } ∧ (∀ k, k ≠ n.val → t.rs k = s.rs k) ∧
      { t with fleet.sessions := s.fleet.sessions, mreg := s.mreg, rcd := s.rcd, time.frc := s.time.frc } = { s with out := [] }) ∧
  (∀ (s : State) (n : Fin 256) (v : AuditSnap), (s.rs n.val).state ≠ 0 → (s.rs n.val).snap = some v → v.complete = false →
    ∃ t, exec (.auditSnapshotDiscard n) s = .next t ∧ t.rs n.val = { s.rs n.val with snap := none } ∧ (∀ k, k ≠ n.val → t.rs k = s.rs k) ∧
      { t with fleet.sessions := s.fleet.sessions, time.frc := s.time.frc } = { s with out := [] }) ∧
  (∀ (s : State) (n : Fin 256) (v : AuditSnap), (s.rs n.val).snap = some v → v.complete = true →
    exec (.auditSnapshotDiscard n) s = .next { s with out := [] })

/-- An epoch is latched at a whole multiple of the epoch period: it is counted, its time is published, every channel that is held
gives an observation, and with it every channel's SLIP and CFG_CHANGED flags and every band's notch change clear. Outside the
service modes nothing is latched. An EPOCH frame of the lead leaves its survey state at a standby, and with no own record of that
second the alignment as it was; with one, the alignment begins for every signal that both hold; a reference that stops or departs
degrades the unit: a lone unit in LEAD enters HOLD with stop cause DEGRADED. Rules: R95, R128, R139, R145, R153, R171, R180.
Model's choices: logs 14, 26, 88, 180, 181, 185 to 187. -/
def Obligations.EpochsLatched : Prop :=
  (∀ (s : State) (e : EpochIn), s.inService = true → s.sys.saving = false → s.time.running = true → s.clk.gnss = true →
    ∃ t, exec (.epochLatch e) s = .next t ∧ t.meas.epochT % (perSec / max 1 ((s.station.map (·.epochRate)).getD 1)) = 0 ∧
      t.mreg.epochs = s.mreg.epochs + 1#32 ∧ t.meas.job.isSome = true ∧
      (e.slots = [] → t.meas.last.length = (s.trk.channels.filter (fun (p : Nat × Channel) => decide (p.2.state ≠ .free))).length) ∧
      (∀ c, (t.chan c).slip = false ∧ (t.chan c).cfgChanged = false) ∧
      (∀ b ∈ t.lake.bands, b.changed = false) ∧ t.keys = s.keys ∧ t.flash = s.flash ∧ t.pair.claim = s.pair.claim ∧ t.pending = s.pending) ∧
  (∀ (s : State) (e : EpochIn), s.inService = false → exec (.epochLatch e) s = .next { s with out := [] }) ∧
  (∀ (s : State) (f : EpochFrame), s.sys.mode = .shadow → s.sys.saving = false → s.pair.viaUp = true → s.diag.viaCorrupt = none →
    (∀ x ∈ s.meas.ring, x.second ≠ f.second) → f.survey.base ≠ 3 →
    exec (.epochFrame f) s = .next { s with out := [], meas.survey := f.survey }) ∧
  (∀ (s : State) (f : EpochFrame) (e : RingEntry), s.sys.mode = .shadow → s.sys.saving = false → s.pair.viaUp = true →
    s.diag.viaCorrupt = none → s.meas.ring.find? (fun (x : RingEntry) => decide (x.second = f.second)) = some e → s.meas.align = [] →
    s.meas.clkRun = [] →
    ∃ t, exec (.epochFrame f) s = .next t ∧ t.meas.alignState = 1 ∧ t.meas.alignAt = s.ns ∧
      t.meas.align.map (·.sig) = (f.observations.filter (fun o => e.obs.any (fun p => sameSignal p.sig o.sig))).map (·.sig) ∧
      t.meas.ring = s.meas.ring ∧ { t with meas := s.meas, mreg := s.mreg, rcd := s.rcd } = { s with out := [] }) ∧
  (∀ (s : State) (d : Int), s.sys.mode = .lead → s.paired = false → s.sys.degraded = false → s.sys.saving = false →
    bit s.cellSet causeDegraded = false →
    ∃ t, exec (.refFault d) s = .next t ∧ t.sys.mode = .hold ∧ t.sys.degraded = true ∧ t.pair.refSeen = true ∧
      bit t.cellSet causeDegraded = true ∧ t.fleet.go = 0#256 ∧ t.pair.claim = s.pair.claim ∧ t.tres = s.tres ∧ t.flash = s.flash ∧
      t.keys = s.keys ∧ t.pending = s.pending)

/-- The whole second renews the anchor and the rate. In HOLDOVER without a usable offset the rate stays frozen and the duration grows;
the third second without one takes TRACKING to HOLDOVER with the rate of the last usable offset; a usable offset within the jump
threshold is taken, and the servo stays TRACKING or LOCKED. Rules: R179, R182, R184, R185. Model's choices: logs 5, 32, 61, 188,
191. -/
def Obligations.WholeSecondOfTime : Prop :=
  (∀ (s : State) (o : SecondOffsets), s.time.running = true → s.sys.mode ≠ .shadow → s.time.ctlGnss = false → s.time.ctlPtp = false →
    s.time.servo = .holdover → s.time.initDue = none →
    ∃ t, exec (.anchorUpdate o) s = .next t ∧ t.time.servo = .holdover ∧ t.time.holdS = sat 24 (s.time.holdS + 1) ∧
      t.time.rho = s.time.frozenRho ∧ t.time.fAnchor = t.time.frc ∧ t.time.pps = s.time.ppsNext ∧ t.time.e0 = s.time.e0 ∧
      t.treg = { s.treg with holdSCount := s.treg.holdSCount + 1#32 } ∧
      { t with time := s.time, treg := s.treg, loop := s.loop, rcd := s.rcd, pair := s.pair, out := [] } = { s with out := [] }) ∧
  (∀ (s : State) (o : SecondOffsets), s.time.running = true → s.sys.mode ≠ .shadow → s.time.ctlGnss = false → s.time.ctlPtp = false →
    s.time.servo = .tracking → 2 ≤ s.time.noOffset → s.time.initDue = none →
    ∃ t, exec (.anchorUpdate o) s = .next t ∧ t.time.servo = .holdover ∧ t.time.frozenRho = s.time.rhoAtUsable ∧
      t.time.e0 = s.time.lastOffset.natAbs + sourceU s.time.source ∧ t.time.history = [] ∧ t.time.source = s.time.source ∧
      t.treg.events = s.treg.events ||| 4#32 ∧
      { t with time := s.time, treg := s.treg, loop := s.loop, rcd := s.rcd, pair := s.pair, out := [] } = { s with out := [] }) ∧
  (∀ (s : State) (o : SecondOffsets) (v : Int), s.time.running = true → s.sys.mode ≠ .shadow → s.time.ctlGnss = true →
    s.time.biasFrozen = false → s.time.servo = .tracking → s.time.initDue = none → s.gnssOffset o = some v → v.natAbs ≤ s.jumpThreshold →
    ∃ t, exec (.anchorUpdate o) s = .next t ∧ (t.time.servo = .tracking ∨ t.time.servo = .locked) ∧ t.time.lastOffset = v ∧
      t.time.loopOffset = v ∧ t.time.noOffset = 0 ∧ t.time.history = [] ∧ t.time.source = 1 ∧ t.time.aligned = decide (v.natAbs ≤ 1000) ∧
      t.time.fAnchor = t.time.frc ∧ t.treg = s.treg ∧
      { t with time := s.time, loop := s.loop, rcd := s.rcd, pair := s.pair, out := [] } = { s with out := [] })

/-- A request of type `kind` of the open session in slot `k` passes every check of R473: it is carried, well formed and of an open session,
its transport is admitted, its MAC is right, its sequence number is new, nothing of the session is in progress, the type is served, the
host holds the right of the type, and the unit is lead where the type is lead-only. -/
def chpPasses (kind : Nat) (right : Option Nat) (lead : Bool) (f : ChpFrame) (k : Nat) (s : State) : Prop :=
  s.carries f.source = true ∧ f.formed = true ∧ f.session ≠ 0#32 ∧ s.slotOf f true = some k ∧ s.admits (s.hs k).host f.source = true ∧
  f.mac = some (s.sessMac (s.hs k) (f.octets kind)) ∧ (∀ r ∈ (s.hs k).remembered, r.sequence ≠ f.sequence) ∧
  (s.hs k).processing = [] ∧ (s.hs k).lastSeq < f.sequence.toNat ∧ s.serves kind = true ∧
  (right.map (bit ((s.accessRec (s.hs k).host).elim 0 (·.rights)))).getD true = true ∧ (lead = true → s.isLead = true)

/-- The unit has sent one thing, the reply to the request with its result and body under a MAC, and remembers it. -/
def answered (f : ChpFrame) (kind result : Nat) (body : List Octet) (k : Nat) (t : State) : Prop :=
  ∃ mac, t.out = [.reply ⟨f.session, f.sequence, BitVec.ofNat 16 kind, BitVec.ofNat 8 result, body, some mac, f.source⟩] ∧
    (t.hs k).remembered.head? = some ⟨f.session, f.sequence, BitVec.ofNat 16 kind, BitVec.ofNat 8 result, body, some mac, f.source⟩ ∧
    (t.hs k).processing = [] ∧ (t.hs k).lastSeq = f.sequence.toNat

/-- A time step is accepted of the lead in HOLD outside PROVISIONAL with none pending, set for the first whole second at least 1 s
away, and answered; at its second it moves device time by its amount, and the age of the corrections with it, empties the base
ring, marks captured edges and counts; in a mode other than HOLD and SHADOW it is dropped and recorded. Rules: R187. Model's
choices: logs 32, 33, 124. -/
def Obligations.HostTimeStep : Prop :=
  (∀ (s : State) (f : ChpFrame) (k : Nat), chpPasses 0x0070 (some 7) true f k s → f.body.length = 16 → zeros f.body 12 4 = true →
    s.sys.mode = .hold → s.time.servo ≠ .provisional → s.time.step = none → getLeS f.body 0 8 ≠ 0 →
    ∃ t, exec (.timeStep f) s = .next t ∧
      t.time = { s.time with step := some ⟨getLeS f.body 0 8, getLe f.body 8 4, ceilDiv (perSec + s.now) perSec⟩ } ∧
      answered f 0x0070 0 ([0#8, 0#8, 0#8, 0#8] ++ leBytes 4 (ceilDiv (perSec + s.now) perSec)) k t ∧
      { t with time := s.time, host := s.host, out := [] } = { s with out := [] }) ∧
  (∀ (s : State) (st : TimeStep), s.time.step = some st → s.sys.mode = .hold →
    ∃ t, exec .stepApply s = .next t ∧ t.time.step = none ∧ t.time.source = 5 ∧ t.time.stepped = true ∧
      t.time.tAnchor = (((s.reach (perSec * st.w)).now : Int) + perNs * st.amount).toNat ∧ t.time.fAnchor = t.time.frc ∧
      t.treg.steps = s.treg.steps + 1#32 ∧ t.treg.events = s.treg.events ||| 8#32 ∧ t.meas.ring = [] ∧
      t.meas.lastValid = s.meas.lastValid.map (fun v => ((v : Int) + perNs * st.amount).toNat) ∧
      (∀ i ∈ t.time.evt, ∀ e ∈ i.fifo, e.step = true) ∧
      { t with time := s.time, treg := s.treg, meas := s.meas, rcd := s.rcd } = { s with out := [] }) ∧
  (∀ (s : State) (st : TimeStep), s.time.step = some st → s.sys.mode = .lead →
    ∃ t, exec .stepApply s = .next t ∧ t.time = { (s.reach (perSec * st.w)).time with step := none } ∧
      { t with time := s.time, rcd := s.rcd } = { s with out := [] })

/-- A PPS output drives its edge at a whole multiple of its period plus its offset, after the edge before, for the width set and in
the polarity set; a selected edge on EVT_INn is stamped to 250 ps into its FIFO, counted missed within 40 ns of the last, or
dropped and counted when the FIFO is full; a pop removes the head of each named input and of no other. Rules: R188, R189. Model's
choices: logs 5, 6. -/
def Obligations.PulsesAndCaptures : Prop :=
  (∀ (s : State) (n : Fin 2) (p : Pps), s.time.running = true → s.time.pps[n.val]? = some p → p.mode = 2 →
    ∃ t tm, exec (.ppsEdge n) s = .next t ∧ t.out = [.pulse n.val tm (tm + p.width * perUs) (decide (p.polarity = 0))] ∧
      (∃ k : Nat, tm = (((k * ppsPeriod p : Nat) : Int) + p.offset * 16384).toNat) ∧ Tab.get 0 s.time.marks (markPps n.val) ≤ tm ∧
      { t with time.frc := s.time.frc, time.marks := s.time.marks, out := [] } = { s with out := [] }) ∧
  (∀ (s : State) (n : Fin 8) (r : Bool) (q : Fin 4) (i : CaptureIn), s.time.running = true → s.time.evt[n.val]? = some i →
    bit (bits s.time.evtEdge (2 * n.val) 2) (if r = true then 0 else 1) = true → i.last = none → i.fifo.length < 8 →
    ∃ t, exec (.evtCapture n r q) s = .next t ∧
      t.time.evt[n.val]? = some { i with
        last := some (4 * s.ns + q.val), dropRun := false, fifo := i.fifo ++ [⟨s.nowQuarter q.val, r, s.time.aligned, false⟩] } ∧
      (∀ k, k ≠ n.val → t.time.evt[k]? = s.time.evt[k]?) ∧ { t with time.evt := s.time.evt } = { s with out := [] }) ∧
  (∀ (s : State) (n : Fin 8) (r : Bool) (q : Fin 4) (i : CaptureIn) (l : Nat), s.time.running = true → s.time.evt[n.val]? = some i →
    bit (bits s.time.evtEdge (2 * n.val) 2) (if r = true then 0 else 1) = true → i.last = some l →
    4 * s.ns + q.val < l + 160 →
    ∃ t, exec (.evtCapture n r q) s = .next t ∧ t.time.evt[n.val]? = some { i with missed := sat 8 (i.missed + 1) } ∧
      (∀ k, k ≠ n.val → t.time.evt[k]? = s.time.evt[k]?) ∧ { t with time.evt := s.time.evt } = { s with out := [] }) ∧
  (∀ (s : State) (n : Fin 8) (r : Bool) (q : Fin 4) (i : CaptureIn) (l : Nat), s.time.running = true → s.time.evt[n.val]? = some i →
    bit (bits s.time.evtEdge (2 * n.val) 2) (if r = true then 0 else 1) = true → i.last = some l →
    l + 160 ≤ 4 * s.ns + q.val → 8 ≤ i.fifo.length →
    ∃ t, exec (.evtCapture n r q) s = .next t ∧
      t.time.evt[n.val]? = some { i with last := some (4 * s.ns + q.val), overflow := sat 8 (i.overflow + 1), dropRun := true } ∧
      (∀ k, k ≠ n.val → t.time.evt[k]? = s.time.evt[k]?) ∧
      { t with time.evt := s.time.evt, treg.events := s.treg.events, rcd := s.rcd } = { s with out := [] }) ∧
  (∀ (s : State) (v : Word),
    ∃ t, exec (.evtPop v) s = .next t ∧
      (∀ n, t.time.evt[n]? = (s.time.evt[n]?).map (fun i => if bit v.toNat n = true then { i with fifo := i.fifo.drop 1 } else i)) ∧
      { t with time.evt := s.time.evt } = { s with out := [] })

/-- A PTP slave port in LISTENING takes the sender of an Announce as its master and goes to UNCALIBRATED; a message with unsupported
options is ignored and counted; a master port answers a Delay_Req with the time of its arrival. Sync and Delay_Req leave with the
next sequence number and queue their transmit stamp; the stamp of a Sync, taken, leaves in its Follow_Up; a stamp not taken within
1 s is discarded and counted; without an Announce a slave listens again without a master and a passive port is master again.
Rules: R190, R191, R192. Model's choices: logs 30, 31, 189 to 191. -/
def Obligations.PtpPorts : Prop :=
  (∀ (s : State) (m : Fin 2) (g : PtpMsg), s.time.ptp.length = 2 → (s.port m.val).state = .listening → s.ptpRole m.val = 2 →
    (s.netRec m.val).map (·.ptpDomain) = some g.domain → g.supported = true → g.kind = 0xB →
    ∃ t, exec (.ptpMessageRx m g) s = .next t ∧ (t.port m.val).state = .uncalibrated ∧ (t.port m.val).masterId = g.sender ∧
      (t.port m.val).master = g.rank ∧ (t.port m.val).queue = (s.port m.val).queue ∧
      (∀ k, k ≠ m.val → t.port k = s.port k) ∧ { t with time.ptp := s.time.ptp, rcd := s.rcd } = { s with out := [] }) ∧
  (∀ (s : State) (m : Fin 2) (g : PtpMsg), s.time.ptp.length = 2 → (s.port m.val).state ≠ .disabled →
    (s.netRec m.val).map (·.ptpDomain) = some g.domain → g.supported = false →
    ∃ t, exec (.ptpMessageRx m g) s = .next t ∧ t.port m.val = { s.port m.val with ignored := sat 15 ((s.port m.val).ignored + 1) } ∧
      (∀ k, k ≠ m.val → t.port k = s.port k) ∧ { t with time.ptp := s.time.ptp } = { s with out := [] }) ∧
  (∀ (s : State) (m : Fin 2) (g : PtpMsg), (s.port m.val).state = .master → s.ptpRole m.val = 1 → s.mayMaster = true →
    (s.netRec m.val).map (·.ptpDomain) = some g.domain → g.supported = true → g.kind = 1 →
    exec (.ptpMessageRx m g) s =
      .next { s with out := [.ptp m.val 9 (beBytes 8 (s.clockIdentity m.val) ++
        (beBytes 2 g.sequence ++ beBytes 12 (stamp1ns g.received - (s.phyDelay m.val).2) ++ beBytes 8 g.sender))] }) ∧
  (∀ (s : State) (m : Fin 2), s.time.ptp.length = 2 → s.ptpRole m.val = 1 → (s.port m.val).state = .master → s.mayMaster = true →
    (s.port m.val).queue.length < 16 →
    ∃ t, exec (.ptpTx m none) s = .next t ∧ t.out = [.ptp m.val 0 (beBytes 8 (s.clockIdentity m.val) ++ beBytes 2 (s.port m.val).txSeq)] ∧
      t.port m.val = { s.port m.val with
        queue := (s.port m.val).queue ++ [⟨stamp1ns s.now + (s.phyDelay m.val).1, 0, (s.port m.val).txSeq, s.ns⟩]
        dropRun := false, txSeq := ((s.port m.val).txSeq + 1) % 65536 } ∧
      (∀ k, k ≠ m.val → t.port k = s.port k) ∧ { t with time.ptp := s.time.ptp, out := [] } = { s with out := [] }) ∧
  (∀ (s : State) (m : Fin 2), s.time.ptp.length = 2 → s.ptpRole m.val = 2 → (s.port m.val).state = .slave →
    (s.port m.val).queue.length < 16 →
    ∃ t, exec (.ptpTx m none) s = .next t ∧ t.out = [.ptp m.val 1 (beBytes 8 (s.clockIdentity m.val) ++ beBytes 2 (s.port m.val).txSeq)] ∧
      t.port m.val = { s.port m.val with
        queue := (s.port m.val).queue ++ [⟨stamp1ns s.now + (s.phyDelay m.val).1, 1, (s.port m.val).txSeq, s.ns⟩]
        dropRun := false, reqSeq := (s.port m.val).txSeq, txSeq := ((s.port m.val).txSeq + 1) % 65536 } ∧
      (∀ k, k ≠ m.val → t.port k = s.port k) ∧ { t with time.ptp := s.time.ptp, out := [] } = { s with out := [] }) ∧
  (∀ (s : State) (m : Fin 2) (n : Nat) (e : TxStamp), s.time.ptp.length = 2 → s.ptpRole m.val = 1 → (s.port m.val).state = .master →
    s.mayMaster = true → (s.port m.val).queue.find? (fun x => decide (x.kind = 0 ∧ x.sequence = n)) = some e →
    ∃ t, exec (.ptpTx m (some n)) s = .next t ∧
      t.out = [.ptp m.val 8 (beBytes 8 (s.clockIdentity m.val) ++ (beBytes 2 n ++ beBytes 12 e.time))] ∧
      t.port m.val = { s.port m.val with queue := (s.port m.val).queue.erase e } ∧
      (∀ k, k ≠ m.val → t.port k = s.port k) ∧ { t with time.ptp := s.time.ptp, out := [] } = { s with out := [] }) ∧
  (∀ (s : State) (m : Fin 2), s.time.ptp.length = 2 →
    ∃ t, exec (.txtsStale m) s = .next t ∧
      t.port m.val = { s.port m.val with queue := (s.port m.val).queue.filter (fun e => decide (s.ns < 1000000000 + e.queued)) } ∧
      (∀ k, k ≠ m.val → t.port k = s.port k) ∧
      { t with time.ptp := s.time.ptp, treg.txtsStale := s.treg.txtsStale } = { s with out := [] }) ∧
  (∀ (s : State) (m : Fin 2), s.time.ptp.length = 2 → (s.port m.val).state = .slave →
    ∃ t, exec (.ptpAnnounceReceiptTimeout m) s = .next t ∧ (t.port m.val).state = .listening ∧ (t.port m.val).masterId = 0 ∧
      (∀ k, k ≠ m.val → t.port k = s.port k) ∧ { t with time.ptp := s.time.ptp, rcd := s.rcd } = { s with out := [] }) ∧
  (∀ (s : State) (m : Fin 2), s.time.ptp.length = 2 → (s.port m.val).state = .passive →
    ∃ t, exec (.ptpAnnounceReceiptTimeout m) s = .next t ∧ t.port m.val = { s.port m.val with state := .master } ∧
      (∀ k, k ≠ m.val → t.port k = s.port k) ∧ { t with time.ptp := s.time.ptp, rcd := s.rcd } = { s with out := [] })

/-- The next entry of `kind` of radio `i` is `e`, it starts at `b`, the radio's domain is awake and ready by then, and nothing ordered or
inherited keeps the unit from serving it. -/
def entryServed (i kind : Nat) (ofs : Int) (e : DeckEntry) (b : Nat) (s : State) : Prop :=
  s.inService = true ∧ s.time.running = true ∧ s.nextEntry i (entryMark i kind) ofs (fun e => decide (e.kind = kind)) = some (e, b) ∧
  s.rad.serveFrom ≤ b ∧ s.diag.synthFault ≠ some i ∧ s.diag.paFault = none ∧ (s.radio i).awake = true ∧ s.radioReadyBy i b = true

/-- The radios' domains: RADIO_WAKE starts a sleeping radio's domain 300 µs before its next entry, RADIO_SLEEP stops a domain with no
further entry; a domain that wakes is ready its start time later; listening entries set the receiver to the entry; a synthesiser
or PA fault takes the radio or its PA out for the rest of the entry and breaks clean health. Rules: R26, R27, R207, R235. Model's
choices: logs 5, 120. -/
def Obligations.RadioDomainsAndFaults : Prop :=
  (∀ (s : State) (i : Fin 2) (e : DeckEntry) (b : Nat), s.inService = true → s.sys.saving = false → (s.radio i.val).awake = false →
    s.time.running = true → s.nextEntry i.val (entryMark i.val 9) (-((300 * perUs : Nat) : Int)) (DeckEntry.uses i.val) = some (e, b) →
    ∃ t, exec (.radioWake i) s = .next t ∧ t.radio i.val = { s.radio i.val with awake := true } ∧
      t.radio (1 - i.val) = s.radio (1 - i.val) ∧ t.time.frc = (s.reach (b - 300 * perUs)).time.frc ∧
      t.clk = { s.clk with radioA := s.clk.radioA || decide (i.val = 0), radioB := s.clk.radioB || decide (i.val = 1)
                           readyAt := Tab.set 0 s.clk.readyAt (domRadioA + i.val) (t.ns + domStart (domRadioA + i.val)) } ∧
      { t with rad.a := s.rad.a, rad.b := s.rad.b, clk := s.clk, time.frc := s.time.frc } = { s with out := [] }) ∧
  (∀ (s : State) (i : Fin 2), s.inService = true → (s.radio i.val).awake = true → s.time.running = true → (s.radio i.val).deck = [] →
    ∃ t, exec (.radioSleep i) s = .next t ∧ t.radio i.val = { s.radio i.val with awake := false } ∧
      t.radio (1 - i.val) = s.radio (1 - i.val) ∧ t.clk = (if i.val = 0 then { s.clk with radioA := false } else { s.clk with radioB := false }) ∧
      { t with rad.a := s.rad.a, rad.b := s.rad.b, clk := s.clk } = { s with out := [] }) ∧
  (∀ (s : State) (e : DeckEntry) (b : Nat), entryServed 0 5 0 e b s →
    ∃ t, exec .upAssignedEntry s = .next t ∧ t.rad.a = { s.rad.a with rx := e.stop b, rxFrom := b } ∧
      t.time.frc = (s.reach b).time.frc ∧
      { t with rad.a := s.rad.a, time.frc := s.time.frc, time.marks := s.time.marks } = { s with out := [] }) ∧
  (∀ (s : State) (i : Fin 2) (e : DeckEntry) (b : Nat), entryServed i.val 6 0 e b s →
    ∃ t, exec (.upContentionEntry i) s = .next t ∧ t.radio i.val = { s.radio i.val with rx := e.stop b, rxFrom := b } ∧
      t.radio (1 - i.val) = s.radio (1 - i.val) ∧ t.time.frc = (s.reach b).time.frc ∧
      { t with rad.a := s.rad.a, rad.b := s.rad.b, time.frc := s.time.frc, time.marks := s.time.marks } = { s with out := [] }) ∧
  (∀ (s : State) (i : Fin 2), s.inService = true →
    ∃ t, exec (.pllUnlock i) s = .next t ∧
      t.radio i.val = { s.radio i.val with onAir := none, dead := (s.entryAt i.val s.now).elim s.now (fun p => p.1.stop p.2)
                                           events := (s.radio i.val).events ||| 128#32 } ∧
      t.radio (1 - i.val) = s.radio (1 - i.val) ∧
      t.pair = { s.pair with radioAt := some s.ns, holdFrom := s.ns, brokenAt := s.ns, asked := none } ∧
      { t with rad := s.rad, pair := s.pair, rcd := s.rcd, out := [] } = { s with out := [] }) ∧
  (∀ (s : State) (i d : Fin 2) (w : BitVec 16), s.inService = true →
    ∃ t, exec (.paFault i d w) s = .next t ∧
      t.radio i.val = { s.radio i.val with onAir := none, paDead := (s.entryAt i.val s.now).elim s.now (fun p => p.1.stop p.2)
                                           events := (s.radio i.val).events ||| 256#32 } ∧
      t.radio (1 - i.val) = s.radio (1 - i.val) ∧
      t.pair = { s.pair with radioAt := some s.ns, holdFrom := s.ns, brokenAt := s.ns, asked := none } ∧
      { t with rad := s.rad, pair := s.pair, rcd := s.rcd, out := [] } = { s with out := [] })

/-- Radio `i` may send a PSDU of `n` octets under `key` at `b`, before `stop`: the unit may transmit, the radio is ready, its plan limits no
air time, and the key gives the counter `c`. -/
def sendFree (i key n b stop c : Nat) (s : State) : Prop :=
  s.onAirAllowed = true ∧ (s.radio i).ready b = true ∧ b + perNs * s.airNs i n ≤ stop ∧ (s.planRec i).elim 2 (·.band) ≠ 0 ∧
  (s.planRec i).elim 2 (·.band) ≠ 1 ∧ (State.takeCounter i key s).1 = some c

/-- Broadcasts: the beacon carries the go bits as they stand and clears the change map; a beacon started is no failure, and one that
is missing degrades the unit: a lone lead enters HOLD, one with a standby restarts with cause 0x04 and its claim released. With a
cell cause the STOP frame names all; a CORR entry sends the next octets of the stream from 15 ms after the epoch on, and a unit
that may not transmit sends nothing. Rules: R165, R204, R212, R214, R215, R235. Model's choices: logs 14, 120, 121. -/
def Obligations.BroadcastEntries : Prop :=
  (∀ (s : State) (e : DeckEntry) (b c : Nat), entryServed 0 1 beaconRead e b s → s.rad.late = none →
    sendFree 0 (s.bcastKey 0) 74 b (e.stop b) c s →
    ∃ t a, exec .beaconEntry s = .next t ∧ t.out.getLast? = some (.air a) ∧ a.radio = 0 ∧ a.start = b ∧ a.channel = s.entryChannel 0 e b ∧
      a.counter = c ∧ a.payload.length = 52 ∧ getLe a.payload 0 1 = 1 ∧ (a.payload.drop 8).take 32 = leBytes 32 s.fleet.go.toNat ∧
      t.rad.beaconStart = some b ∧ t.rad.changeMap = 0 ∧ t.stop.bitmap = s.fleet.go ∧ t.rad.a.cntTx = s.rad.a.cntTx + 1#32 ∧
      t.fleet = s.fleet ∧ t.sys = s.sys ∧ t.rad.b = s.rad.b ∧ t.lake = s.lake ∧ t.trk = s.trk ∧ t.pending = s.pending) ∧
  (∀ (s : State) (e : DeckEntry) (b : Nat), s.inService = true → s.time.running = true →
    s.nextEntry 0 (entryMark 0 8) beaconLimit (fun e => decide (e.kind = 1)) = some (e, b) → s.rad.beaconStart = some b → s.rad.txFail = false →
    ∃ t, exec .beaconStartTimeout s = .next t ∧ t.time.frc = (s.reach (b + beaconLimit)).time.frc ∧
      { t with time.frc := s.time.frc, time.marks := s.time.marks } = { s with out := [] }) ∧
  (∀ (s : State) (e : DeckEntry) (b : Nat), s.sys.mode = .lead → s.time.running = true → s.onAirAllowed = true →
    s.nextEntry 0 (entryMark 0 8) beaconLimit (fun e => decide (e.kind = 1)) = some (e, b) → s.rad.beaconStart ≠ some b → s.rad.skipAt ≠ some b →
    s.rad.late = none → s.rad.serveFrom ≤ b → s.sys.degraded = false → s.hasStandby = false →
    ∃ t, exec .beaconStartTimeout s = .next t ∧ t.sys.degraded = true ∧ t.sys.mode = .hold ∧ bit t.cellSet causeDegraded = true ∧
      t.pair.claim = s.pair.claim ∧ t.rad.txFail = false ∧ t.lake = s.lake ∧ t.trk = s.trk ∧ t.keys = s.keys ∧ t.flash = s.flash ∧
      t.pending = s.pending) ∧
  (∀ (s : State) (e : DeckEntry) (b : Nat), s.sys.mode = .lead → s.time.running = true → s.onAirAllowed = true →
    s.nextEntry 0 (entryMark 0 8) beaconLimit (fun e => decide (e.kind = 1)) = some (e, b) → s.rad.beaconStart ≠ some b → s.rad.skipAt ≠ some b →
    s.rad.late = none → s.rad.serveFrom ≤ b → s.sys.degraded = false → s.hasStandby = true → s.sys.succession < 3 →
    ∃ t, exec .beaconStartTimeout s = .next t ∧ t.sys.mode = .start ∧ t.sys.cause = 4 ∧ t.pair.claim = false ∧ t.keys = s.keys ∧
      t.flash = s.flash ∧ t.pending = s.pending) ∧
  (∀ (s : State) (e : DeckEntry) (b c : Nat), entryServed 0 2 (-((250 * perUs : Nat) : Int)) e b s → s.cellSet ≠ 0 →
    sendFree 0 (s.bcastKey 0) 29 b (e.stop b) c s →
    ∃ t a, exec .stopEntry s = .next t ∧ t.out.getLast? = some (.air a) ∧ a.start = b ∧ a.channel = s.entryChannel 0 e b ∧ a.counter = c ∧
      a.payload = [0x02#8, 128#8] ++ leBytes 1 (s.fleet.serial % 256) ++ List.replicate 4 0xFF#8 ∧ t.rad.a.cntStop = s.rad.a.cntStop + 1#32 ∧
      t.stop.cellSince = none ∧ t.fleet = { s.fleet with serial := s.fleet.serial % 256 } ∧ t.sys = s.sys ∧ t.rad.b = s.rad.b ∧
      t.pending = s.pending) ∧
  (∀ (s : State) (e : DeckEntry) (b c : Nat), entryServed 0 3 0 e b s → s.meas.job = none → s.meas.airFrom ≤ b →
    s.corrOctets.take (corrRoom e.length) ≠ [] →
    sendFree 0 (s.bcastKey 0) (27 + (s.corrOctets.take (corrRoom e.length)).length) b (e.stop b) c s →
    ∃ t a, exec .corrEntry s = .next t ∧ t.out.getLast? = some (.air a) ∧ a.start = b ∧ a.counter = c ∧
      a.payload.drop 5 = s.corrOctets.take (corrRoom e.length) ∧ getLe a.payload 0 1 = 3 ∧ t.meas.airSeq = (s.meas.airSeq + 1) % 256 ∧
      t.corrOctets = s.corrOctets.drop (corrRoom e.length) ∧ t.fleet = s.fleet ∧ t.sys = s.sys ∧ t.stop = s.stop ∧ t.rad.b = s.rad.b ∧
      t.pending = s.pending) ∧
  (∀ (s : State) (e : DeckEntry) (b : Nat), entryServed 0 3 0 e b s → s.meas.job = none → b < s.meas.airFrom ∨ s.onAirAllowed = false →
    ∃ t, exec .corrEntry s = .next t ∧ t.time.frc = (s.reach b).time.frc ∧
      { t with time.frc := s.time.frc, time.marks := s.time.marks } = { s with out := [] })

/-- Unicast frames: the one frame queued for a session goes out in the next DOWN entry of Deck A and awaits its acknowledgement, which
takes it from the queue and, for CLOSE, frees the session; NODE_DATA goes out 1.0 ms after an acknowledgement with the pending
bit. A CEILING not acknowledged for 100 ms ends the mirror and frees the ceilings that waited. Rules: R222, R224, R225, R232.
Model's choices: logs 50, 121, 123, 192. -/
def Obligations.UnicastFrames : Prop :=
  (∀ (s : State) (e : DeckEntry) (u : Unicast) (b k c : Nat), entryServed 0 4 0 e b s → s.entryAt 0 s.now = none → s.fleet.unicast = [u] →
    u.radio = 0 → u.kind ≠ 0x21 → u.sent = 0 → s.unicastKey u = some k → s.rad.a.sentEnd < b →
    b + perNs * (s.airNs 0 u.psdu + 200000 + s.airNs 0 7) ≤ e.stop b → sendFree 0 k u.psdu b (e.stop b) c s →
    ∃ t a, exec (.downEntry 0) s = .next t ∧ t.out.getLast? = some (.air a) ∧ a.radio = 0 ∧ a.start = b ∧ a.dest = some u.dest ∧
      a.payload = u.payload ∧ a.key = k ∧ a.counter = c ∧ a.seq = some (u.seq.getD (s.fleet.dsn.getD 0 0)) ∧
      t.fleet.unicast = [{ u with sent := 1, first := b, last := b, seq := a.seq }] ∧ t.rad.a.sent.isSome = true ∧
      t.rad.a.cntTx = s.rad.a.cntTx + 1#32 ∧ t.rad.b = s.rad.b ∧ t.sys = s.sys ∧ t.stop = s.stop ∧ t.pending = s.pending) ∧
  (∀ (s : State) (i : Fin 2) (q : BitVec 8) (a : AwaitAck), s.inService = true → (s.radio i.val).sent = some a → a.seq = q.toNat →
    a.frame.kind ∉ [0x05, 0x07, 0x21, 0x22] →
    ∃ t, exec (.ackReceived i q) s = .next t ∧ t.radio i.val = { s.radio i.val with sent := none } ∧
      t.radio (1 - i.val) = s.radio (1 - i.val) ∧
      t.fleet.unicast = s.fleet.unicast.filter (fun (x : Unicast) => !decide (x.radio = i.val ∧ x.seq = a.frame.seq ∧ x.kind = a.frame.kind ∧
        x.dest = a.frame.dest)) ∧
      t.time.frc = (s.reach (s.radio i.val).sentEnd).time.frc ∧
      { t with rad.a := s.rad.a, rad.b := s.rad.b, fleet.unicast := s.fleet.unicast, time.frc := s.time.frc } = { s with out := [] }) ∧
  (∀ (s : State) (q : BitVec 8) (a : AwaitAck), s.inService = true → s.rad.a.sent = some a → a.seq = q.toNat → a.frame.kind = 0x07 →
    (s.rs a.frame.dest).state ≠ 0 → Tab.wf {} s.fleet.sessions = true → Tab.wf 0 s.fleet.causes = true →
    ∃ t, exec (.ackReceived 0 q) s = .next t ∧ t.rs a.frame.dest = {} ∧ t.causes a.frame.dest = 0 ∧ goBit t.fleet.go a.frame.dest = false ∧
      (∀ u ∈ t.fleet.unicast, u.radio = 0 → u.extended = false → u.dest ≠ a.frame.dest) ∧
      t.inp.closed = s.inp.closed ++ [(a.frame.dest, (s.rs a.frame.dest).identity)] ∧
      (∀ k, k ≠ a.frame.dest → t.rs k = s.rs k ∧ t.causes k = s.causes k) ∧ t.sys = s.sys ∧ t.rad.b = s.rad.b ∧ t.pending = s.pending) ∧
  (∀ (s : State) (e : DeckEntry) (u : Unicast) (a b m k key c : Nat), s.rad.b.contact = some (a, m, k) → k < 4 → s.fleet.unicast = [u] →
    u.radio = 1 → u.kind = 0x21 → u.dest = a → u.sent = 0 → s.unicastKey u = some key → s.entryAt 1 m = some (e, b) →
    1000 * perUs + m + perNs * (s.airNs 1 u.psdu + 200000 + s.airNs 1 11) ≤ e.stop b →
    sendFree 1 key u.psdu (1000 * perUs + m) (e.stop b) c s →
    ∃ t f, exec .nodeDataSend s = .next t ∧ t.out.getLast? = some (.air f) ∧ f.radio = 1 ∧ f.start = 1000 * perUs + m ∧ f.dest = some a ∧
      f.payload = u.payload ∧ f.counter = c ∧ t.rad.b.contact = some (a, t.rad.b.sentEnd, k + 1) ∧
      t.rad.b.cntTx = s.rad.b.cntTx + 1#32 ∧ t.rad.a = s.rad.a ∧ t.sys = s.sys ∧ t.stop = s.stop ∧ t.pending = s.pending) ∧
  (∀ (s : State) (k n c : Nat), s.pair.ceilingDue = [(k, n)] → (Tab.get {} s.rad.keys k).raised = some c → Tab.wf {} s.rad.keys = true →
    ∃ t, exec .ceilingAckTimeout s = .next t ∧ t.pair.ceilingDue = [] ∧ t.pair.mirrored = false ∧
      Tab.get {} t.rad.keys k = { Tab.get {} s.rad.keys k with ceiling := c, raised := none } ∧
      (∀ m, m ≠ k → Tab.get {} t.rad.keys m = Tab.get {} s.rad.keys m) ∧
      { t with pair := s.pair, rad.keys := s.rad.keys, rcd := s.rcd, time.frc := s.time.frc } = { s with out := [] })

/-- The end of a received frame: its start and its time on air (R205). -/
def rxEnd (i : Nat) (f : RxFrame) (s : State) : Nat := f.time + s.airNs i f.psdu * perNs

/-- A received frame keeps its radio busy to its end; one whose PHR asks for the 2-octet FCS or a mode switch is discarded; a bad FCS
or a bad MIC is dropped and counted, and so is a replayed counter; an accepted frame of a session is delivered once, moves the
session's counter on and ends its silence; a standby that has an image keeps what it hears and delivers nothing. Rules: R199,
R221, R223, R349. Model's choices: logs 8, 122, 192. -/
def Obligations.FramesReceived : Prop :=
  (∀ (s : State) (i : Fin 2) (f : RxFrame), s.isLead = true → s.sys.saving = false → f.phr.unsupported = false →
    s.hears i.val f = true → f.fcsOk = false →
    ∃ t, exec (.frameReceived i f) s = .next t ∧ t.radio i.val = { s.radio i.val with busy := rxEnd i.val f s, cntFcs := (s.radio i.val).cntFcs + 1#32 } ∧
      { t with rad.a := s.rad.a, rad.b := s.rad.b, time.frc := s.time.frc } = { s with out := [] } ∧
      t.radio (1 - i.val) = s.radio (1 - i.val)) ∧
  (∀ (s : State) (i : Fin 2) (f : RxFrame), s.isLead = true → s.sys.saving = false → f.phr.unsupported = false →
    s.hears i.val f = true → f.fcsOk = true →
    s.headerOk i.val f = true → s.micOk i.val f = false →
    ∃ t, exec (.frameReceived i f) s = .next t ∧
      t.radio i.val = { s.radio i.val with busy := rxEnd i.val f s, cntMic := (s.radio i.val).cntMic + 1#32, events := (s.radio i.val).events ||| 4#32 } ∧
      t.radio (1 - i.val) = s.radio (1 - i.val) ∧
      { t with rad.a := s.rad.a, rad.b := s.rad.b, time.frc := s.time.frc, rcd := s.rcd } = { s with out := [] }) ∧
  (∀ (s : State) (i : Fin 2) (f : RxFrame), s.isLead = true → s.sys.saving = false → f.phr.unsupported = false →
    s.hears i.val f = true → f.fcsOk = true →
    s.headerOk i.val f = true → s.micOk i.val f = true → (s.dupOf i.val f).isDup f.seq = false →
    f.counter < Tab.get 0 s.fleet.counters (sendKeyNo ((s.epochOf f).elim 0 (·.1)) (2 + i.val) (s.identityOf i.val f)) →
    ∃ t, exec (.frameReceived i f) s = .next t ∧
      t.radio i.val = { s.radio i.val with busy := rxEnd i.val f s, cntReplay := (s.radio i.val).cntReplay + 1#32, events := (s.radio i.val).events ||| 8#32 } ∧
      t.radio (1 - i.val) = s.radio (1 - i.val) ∧
      { t with rad.a := s.rad.a, rad.b := s.rad.b, time.frc := s.time.frc, rcd := s.rcd } = { s with out := [] }) ∧
  (∀ (s : State) (a : Nat) (f : RxFrame), s.isLead = true → s.sys.saving = false → f.phr.unsupported = false →
    s.hears 0 f = true → f.fcsOk = true → f.source = .short a →
    s.headerOk 0 f = true → s.micOk 0 f = true → (s.dupOf 0 f).isDup f.seq = false →
    Tab.get 0 s.fleet.counters (sendKeyNo ((s.epochOf f).elim 0 (·.1)) 2 (s.identityOf 0 f)) ≤ f.counter →
    ∃ t, exec (.frameReceived 0 f) s = .next t ∧ t.rad.delivered = s.rad.delivered ++ [⟨0, .short a, f.payload, f.time, f.rssi, f.counter⟩] ∧
      (t.rs a).state = 1 ∧ (t.rs a).missed = 0 ∧ (t.rs a).heard = true ∧ (t.rs a).rssi = f.rssi ∧ (t.rs a).identity = (s.rs a).identity ∧
      t.fleet.counters = Tab.set 0 s.fleet.counters (sendKeyNo ((s.epochOf f).elim 0 (·.1)) 2 (s.identityOf 0 f)) (f.counter + 1) ∧
      t.rad.a.cntRx = s.rad.a.cntRx + 1#32 ∧ (∀ k, k ≠ a → t.rs k = s.rs k) ∧ t.rad.b = s.rad.b ∧ t.sys = s.sys ∧ t.stop = s.stop ∧
      t.inp = s.inp ∧ t.pair = s.pair ∧ t.pending = s.pending) ∧
  (∀ (s : State) (i : Fin 2) (f : RxFrame), s.sys.mode = .shadow → s.sys.saving = false → f.phr.unsupported = false →
    s.hears i.val f = true →
    s.pair.imageTick.isSome = true →
    ∃ t, exec (.frameReceived i f) s = .next t ∧ t.pair = { s.pair with heard := s.pair.heard ++ [⟨i.val, f⟩] } ∧
      t.radio i.val = { s.radio i.val with busy := rxEnd i.val f s } ∧ t.radio (1 - i.val) = s.radio (1 - i.val) ∧
      t.time.frc = (s.reach (rxEnd i.val f s)).time.frc ∧
      { t with pair := s.pair, rad.a := s.rad.a, rad.b := s.rad.b, time.frc := s.time.frc } = { s with out := [] }) ∧
  (∀ (s : State) (i : Fin 2) (f : RxFrame), s.inService = true → s.sys.saving = false → f.phr.unsupported = true →
    exec (.frameReceived i f) s = .next { s with out := [] })

/-- Delivered uplink frames take effect, each leaving the queue: REPORT and ASK reach the next snapshot, a ROUTE part and an AUDIT
fragment are collected, JOIN opens a session for a robot of the image, confirms the one it has, or is rejected. Rules: R217, R218,
R219, R227, R229. Model's choices: log 122. -/
def Obligations.UplinkFrames : Prop :=
  (∀ (s : State) (d : Delivered) (r : List Delivered), s.rad.delivered = d :: r → fromSession 0x10 (fun n => n == 19) d = true →
    (s.rs d.session).state ≠ 0 →
    ∃ t, exec .report s = .next t ∧ t.rad.delivered = r ∧ t.inp.reported = s.inp.reported ++ [(d.session, reportOf d)] ∧
      (t.rs d.session).report = some (reportOf d) ∧ (t.rs d.session).state = (s.rs d.session).state ∧
      (∀ k, k ≠ d.session → t.rs k = s.rs k ∧ t.causes k = s.causes k) ∧ t.sys = s.sys ∧ t.time = s.time ∧ t.pending = s.pending) ∧
  (∀ (s : State) (d : Delivered) (r : List Delivered), s.rad.delivered = d :: r → fromSession 0x11 (fun n => n == 19) d = true →
    (s.rs d.session).state ≠ 0 →
    ∃ t, exec .ask s = .next t ∧ t.rad.delivered = r ∧ t.inp.reported = s.inp.reported ++ [(d.session, reportOf d)] ∧
      (t.rs d.session).report = some (reportOf d) ∧ (t.rs d.session).state = (s.rs d.session).state ∧
      (∀ k, k ≠ d.session → t.rs k = s.rs k ∧ t.causes k = s.causes k) ∧ t.sys = s.sys ∧ t.time = s.time ∧ t.pending = s.pending) ∧
  (∀ (s : State) (d : Delivered) (r : List Delivered), s.rad.delivered = d :: r → fromSession 0x12 (fun n => n == 19) d = true →
    (s.rs d.session).state ≠ 0 → ((s.xs d.session).route.map (·.id)) ≠ some (getLe d.payload 1 1 % 64) →
    ((s.xs d.session).pending.map (·.id)) ≠ some (getLe d.payload 1 1 % 64) →
    getLe d.payload 2 1 % 32 + (getLe d.payload 2 1 / 32 + 1) ≤ 32 →
    ∃ t a, exec .route s = .next t ∧ ((t.rs d.session).asm = some a ∨ (t.rs d.session).done = some a) ∧ a.id = getLe d.payload 1 1 % 64 ∧
      (∀ k, k < getLe d.payload 2 1 / 32 + 1 → Tab.get 0x10000 a.places (getLe d.payload 2 1 % 32 + k) = getLe d.payload (3 + 2 * k) 2) ∧
      (∀ k, k ≠ d.session → t.rs k = s.rs k) ∧
      { t with fleet.sessions := s.fleet.sessions, rad.delivered := s.rad.delivered } = { s with out := [] } ∧ t.rad.delivered = r) ∧
  (∀ (s : State) (d : Delivered) (r : List Delivered), s.rad.delivered = d :: r → fromSession 0x13 (fun n => decide (4 ≤ n)) d = true →
    (s.rs d.session).state ≠ 0 → 4 < d.payload.length →
    ∃ t v, exec .audit s = .next t ∧ (t.rs d.session).snap = some v ∧ v.epoch = getLe d.payload 1 2 ∧
      v.count = getLe d.payload 3 1 / 16 + 1 ∧ Tab.get none v.parts (getLe d.payload 3 1 % 16) = some (d.payload.drop 4) ∧
      (∀ k, k ≠ d.session → t.rs k = s.rs k) ∧
      { t with fleet.sessions := s.fleet.sessions, rad.delivered := s.rad.delivered } = { s with out := [] } ∧ t.rad.delivered = r) ∧
  (∀ (s : State) (d : Delivered) (r : List Delivered) (x n : Nat) (w : RobotRec), s.rad.delivered = d :: r → d.radio = 0 →
    d.source = .ext x → getLe d.payload 0 1 = 0x14 → d.payload.length = 8 → s.robotRec x = some w →
    (s.spanRec (getLe d.payload 3 2)).isSome = true → (∀ k ∈ s.openSessions, (s.rs k).identity ≠ x) →
    s.assign x (getLe d.payload 1 1) (bit w.flags 0) (bit (getLe d.payload 2 1) 0) = some n →
    ∃ t, exec .join s = .next t ∧ (t.rs n).state = 1 ∧ (t.rs n).identity = x ∧ (t.rs n).cls = w.cls ∧
      (t.rs n).span = getLe d.payload 3 2 ∧ t.inp.opened = s.inp.opened ++ [(n, d.time)] ∧
      (t.fleet.unicast.getLast?).map (fun u => (u.kind, u.dest, u.extended, u.payload)) = some (6, x, true, [0x06#8, 0#8] ++ leBytes 1 n ++ leBytes 1 w.cls) ∧
      (∀ k, k ≠ n → t.rs k = s.rs k) ∧ t.rad.delivered = r ∧ t.stop = s.stop ∧ t.sys = s.sys ∧ t.pending = s.pending) ∧
  (∀ (s : State) (d : Delivered) (r : List Delivered) (x : Nat), s.rad.delivered = d :: r → d.radio = 0 →
    d.source = .ext x → getLe d.payload 0 1 = 0x14 → d.payload.length = 8 → s.robotRec x = none →
    ∃ t, exec .join s = .next t ∧ t.fleet.sessions = s.fleet.sessions ∧ t.rad.a = { s.rad.a with events := s.rad.a.events ||| 32#32 } ∧
      (t.fleet.unicast.getLast?).map (fun u => (u.kind, u.dest, u.extended, u.payload)) = some (6, x, true, [0x06#8, 1#8, 0xFF#8, 0#8]) ∧
      t.rad.delivered = r ∧ { t with fleet.unicast := s.fleet.unicast, rad := s.rad, rcd := s.rcd } = { s with out := [] })

/-- Silence: three cycles without an accepted frame make a session SILENT and set its cause SILENT, in it alone; a NODE_REPORT outside
any contact keeps the node's values and reaches the next snapshot; the third contact of a robot node missed in a row makes it
LOST. Rules: R227, R228, R231, R232. Model's choices: logs 5, 122. -/
def Obligations.SilentSessionsAndNodes : Prop :=
  (∀ (s : State) (n : Fin 256), (s.rs n.val).state = 1 → 3 ≤ (s.rs n.val).missed → s.isLead = true →
    ∃ t, exec (.sessionSilent n) s = .next t ∧ (t.rs n.val).state = 2 ∧ (t.rs n.val).identity = (s.rs n.val).identity ∧
      bit (t.causes n.val) sessSilent = true ∧ (bit (s.causes n.val) sessSilent = false → goBit t.fleet.go n.val = false) ∧
      t.rad.a.events = s.rad.a.events ||| 16#32 ∧ (∀ k, k ≠ n.val → t.rs k = s.rs k ∧ t.causes k = s.causes k) ∧ t.fleet.cell = s.fleet.cell ∧
      t.sys = s.sys ∧ t.pair = s.pair ∧ t.time = s.time ∧ t.pending = s.pending) ∧
  (∀ (s : State) (d : Delivered) (r : List Delivered) (a : Nat), s.rad.delivered = d :: r → d.radio = 1 → d.source = .short a →
    getLe d.payload 0 1 = 0x30 → getLe d.payload 2 1 ≤ 8 → d.payload.length = 3 + 6 * getLe d.payload 2 1 → s.contactOf a d.time = none →
    ∃ t l, exec .nodeReport s = .next t ∧ l.length = getLe d.payload 2 1 ∧
      t.node a = { s.node a with battery := getLe d.payload 1 1, items := l, reported := some (secOf d.time % 2 ^ 32) } ∧
      t.inp.reports = s.inp.reports ++ [(a, l, d.time)] ∧ (∀ k, k ≠ a → t.node k = s.node k) ∧ t.rad.delivered = r ∧
      { t with fleet.nodes := s.fleet.nodes, inp.reports := s.inp.reports, rad.delivered := s.rad.delivered } = { s with out := [] }) ∧
  (∀ (s : State) (a : BitVec 12) (r : NodeRec), s.nodeRec a.toNat = some r → r.kind = 0 → s.isLead = true → s.time.running = true →
    ∃ t, exec (.nodeContactMissed a) s = .next t ∧ (t.node a.toNat).missed = min 3 ((s.node a.toNat).missed + 1) ∧
      (t.node a.toNat).state = (if 2 ≤ (s.node a.toNat).missed then 2 else (s.node a.toNat).state) ∧
      (t.node a.toNat).items = (s.node a.toNat).items ∧ (∀ k, k ≠ a.toNat → t.node k = s.node k) ∧
      { t with fleet.nodes := s.fleet.nodes, rad.b.events := s.rad.b.events, rcd := s.rcd, time.frc := s.time.frc } = { s with out := [] })

/-- Core work: a core that asks with nothing to take halts in its ask; one that asks for queue 28 takes its only descriptor, which
leaves the queue; a descriptor stored with no core waiting joins the end of its queue, its sequence 0 (log 112); a completed task
leaves its worker and frees its flow. A core's clock stops with its ask, the core PLL with the last core, and a core that work
wakes runs once its clock is ready. Rules: R26, R249, R256. Model's choices: log 112. -/
def Obligations.CoreWork : Prop :=
  (∀ (s : State) (n : Fin 8) (m : BitVec 4), s.powered = true → s.tres.frozen.getLsbD n.val = false → (s.wk (256 + n.val)).task = none →
    (∀ q, 28 ≤ q → q < 32 → (s.queue q).ring = []) →
    ∃ t, exec (.coreAsk n m) s = .next t ∧
      t.wk (256 + n.val) = { s.wk (256 + n.val) with ask := some (m.toNat * 2 ^ 28, tickOf s.now), lastMask := m.toNat * 2 ^ 28 } ∧
      (∀ k, k ≠ 256 + n.val → t.wk k = s.wk k) ∧
      t.clk = { s.clk with cores := s.clk.cores &&& ~~~(BitVec.ofNat 8 (2 ^ n.val))
                           corePll := decide (s.clk.cores &&& ~~~(BitVec.ofNat 8 (2 ^ n.val)) ≠ 0#8) } ∧
      { t with fleet.dsp.workers := s.fleet.dsp.workers, clk := s.clk, freg.works := s.freg.works } = { s with out := [] }) ∧
  (∀ (s : State) (n : Fin 8) (d : Desc), s.powered = true → s.tres.frozen.getLsbD n.val = false → (s.wk (256 + n.val)).task = none →
    (s.queue 28).ring = [some d] → d.flow = 1023 → d.bound = 0xFF →
    ∃ t, exec (.coreAsk n 1#4) s = .next t ∧ (t.wk (256 + n.val)).ask = none ∧
      (t.wk (256 + n.val)).task.map (·.desc) = some { d with lastSession := 256 + n.val } ∧ (t.queue 28).ring = [] ∧
      (t.queue 28).rd = (s.queue 28).rd + 1 ∧ (∀ q, q ≠ 28 → t.queue q = s.queue q) ∧
      t.clk = { s.clk with
        cores := s.clk.cores ||| BitVec.ofNat 8 (2 ^ n.val), corePll := true
        readyAt := if s.clk.cores.getLsbD n.val then s.clk.readyAt
          else Tab.set 0 s.clk.readyAt domCore (s.ns + (if s.clk.corePll then 40 else domStart domCore)) } ∧
      { t with fleet.dsp := s.fleet.dsp, clk := s.clk, freg := s.freg } = { s with out := [] }) ∧
  (∀ (s : State) (q : Fin 4) (b : List Octet), s.powered = true → s.credit (28 + q.val) ≠ 0 →
    (∀ n, n < 8 → (s.wk (256 + n)).ask = none) →
    ∃ t, exec (.coreDescriptorArrive q b) s = .next t ∧
      (t.queue (28 + q.val)).ring = (s.queue (28 + q.val)).ring ++ [some { descOf (padTo 64 b) with
        queue := 28 + q.val, submitted := msOf s.now % 2 ^ 32, sequence := 0 }] ∧
      (∀ k, k ≠ 28 + q.val → t.queue k = s.queue k) ∧ { t with fleet.dsp.queues := s.fleet.dsp.queues } = { s with out := [] }) ∧
  (∀ (s : State) (n : Fin 8) (v : Service), (s.wk (256 + n.val)).task = some v → Tab.wf {} s.fleet.dsp.workers = true →
    ∃ t, exec (.coreTaskComplete n) s = .next t ∧ t.wk (256 + n.val) = { s.wk (256 + n.val) with task := none } ∧
      (∀ k, k ≠ 256 + n.val → t.wk k = s.wk k) ∧
      (v.desc.flow ≠ 1023 → t.flow v.desc.flow = { s.flow v.desc.flow with last := some (256 + n.val) }) ∧
      (∀ f, f ≠ v.desc.flow → t.flow f = s.flow f) ∧ t.fleet.dsp.queues = s.fleet.dsp.queues ∧
      t.time.frc = (s.whenReady domCore).time.frc ∧ { t with fleet.dsp := s.fleet.dsp, time.frc := s.time.frc } = { s with out := [] })

/-- DSP_FLUSH empties each named queue of the lead, its read pointer moving past what it held, and no other; DSP_STAT_CLR clears the
wait statistics of every queue; PEEK_LATCH copies the selected descriptor with the depth of its queue, or shows that there is
none. Rules: R267, R271. Model's choices: logs 86, 112. -/
def Obligations.QueueCommands : Prop :=
  (∀ (s : State) (v : Word), s.isLead = true → s.tick = none → Tab.wf {} s.fleet.dsp.queues = true →
    (∀ q, q < 28 → bit v.toNat q = true → (s.queueRec q).isSome = true) →
    ∃ t, exec (.dspFlush v) s = .next t ∧
      (∀ q, q < 28 → bit v.toNat q = true → (t.queue q).ring = [] ∧ (t.queue q).rd = (s.queue q).rd + (s.queue q).ring.length) ∧
      (∀ q, 28 ≤ q ∨ bit v.toNat q = false → t.queue q = s.queue q) ∧ t.fleet.xarb = s.fleet.xarb ∧ t.fleet.prof = s.fleet.prof ∧
      t.fleet.dsp.flows = s.fleet.dsp.flows ∧ t.sys = s.sys ∧ t.tick = none ∧ t.pending = s.pending) ∧
  (∀ s : State, s.powered = true → Tab.wf {} s.freg.waits = true →
    ∃ t, exec .dspStatClr s = .next t ∧
      (∀ q, Tab.get {} t.freg.waits q = { (Tab.get {} s.freg.waits q : WaitStat) with count := 0, sum := 0, max := 0, bins := [] }) ∧
      { t with freg.waits := s.freg.waits } = { s with out := [] }) ∧
  (∀ (s : State) (q : Fin 32) (i : Fin 4096) (d : Desc), s.powered = true →
    ((selectionOrder (s.shownQueue q.val).stored)[i.val]?).map (·.2) = some d →
    exec (.peekLatch q i none) s = .next { s with
      out := [], freg.peekQueue := q.val, freg.peekIndex := i.val, freg.peekValid := true
      freg.peekDepth := (s.shownQueue q.val).depth, freg.peek := d.octets }) ∧
  (∀ (s : State) (q : Fin 32) (i : Fin 4096), s.powered = true →
    (selectionOrder (s.shownQueue q.val).stored)[i.val]? = none →
    exec (.peekLatch q i none) s = .next { s with
      out := [], freg.peekQueue := q.val, freg.peekIndex := i.val, freg.peekValid := false
      freg.peekDepth := (s.shownQueue q.val).depth, freg.peek := [] })

/-- The request is taken and waits: nothing has been sent, and its sequence number is in progress. -/
def waiting (f : ChpFrame) (k : Nat) (t : State) : Prop :=
  t.out = [] ∧ (t.hs k).processing = [f.sequence.toNat] ∧ (t.hs k).lastSeq = f.sequence.toNat

/-- What waits for the next snapshot: a submission with its descriptors in order, a RELEASE, a FORCE_RELEASE, a class change of an
open session (refused for a FREE one), the end of the NO_ESCAPE holds. Taking a request answers nothing yet. Rules: R244, R292,
R296, R298, R324. Model's choices: log 44. -/
def Obligations.OrdersWaitForTheSnapshot : Prop :=
  (∀ (s : State) (f : ChpFrame) (k : Nat), chpPasses 0x0020 (some 2) true f k s → 1 ≤ getLe f.body 0 1 → getLe f.body 0 1 ≤ 16 →
    f.body.length = 4 + 64 * getLe f.body 0 1 → zeros f.body 1 3 = true →
    ∃ t, exec (.taskSubmit f) s = .next t ∧ t.inp = { s.inp with submissions := s.inp.submissions ++
        [⟨f, (s.hs k).host, (List.range (getLe f.body 0 1)).map (fun i => slice f.body (4 + 64 * i) 64)⟩] } ∧
      waiting f k t ∧ { t with inp := s.inp, host := s.host } = { s with out := [] }) ∧
  (∀ (s : State) (f : ChpFrame) (k : Nat), chpPasses 0x0031 (some 3) true f k s → scopeOk f = true →
    ∃ t, exec (.release f) s = .next t ∧ t.inp = { s.inp with releases := s.inp.releases ++
        [⟨0x0031, getLe f.body 0 1, getLe f.body 1 1, (s.hs k).host, some f, 0⟩] } ∧
      waiting f k t ∧ { t with inp := s.inp, host := s.host } = { s with out := [] }) ∧
  (∀ (s : State) (f : ChpFrame) (k : Nat), chpPasses 0x0080 (some 8) true f k s → f.body.length = 4 → getLe f.body 0 1 ≤ 3 →
    zeros f.body 1 1 = true →
    ∃ t, exec (.forceRelease f) s = .next t ∧ t.inp = { s.inp with forces := s.inp.forces ++
        [⟨0x0080, getLe f.body 0 1, getLe f.body 2 2, (s.hs k).host, some f, 0⟩] } ∧
      waiting f k t ∧ { t with inp := s.inp, host := s.host } = { s with out := [] }) ∧
  (∀ (s : State) (n : Fin 256) (c : Fin 4), s.isLead = true → (s.rs n.val).state ≠ 0 →
    exec (.xarbClassSet n c) s = .next { s with out := [], inp.classes := s.inp.classes ++ [(n.val, c.val)] }) ∧
  (∀ (s : State) (n : Fin 256) (c : Fin 4), (s.rs n.val).state = 0 → exec (.xarbClassSet n c) s = .next { s with out := [] }) ∧
  (∀ s : State, s.isLead = true → exec .xarbAlarmClr s = .next { s with out := [], inp.alarmClr := true })

/-- FSTOP: STOP sets HOST in the cell or in one session and is answered at once; a stop input in stop sets INPUT at a lead, inputs
that differ set DISCREPANCY; a stop edge during a save is recorded; a cell cause newly set clears every go bit, a session cause
only that session's; ROBOT_CLOSE queues CLOSE and waits for the publication. Rules: R56, R321, R322, R323, R324, R482. Model's
choices: log 106. -/
def Obligations.StopCauses : Prop :=
  (∀ (s : State) (f : ChpFrame) (k : Nat), chpPasses 0x0030 (some 3) true f k s → scopeOk f = true → getLe f.body 0 1 = 0 →
    ∃ t, exec (.stop f) s = .next t ∧ bit t.cellSet causeHost = true ∧ (bit s.cellSet causeHost = false → t.fleet.go = 0#256) ∧
      answered f 0x0030 0 [] k t ∧ t.fleet.sessions = s.fleet.sessions ∧ t.fleet.causes = s.fleet.causes ∧ t.sys = s.sys ∧ t.pair = s.pair ∧
      t.time = s.time ∧ t.pending = s.pending) ∧
  (∀ (s : State) (f : ChpFrame) (k : Nat), chpPasses 0x0030 (some 3) true f k s → scopeOk f = true → getLe f.body 0 1 = 1 →
    (s.rs (getLe f.body 1 1)).state ≠ 0 →
    ∃ t, exec (.stop f) s = .next t ∧ bit (t.causes (getLe f.body 1 1)) sessHost = true ∧
      (bit (s.causes (getLe f.body 1 1)) sessHost = false → goBit t.fleet.go (getLe f.body 1 1) = false) ∧
      (∀ n, n ≠ getLe f.body 1 1 → t.causes n = s.causes n ∧ goBit t.fleet.go n = goBit s.fleet.go n) ∧ t.fleet.cell = s.fleet.cell ∧
      answered f 0x0030 0 [] k t ∧ t.sys = s.sys ∧ t.pair = s.pair ∧ t.time = s.time ∧ t.pending = s.pending) ∧
  (∀ (s : State) (f : ChpFrame) (k : Nat), chpPasses 0x0032 (some 3) true f k s → f.body.length = 4 → zeros f.body 1 3 = true →
    (s.rs (getLe f.body 0 1)).state ≠ 0 → (s.rs (getLe f.body 0 1)).closing = false →
    ∃ t, exec (.robotClose f) s = .next t ∧ t.rs (getLe f.body 0 1) = { s.rs (getLe f.body 0 1) with closing := true } ∧
      t.fleet.unicast = s.fleet.unicast ++ [{ radio := 0, kind := 0x07, dest := getLe f.body 0 1, extended := false
                                              payload := [0x07#8, 0#8], tick := tickOf s.now }] ∧
      t.host.awaiting = s.host.awaiting ++ [⟨f, 0x0032, 0, s.nextTick, []⟩] ∧ waiting f k t ∧ (∀ n, n ≠ getLe f.body 0 1 → t.rs n = s.rs n) ∧
      { t with fleet.sessions := s.fleet.sessions, fleet.unicast := s.fleet.unicast, host := s.host } = { s with out := [] }) ∧
  (∀ (s : State) (h : Bool), s.powered = true → s.isLead = false → s.sys.saving = false →
    ∃ t, exec (.stopInput 0 h) s = .next t ∧ t.stop = { s.stop with rawA := h, runA := h, differ := t.stop.differ } ∧
      { t with stop := s.stop } = { s with out := [] }) ∧
  (∀ (s : State) (h : Bool), s.powered = true → s.isLead = false → s.sys.saving = false →
    ∃ t, exec (.stopInput 1 h) s = .next t ∧ t.stop = { s.stop with rawB := h, runB := h, differ := t.stop.differ } ∧
      { t with stop := s.stop } = { s with out := [] }) ∧
  (∀ s : State, s.powered = true → s.isLead = false → s.sys.saving = true → s.stop.runA = true →
    ∃ t, exec (.stopInput 0 false) s = .next t ∧ t.stop = { s.stop with rawA := false, runA := false, differ := t.stop.differ } ∧
      { t with stop := s.stop, rcd := s.rcd } = { s with out := [] } ∧
      t.rcd = (State.report 0x1301 [(1, 0), (2, 0xFFFF), (1, 0)] { s with stop.rawA := false, stop.runA := false, out := [] }).rcd) ∧
  (∀ (s : State) (n : Fin 2), s.isLead = true →
    ∃ t, exec (.stopInput n false) s = .next t ∧ bit t.cellSet causeInput = true ∧ (if n.val = 0 then t.stop.runA else t.stop.runB) = false ∧
      (bit s.cellSet causeInput = false → t.fleet.go = 0#256) ∧ t.sys = s.sys ∧ t.pair = s.pair ∧ t.time = s.time ∧ t.pending = s.pending) ∧
  (∀ (s : State) (d : Nat), s.stop.differ = some d → s.isLead = true →
    ∃ t, exec .discrepancy s = .next t ∧ bit t.cellSet causeDiscrepancy = true ∧
      (bit s.cellSet causeDiscrepancy = false → t.fleet.go = 0#256) ∧ bit t.stop.events.toNat 3 = true ∧
      t.time.frc = (s.atLeast (20000001 + d)).time.frc ∧ t.sys = s.sys ∧ t.pair = s.pair ∧ t.pending = s.pending)

/-- A backbone frame of the type, with `n` body octets, is taken by a lead whose time is set: it is carried and well formed and meets no
reason of R486 to reject it. -/
def backboneTakes (kind n : Nat) (f : ChpFrame) (s : State) : Prop :=
  s.carries f.source = true ∧ s.isLead = true ∧ s.time.servo ≠ .provisional ∧ backboneFormed n f = true ∧ s.backboneReject kind f = none

/-- The unit may send over the backbone: its time is set, slot 4 holds the site key, the host bridge runs, no save does, and a MAC serves CHP
(R468, R486). -/
def backboneSends (s : State) : Prop :=
  s.time.servo ≠ .provisional ∧ (s.keySlot 4).valid = true ∧ s.tres.frozen.getLsbD 8 = false ∧ s.sys.saving = false ∧ s.chpMacs ≠ []

/-- The backbone frame of the type with the given octets to the subnet of each MAC that serves CHP. -/
def backboneOut (kind : Nat) (b : List Octet) (s : State) : List Out :=
  s.chpMacs.map (fun n => .backbone kind ⟨n.mac, n.chpPort, n.broadcast, b⟩)

/-- What the unit notes of a backbone frame that it takes: its place in its cell's order, one more received, and the cell heard now. -/
def backboneNoted (f : ChpFrame) (s t : State) : Prop :=
  Tab.get none t.host.backboneLast (getLe f.body 0 1) = some (f.sequence.toNat, f.index.toNat) ∧
  t.host.backboneRx = s.host.backboneRx + 1#32 ∧ (s.ns ≠ 0 → Tab.get 0 t.guest.heard (getLe f.body 0 1) = s.ns) ∧
  getLe f.body 0 1 ∉ t.guest.lost

/-- Guests of other cells: a request, an answer and a release each wait for the next tick at the cell that they name; BACKBONE_ALIVE
counts as hearing the cell, and is sent at a whole second while a guest slot is held or owned; releases not answered go out again;
a frame of another site is dropped and counted; 10 s of silence mark the cell's slots LOST. Rules: R299, R300, R486, R487. Model's
choices: logs 113, 124. -/
def Obligations.GuestCells : Prop :=
  (∀ (s : State) (f : ChpFrame), backboneTakes 0x00F0 12 f s → getLe f.body 1 1 = s.cellNo →
    (∀ x ∈ s.fleet.xarb.asks, ¬(x.cell = getLe f.body 0 1 ∧ x.session = getLe f.body 2 1 ∧ x.span = getLe f.body 4 2)) →
    ∃ t, exec (.guestRequest f) s = .next t ∧ backboneNoted f s t ∧
      t.fleet = { s.fleet with xarb.asks := s.fleet.xarb.asks ++ [{
        cell := getLe f.body 0 1, span := getLe f.body 4 2, forward := decide (getLe f.body 6 1 = 0), session := getLe f.body 2 1
        cls := getLe f.body 3 1, age := getLe f.body 8 2 }] } ∧
      { t with fleet := s.fleet, host := s.host, guest := s.guest } = { s with out := [] }) ∧
  (∀ (s : State) (f : ChpFrame), backboneTakes 0x00F1 8 f s → getLe f.body 1 1 = s.cellNo →
    ∃ t, exec (.guestAnswer f) s = .next t ∧ backboneNoted f s t ∧
      t.inp = { s.inp with answers := s.inp.answers ++ [(getLe f.body 2 1, getLe f.body 4 2, getLe f.body 3 1)] } ∧
      { t with inp := s.inp, host := s.host, guest := s.guest } = { s with out := [] }) ∧
  (∀ (s : State) (f : ChpFrame), backboneTakes 0x00F2 8 f s → getLe f.body 1 1 = s.cellNo →
    ∃ t, exec (.guestRelease f) s = .next t ∧ backboneNoted f s t ∧
      t.inp = { s.inp with guestReleases := s.inp.guestReleases ++ [(getLe f.body 0 1, getLe f.body 4 2, getLe f.body 2 1)] } ∧
      { t with inp := s.inp, host := s.host, guest := s.guest } = { s with out := [] }) ∧
  (∀ (s : State) (f : ChpFrame), backboneTakes 0x00F3 8 f s →
    ∃ t, exec (.backboneAlive (some f)) s = .next t ∧ backboneNoted f s t ∧
      { t with host := s.host, guest := s.guest } = { s with out := [] }) ∧
  (∀ s : State, s.isLead = true → backboneSends s → s.guestSlots ≠ [] →
    ∃ t b, exec (.backboneAlive none) s = .next t ∧ t.out = backboneOut 0x00F3 b s ∧ t.host.backboneTx = s.host.backboneTx + 1#32 ∧
      t.time.frc = (s.mark markAlive perSec).time.frc ∧
      { t with host := s.host, time.frc := s.time.frc, time.marks := s.time.marks, out := [] } = { s with out := [] }) ∧
  (∀ (s : State) (n x m : Nat), s.isLead = true → s.guest.releasing = [(n, x, m)] → backboneSends s →
    ∃ t b, exec .guestReleaseResend s = .next t ∧ t.out = backboneOut 0x00F2 b s ∧
      (b.drop 20).take 8 = leBytes 1 s.cellNo ++ leBytes 1 n ++ leBytes 1 m ++ [0#8] ++ leBytes 2 x ++ [0#8, 0#8] ∧
      t.guest = { s.guest with sentAt := t.ns } ∧ t.host.backboneTx = s.host.backboneTx + 1#32 ∧
      { t with host := s.host, guest := s.guest, time.frc := s.time.frc, out := [] } = { s with out := [] }) ∧
  (∀ (s : State) (c : Fin 4) (f : ChpFrame), s.carries f.source = true → s.isLead = true → s.time.servo ≠ .provisional →
    backboneFormed (if c.val = 0 then 12 else 8) f = true → f.session.toNat ≠ s.siteId →
    exec (.backboneRejected c f) s = .next (State.report 0x1107 [(1, getLe f.body 0 1), (1, 0)]
      { s with out := [], host.backboneDrop := s.host.backboneDrop + 1#32, host.events := s.host.events ||| 32#32 })) ∧
  (∀ (s : State) (c : Fin 64) (k : Nat) (g : Guest), s.isLead = true → c.val ∉ s.guest.lost → (k, g) ∈ s.guestSlots → g.cell = c.val →
    g.state = 1 → Tab.wf {} s.fleet.xarb.guests = true →
    ∃ t, exec (.guestLost c) s = .next t ∧ c.val ∈ t.guest.lost ∧ Tab.get {} t.fleet.xarb.guests k = { g with state := 2 } ∧
      (∀ m, (Tab.get {} s.fleet.xarb.guests m : Guest).cell ≠ c.val → Tab.get {} t.fleet.xarb.guests m = Tab.get {} s.fleet.xarb.guests m) ∧
      t.fleet.xarb.sessions = s.fleet.xarb.sessions ∧ t.sys = s.sys ∧ t.pair = s.pair ∧ t.host = s.host ∧ t.stop = s.stop ∧
      t.pending = s.pending)

/-- What neither a claim nor its loss touches. -/
def keptByClaim (s t : State) : Prop :=
  t.flash = s.flash ∧ t.keys = s.keys ∧ t.mets = s.mets ∧ t.upd = s.upd ∧ t.saved = s.saved ∧ t.ao.optime = s.ao.optime ∧ t.pending = s.pending

/-- Deciding to claim: unit B notes the decision and samples again, asserting nothing yet; unit A and a lone unit in START assert
CLAIM_OUT and enter HOLD with CORR_AGE where the image orders no survey. At the second sample unit B gives way where CLAIM_IN was
seen, and in START claims where it stayed released. A unit that waits at the end of START for the Viaduct, or is held by
PAIR_MISMATCH, decides again with what it has learnt of the lead: it enters SHADOW with a lead that it accepts, and otherwise
stays in START, held; a unit whose lead has gone and that needs no second sample claims. Rules: R37, R42, R337, R43. Model's
choices: logs 75, 101. -/
def Obligations.ClaimDecided : Prop :=
  (∀ (s : State) (k : TakeIn), s.pair.seeking ≠ 0 → s.pair.claim = false → s.pair.decided = none → s.pair.forceIn = false →
    s.sys.saving = false → s.powered = true → bit s.stop.own causeTamper = false → s.pair.peerClaim = false → s.unitNo = 2 →
    ∃ t, exec (.claimDecision k) s = .next t ∧ t.time.frc = (s.atLeast (s.pair.peerFree.getD s.ns + 2000)).time.frc ∧
      t.pair = { s.pair with decided := some t.ns } ∧
      { t with pair := s.pair, time.frc := s.time.frc, diag := s.diag, stop.differ := s.stop.differ } = { s with out := [] }) ∧
  (∀ (s : State) (k : TakeIn), s.pair.seeking = 6 → s.pair.claim = false → s.pair.decided = none → s.pair.forceIn = false →
    s.sys.saving = false → s.powered = true → bit s.stop.own causeTamper = false → s.pair.peerClaim = false → s.unitNo ≠ 2 → s.baseMode ≠ 1 →
    ∃ t, exec (.claimDecision k) s = .next t ∧ t.pair.claim = true ∧ t.pair.seeking = 0 ∧ t.pair.decided = none ∧ t.sys.mode = .hold ∧
      bit t.cellSet causeCorrAge = true ∧ t.lake = s.lake ∧ t.trk = s.trk ∧ t.rad = s.rad ∧ keptByClaim s t) ∧
  (∀ (s : State) (k : TakeIn) (d : Nat), s.pair.decided = some d → s.pair.claim = false → s.sys.saving = false → s.powered = true →
    exec (.claimBRecheck false k) s = .next { s with
      out := [], time.frc := (s.atLeast (d + 10000)).time.frc, pair.peerClaim := true, pair.peerFree := none, pair.decided := none
      pair.seeking := 0, sys.waitViaduct := s.sys.waitViaduct || decide (s.pair.seeking = 6) }) ∧
  (∀ (s : State) (k : TakeIn) (d : Nat), s.pair.decided = some d → s.pair.claim = false → s.sys.saving = false → s.powered = true →
    s.pair.seeking = 6 → s.pair.forceIn = false → s.baseMode ≠ 1 →
    ∃ t, exec (.claimBRecheck true k) s = .next t ∧ t.pair.claim = true ∧ t.pair.seeking = 0 ∧ t.pair.decided = none ∧ t.sys.mode = .hold ∧
      bit t.cellSet causeCorrAge = true ∧ t.lake = s.lake ∧ t.trk = s.trk ∧ t.rad = s.rad ∧ keptByClaim s t) ∧
  (∀ (s : State) (p : Image) (l : List Nat) (v : Nat), s.sys.mode = .start → s.sys.waitViaduct = true → s.sys.saving = false →
    s.pair.viaUp = true → s.paired = true → s.pair.peerClaim = true →
    State.accepts { s with cfg.partner := some p, pair.checks := l, pair.peer := s.pair.peer % 2 ^ 24 + 2 ^ 24 * (v % 256) } = true →
    ∃ t, exec (.viaductWaitRetry (some p) l v) s = .next t ∧ t.sys.mode = .shadow ∧ t.sys.waitViaduct = false ∧ t.sys.restricted = 0 ∧
      t.pair.claim = s.pair.claim ∧ t.pair.mirrored = false ∧ t.cfg.partner = some p ∧ t.lake = s.lake ∧ t.trk = s.trk ∧ keptByClaim s t) ∧
  (∀ (s : State) (p : Image) (l : List Nat) (v : Nat), s.sys.mode = .start → s.sys.waitViaduct = true → s.sys.saving = false →
    s.pair.viaUp = true → s.paired = true → s.pair.peerClaim = true →
    State.accepts { s with cfg.partner := some p, pair.checks := l, pair.peer := s.pair.peer % 2 ^ 24 + 2 ^ 24 * (v % 256) } = false →
    ∃ t, exec (.viaductWaitRetry (some p) l v) s = .next t ∧
      t.sys = { s.sys with restricted := 6, mismatch := true, waitViaduct := false } ∧
      t.pair = { s.pair with checks := l, peer := s.pair.peer % 2 ^ 24 + 2 ^ 24 * (v % 256) } ∧ t.cfg = { s.cfg with partner := some p } ∧
      { t with sys := s.sys, pair := s.pair, cfg := s.cfg, rcd := s.rcd } = { s with out := [] }) ∧
  (∀ (s : State) (p : Image) (l : List Nat) (v : Nat), s.sys.mode = .start → s.sys.mismatch = true → s.pair.viaUp = true →
    s.sys.saving = false → s.pair.peerClaim = true →
    State.accepts { s with cfg.partner := some p, pair.checks := l, pair.peer := s.pair.peer % 2 ^ 24 + 2 ^ 24 * (v % 256) } = true →
    ∃ t, exec (.pairMismatchRecheck (some p) l v) s = .next t ∧ t.sys.mode = .shadow ∧ t.sys.mismatch = false ∧ t.sys.restricted = 0 ∧
      t.pair.claim = s.pair.claim ∧ t.pair.mirrored = false ∧ t.lake = s.lake ∧ t.trk = s.trk ∧ keptByClaim s t) ∧
  (∀ (s : State) (p : Image) (l : List Nat) (v : Nat), s.sys.mode = .start → s.sys.mismatch = true → s.pair.viaUp = true →
    s.sys.saving = false →
    State.accepts { s with cfg.partner := some p, pair.checks := l, pair.peer := s.pair.peer % 2 ^ 24 + 2 ^ 24 * (v % 256) } = false →
    exec (.pairMismatchRecheck (some p) l v) s = .next { s with
      out := [], cfg.partner := some p, pair.checks := l, pair.peer := s.pair.peer % 2 ^ 24 + 2 ^ 24 * (v % 256) })

/-- Losing the claim and finding it lost: CLAIM_IN asserted against a held claim is recorded by unit A and restarts unit B with cause
0x04; FORCE_IN takes the claim and restarts the unit, and is only recorded in SHADOW; 1.0 ms after the last heartbeat the claim
goes; a standby that is not mirrored and sees CLAIM_IN released claims into HOLD with PAIR_UNSYNC. Rules: R338, R339, R340, R346,
R348, R349. Model's choices: logs 14, 50, 101. -/
def Obligations.ClaimLost : Prop :=
  (∀ s : State, s.pair.claim = true → s.inService = true → s.unitNo ≠ 2 →
    ∃ t, exec .claimConflict s = .next t ∧
      t.pair = { s.pair with peerClaim := true, peerFree := none, events := s.pair.events ||| 16#32 } ∧
      { t with pair := s.pair, rcd := s.rcd, ao.intake := s.ao.intake, diag.active := s.diag.active } = { s with out := [] }) ∧
  (∀ s : State, s.pair.claim = true → s.inService = true → s.unitNo = 2 → s.sys.succession < 3 →
    ∃ t, exec .claimConflict s = .next t ∧ t.sys.mode = .start ∧ t.sys.cause = 4 ∧ t.pair.claim = false ∧
      t.sys.succession = s.sys.succession + 1 ∧ keptByClaim s t) ∧
  (∀ s : State, s.powered = true → s.sys.mode ≠ .shadow → s.pair.claim = true → s.sys.saving = false → s.sys.succession < 3 →
    ∃ t, exec .forceInAsserted s = .next t ∧ t.sys.mode = .start ∧ t.sys.cause = 4 ∧ t.pair.claim = false ∧ t.pair.forceIn = true ∧
      keptByClaim s t) ∧
  (∀ s : State, s.sys.mode = .shadow →
    exec .forceInAsserted s = .next (State.report 0x0B04 [(1, s.pair.windows)]
      { s with out := [], pair.forceIn := true, pair.events := s.pair.events ||| 8#32 })) ∧
  (∀ s : State, s.pair.claim = true → s.sys.saving = false →
    ∃ t, exec .heartbeatKeepaliveExpiry s = .next t ∧ t.pair = { s.pair with claim := false, decided := none, swapDue := false } ∧
      t.rad.a = { s.rad.a with onAir := none } ∧ t.rad.b = { s.rad.b with onAir := none } ∧
      { t with pair := s.pair, rad.a := s.rad.a, rad.b := s.rad.b, time.frc := s.time.frc, out := [] } = { s with out := [] }) ∧
  (∀ (s : State) (k : TakeIn), s.sys.mode = .shadow → s.sys.saving = false → s.pair.claim = false → s.pair.forceIn = false →
    bit s.stop.own causeTamper = false → s.unitNo ≠ 2 → s.pair.mirrored = false →
    ∃ t, exec (.claimInReleased k) s = .next t ∧ t.pair.claim = true ∧ t.sys.mode = .hold ∧ bit t.cellSet causeUnsync = true ∧
      t.pair.lastKind = 5 ∧ t.pair.cntTakeovers = s.pair.cntTakeovers + 1#32 ∧ t.pair.peerClaim = false ∧ t.lake = s.lake ∧ t.trk = s.trk ∧
      keptByClaim s t) ∧
  (∀ (s : State) (k : TakeIn), s.powered = true → s.sys.saving = false → s.sys.mode ≠ .shadow → s.sys.mismatch = false →
    exec (.claimInReleased k) s = .next { s with out := [], pair.peerClaim := false, pair.peerFree := some s.ns })

/-- The Viaduct carries a frame of this type now: powered, no save, link up, no corruption ordered for the type. -/
def viaCarries (kind : Nat) (s : State) : Prop :=
  s.powered = true ∧ s.sys.saving = false ∧ s.pair.viaUp = true ∧ s.diag.viaCorrupt ≠ some kind

/-- The instant at which the next HEARTBEAT counts as missed: 100 µs after a whole 500 µs of device time (R343). -/
def awaitedBeat (s : State) : State := s.markOfs markMissed (500 * perUs) (100 * perUs)

/-- Heartbeats and the link: health permits a heartbeat for 2 ms, one is sent at each whole 500 µs while it does and none otherwise; a
received one ends the run of missed ones, carries the partner's lines and gives a standby one two-way exchange of time; a lead
whose partner enters SHADOW sends it the pair-wide registers and begins a resync; a bad CRC is counted; each missed one is counted
and the fourth in a row marks VIADUCT_DOWN (at a lead too: the model's choice, log 196); a lane without lock takes the link down,
and training brings it up. The mirror at the standby: a delta is applied in tick order upon a complete image, shown and
acknowledged; one that is missing ends the mirror; a RESYNC block is counted, and the last completes the image; CEILING is stored
and acknowledged; a register write waits for its second; a CONFIG frame is what the pair is classified by. At the lead an
acknowledgement with a bad digest ends the mirror, and one of CEILING frees the oldest key. Rules: R115, R193, R339, R341, R343,
R345, R80, R224, R344. Model's choices: logs 50, 88, 100, 101, 188, 196. -/
def Obligations.LinkAndMirror : Prop :=
  (∀ s : State, s.powered = true → exec .healthRefresh s = .next { s with out := [], pair.healthAt := some s.ns }) ∧
  (∀ s : State, s.powered = true → s.time.running = true → s.paired = true → s.pair.viaUp = true →
    (s.mark markBeat (500 * perUs)).beats = true →
    ∃ t b, exec .heartbeatSend s = .next t ∧ t.out = [.viaduct 1 b] ∧ b.length = 64 ∧
      t.pair = { s.pair with beatAt := some t.ns, beatSeq := (s.pair.beatSeq + 1) % 256
                             beatTx := (stamp1ns (s.mark markBeat (500 * perUs)).now :: s.pair.beatTx).take 2 } ∧
      { t with pair := s.pair, time.frc := s.time.frc, time.marks := s.time.marks, out := [] } = { s with out := [] }) ∧
  (∀ s : State, s.powered = true → s.time.running = true → (s.mark markBeat (500 * perUs)).beats = false →
    exec .heartbeatSend s = .next { s.mark markBeat (500 * perUs) with out := [] }) ∧
  (∀ (s : State) (b : Heartbeat) (r : Nat), s.paired = true → viaCarries 1 s → s.sys.mode = .shadow →
    ∃ t, exec (.heartbeatReceived b true r) s = .next t ∧ t.pair.missed = 0 ∧ t.pair.viaDown = false ∧ t.pair.beatRx = stamp1ns r ∧
      t.pair.peerMode = b.mode ∧ t.pair.peer = b.health ∧ t.pair.peerReady = b.ready ∧ t.pair.peerClaim = b.claim ∧ t.pair.forceIn = b.force ∧
      t.stop = { s.stop with partnerA := b.stopA, partnerB := b.stopB } ∧ t.time.viaSigma = b.sigma ∧
      t.time.step = (if b.step = 0 then none else some ⟨b.step, 0, b.stepSecond⟩) ∧
      (∀ t1, s.pair.beatTx = [t1] → b.stamp ≠ 0 → t.time.viaCount = s.time.viaCount + 1 ∧
        t.time.viaSum = s.time.viaSum + (((t1 : Int) - b.stamp) + ((stamp1ns r : Int) - b.sent)) / 2) ∧
      { t with pair := s.pair, stop := s.stop, time.viaSigma := s.time.viaSigma, time.step := s.time.step, time.viaSum := s.time.viaSum
               time.viaCount := s.time.viaCount } = { s with out := [] }) ∧
  (∀ (s : State) (b : Heartbeat) (r : Nat), s.paired = true → viaCarries 1 s → s.isLead = true → b.mode = 4 → s.pair.peerMode ≠ 4 →
    s.stop.runA = true → s.stop.runB = true → b.stopA = true → b.stopB = true →
    ∃ t, exec (.heartbeatReceived b true r) s = .next t ∧ t.pair.peerMode = 4 ∧ t.pair.mirrored = false ∧ t.pair.resync = some s.ns ∧
      t.pair.cntResyncs = s.pair.cntResyncs + 1#32 ∧
      t.out = s.pairWideWords.map (fun p => .viaduct 6 (s.framed 6 (leBytes 4 p.1 ++ leBytes 4 p.2.toNat ++ leBytes 4 (secOf s.now + 1)))) ∧
      { t with pair := s.pair, stop := s.stop, out := [] } = { s with out := [] }) ∧
  (∀ (s : State) (b : Heartbeat) (r : Nat), s.paired = true → viaCarries 1 s →
    exec (.heartbeatReceived b false r) s = .next { s with out := [], pair.cntCrc := s.pair.cntCrc + 1#32 }) ∧
  (∀ s : State, s.inService = true → s.paired = true → s.sys.saving = false → (awaitedBeat s).beatArrived = true →
    exec .heartbeatMissed s = .next { awaitedBeat s with out := [] }) ∧
  (∀ s : State, s.inService = true → s.paired = true → s.sys.saving = false → (awaitedBeat s).beatArrived = false → s.pair.missed ≠ 3 →
    ∃ t, exec .heartbeatMissed s = .next t ∧ t.time.frc = (awaitedBeat s).time.frc ∧
      t.pair = { s.pair with missed := sat 8 (s.pair.missed + 1), cntHbMissed := s.pair.cntHbMissed + 1#32
                             holdFrom := t.ns, brokenAt := t.ns, asked := none } ∧
      { t with pair := s.pair, time.frc := s.time.frc, time.marks := s.time.marks } = { s with out := [] }) ∧
  (∀ s : State, s.inService = true → s.paired = true → s.sys.saving = false → (awaitedBeat s).beatArrived = false → s.pair.missed = 3 →
    s.isLead = true ∨ s.pair.peerClaim = true →
    ∃ t, exec .heartbeatMissed s = .next t ∧ t.pair.missed = 4 ∧ t.pair.viaDown = true ∧ t.pair.mirrored = false ∧
      t.pair.claim = s.pair.claim ∧
      { t with pair := s.pair, time.frc := s.time.frc, time.marks := s.time.marks, rcd := s.rcd } = { s with out := [] }) ∧
  (∀ (s : State) (l : Fin 4), s.powered = true → s.pair.viaUp = true →
    ∃ t, exec (.viaductLinkDown l) s = .next t ∧ t.pair.viaUp = false ∧ t.pair.lanes = l.val ∧ t.pair.viaDown = true ∧
      t.pair.mirrored = false ∧ t.pair.claim = s.pair.claim ∧ { t with pair := s.pair, rcd := s.rcd } = { s with out := [] }) ∧
  (∀ (s : State) (n : Nat), s.powered = true → s.paired = true → s.pair.viaUp = false →
    ∃ t, exec (.viaductLinkUp n) s = .next t ∧ t.pair.viaUp = true ∧ t.pair.viaDown = false ∧ t.pair.lanes = 3 ∧ t.pair.missed = 0 ∧
      t.pair.retrains = sat 16 (s.pair.retrains + 1) ∧ t.pair.claim = s.pair.claim ∧ t.clk.viaduct = true ∧
      { t with pair := s.pair, clk.viaduct := s.clk.viaduct, rcd := s.rcd, out := [] } = { s with out := [] }) ∧
  (∀ (s : State) (d : TickDelta), viaCarries 2 s → s.sys.mode = .shadow → d.crcOk = true → s.pair.imageTick.isSome = true →
    d.tick = s.pair.nextTick → d.digestOk = true → s.paired = true → s.time.servo ≠ .provisional →
    ∃ t, exec (.tickDelta d) s = .next t ∧ t.pair.ackTick = d.tick ∧ t.pair.nextTick = d.tick + 1 ∧ t.pair.mirrored = true ∧
      t.pub.tick = d.tick % 2 ^ 32 ∧ t.pub.xarb = d.fleet.xarb ∧ t.out = [.viaduct 3 (s.framed 3 (leBytes 4 d.tick ++ [1#8]))] ∧ t.pair.claim = s.pair.claim ∧
      t.sys = s.sys ∧ t.lake = s.lake ∧ t.trk = s.trk ∧ t.time = s.time ∧ keptByClaim s t) ∧
  (∀ (s : State) (d : TickDelta), viaCarries 2 s → s.sys.mode = .shadow → d.crcOk = true → s.pair.imageTick.isSome = true →
    s.pair.nextTick < d.tick →
    ∃ t, exec (.tickDelta d) s = .next t ∧ t.pair.mirrored = false ∧ t.pair.imageTick = none ∧ t.pair.ackTick = s.pair.ackTick ∧
      t.pair.claim = s.pair.claim ∧ { t with pair := s.pair, rcd := s.rcd } = { s with out := [] }) ∧
  (∀ (s : State) (n : Nat), viaCarries 9 s → s.sys.mode = .shadow →
    exec (.resync n none) s = .next { s with out := [], pair.resyncBlocks := s.pair.resyncBlocks + 1 }) ∧
  (∀ (s : State) (n : Nat) (f : Fleet), viaCarries 9 s → s.sys.mode = .shadow →
    ∃ t, exec (.resync n (some f)) s = .next t ∧ t.fleet.xarb = f.xarb ∧ t.fleet.prof = f.prof ∧ t.fleet.cell = f.cell ∧
      t.fleet.go = f.go ∧ t.fleet.sessions = f.sessions ∧
      t.pair = { s.pair with resyncBlocks := s.pair.resyncBlocks + 1, imageTick := some n, nextTick := n + 1, ackTick := n } ∧
      { t with fleet := s.fleet, pair := s.pair } = { s with out := [] }) ∧
  (∀ (s : State) (k c : Nat), viaCarries 5 s → s.sys.mode = .shadow → s.paired = true →
    exec (.ceiling k c) s = .next { s with
      out := [.viaduct 3 (s.framed 3 [5#8])], rad.stored := Tab.set 0 s.rad.stored k c, rad.keys := Tab.set {} s.rad.keys k {} }) ∧
  (∀ (s : State) (a n : Nat) (v : Word), viaCarries 6 s → s.sys.mode = .shadow →
    exec (.registerFrame a v n) s = .next { s with out := [], pair.regDue := s.pair.regDue ++ [(a, v.toNat, n)] }) ∧
  (∀ (s : State) (p : Image) (l : List Nat), s.paired = true → viaCarries 7 s → s.sys.mode = .start →
    exec (.configFrame p l) s = .next { s with out := [], cfg.partner := some p, pair.checks := l }) ∧
  (∀ (s : State) (p own : Image) (l : List Nat), s.paired = true → viaCarries 7 s → s.sys.mode = .lead → s.cfg.image = some own →
    ∃ t, exec (.configFrame p l) s = .next t ∧ t.pair = { s.pair with checks := l, cls := classifyPair own p } ∧ t.cfg.partner = some p ∧
      t.cfg.changes = (if classifyPair own p = .mixed then changeList p own else []) ∧
      { t with pair := s.pair, cfg := s.cfg } = { s with out := [] }) ∧
  (∀ (s : State) (n : Nat), viaCarries 3 s → s.isLead = true → s.pair.deltaDue = true → s.pair.sentTick = n →
    s.tick.all (·.committed) = true →
    ∃ t, exec (.deltaAck n false false) s = .next t ∧ t.pair.mirrored = false ∧ t.pair.claim = s.pair.claim ∧ t.tick = s.tick ∧
      t.pub = s.pub ∧ { t with pair := s.pair, rcd := s.rcd } = { s with out := [] }) ∧
  (∀ (s : State) (n : Nat) (o : TickOut), viaCarries 3 s → s.isLead = true → s.pair.deltaDue = true → s.pair.sentTick = n → s.tick = some o →
    o.committed = true →
    ∃ t, exec (.deltaAck n true false) s = .next t ∧ t.pair.ackTick = n ∧ t.pair.deltaDue = false ∧ t.tick = none ∧
      t.pub.xarb = s.fleet.xarb ∧ t.pub.tick = o.tick % 2 ^ 32 ∧ t.pair.claim = true ∧ t.sys = s.sys ∧ t.lake = s.lake ∧ t.trk = s.trk ∧
      t.time = s.time ∧ keptByClaim s t) ∧
  (∀ (s : State) (n k c c' : Nat) (b : Bool) (r : List (Nat × Nat)), viaCarries 3 s → s.pair.ceilingDue = (k, c) :: r →
    (Tab.get {} s.rad.keys k).raised = some c' →
    exec (.deltaAck n b true) s = .next { s with
      out := [], pair.ceilingDue := r
      rad.keys := Tab.set {} s.rad.keys k { Tab.get {} s.rad.keys k with ceiling := c', raised := none } })

/-- Handing over: unit A asks in SHADOW with readiness met, once and again after each 10 s; the lead holds the request, and grants it
for the first tick with a swap instant or refuses it with a reason; at the swap instant the lead releases its claim and enters
SHADOW. Watching the lead: its preamble heard at 1.0 ms into the BEACON entry clears the missed windows; a window without it,
CLAIM_IN still asserted and not excused by the lead's heartbeat, is counted; in the third the standby asserts FORCE_OUT, which
FORCE_CLR releases. Rules: R353, R354, R346, R347, R348. Model's choices: log 102. -/
def Obligations.HandoverAndWatch : Prop :=
  (∀ s : State, s.sys.mode = .shadow → s.mayAsk = true → s.pair.asked = none → s.paired = true → s.pair.viaUp = true →
    exec .handoverRequest s = .next { s with out := [.viaduct 8 (s.framed 8 [0#8])], pair.asked := some s.ns }) ∧
  (∀ s : State, s.isLead = true → s.paired = true → s.pair.handover = none → viaCarries 8 s →
    exec .handoverRequest s = .next { s with out := [], pair.handover := some { source := 0 } }) ∧
  (∀ (s : State) (n : Nat), s.pair.asked = some n → (s.atLeast (10000000000 + n)).mayAsk = true → s.pair.handover = none →
    s.paired = true → s.pair.viaUp = true →
    ∃ t, exec .handoverRetry s = .next t ∧ t.out = [.viaduct 8 (s.framed 8 [0#8])] ∧ t.time.frc = (s.atLeast (10000000000 + n)).time.frc ∧
      t.pair = { s.pair with asked := some t.ns } ∧ { t with pair := s.pair, time.frc := s.time.frc, out := [] } = { s with out := [] }) ∧
  (∀ s : State, s.sys.saving = false → s.isLead = true → s.paired = true → s.pair.handover = none →
    exec .pairCtlHandover s = .next { s with out := [], pair.handover := some { source := 1 } }) ∧
  (∀ (s : State) (k n i : Nat) (h : Handover), s.isLead = true → s.pair.handover = some h → h.tick = none → s.handoverRefusal = none →
    s.swapTick = some (n, i) → s.paired = true → s.pair.viaUp = true →
    exec (.handoverGrant k) s = .next { s with
      out := [.viaduct 8 (s.framed 8 ([1#8] ++ leBytes 4 n))], pair.handover := some { h with tick := some n, instant := i }, pair.swapDue := true }) ∧
  (∀ (s : State) (k : Nat), s.sys.mode = .shadow → viaCarries 8 s →
    exec (.handoverGrant k) s = .next { s with
      out := [], pair.swapDue := true
      pair.handover := some { source := 0, tick := some k
                              instant := k * (100 * perMs) + (s.swapInstant (k % 10)).getD (98 * perMs) } }) ∧
  (∀ (s : State) (h : Handover) (r : Nat) (x : Fin 3), s.isLead = true → s.pair.handover = some h → h.tick = none → h.source = 1 →
    s.handoverRefusal = some r →
    exec (.handoverRefused x) s = .next (State.report 0x0B03 [(1, r)]
      { s with out := [], pair.handover := none, pair.events := s.pair.events ||| 4#32 })) ∧
  (∀ (s : State) (x : Fin 3), s.sys.mode = .shadow → s.pair.asked.isSome = true → viaCarries 8 s →
    exec (.handoverRefused x) s = .next (State.report 0x0B03 [(1, x.val)]
      { s with out := [], pair.events := s.pair.events ||| 4#32 })) ∧
  (∀ (s : State) (k : TakeIn) (h : Handover) (n : Nat), s.pair.handover = some h → h.tick = some n → s.sys.saving = false → s.isLead = true →
    s.tick = none →
    ∃ t, exec (.swapInstant k) s = .next t ∧ t.sys.mode = .shadow ∧ t.pair.claim = false ∧ t.pair.handover = none ∧ t.pair.lastKind = 4 ∧
      t.pair.cntHandovers = s.pair.cntHandovers + 1#32 ∧ t.host.awaiting = [] ∧ t.fleet = s.fleet ∧ t.lake = s.lake ∧ t.trk = s.trk ∧
      keptByClaim s t) ∧
  (∀ (s : State) (k : TakeIn) (h : Handover) (n : Nat), s.pair.handover = some h → h.tick = some n → s.sys.saving = false →
    s.sys.mode = .shadow → s.pair.claim = false → s.pair.forceIn = false → bit s.stop.own causeTamper = false → s.unitNo ≠ 2 →
    s.pair.mirrored = false →
    ∃ t, exec (.swapInstant k) s = .next t ∧ t.sys.mode = .hold ∧ t.pair.claim = true ∧ t.lake = s.lake ∧ t.trk = s.trk ∧ keptByClaim s t) ∧
  (∀ (s : State) (e : DeckEntry) (b : Nat) (r : Option Nat) (k : TakeIn), s.sys.mode = .shadow → s.sys.saving = false → s.time.running = true →
    s.nextEntry 0 (entryMark 0 8) beaconLimit (fun e => decide (e.kind = 1)) = some (e, b) →
    exec (.beaconWatch true r k) s = .next { s.serveAt (entryMark 0 8) (b + beaconLimit) with
      out := [], pair.windows := 0, pair.lateEntry := none }) ∧
  (∀ (s : State) (e : DeckEntry) (b : Nat) (k : TakeIn), s.sys.mode = .shadow → s.sys.saving = false → s.time.running = true →
    s.nextEntry 0 (entryMark 0 8) beaconLimit (fun e => decide (e.kind = 1)) = some (e, b) → bit s.pair.peerReady 6 = false →
    s.pair.peerClaim = true →
    exec (.beaconWatch false none k) s = .next { s.serveAt (entryMark 0 8) (b + beaconLimit) with
      out := [], pair.windows := s.pair.windows + 1, pair.lateEntry := some b }) ∧
  (∀ s : State, s.sys.mode = .shadow → s.sys.saving = false → s.pair.peerClaim = true → 3 ≤ s.pair.windows → s.pair.forceOut = false →
    ∃ t, exec .forceOutAssert s = .next t ∧ t.pair = { s.pair with forceOut := true, events := s.pair.events ||| 8#32 } ∧
      { t with pair := s.pair, time.frc := s.time.frc, rcd := s.rcd } = { s with out := [] }) ∧
  (∀ s : State, s.powered = true → s.sys.saving = false → exec .forceClr s = .next { s with out := [], pair.forceOut := false })

/-- The KEY_UPDATE command of a kind. -/
def keyCommand (kind : Fin 8) (f : ChpFrame) : Instr :=
  match kind with
  | 0 => .keyUpdateAuthority f | 1 => .keyUpdateWrite f | 2 => .keyUpdateErase f | 3 => .keyUpdateEpochSwitch f
  | 4 => .keyUpdateConfigKey f | 5 => .keyUpdateConfigRevoke f | 6 => .keyUpdateLifecycle f | 7 => .keyUpdateFloor f

/-- What Table 13-11 gives a message of each kind, and what every message leaves alone. -/
def keyApplied (m : KeyMsg) (p : List Octet) (s t : State) : Prop :=
  (m.kind = 0 → t.keys.fuse.auth = Config.sha384 m.authority ∧ t.keys.fuse.authProg = true) ∧
  (m.kind ≠ 0 → t.keys.fuse.auth = s.keys.fuse.auth ∧ t.keys.fuse.authProg = s.keys.fuse.authProg) ∧
  (m.kind = 1 → ∃ v, newSlot m.arg m.counter p = some v ∧ t.keySlot m.arg = v) ∧
  (m.kind = 2 → t.keySlot m.arg = {}) ∧
  (m.kind = 3 → t.kreg.switch = some (getLe p 0 2, getLe p 2 4)) ∧
  (m.kind = 4 → bit t.keys.fuse.cfgProg m.arg = true) ∧
  (m.kind = 5 → bit t.keys.fuse.cfgRevoked m.arg = true) ∧
  (m.kind = 6 → t.keys.pendingLc = some m.arg ∧ t.sys.mode = .start ∧ t.sys.cause = 3 ∧ t.pair.claim = false) ∧
  (m.kind ≠ 6 → t.keys.pendingLc = s.keys.pendingLc ∧ t.sys.mode = s.sys.mode ∧ t.pair = s.pair) ∧
  (∀ n, (m.kind ≠ 1 ∧ m.kind ≠ 2) ∨ n ≠ m.arg → t.keySlot n = s.keySlot n) ∧
  t.keys.records = (CounterRec.seal (s.classKey 0) ⟨m.counter, Config.sha384 m.raw, m.kind, m.arg, 0, true⟩ :: s.keys.records).take 2 ∧
  t.keys.fuse.floor = m.counter / 2 ^ 22 ∧ t.keys.fuse.word = s.keys.fuse.word ∧ t.keys.fuse.keystone = s.keys.fuse.keystone ∧
  t.flash = s.flash ∧ t.upd = s.upd ∧ t.mets = s.mets ∧ t.pending = s.pending

/-- What the outcome of the checks of Table 13-10 leads to: the kind's effect with the counter stored and result 0, or the code of the check
that failed with nothing stored. -/
def keyAnswered (f : ChpFrame) (k : Nat) (s t : State) : Except Nat (KeyMsg × List Octet) → Prop
  | .ok (m, p) => keyApplied m p s t ∧ (m.kind ≠ 6 → t.kreg.updates = s.kreg.updates + 1#32 ∧ t.kreg.lastResult = 0 ∧
      ∃ b, answered f 0x0050 0 b k t ∧ getLe b 0 1 = 0)
  | .error c => t.keys.slots = s.keys.slots ∧ t.keys.records = s.keys.records ∧ t.keys.pendingLc = s.keys.pendingLc ∧
      t.keys.fuse.word = s.keys.fuse.word ∧ t.keys.fuse.auth = s.keys.fuse.auth ∧ t.keys.fuse.floor = s.keys.fuse.floor ∧
      t.kreg = { s.kreg with refused := s.kreg.refused + 1#32, lastResult := c, lastKind := getLe f.body 8 1
                             lastArg := getLe f.body 9 1, events := s.kreg.events ||| 4#32 } ∧
      answered f 0x0050 0 (leBytes 1 c ++ [0#8, 0#8, 0#8] ++ leBytes 4 s.storedCounter) k t ∧
      { t with keys.fuse.cfgRevoked := s.keys.fuse.cfgRevoked, kreg := s.kreg, host := s.host, rcd := s.rcd, out := [] } = { s with out := [] }

/-- A message has been committed: its counter is stored, sealed and counted, the reply carries result 0, and what every message leaves alone
is as it was. -/
def keyCommitted (m : KeyMsg) (f : ChpFrame) (k : Nat) (s t : State) : Prop :=
  t.keys.records = (CounterRec.seal (s.classKey 0) ⟨m.counter, Config.sha384 m.raw, m.kind, m.arg, 0, true⟩ :: s.keys.records).take 2 ∧
  t.keys.fuse.floor = m.counter / 2 ^ 22 ∧ t.keys.fuse.word = s.keys.fuse.word ∧ t.keys.fuse.keystone = s.keys.fuse.keystone ∧
  t.kreg.updates = s.kreg.updates + 1#32 ∧ t.kreg.lastResult = 0 ∧ (∃ b, answered f 0x0050 0 b k t ∧ getLe b 0 1 = 0) ∧
  t.keys.pendingLc = s.keys.pendingLc ∧ t.sys.mode = s.sys.mode ∧ t.pair = s.pair ∧ t.flash = s.flash ∧ t.upd = s.upd ∧
  t.mets = s.mets ∧ t.pending = s.pending

/-- A KEY_UPDATE of each kind that R473 lets through is processed by the checks of Table 13-10: where they all pass the message has
the effect of its kind and its counter is stored (AUTHORITY burns the digest, WRITE and ERASE change a slot, EPOCH_SWITCH is set
for its second, CONFIG_KEY and CONFIG_REVOKE burn an index, FLOOR only the counter, LIFECYCLE restarts the unit with cause 0x03);
where one fails the reply carries its code, the refusal is counted, and no slot, no counter record and no life-cycle state
changes. In a save, on a transport that still runs, each is refused with SAVING. Rules: R473, R48, R373, R375, R376, R378, R379,
R381. Model's choices: logs 8, 43, 193. -/
def Obligations.KeyUpdates : Prop :=
  (∀ (s : State) (kind : Fin 8) (f : ChpFrame) (k : Nat), ofKind kind.val f = true →
    chpPasses 0x0050 (if s.openUpdate = true then none else some 5) false f k s → Tab.wf {} s.keys.slots = true →
    ∃ t, exec (keyCommand kind f) s = .next t ∧ keyAnswered f k s t (s.keyChecks f.body)) ∧
  (∀ (s : State) (kind : Fin 8) (f : ChpFrame) (k : Nat), ofKind kind.val f = true → s.sys.saving = true →
    chpPasses 0x0050 (if s.openUpdate = true then none else some 5) false f k { s with sys.saving := false } →
    ∃ t, exec (keyCommand kind f) s = .next t ∧
      t.kreg = { s.kreg with refused := s.kreg.refused + 1#32, lastResult := 0x0A, lastKind := getLe f.body 8 1
                             lastArg := getLe f.body 9 1, events := s.kreg.events ||| 4#32 } ∧
      answered f 0x0050 0 ([0x0A#8, 0#8, 0#8, 0#8] ++ leBytes 4 s.storedCounter) k t ∧
      { t with kreg := s.kreg, host := s.host, rcd := s.rcd, out := [] } = { s with out := [] }) ∧
  (∀ (s : State) (f : ChpFrame) (k : Nat) (m : KeyMsg) (p : List Octet), ofKind 0 f = true →
    chpPasses 0x0050 (if s.openUpdate = true then none else some 5) false f k s → s.keyChecks f.body = .ok (m, p) →
    ∃ t, exec (.keyUpdateAuthority f) s = .next t ∧ t.keys.fuse.auth = Config.sha384 m.authority ∧ t.keys.fuse.authProg = true ∧
      t.keys.slots = s.keys.slots ∧ keyCommitted m f k s t) ∧
  (∀ (s : State) (f : ChpFrame) (k : Nat) (m : KeyMsg) (p : List Octet) (v : KeySlot), ofKind 1 f = true →
    chpPasses 0x0050 (if s.openUpdate = true then none else some 5) false f k s → s.keyChecks f.body = .ok (m, p) →
    newSlot m.arg m.counter p = some v →
    Tab.wf {} s.keys.slots = true →
    ∃ t, exec (.keyUpdateWrite f) s = .next t ∧ t.keySlot m.arg = v ∧ (∀ n, n ≠ m.arg → t.keySlot n = s.keySlot n) ∧
      t.keys.fuse.auth = s.keys.fuse.auth ∧ keyCommitted m f k s t) ∧
  (∀ (s : State) (f : ChpFrame) (k : Nat) (m : KeyMsg) (p : List Octet), ofKind 2 f = true →
    chpPasses 0x0050 (if s.openUpdate = true then none else some 5) false f k s → s.keyChecks f.body = .ok (m, p) → Tab.wf {} s.keys.slots = true →
    ∃ t, exec (.keyUpdateErase f) s = .next t ∧ t.keySlot m.arg = {} ∧ (∀ n, n ≠ m.arg → t.keySlot n = s.keySlot n) ∧
      t.keys.fuse.auth = s.keys.fuse.auth ∧ keyCommitted m f k s t) ∧
  (∀ (s : State) (f : ChpFrame) (k : Nat) (m : KeyMsg) (p : List Octet), ofKind 3 f = true →
    chpPasses 0x0050 (if s.openUpdate = true then none else some 5) false f k s → s.keyChecks f.body = .ok (m, p) →
    ∃ t, exec (.keyUpdateEpochSwitch f) s = .next t ∧ t.kreg.switch = some (getLe p 0 2, getLe p 2 4) ∧ t.keys.slots = s.keys.slots ∧
      t.keys.fuse.auth = s.keys.fuse.auth ∧ keyCommitted m f k s t) ∧
  (∀ (s : State) (f : ChpFrame) (k : Nat) (m : KeyMsg) (p : List Octet), ofKind 4 f = true →
    chpPasses 0x0050 (if s.openUpdate = true then none else some 5) false f k s → s.keyChecks f.body = .ok (m, p) →
    ∃ t, exec (.keyUpdateConfigKey f) s = .next t ∧ bit t.keys.fuse.cfgProg m.arg = true ∧
      (m.arg < s.keys.fuse.cfg.length → t.keys.fuse.cfg[m.arg]? = some (BitVec.ofNat 384 (ofBe p))) ∧ t.keys.slots = s.keys.slots ∧
      keyCommitted m f k s t) ∧
  (∀ (s : State) (f : ChpFrame) (k : Nat) (m : KeyMsg) (p : List Octet), ofKind 5 f = true →
    chpPasses 0x0050 (if s.openUpdate = true then none else some 5) false f k s → s.keyChecks f.body = .ok (m, p) →
    ∃ t, exec (.keyUpdateConfigRevoke f) s = .next t ∧ bit t.keys.fuse.cfgRevoked m.arg = true ∧
      (∀ n, n ≠ m.arg → bit t.keys.fuse.cfgRevoked n = bit s.keys.fuse.cfgRevoked n) ∧ t.keys.slots = s.keys.slots ∧ keyCommitted m f k s t) ∧
  (∀ (s : State) (f : ChpFrame) (k : Nat) (m : KeyMsg) (p : List Octet), ofKind 6 f = true →
    chpPasses 0x0050 (if s.openUpdate = true then none else some 5) false f k s → s.keyChecks f.body = .ok (m, p) →
    ∃ t, exec (.keyUpdateLifecycle f) s = .next t ∧ t.keys.pendingLc = some m.arg ∧ t.sys.mode = .start ∧ t.sys.cause = 3 ∧
      t.pair.claim = false ∧ t.keys.slots = s.keys.slots ∧ t.keys.fuse.word = s.keys.fuse.word ∧ t.flash = s.flash ∧ t.pending = s.pending) ∧
  (∀ (s : State) (f : ChpFrame) (k : Nat) (m : KeyMsg) (p : List Octet), ofKind 7 f = true →
    chpPasses 0x0050 (if s.openUpdate = true then none else some 5) false f k s → s.keyChecks f.body = .ok (m, p) →
    ∃ t, exec (.keyUpdateFloor f) s = .next t ∧ t.keys.fuse.auth = s.keys.fuse.auth ∧ t.keys.slots = s.keys.slots ∧
      keyCommitted m f k s t)

/-- Keys in use: a permitted job wakes the crypto domain and is counted, one that the key's attributes do not permit freezes its core
with cause WINDOW and is counted; at S the next masters move in and the slots that held them are empty, the old ones staying for
10 s; tampering empties the key store at once, in DORMANT too, and stops a lone lead with cause TAMPER; Ranlek's message sets the
PROVISION bit, or the RETIRED bit without the Keystone. The supply and temperature watches: VBAT below 1.9 V with the unit powered
is recorded once and shown until it is back; a die temperature above the junction maximum sets TEMP_HIGH once, until it has fallen
5 °C below. Rules: R26, R364, R370, R372, R381, R385, R386, R383, R460. Model's choices: logs 13, 105. -/
def Obligations.KeysInUse : Prop :=
  (∀ (s : State) (m : Fin 13) (w : Bool) (k : Fin 67) (o : Fin 5), s.powered = true → bit (s.keyUse k.val).1 m.val = true →
    bit (s.keyUse k.val).2.1 (flag (!worldOf m.val w)) = true → bit (s.keyUse k.val).2.2.1 s.life.code = true →
    bit (s.keyUse k.val).2.2.2 o.val = true →
    exec (.cryptoJob m w k o) s = .next { s with
      out := [], kreg.jobs := s.kreg.jobs + 1#32, clk.readyAt := Tab.set 0 s.clk.readyAt domCrypto (s.ns + 200)
      kreg.jobTill := max s.kreg.jobTill ((BitVec.ofNat 64 (s.ns + 200)).toNat + (Config.freeWord s.free).toNat), free := s.free + 1
      time.frc := BitVec.ofNat 64 (s.ns + 200) }) ∧
  (∀ (s : State) (m : Fin 13) (w : Bool) (k : Fin 67) (o : Fin 5), s.powered = true → bit (s.keyUse k.val).1 m.val = false → m.val < 8 →
    s.tres.frozen.getLsbD m.val = false → bits (s.tres.frozen ||| BitVec.ofNat 13 (2 ^ m.val)).toNat 9 4 = 0 →
    ones (s.tres.frozen ||| BitVec.ofNat 13 (2 ^ m.val)).toNat 0 8 < 3 →
    ∃ t, exec (.cryptoJob m w k o) s = .next t ∧ t.tres = { s.tres with frozen := s.tres.frozen ||| BitVec.ofNat 13 (2 ^ m.val) } ∧
      t.kreg = { s.kreg with violations := s.kreg.violations + 1#32, events := s.kreg.events ||| 8#32 } ∧ t.keys = s.keys ∧
      t.pair.claim = s.pair.claim ∧ t.sys.mode = s.sys.mode ∧ t.flash = s.flash ∧ t.pending = s.pending) ∧
  (∀ (s : State) (e n : Nat), s.kreg.switch = some (e, n) → s.powered = true → (s.keySlot 1).valid = true → (s.keySlot 3).valid = true →
    Tab.wf {} s.keys.slots = true →
    ∃ t, exec .epochSwitchApply s = .next t ∧ t.keySlot 0 = s.keySlot 1 ∧ t.keySlot 2 = s.keySlot 3 ∧ t.keySlot 1 = {} ∧ t.keySlot 3 = {} ∧
      (∀ k, 4 ≤ k → t.keySlot k = s.keySlot k) ∧
      t.kreg = { s.kreg with switch := none, previous := some (s.epoch, (s.keySlot 0).key, (s.keySlot 2).key, n + 10)
                             events := s.kreg.events ||| 32#32 } ∧ t.time.frc = (s.reach (perSec * n)).time.frc ∧
      { t with keys.slots := s.keys.slots, kreg := s.kreg, time.frc := s.time.frc, rcd := s.rcd } = { s with out := [] }) ∧
  (∀ (s : State) (e n : Nat) (a b : List Octet), s.kreg.previous = some (e, a, b, n) →
    exec .previousEpochClear s = .next { s with out := [], kreg.previous := none, time.frc := (s.reach (perSec * n)).time.frc }) ∧
  (∀ (s : State) (x : BitVec 9), s.sys.mode = .dormant → s.ao.crystalArmed = true → x ≠ 0#9 → s.keys.latch = none →
    exec (.tamper x) s = .next { s with
      out := [], keys.slots := [], keys.latch := some ⟨x.toNat, Mode.dormant.code, s.ao.optime, false, false⟩, kreg.live := x.toNat }) ∧
  (∀ (s : State) (x : BitVec 9), s.powered = true → x ≠ 0#9 →
    ∃ t, exec (.tamper x) s = .next t ∧ t.keys.slots = [] ∧ t.keys.latch.isSome = true ∧ t.keys.fuse = s.keys.fuse ∧
      t.keys.records = s.keys.records ∧ t.flash = s.flash ∧ t.upd = s.upd ∧ t.mets = s.mets ∧ t.pending = s.pending) ∧
  (∀ (s : State) (x : BitVec 9), s.sys.mode = .lead → s.sys.saving = false → s.sys.degraded = false → s.hasStandby = false → x ≠ 0#9 →
    ∃ t, exec (.tamper x) s = .next t ∧ t.sys.mode = .hold ∧ t.sys.degraded = true ∧ bit t.cellSet causeTamper = true ∧
      t.pair.tamperSeen = true ∧ t.kreg.tampers = s.kreg.tampers + 1#32 ∧ t.kreg.cache = [] ∧
      t.kreg.aborted = (if s.ns < s.kreg.jobTill then s.kreg.aborted + 1#32 else s.kreg.aborted) ∧ t.kreg.previous = none ∧
      t.pair.claim = s.pair.claim ∧ t.pending = s.pending) ∧
  (∀ s : State, s.life = .vendor →
    exec (.manufacturingMessage false) s = .next { s with out := [], keys.fuse.word := setBit s.keys.fuse.word 0 } ∧
    exec (.manufacturingMessage true) s = .next { s with
      out := [], keys.slots := [], keys.fuse.word := setBit s.keys.fuse.word 2, keys.fuse.keystone := []
      keys.fuse.wrapped := 2 ^ 448 - 1 }) ∧
  (∀ (s : State) (b : Bool), s.life ≠ .vendor → exec (.manufacturingMessage b) s = .next { s with out := [] }) ∧
  (∀ (s : State) (v : Nat), v < 1900 → s.powered = true → s.kreg.vbatRun = false →
    exec (.vbatLow v) s = .next (State.report 0x0C0E [(2, v), (1, 1)]
      { s with out := [], kreg.vbat := v, kreg.vbatRun := true, ao.vbatLow := true })) ∧
  (∀ (s : State) (v : Nat), 1900 ≤ v →
    exec (.vbatLow v) s = .next { s with out := [], kreg.vbat := sat 16 v, kreg.vbatRun := false, ao.vbatLow := false }) ∧
  (∀ (s : State) (v : Int), s.powered = true → s.junctionMax < v + s.diag.tempOffset → s.sys.tempHigh = false →
    exec (.tempHigh v) s = .next (State.report 0x000F [(4, v + s.diag.tempOffset)]
      { s with out := [], kreg.temp := v + s.diag.tempOffset, sys.tempHigh := true, sys.events := s.sys.events ||| 16#32 })) ∧
  (∀ (s : State) (v : Int), s.powered = true → v + s.diag.tempOffset ≤ s.junctionMax - 50 →
    exec (.tempHigh v) s = .next { s with out := [], kreg.temp := v + s.diag.tempOffset, sys.tempHigh := false })

/-- The download: UPDATE_BEGIN of another image clears the state for it; UPDATE_BLOCK programs a block of STAGING, erasing its sector
first where that has not been done, sets its bit and changes no octet outside the sector; UPDATE_QUERY returns the bitmap;
UPDATE_VERIFY of a complete download starts its verification; in a save, on a transport that still runs, each answers SAVING and
changes nothing. Verification and trial: a verification that ends with outcome 0 writes a PENDING record, any other leaves the
journal as it was; an interrupted one starts again in a service mode; a trial that is healthy at its end is confirmed, with the
image's revoke mask burnt, and one that is not is reverted with outcome 2 and restarts with cause 0x07, as UPD_REVERT does with
outcome 4; UPD_CANCEL withdraws a pending image and clears the download. Each new record is appended to the journal in the flash.
Rules: R396, R397, R398, R409, R399, R400, R405, R406, R408. Model's choices: logs 3, 74, 133. -/
def Obligations.FirmwareUpdate : Prop :=
  (∀ (s : State) (f : ChpFrame) (k : Nat), chpPasses 0x0040 (some 4) false f k s → f.body.length = 52 → getLe f.body 0 4 % 4 = 0 →
    65536 ≤ getLe f.body 0 4 → getLe f.body 0 4 ≤ 16777216 → s.ureg.verifying = false → s.upd.journal.state ≠ 1 →
    getLe f.body 0 4 ≠ s.upd.length →
    ∃ t, exec (.updateBegin f) s = .next t ∧
      t.upd = { s.upd with length := getLe f.body 0 4, digest := BitVec.ofNat 384 (ofBe (slice f.body 4 48)), blocks := 0, sectors := 0, window := none } ∧
      t.ureg = { s.ureg with rewrites := 0 } ∧ answered f 0x0040 0 [0#8, 0#8, 0#8, 0#8] k t ∧
      { t with upd := s.upd, ureg := s.ureg, host := s.host, rcd := s.rcd, out := [] } = { s with out := [] }) ∧
  (∀ (s : State) (f : ChpFrame) (k : Nat), chpPasses 0x0041 (some 4) false f k s → 9 ≤ f.body.length → f.body.length ≤ 4104 →
    s.ureg.verifying = false → getLe f.body 0 4 % 4096 = 0 → getLe f.body 0 4 < s.upd.length →
    (f.body.drop 8).length = min 4096 (s.upd.length - getLe f.body 0 4) → crc32c (f.body.drop 8) = getLe f.body 4 4 →
    bit s.upd.blocks (getLe f.body 0 4 / 4096) = false → s.flash.wf = true →
    ∃ t, exec (.updateBlock f 0) s = .next t ∧
      t.upd = { s.upd with blocks := setBit s.upd.blocks (getLe f.body 0 4 / 4096)
                           sectors := if bit s.upd.sectors (getLe f.body 0 4 / 65536) = true then s.upd.sectors
                             else setBit s.upd.sectors (getLe f.body 0 4 / 65536) } ∧
      (bit s.upd.sectors (getLe f.body 0 4 / 65536) = false →
        t.flash.readN (0x2800000 + getLe f.body 0 4) (f.body.drop 8).length = f.body.drop 8) ∧
      (∀ a, a < 0x2800000 + getLe f.body 0 4 / 65536 * 65536 ∨ 0x2800000 + (getLe f.body 0 4 / 65536 + 1) * 65536 ≤ a →
        t.flash.read a = s.flash.read a) ∧ t.flash.wf = true ∧ answered f 0x0041 0 [0#8, 0#8, 0#8, 0#8, 0#8, 0#8, 0#8, 0#8] k t ∧
      { t with upd := s.upd, flash := s.flash, ureg := s.ureg, host := s.host, rcd := s.rcd, out := [] } = { s with out := [] }) ∧
  (∀ (s : State) (f : ChpFrame) (k : Nat), chpPasses 0x0042 (some 4) false f k s → f.body = [] →
    ∃ t, exec (.updateQuery f) s = .next t ∧
      answered f 0x0042 0 (leBytes 1 (if s.upd.length = 0 then 3 else 0) ++ [0#8] ++ leBytes 2 s.dlBlocks ++ leBytes 2 s.dlTotal ++
        [0#8, 0#8] ++ leBytes 512 s.upd.blocks) k t ∧ { t with host := s.host, out := [] } = { s with out := [] }) ∧
  (∀ (s : State) (f : ChpFrame) (k : Nat), chpPasses 0x0043 (some 4) false f k s → f.body.length = 4 → zeros f.body 2 2 = true →
    (getLe f.body 0 2 = 0 ∨ (60 ≤ getLe f.body 0 2 ∧ getLe f.body 0 2 ≤ 3600)) → s.dlComplete = true → s.upd.journal.state ≠ 4 →
    bit s.pair.peer 18 = false → s.ureg.verifying = false →
    ∃ t, exec (.updateVerify f) s = .next t ∧ t.ureg = { s.ureg with verifying := true, verify := some f } ∧
      t.upd = { s.upd with window := some (if getLe f.body 0 2 = 0 then 600 else getLe f.body 0 2) } ∧ waiting f k t ∧
      { t with upd := s.upd, ureg := s.ureg, host := s.host } = { s with out := [] }) ∧
  (∀ (s : State) (f : ChpFrame) (k : Nat), s.sys.saving = true → chpPasses 0x0040 (some 4) false f k { s with sys.saving := false } →
    f.body.length = 52 →
    ∃ t, exec (.updateBegin f) s = .next t ∧ answered f 0x0040 0 (padTo 4 [0x0F#8]) k t ∧
      { t with host := s.host, out := [] } = { s with out := [] }) ∧
  (∀ (s : State) (f : ChpFrame) (k : Nat), s.sys.saving = true → chpPasses 0x0041 (some 4) false f k { s with sys.saving := false } →
    9 ≤ f.body.length → f.body.length ≤ 4104 →
    ∃ t, exec (.updateBlock f 0) s = .next t ∧ answered f 0x0041 0 (padTo 8 [0x0F#8]) k t ∧
      { t with host := s.host, out := [] } = { s with out := [] }) ∧
  (∀ (s : State) (f : ChpFrame) (k : Nat), s.sys.saving = true → chpPasses 0x0042 (some 4) false f k { s with sys.saving := false } →
    f.body = [] →
    ∃ t, exec (.updateQuery f) s = .next t ∧ answered f 0x0042 0 (padTo 520 [0x0F#8]) k t ∧
      { t with host := s.host, out := [] } = { s with out := [] }) ∧
  (∀ (s : State) (f : ChpFrame) (k : Nat), s.sys.saving = true → chpPasses 0x0043 (some 4) false f k { s with sys.saving := false } →
    f.body.length = 4 → zeros f.body 2 2 = true →
    ∃ t, exec (.updateVerify f) s = .next t ∧ answered f 0x0043 0 (padTo 4 [0x0F#8]) k t ∧
      { t with host := s.host, out := [] } = { s with out := [] }) ∧
  (∀ s : State, s.ureg.verifying = true → s.sys.saving = false → s.ureg.verify = none →
    ∃ t, exec .verifyComplete s = .next t ∧ t.ureg.verifying = false ∧ t.upd.window = none ∧ t.upd.blocks = s.upd.blocks ∧
      (if s.verifyOutcome = 0 then
        t.upd.journal = { s.upd.journal with state := 1, starts := 0, window := s.upd.window.getD 600, cursor := 0, length := s.upd.length
                                             digest := s.upd.digest, sequence := (s.upd.journal.sequence + 1) % 2 ^ 32
                                             active := Config.sha384 (s.fwImage fwActive) } ∧
        t.flash = s.flash.journalAppend t.upd.journal
      else t.upd.journal = s.upd.journal ∧ t.flash = s.flash ∧ t.ureg.events = s.ureg.events ||| 2#32) ∧
      { t with upd := s.upd, ureg := s.ureg, flash := s.flash, rcd := s.rcd } = { s with out := [] }) ∧
  (∀ s : State, s.inService = true → s.upd.window.isSome = true → s.ureg.verifying = false →
    exec .verifyRestart s = .next { s with out := [], ureg.verifying := true, ureg.verify := none }) ∧
  (∀ (s : State) (n : Nat), s.upd.journal.state = 4 → s.ureg.opened = some n → s.sys.saving = false →
    (s.atLeast s.trialEnd).trialHealthy = true →
    ∃ t, exec .trialConfirm s = .next t ∧ t.upd.journal.state = 0 ∧ t.upd.journal.outcome = 1 ∧
      t.keys.fuse.vendorRevoked = s.keys.fuse.vendorRevoked ||| getLe (s.fwHead fwActive) 22 1 % 16 ∧ t.ureg.opened = none ∧
      t.ureg.startedTrial = false ∧ t.flash = s.flash.journalAppend t.upd.journal ∧
      { t with flash := s.flash, upd.journal := s.upd.journal, keys.fuse.vendorRevoked := s.keys.fuse.vendorRevoked, ureg := s.ureg, time.frc := s.time.frc,
               rcd := s.rcd } = { s with out := [] }) ∧
  (∀ s : State, s.upd.journal.state = 4 → s.inService = true → s.sys.saving = false → (s.atLeast s.trialEnd).trialHealthy = false →
    ∃ t, exec .trialExpired s = .next t ∧ t.upd.journal.state = 5 ∧ t.upd.journal.outcome = 2 ∧ t.sys.mode = .start ∧ t.sys.cause = 7 ∧
      t.pair.claim = false ∧ t.keys = s.keys ∧ t.flash = s.flash.journalAppend t.upd.journal ∧ t.upd.blocks = s.upd.blocks ∧ t.pending = s.pending) ∧
  (∀ s : State, s.upd.journal.state = 4 → s.powered = true → s.sys.saving = false →
    ∃ t, exec .updRevert s = .next t ∧ t.upd.journal.state = 5 ∧ t.upd.journal.outcome = 4 ∧ t.sys.mode = .start ∧ t.sys.cause = 7 ∧
      t.pair.claim = false ∧ t.keys = s.keys ∧ t.flash = s.flash.journalAppend t.upd.journal ∧ t.upd.blocks = s.upd.blocks ∧ t.pending = s.pending) ∧
  (∀ s : State, s.upd.journal.state ≠ 4 → exec .updRevert s = .next { s with out := [] }) ∧
  (∀ s : State, s.upd.journal.state = 1 → s.powered = true → s.sys.saving = false →
    ∃ t, exec .updCancel s = .next t ∧ t.upd.journal.state = 0 ∧ t.upd.journal.outcome = 0 ∧ t.upd.length = 0 ∧ t.upd.blocks = 0 ∧
      t.upd.sectors = 0 ∧ t.upd.window = none ∧
      t.flash = s.flash.journalAppend t.upd.journal ∧ { t with upd := s.upd, flash := s.flash } = { s with out := [] })

/-- Accumulator `k` of a point has gained an energy, in units of which `unitsPerNwh` are 1 nWh; the fraction stays with it (R422). -/
def gained (k e : Nat) (m n : MetPoint) : Prop :=
  ∀ a c, m.acc[k]? = some a → m.frac[k]? = some c →
    n.acc[k]? = some ((a + (c + e) / unitsPerNwh) % 2 ^ 96) ∧ n.frac[k]? = some ((c + e) % unitsPerNwh)

/-- Energy blocks and seconds: a block takes the samples of every channel; its energies enter its point's sums of the second, and
where accumulation runs its accumulators, below the starting current none; the first block after START resumes accumulation and
adds nothing; a whole second publishes RMS values and the mean powers of the sums and begins new ones, and no accumulator changes.
Metering records: a checkpoint writes the accumulators to the copy that START would not take, and a failed write leaves that copy
invalid; LATCH of MET_SNAP_CTL latches every accumulator with the next sequence number; a bitstream fault of a used pair is set
and counted until its pair recovers; MET_CALc is written only in VENDOR and SERVICE and within its ranges, to the older copy, and
waits for a whole second. Rules: R417, R418, R419, R422, R427, R413, R416, R420, R423, R425. Model's choices: logs 6, 52, 194. -/
def Obligations.EnergyMetering : Prop :=
  (∀ (s : State) (l : List BlockIn) (r : PointRec) (p q : Int) (e i j : Nat), s.metering = true → s.time.running = true →
    s.met.accumulating = true → r ∈ s.recs (·.points) → ((s.recs (·.points)).map (·.point)).Nodup →
    (s.meterSamples l).blockEnergy r = (p, q, e) → (creepLow r p.natAbs && creepLow r q.natAbs) = false →
    i = (if 0 ≤ p then 0 else 1) → j = (if 0 ≤ q then (if 0 ≤ p then 2 else 3) else (if p < 0 then 4 else 5)) →
    ∃ t, exec (.meterBlock l) s = .next t ∧ (t.mp r.point).sumP = (s.mp r.point).sumP + p ∧ (t.mp r.point).sumQ = (s.mp r.point).sumQ + q ∧
      (t.mp r.point).sumS = (s.mp r.point).sumS + e ∧ (t.mp r.point).blocks = (s.mp r.point).blocks + 1 ∧
      gained i p.natAbs (s.mp r.point) (t.mp r.point) ∧ gained j q.natAbs (s.mp r.point) (t.mp r.point) ∧
      gained 6 e (s.mp r.point) (t.mp r.point) ∧ (∀ k, k ≠ i → k ≠ j → k ≠ 6 →
        (t.mp r.point).acc[k]? = (s.mp r.point).acc[k]? ∧ (t.mp r.point).frac[k]? = (s.mp r.point).frac[k]?) ∧
      (∀ n, (∀ x ∈ s.recs (·.points), x.point ≠ n) → t.mp n = s.mp n) ∧ t.met.chans = (s.meterSamples l).met.chans ∧
      t.met.satSeen = (s.meterSamples l).met.satSeen ∧
      t.time.frc = (s.mark markBlock (10 * perMs)).time.frc ∧
      { t with met.points := s.met.points, met.chans := s.met.chans, met.satSeen := s.met.satSeen, time.frc := s.time.frc
               time.marks := s.time.marks } = { s with out := [] }) ∧
  (∀ (s : State) (l : List BlockIn) (r : PointRec) (p q : Int) (e : Nat), s.metering = true → s.time.running = true →
    s.met.accumulating = true → r ∈ s.recs (·.points) → ((s.recs (·.points)).map (·.point)).Nodup →
    (s.meterSamples l).blockEnergy r = (p, q, e) → creepLow r p.natAbs = true →
    creepLow r q.natAbs = true → creepLow r e = true →
    ∃ t, exec (.meterBlock l) s = .next t ∧ (t.mp r.point).acc = (s.mp r.point).acc ∧ (t.mp r.point).frac = (s.mp r.point).frac ∧
      (t.mp r.point).creeps = (s.mp r.point).creeps + 1 ∧ (∀ n, (∀ x ∈ s.recs (·.points), x.point ≠ n) → t.mp n = s.mp n) ∧
      t.met.chans = (s.meterSamples l).met.chans ∧
      { t with met.points := s.met.points, met.chans := s.met.chans, met.satSeen := s.met.satSeen, time.frc := s.time.frc
               time.marks := s.time.marks } = { s with out := [] }) ∧
  (∀ (s : State) (l : List BlockIn) (r : PointRec), s.metering = true → s.time.running = true → s.met.accumulating = false →
    s.inService = true → r ∈ s.recs (·.points) → ((s.recs (·.points)).map (·.point)).Nodup →
    ∃ t, exec (.meterBlock l) s = .next t ∧ t.met.accumulating = true ∧ t.met.resumed = some t.time.frc ∧
      (t.mp r.point).acc = (s.mp r.point).acc ∧ (∀ n, (∀ x ∈ s.recs (·.points), x.point ≠ n) → t.mp n = s.mp n) ∧
      t.met.chans = (s.meterSamples l).met.chans ∧
      { t with met := s.met, mets := s.mets, rcd := s.rcd, time.frc := s.time.frc, time.marks := s.time.marks } = { s with out := [] }) ∧
  (∀ (s : State) (r : PointRec), s.metering = true → s.time.running = true → r ∈ s.recs (·.points) →
    ((s.recs (·.points)).map (·.point)).Nodup → Tab.wf {} s.met.points = true →
    Tab.wf {} s.met.chans = true →
    ∃ t, exec .meterSecond s = .next t ∧ t.met.vrms = (List.range 6).map (fun c => s.rmsOf 800000 c) ∧
      (t.mp r.point).irms = r.inputs.map (fun v => if v = 0xFF then 0 else s.rmsOf r.scale (r.channel v)) ∧
      (t.mp r.point).p = meanPower (s.mp r.point).sumP ∧ (t.mp r.point).q = meanPower (s.mp r.point).sumQ ∧
      (t.mp r.point).s = (meanPower (s.mp r.point).sumS).toNat ∧ (t.mp r.point).sumP = 0 ∧ (t.mp r.point).blocks = 0 ∧
      (t.mp r.point).acc = (s.mp r.point).acc ∧ (t.mp r.point).frac = (s.mp r.point).frac ∧ (∀ n, (∀ x ∈ s.recs (·.points), x.point ≠ n) →
      t.mp n = s.mp n) ∧
      (∀ c, (Tab.get {} t.met.chans c).squares = 0 ∧ (Tab.get {} t.met.chans c).block = (Tab.get {} s.met.chans c).block) ∧
      t.mets = s.mets ∧ t.sys = s.sys ∧ t.pair = s.pair ∧ t.fleet = s.fleet ∧ t.pending = s.pending) ∧
  (∀ s : State, s.metering = true → s.time.running = true → s.mets.checks.length = 2 →
    ∃ t c, exec (.meterCheckpoint none) s = .next t ∧ t.mets.checks[s.mets.nextCheck]? = some c ∧ c.valid = true ∧ c.time = t.now ∧
      c.accs.map (·.1) = t.met.points.map (·.1) ∧ (∀ k, k ≠ s.mets.nextCheck → t.mets.checks[k]? = s.mets.checks[k]?) ∧
      t.met.cntChecks = s.met.cntChecks + 1#32 ∧
      { t with met.points := s.met.points, met.cntChecks := s.met.cntChecks, mets.checks := s.mets.checks, time.frc := s.time.frc,
               time.marks := s.time.marks } = { s with out := [] }) ∧
  (∀ (s : State) (x : BitVec 8), s.metering = true → s.time.running = true → s.mets.checks.length = 2 →
    ∃ t c, exec (.meterCheckpoint (some x)) s = .next t ∧ t.mets.checks[s.mets.nextCheck]? = some c ∧ c.valid = false ∧
      (∀ k, k ≠ s.mets.nextCheck → t.mets.checks[k]? = s.mets.checks[k]?) ∧ t.met.events = s.met.events ||| 64#32 ∧
      t.met.cntChecks = s.met.cntChecks ∧
      { t with met.points := s.met.points, met.events := s.met.events, mets.checks := s.mets.checks, time.frc := s.time.frc,
               time.marks := s.time.marks, rcd := s.rcd } = { s with out := [] }) ∧
  (∀ s : State, s.metering = true →
    ∃ t, exec .snapshotLatch s = .next t ∧ t.met.snap = s.met.points.map (fun p => (p.1, p.2.acc)) ∧
      t.met.snapSeq = (s.met.snapSeq + 1) % 65536 ∧ t.met.snapCal = s.met.calSeq ∧ t.met.cntSnap = s.met.cntSnap + 1#32 ∧
      { t with met.snap := s.met.snap, met.snapTime := s.met.snapTime, met.snapSeq := s.met.snapSeq, met.snapCal := s.met.snapCal,
               met.cntSnap := s.met.cntSnap } = { s with out := [] }) ∧
  (∀ (s : State) (n : Fin 8), s.metering = true → s.pairUsed n.val = true → bit s.met.bsFault n.val = false →
    exec (.bitstreamFault n) s = .next { s with
      out := [], met.bsFault := setBit s.met.bsFault n.val, met.bsSecond := setBit s.met.bsSecond n.val
      met.cntBs := s.met.cntBs + 1#32, met.events := s.met.events ||| 2#32 }) ∧
  (∀ (s : State) (n : Fin 8), s.metering = true →
    ∃ t, exec (.bitstreamRecovered n) s = .next t ∧ bit t.met.bsFault n.val = false ∧
      (∀ k, k < 8 → k ≠ n.val → bit t.met.bsFault k = bit s.met.bsFault k) ∧
      { t with met.bsFault := s.met.bsFault } = { s with out := [] }) ∧
  (∀ (s : State) (c : Fin 38) (h : Fin 2) (v : Word), s.powered = true → (s.life = .vendor ∨ s.life = .service) →
    calRange h.val v.toNat = true → s.mets.cal.length = 2 →
    ∃ t n, exec (.calWrite c h v) s = .next t ∧ t.mets.cal[s.mets.older]? = some (some n) ∧ n.valid = true ∧
      n.seq = (s.mets.newest.elim 0 (·.seq) + 1) % 65536 ∧ Tab.get calNone n.chans c.val = calPut (s.calRec c.val) h.val v.toNat ∧
      t.met.calDue = s.met.calDue ++ [⟨c.val, h.val, calWord (s.calRec c.val) h.val, calWord (calPut (s.calRec c.val) h.val v.toNat) h.val,
        n.seq, s.now⟩] ∧ (∀ k, k ≠ s.mets.older → t.mets.cal[k]? = s.mets.cal[k]?) ∧
      { t with mets.cal := s.mets.cal, met.calDue := s.met.calDue } = { s with out := [] }) ∧
  (∀ (s : State) (c : Fin 38) (h : Fin 2) (v : Word), (s.life = .provision ∨ s.life = .field ∨ s.life = .retired) →
    exec (.calWrite c h v) s = .next { s with out := [] })

/-- Energy is what changes an accumulator: through every step the table of points keeps its canonical form, and while the unit is in a
service mode before and after, no command but a metering block and the save's detection changes any accumulator or the fraction
kept with it. Rules: R422, R426. -/
def Obligations.AccumulatorsChangeByEnergy : Prop :=
  ∀ s t : State, Tab.wf {} s.met.points = true → step s = .next t →
    Tab.wf {} t.met.points = true ∧
    (s.inService = true → t.inService = true → (∀ b, s.pending.head? ≠ some (.meterBlock b)) →
      (∀ b, s.pending.head? ≠ some (.powerFailDetect b)) → ∀ p, (t.mp p).acc = (s.mp p).acc ∧ (t.mp p).frac = (s.mp p).frac)

/-- Lighting strings: a base period ends on the grid that its string keeps to the arbitration boundary; the third evaluated period in
a row with low current and sink latches OPEN; a period that is not evaluated counts as idle; a diagnostic pulse is inserted for an
enabled dim string in RUN after its 1,024th base period; STRING_RETRY ends every overvoltage hold; a test is due by its period or
by TEST, and holds off each pair that it finds shorted. The boost: a fault in RUN or SOFT_START opens FAULT_WAIT and is counted;
after 1 s it soft-starts at half the boost maximum, or latches off from the fifth fault in succession; within 5 % of the set-point
it enters RUN; 60 s in RUN clear the fault count; BOOST_RETRY ends the latch; each current trip is counted; the headroom period
takes the lowest sink of a regulated string. Rules: R26, R435, R442, R443, R444, R445, R439, R440, R441. Model's choices: logs 6,
115. -/
def Obligations.ZoneLighting : Prop :=
  (∀ (s w : State) (n : Fin 24) (r : StringRec) (v c : Nat), w = s.whenReady domLighting → s.strRec n.val = some r →
    s.clk.lighting = true → s.lum.boost = .run → 118 ≤ longest (w.onClocks n.val) → c < r.current * 500 → v < 300 →
    (s.lstr n.val).fails = 2 → (s.lstr n.val).opened = false →
    ∃ t, exec (.lumBasePeriod n v c) s = .next t ∧ (t.lstr n.val).opened = true ∧ (t.lstr n.val).fails = 3 ∧ (t.lstr n.val).sink = v ∧
      (t.lstr n.val).heldOv = (s.lstr n.val).heldOv ∧ t.lum.opens = s.lum.opens + 1#32 ∧ t.lum.events = s.lum.events ||| 1#32 ∧
      (t.lstr n.val).period = (w.lumGrid n.val).1 ∧ (t.lstr n.val).ended = (w.lumGrid n.val).2 ∧
      (t.lstr n.val).clocks = (s.lstr n.val).lasted (w.lumGrid n.val).1 (w.lumGrid n.val).2 ∧ (∀ k, k ≠ n.val → t.lstr k = s.lstr k) ∧
      t.lum.boost = .run ∧ t.time.frc = (w.atLeast (w.lumGrid n.val).2).time.frc ∧
      { t with lum := s.lum, rcd := s.rcd, time.frc := s.time.frc } = { s with out := [] }) ∧
  (∀ (s w : State) (n : Fin 24) (r : StringRec) (v c : Nat) (x : LumString), w = s.whenReady domLighting → s.strRec n.val = some r →
    s.lstr n.val = x → s.clk.lighting = true → s.lum.boost = .run → 118 ≤ longest (w.onClocks n.val) → Tab.wf {} s.lum.strings = true →
    ∃ t y, exec (.lumBasePeriod n v c) s = .next t ∧ t.lstr n.val = y ∧ y.sink = v ∧ y.low = decide (c < r.current * 900) ∧
      y.fails = (if c < r.current * 500 ∧ v < 300 then x.fails + 1 else 0) ∧
      y.goods = (if c < r.current * 500 ∧ v < 300 then 0 else x.goods + 1) ∧ y.overs = (if 10000 < v then x.overs + 1 else 0) ∧
      y.opened = (if 3 ≤ y.fails then true else if 8 ≤ y.goods then false else x.opened) ∧
      y.heldOv = (x.heldOv || decide (3 ≤ y.overs)) ∧ y.heldAdj = x.heldAdj ∧ y.idle = 0 ∧ (∀ k, k ≠ n.val → t.lstr k = s.lstr k) ∧
      t.lum.boost = .run ∧ t.time.frc = (w.atLeast (w.lumGrid n.val).2).time.frc ∧
      { t with lum := s.lum, rcd := s.rcd, time.frc := s.time.frc } = { s with out := [] }) ∧
  (∀ (s w : State) (n : Fin 24) (r : StringRec) (v c : Nat), w = s.whenReady domLighting → s.strRec n.val = some r →
    s.clk.lighting = true → s.lum.boost ≠ .run →
    ∃ t, exec (.lumBasePeriod n v c) s = .next t ∧
      t.lstr n.val = { s.lstr n.val with
        on := w.onClocks n.val, diag := false, idle := (s.lstr n.val).idle + 1
        sinceDiag := if (s.lstr n.val).diag = true then 0 else (s.lstr n.val).sinceDiag + 1
        period := (w.lumGrid n.val).1, ended := (w.lumGrid n.val).2
        clocks := (s.lstr n.val).lasted (w.lumGrid n.val).1 (w.lumGrid n.val).2 } ∧
      (∀ k, k ≠ n.val → t.lstr k = s.lstr k) ∧ t.time.frc = (w.atLeast (w.lumGrid n.val).2).time.frc ∧
      { t with lum.strings := s.lum.strings, time.frc := s.time.frc } = { s with out := [] }) ∧
  (∀ (s : State) (n : Fin 24) (r : StringRec), s.strRec n.val = some r → s.clk.lighting = true → bit r.flags 0 = true → s.lum.boost = .run →
    s.onClocks n.val < 118 → (s.lstr n.val).heldOv = false → (s.lstr n.val).heldAdj = false →
    1024 ≤ (s.lstr n.val).sinceDiag →
    ∃ t, exec (.diagPulse n) s = .next t ∧ t.lstr n.val = { s.lstr n.val with diag := true } ∧ t.onClocks n.val = 118 ∧
      (∀ k, k ≠ n.val → t.lstr k = s.lstr k) ∧ t.time.frc = (s.atLeast (s.lumAt n.val (s.diagBoundary n.val) 0)).time.frc ∧
      { t with lum.strings := s.lum.strings, time.frc := s.time.frc } = { s with out := [] }) ∧
  (∀ s : State, s.powered = true → Tab.wf {} s.lum.strings = true →
    ∃ t, exec .stringRetry s = .next t ∧ (∀ n, t.lstr n = { s.lstr n with heldOv := false, overs := 0 }) ∧
      { t with lum.strings := s.lum.strings } = { s with out := [] }) ∧
  (∀ s : State, s.clk.lighting = true → (s.unitRec.map (·.shortTest)).getD 0 ≠ 0 →
    exec .adjTestDue s = .next { s.mark markShort ((s.unitRec.map (·.shortTest)).getD 0 * perSec) with out := [], lum.testDue := true }) ∧
  (∀ s : State, s.powered = true → exec .lumTest s = .next { s with out := [], lum.testDue := true }) ∧
  (∀ (s : State) (a b : List Nat), s.lum.testDue = true → s.lum.boost = .run → s.sys.saving = false →
    Tab.wf {} s.lum.strings = true →
    ∃ t, exec (.adjTest a b) s = .next t ∧ t.lum.testDue = false ∧ t.lum.tested = some t.tickStart ∧
      t.lum.testTime = secOf t.now % 2 ^ 32 ∧ t.time.frc = (s.reach (ceilDiv s.now (10 * perMs) * (10 * perMs))).time.frc ∧
      (∀ n, n < 23 → (bit t.lum.adj n = true ↔ s.pairTested n = true ∧ (shortPhase n a b).isSome = true)) ∧
      (∀ n, n < 23 → s.pairTested n = true → (shortPhase n a b).isSome = true →
        (t.lstr n).heldAdj = true ∧ (t.lstr (n + 1)).heldAdj = true) ∧
      (∀ n, (t.lstr n).heldOv = (s.lstr n).heldOv ∧ (t.lstr n).opened = (s.lstr n).opened) ∧ t.lum.boost = .run ∧
      { t with lum := s.lum, rcd := s.rcd, ao.intake := s.ao.intake, diag.active := s.diag.active, time.frc := s.time.frc } =
        { s with out := [] }) ∧
  (∀ (s : State) (b : Bool) (v : Nat), s.lum.boost = .run ∨ s.lum.boost = .softStart →
    exec (.boostFault b v) s = .next (State.report 0x0F05 [(1, flag (!b)), (2, v), (1, (s.lum.faults + 1 : Nat))]
      { s with out := [], lum.boost := .faultWait, lum.faults := s.lum.faults + 1, lum.faultAt := s.ns, lum.runSince := none
               lum.output := v, lum.boostFaults := s.lum.boostFaults + 1#32, lum.events := s.lum.events ||| 8#32 })) ∧
  (∀ s : State, s.lum.boost = .faultWait → s.lum.faults ≤ 4 →
    ∃ t, exec .boostFaultWaitEnd s = .next t ∧ t.lum = { s.lum with boost := .softStart, runSince := none } ∧
      (t.obj 578).setpoint = ((s.unitRec.map (·.boostMax)).getD 0 * 50 * 2 ^ 20 : Nat) ∧ (∀ k, k ≠ 578 → t.obj k = s.obj k) ∧
      t.time.frc = (s.atLeast (s.lum.faultAt + 1000000000)).time.frc ∧
      { t with lum := s.lum, loop.objects := s.loop.objects, time.frc := s.time.frc } = { s with out := [] }) ∧
  (∀ s : State, s.lum.boost = .faultWait → 4 < s.lum.faults →
    ∃ t, exec .boostFaultWaitEnd s = .next t ∧ t.lum = { s.lum with boost := .latched, events := s.lum.events ||| 16#32 } ∧
      t.time.frc = (s.atLeast (s.lum.faultAt + 1000000000)).time.frc ∧
      { t with lum := s.lum, time.frc := s.time.frc, rcd := s.rcd, ao.intake := s.ao.intake, diag.active := s.diag.active } = { s with out := [] }) ∧
  (∀ (s : State) (v : Nat), s.lum.boost = .softStart → s.nearSetpoint v = true →
    exec (.boostRun v) s = .next { s with out := [], lum.boost := .run, lum.output := v, lum.runSince := some s.ns }) ∧
  (∀ (s : State) (v : Nat), s.lum.boost = .softStart → s.nearSetpoint v = false →
    exec (.boostRun v) s = .next { s with out := [], lum.output := v }) ∧
  (∀ (s : State) (x : Nat), s.lum.boost = .run → s.lum.runSince = some x →
    exec .boostFaultCountReset s = .next { s.atLeast (60000000000 + x) with out := [], lum.faults := 0 }) ∧
  (∀ s : State, s.powered = true → s.lum.boost = .latched →
    ∃ t, exec .boostRetry s = .next t ∧ t.lum = { s.lum with boost := .softStart, faults := 0, runSince := none } ∧
      (∀ k, k ≠ 578 → t.obj k = s.obj k) ∧ { t with lum := s.lum, loop.objects := s.loop.objects } = { s with out := [] }) ∧
  (∀ s : State, s.lum.boost ≠ .off → exec .bstCsTrip s = .next { s with out := [], lum.curlim := s.lum.curlim + 1#32 }) ∧
  (∀ (s : State) (v : Nat), s.clk.lighting = true →
    exec (.boostHeadroomPeriod [] v) s = .next { s with out := [], lum.regulated := false, lum.output := v }) ∧
  (∀ (s : State) (l : List (Fin 24 × Nat × Nat)) (v : Nat), s.clk.lighting = true → (l.map (·.1)).Nodup → Tab.wf {} s.lum.strings = true →
    ∃ t, exec (.boostHeadroomPeriod l v) s = .next t ∧ t.lum.output = v ∧
      (∀ n x c, (n, x, c) ∈ l → t.lstr n.val = { s.lstr n.val with
        sink := x, low := (s.strRec n.val).elim false (fun r => decide (c < r.current * 900)) }) ∧
      (∀ k, (∀ n ∈ l, n.1.val ≠ k) → t.lstr k = s.lstr k) ∧
      (t.lum.regulated = true ↔ ∃ n x c, (n, x, c) ∈ l ∧ s.lit n.val = true ∧ (t.lstr n.val).opened = false ∧ (t.lstr n.val).low = false) ∧
      (t.lum.regulated = true → ∃ n c, (n, t.lum.minSink, c) ∈ l ∧ s.lit n.val = true ∧ (t.lstr n.val).opened = false ∧ (t.lstr n.val).low = false) ∧
      (∀ n x c, (n, x, c) ∈ l → s.lit n.val = true → (t.lstr n.val).opened = false → (t.lstr n.val).low = false → t.lum.minSink ≤ x) ∧
      { t with lum := s.lum, rcd := s.rcd } = { s with out := [] })

/-- The recorder's intake: an event with a token left enters the FIFO with its time, one without is suppressed and counted, one that
finds the FIFO full is dropped and counted; the writer stores the oldest entry as the newest record, one each 100 ns; a bucket
gains a token at the instants of its refill clock, up to eight. Rules: R453, R454. Model's choices: log 130. -/
def Obligations.EventsTaken : Prop :=
  (∀ (s : State) (c : BitVec 16) (d : List Octet), s.rcd.closed = false → s.powered = true → s.sys.mode ≠ .shadow →
    (Tab.get {} s.rcd.buckets c.toNat : Bucket).tokens ≠ 0 → s.rcd.fifo.length < 32 →
    ∃ t e, exec (.eventIntake c d) s = .next t ∧ t.rcd.fifo = joinFifo e s.rcd.fifo ∧ e.code = c ∧ e.data = padTo 12 d ∧ e.sec = secOf s.now ∧
      e.ns = nsOf s.now ∧ e.optime = s.ao.optime ∧ e.pwrcyc = s.ao.pwrcyc ∧
      t.rcd.buckets = Tab.set {} s.rcd.buckets c.toNat { (Tab.get {} s.rcd.buckets c.toNat : Bucket) with
        tokens := (Tab.get {} s.rcd.buckets c.toNat : Bucket).tokens - 1
        next := if 8 ≤ (Tab.get {} s.rcd.buckets c.toNat : Bucket).tokens then s.ns + s.refillNs c.toNat
          else (Tab.get {} s.rcd.buckets c.toNat : Bucket).next } ∧
      { t with rcd.fifo := s.rcd.fifo, rcd.buckets := s.rcd.buckets } = { s with out := [] }) ∧
  (∀ (s : State) (c : BitVec 16) (d : List Octet), s.rcd.closed = false → s.powered = true → s.sys.mode ≠ .shadow →
    (Tab.get {} s.rcd.buckets c.toNat : Bucket).tokens = 0 →
    ∃ t, exec (.eventIntake c d) s = .next t ∧ t.rcd.fifo = s.rcd.fifo ∧ t.rcd.cntSuppressed = s.rcd.cntSuppressed + 1#32 ∧
      (Tab.get {} t.rcd.buckets c.toNat : Bucket).suppressed = (Tab.get {} s.rcd.buckets c.toNat : Bucket).suppressed + 1 ∧
      (Tab.get {} t.rcd.buckets c.toNat : Bucket).tokens = 0 ∧ t.rcd.events = s.rcd.events ||| 2#32 ∧
      { t with rcd.buckets := s.rcd.buckets, rcd.cntSuppressed := s.rcd.cntSuppressed, rcd.events := s.rcd.events } = { s with out := [] }) ∧
  (∀ (s : State) (c : BitVec 16) (d : List Octet), s.rcd.closed = false → s.powered = true → s.sys.mode ≠ .shadow →
    (Tab.get {} s.rcd.buckets c.toNat : Bucket).tokens ≠ 0 → 32 ≤ s.rcd.fifo.length →
    ∃ t, exec (.eventIntake c d) s = .next t ∧ t.rcd.fifo = s.rcd.fifo ∧ t.rcd.ovfDrops = s.rcd.ovfDrops + 1 ∧
      t.rcd.cntIntakeOvf = s.rcd.cntIntakeOvf + 1#32 ∧ t.rcd.events = s.rcd.events ||| 1#32 ∧
      { t with rcd.buckets := s.rcd.buckets, rcd.ovfDrops := s.rcd.ovfDrops, rcd.cntIntakeOvf := s.rcd.cntIntakeOvf,
               rcd.events := s.rcd.events } = { s with out := [] }) ∧
  (∀ (s : State) (e : Entry) (l : List Entry), s.rcd.closed = false → s.rcd.fifo = e :: l → s.rcd.ovfDrops = 0 →
    ∃ t r, exec .recordStore s = .next t ∧ t.rcd.fifo = l ∧ t.rcd.buffer = (r :: s.rcd.buffer).take 4096 ∧ r.code = e.code ∧ r.data = e.data ∧
      r.ns = e.ns ∧ r.seq = s.rcd.seq ∧ r.optime = e.optime ∧ r.pwrcyc = e.pwrcyc ∧ t.rcd.seq = (s.rcd.seq + 1) % 256 ∧
      t.ao.intake = s.ao.intake + 1 ∧
      t.rcd.cntRecords = s.rcd.cntRecords + 1#32 ∧ t.time.frc = (s.atLeast s.rcd.storeAt).time.frc ∧ t.rcd.storeAt = t.ns + 100 ∧
      { t with rcd := s.rcd, ao.intake := s.ao.intake, diag.active := s.diag.active, time.frc := s.time.frc } = { s with out := [] }) ∧
  (∀ (s : State) (c : BitVec 16), (Tab.get {} s.rcd.buckets c.toNat : Bucket).tokens < 7 →
    ∃ t, exec (.tokenRefill c) s = .next t ∧ (Tab.get {} t.rcd.buckets c.toNat : Bucket) = { (Tab.get {} s.rcd.buckets c.toNat : Bucket) with
        tokens := (Tab.get {} s.rcd.buckets c.toNat : Bucket).tokens + 1
        next := (Tab.get {} s.rcd.buckets c.toNat : Bucket).next + s.refillNs c.toNat } ∧
      t.time.frc = (s.atLeast (Tab.get {} s.rcd.buckets c.toNat : Bucket).next).time.frc ∧
      (∀ k, k ≠ c.toNat → (Tab.get {} t.rcd.buckets k : Bucket) = Tab.get {} s.rcd.buckets k) ∧
      { t with rcd.buckets := s.rcd.buckets, time.frc := s.time.frc } = { s with out := [] }) ∧
  (∀ (s : State) (c : BitVec 16), (Tab.get {} s.rcd.buckets c.toNat : Bucket).tokens = 7 →
    (Tab.get {} s.rcd.buckets c.toNat : Bucket).suppressed = 0 → Tab.wf {} s.rcd.buckets = true →
    ∃ t, exec (.tokenRefill c) s = .next t ∧ (Tab.get {} t.rcd.buckets c.toNat : Bucket) = {} ∧
      t.time.frc = (s.atLeast (Tab.get {} s.rcd.buckets c.toNat : Bucket).next).time.frc ∧
      (∀ k, k ≠ c.toNat → (Tab.get {} t.rcd.buckets k : Bucket) = Tab.get {} s.rcd.buckets k) ∧
      { t with rcd.buckets := s.rcd.buckets, time.frc := s.time.frc } = { s with out := [] })

/-- R455 whole. A bucket that has suppressed at least one event and becomes full again stores one SUPPRESSED record, which carries the
code, the number of events suppressed, the time of the first in ms and the time from the first to the last in µs; one that has
suppressed none stores nothing. -/
def Obligations.SuppressedRecord : Prop :=
  (∀ (s : State) (c : BitVec 16) (b : Bucket), Tab.get {} s.rcd.buckets c.toNat = b → b.tokens = 7 → b.suppressed ≠ 0 →
    s.rcd.closed = false →
    ∃ t r, exec (.tokenRefill c) s = .next t ∧ t.rcd.buffer = (r :: s.rcd.buffer).take 4096 ∧ r.code = 0x1003#16 ∧
      r.data = leBytes 2 c.toNat ++ leBytes 2 (min b.suppressed 65535) ++ leBytes 4 (b.first / perMs % 2 ^ 32) ++
        leBytes 4 (min ((b.last - b.first) / perUs) (2 ^ 32 - 1)) ∧
      t.rcd.buckets = Tab.set {} s.rcd.buckets c.toNat {} ∧ t.ao.intake = s.ao.intake + 1 ∧
      t.time.frc = (s.atLeast b.next).time.frc ∧
      { t with rcd := s.rcd, ao.intake := s.ao.intake, diag.active := s.diag.active, time.frc := s.time.frc } = { s with out := [] }) ∧
  (∀ (s : State) (c : BitVec 16) (b : Bucket), Tab.get {} s.rcd.buckets c.toNat = b → b.tokens ≤ 7 → b.suppressed = 0 →
    ∃ t, exec (.tokenRefill c) s = .next t ∧ t.rcd.buffer = s.rcd.buffer ∧
      { t with rcd.buckets := s.rcd.buckets, time.frc := s.time.frc } = { s with out := [] })

/-- The recorder's tiers: the host's FLUSH and ARCHIVE, and each whole hour, start what FLUSH and ARCHIVE then do: every waiting
record joins the MRAM ring, and every unarchived one the flash ring, or those of each page of eight at most where it stops after
one; a selected record is copied to the read registers, or shown as absent. Rules: R457, R458, R459. Model's choices: logs 130,
144. -/
def Obligations.RecordsKept : Prop :=
  (∀ s : State, s.powered = true → s.sys.saving = false → exec .recFlushCmd s = .next { s with out := [], rcd.flushing := true }) ∧
  (∀ s : State, s.powered = true → s.sys.saving = false → (s.rcd.flushDue = true ∨ s.rcd.flushing = true) →
    s.store.unarchived + s.rcd.unflushed ≤ 32768 → s.rcd.lostRun = 0 →
    ∃ t, exec .flush s = .next t ∧ t.store.ring = (s.rcd.buffer.take s.rcd.unflushed ++ s.store.ring).take 32768 ∧
      t.store.flushed = s.store.flushed + s.rcd.unflushed ∧ t.store.unarchived = s.store.unarchived + s.rcd.unflushed ∧
      t.rcd.unflushed = 0 ∧ t.rcd.flushing = false ∧ t.rcd.buffer = s.rcd.buffer ∧ t.rcd.cntFlushes = s.rcd.cntFlushes + 1#32 ∧
      { t with store.ring := s.store.ring, store.flushed := s.store.flushed, store.unarchived := s.store.unarchived, rcd := s.rcd } =
        { s with out := [] }) ∧
  (∀ s : State, s.inService = true → s.sys.saving = false → exec .recArchiveCmd s = .next { s with out := [], rcd.archiving := true }) ∧
  (∀ s : State, s.time.running = true → s.inService = true → s.sys.saving = false →
    ∃ t, exec .archiveHourly s = .next t ∧ t.rcd = { s.rcd with archiving := true } ∧
      t.time.frc = (s.mark markHour (3600 * perSec)).time.frc ∧
      { t with rcd := s.rcd, time.frc := s.time.frc, time.marks := s.time.marks } = { s with out := [] }) ∧
  (∀ (s : State) (l : List Bool), s.inService = true → s.sys.saving = false → (s.rcd.archiving = true ∨ 24576 ≤ s.store.unarchived) →
    s.store.unarchived ≤ s.store.ring.length →
    ∃ t, exec (.archive l none) s = .next t ∧ t.store.unarchived = 0 ∧ t.rcd.archiving = false ∧ t.store.ring = s.store.ring ∧
      t.rcd.cntArchived = s.rcd.cntArchived + BitVec.ofNat 32 s.store.unarchived ∧
      (0 < s.store.unarchived → ∃ x ∈ t.store.sectors.head?, x.records.head? = s.store.ring.head?) ∧
      { t with store := s.store, rcd := s.rcd, ao.intake := s.ao.intake, diag.active := s.diag.active } = { s with out := [] }) ∧
  (∀ s : State, s.inService = true → s.sys.saving = false → s.rcd.archiving = true → 8 < s.store.unarchived →
    s.store.unarchived ≤ s.store.ring.length →
    ∃ t, exec (.archive [] (some 1)) s = .next t ∧ t.rcd.archiving = true ∧ s.store.unarchived ≤ t.store.unarchived + 8 ∧
      t.store.unarchived < s.store.unarchived ∧ t.store.ring = s.store.ring ∧
      { t with store := s.store, rcd := s.rcd } = { s with out := [] }) ∧
  (∀ (s : State) (v : Word) (r : Record), s.powered = true → s.recordAt (bits v.toNat 0 2) (bits v.toNat 8 18) = some r →
    exec (.recReadLatch v) s = .next { s with
      out := [], rcd.selTier := bits v.toNat 0 2, rcd.selIndex := bits v.toNat 8 18, rcd.rdValid := true, rcd.rd := r.octets }) ∧
  (∀ (s : State) (v : Word), s.powered = true → s.recordAt (bits v.toNat 0 2) (bits v.toNat 8 18) = none →
    exec (.recReadLatch v) s = .next { s with
      out := [], rcd.selTier := bits v.toNat 0 2, rcd.selIndex := bits v.toNat 8 18, rcd.rdValid := false, rcd.rd := [] })

/-- Diagnostic sessions and injections: DIAG_OPEN where the life cycle permits it opens a session and extends MEAS7; CLOSE and 600 s
without a write end it; an injection is measured, counted and active and acts at its point, that of the temperature sensor adding
its offset; CANCEL returns every point to normal with outcome 4; the result is PASS for a check record in time and FAIL without
one; a timed action ends with its duration. Rules: R461, R462, R463, R464. Model's choices: logs 12, 72. -/
def Obligations.DiagnosticSessions : Prop :=
  (∀ (s : State) (f : ChpFrame) (k : Nat) (m : BitVec 384), chpPasses 0x0060 (some 6) false f k s → f.body = [] → s.diagPermitted = true →
    s.diag.session = false → s.sys.meas[7]? = some m →
    ∃ t, exec (.diagOpen f) s = .next t ∧ t.diag = { s.diag with session := true, host := (s.hs k).host, slot := k, lastWrite := s.ns } ∧
      t.sys.meas[7]? = some (Config.sha384 (beBytes 48 m.toNat ++
        beBytes 48 (Config.sha384 (leBytes 1 (s.hs k).host ++ leBytes 4 f.session.toNat)).toNat)) ∧
      (∀ n, n ≠ 7 → t.sys.meas[n]? = s.sys.meas[n]?) ∧ answered f 0x0060 0 [] k t ∧
      { t with diag := s.diag, sys.meas := s.sys.meas, host := s.host, rcd := s.rcd, out := [] } = { s with out := [] }) ∧
  (∀ (s : State) (f : ChpFrame) (k : Nat), chpPasses 0x0061 (some 6) false f k s → f.body = [] → s.diag.session = true →
    s.diag.host = (s.hs k).host →
    ∃ t, exec (.diagClose f) s = .next t ∧ t.diag.session = false ∧ t.diag.active = none ∧ answered f 0x0061 0 [] k t ∧
      { t with diag := s.diag, stop.differ := s.stop.differ, host := s.host, rcd := s.rcd, out := [] } = { s with out := [] }) ∧
  (∀ s : State, s.powered = true → s.diag.session = true → s.sys.saving = false →
    ∃ t, exec .diagIdleTimeout s = .next t ∧ t.diag.session = false ∧ t.diag.active = none ∧
      t.time.frc = (s.atLeast (600000000000 + s.diag.lastWrite)).time.frc ∧
      { t with diag := s.diag, stop.differ := s.stop.differ, rcd := s.rcd, time.frc := s.time.frc } = { s with out := [] }) ∧
  (∀ (s : State) (w : Fin 8) (b : Bool) (a : Nat), s.powered = true → s.sys.saving = false → s.diag.session = true → s.diag.slot = w.val →
    s.diag.selDetector = 0x08 → s.injectRefusal = none →
    ∃ t, exec (.diagInject w b a) s = .next t ∧ t.diag.tempOffset = ofSbits 32 s.diag.argument.toNat ∧
      t.diag.active = some ⟨0x08, s.diag.selTarget, s.diag.argument.toNat, s.ns, true, none⟩ ∧
      t.diag.timedEnd = some (10000000000 + s.ns) ∧ t.diag.count = s.diag.count + 1#32 ∧ t.diag.lastWrite = s.ns ∧
      { t with diag := s.diag, sys.meas := s.sys.meas, rcd := s.rcd } = { s with out := [] }) ∧
  (∀ (s : State) (w : Fin 8) (b : Bool) (a d : Nat) (m : BitVec 384), s.powered = true → s.sys.saving = false → s.diag.session = true →
    s.diag.slot = w.val → s.injectRefusal = none → s.diag.selDetector = d → s.sys.meas[7]? = some m →
    ∃ u, exec (.diagInject w b a) s = .next (State.injectAct d s.diag.selTarget s.diag.argument.toNat b a u) ∧
      u.diag.active = some ⟨d, s.diag.selTarget, s.diag.argument.toNat, s.ns, true, none⟩ ∧ u.diag.count = s.diag.count + 1#32 ∧
      u.diag.lastWrite = s.ns ∧
      u.sys.meas[7]? = some (Config.sha384 (beBytes 48 m.toNat ++ beBytes 48
        (Config.sha384 (leBytes 1 d ++ leBytes 2 s.diag.selTarget ++ leBytes 4 s.diag.argument.toNat)).toNat)) ∧
      (∀ n, n ≠ 7 → u.sys.meas[n]? = s.sys.meas[n]?) ∧
      { u with diag := s.diag, sys.meas := s.sys.meas, rcd := s.rcd } = { s with out := [] }) ∧
  (∀ (s : State) (w : Fin 8) (b : Bool) (a : Nat), s.powered = true → s.sys.saving = false → s.diag.session = false →
    ∃ t, exec (.diagInject w b a) s = .next t ∧ t.diag.resOutcome = 3 ∧ t.diag.resReason = 2 ∧ t.diag.active = s.diag.active ∧
      t.diag.events = s.diag.events ||| 4#32 ∧ { t with diag := s.diag, rcd := s.rcd } = { s with out := [] }) ∧
  (∀ (s : State) (w : Fin 8) (i : Injection), s.powered = true → s.sys.saving = false → s.diag.session = true → s.diag.slot = w.val →
    s.diag.active = some i →
    ∃ t, exec (.diagCancel w) s = .next t ∧ t.diag.active = none ∧ t.diag.resDetector = i.detector ∧ t.diag.resOutcome = 4 ∧
      t.diag.tempOffset = 0 ∧ t.diag.stopHold = none ∧ t.diag.viaCorrupt = none ∧ t.diag.eccArmed = none ∧ t.diag.session = true ∧
      { t with diag := s.diag, stop.differ := s.stop.differ } = { s with out := [] }) ∧
  (∀ (s : State) (i : Injection), s.diag.active = some i → s.powered = true → s.sys.saving = false → i.seen = none →
    ∃ t, exec .injectResult s = .next t ∧ t.diag.active = none ∧ t.diag.resDetector = i.detector ∧ t.diag.resOutcome = 2 ∧
      t.diag.events = s.diag.events ||| 2#32 ∧ { t with diag := s.diag, rcd := s.rcd, time.frc := s.time.frc } = { s with out := [] }) ∧
  (∀ (s : State) (i : Injection) (n : Nat), s.diag.active = some i → s.powered = true → s.sys.saving = false → i.seen = some n →
    i.detector ≠ 5 → i.detector ≠ 7 → n ≤ i.began + injectDeadline i.detector →
    ∃ t, exec .injectResult s = .next t ∧ t.diag.active = none ∧ t.diag.resDetector = i.detector ∧ t.diag.resOutcome = 1 ∧
      t.diag.resLatency = sat 16 ((n - i.began) / 1000) ∧ t.diag.events = s.diag.events ||| 1#32 ∧
      { t with diag := s.diag, rcd := s.rcd } = { s with out := [] }) ∧
  (∀ (s : State) (n : Nat), s.diag.timedEnd = some n → s.powered = true →
    ∃ t, exec .injectionDurationEnd s = .next t ∧
      t.diag = { s.diag with timedEnd := none, tempOffset := 0, biasSense := none, stopHold := none, satChannel := none } ∧
      t.time.frc = (s.atLeast n).time.frc ∧
      { t with diag := s.diag, stop.differ := s.stop.differ, time.frc := s.time.frc } = { s with out := [] })

/-- Nothing but host session slot `k` has changed among the host sessions. -/
def otherSessions (k : Nat) (s t : State) : Prop := ∀ j, j ≠ k → t.hs j = s.hs j

/-- A host session opens with OPEN, which draws its ID and the unit's nonce, and completes with AUTH, whose proof is verified; a
failed proof counts, and the fifth bars the host for 60 s; CLOSE, 120 s of silence and another's CLOSE_OTHERS close it, and one
pending for 5 s is dropped. The session ID and the unit nonce are free values (log 2). Rules: R474, R476. Model's choices: logs 2,
8, 40. -/
def Obligations.HostSessions : Prop :=
  (∀ (s : State) (f : ChpFrame) (k : Nat), f.session = 0#32 → s.carries f.source = true → f.formed = true → f.body.length = 20 →
    zeros f.body 1 3 = true → getLe f.body 0 1 < 16 → s.serves 1 = true → s.admits (getLe f.body 0 1) f.source = true →
    (s.hostKey (getLe f.body 0 1)).isSome = true → Tab.get 0 s.host.lockout (getLe f.body 0 1) = 0 →
    s.host.sessions.findIdx? (fun x => !x.inUse) = some k →
    ∃ t sid nonce, exec (.open_ f) s = .next t ∧ sid ≠ 0#32 ∧ nonce.length = 16 ∧
      t.hs k = { inUse := true, source := f.source, host := getLe f.body 0 1, sid := sid, hostNonce := slice f.body 4 16
                 unitNonce := nonce, opened := s.ns, lastFrame := s.ns } ∧ otherSessions k s t ∧ t.free = s.free + 1 ∧
      t.out = [.reply ⟨0#32, f.sequence, 1#16, 0#8, leBytes 4 sid.toNat ++ nonce ++ leBytes 8 s.keys.fuse.serial, none, f.source⟩] ∧
      { t with host := s.host, free := s.free, out := [] } = { s with out := [] }) ∧
  (∀ (s : State) (f : ChpFrame), f.session = 0#32 → s.carries f.source = true → f.formed = true → f.body.length = 20 →
    zeros f.body 1 3 = true → getLe f.body 0 1 < 16 → s.serves 1 = true →
    (s.admits (getLe f.body 0 1) f.source = false ∨ s.hostKey (getLe f.body 0 1) = none ∨ Tab.get 0 s.host.lockout (getLe f.body 0 1) ≠ 0) →
    ∃ t, exec (.open_ f) s = .next t ∧ t.host.sessions = s.host.sessions ∧
      t.out = [.reply ⟨0#32, f.sequence, 1#16, 0x0F#8, [], none, f.source⟩] ∧ { t with host := s.host, out := [] } = { s with out := [] }) ∧
  (∀ (s : State) (f : ChpFrame), f.session = 0#32 → s.carries f.source = true → f.formed = true → f.body.length = 20 →
    zeros f.body 1 3 = true → getLe f.body 0 1 < 16 → s.serves 1 = true → s.admits (getLe f.body 0 1) f.source = true →
    (s.hostKey (getLe f.body 0 1)).isSome = true → Tab.get 0 s.host.lockout (getLe f.body 0 1) = 0 →
    (∀ x ∈ s.host.sessions, x.inUse = true) →
    ∃ t, exec (.open_ f) s = .next t ∧ t.host.sessions = s.host.sessions ∧ t.host.events = s.host.events ||| 8#32 ∧
      t.out = [.reply ⟨0#32, f.sequence, 1#16, 0x0C#8, [], none, f.source⟩] ∧ { t with host := s.host, out := [] } = { s with out := [] }) ∧
  (∀ (s : State) (f : ChpFrame) (k : Nat), s.carries f.source = true → f.formed = true → f.body.length = 16 → f.mac = none →
    s.slotOf f false = some k → s.admits (s.hs k).host f.source = true → s.serves 2 = true → (s.hostKey (s.hs k).host).isSome = true →
    f.body = s.proof (ascii "CMT-CHP-HOST") (s.hs k) → Tab.wf 0 s.host.failures = true →
    ∃ t mac, exec (.auth f) s = .next t ∧ t.hs k = { s.hs k with authed := true, lastFrame := s.ns } ∧ otherSessions k s t ∧
      Tab.get 0 t.host.failures (s.hs k).host = 0 ∧ t.host.lockout = s.host.lockout ∧
      t.out = [.reply ⟨f.session, f.sequence, 2#16, 0#8, s.proof (ascii "CMT-CHP-UNIT") (s.hs k) ++
        leBytes 2 ((s.accessRec (s.hs k).host).elim 0 (·.rights) % 1024), some mac, f.source⟩] ∧
      { t with host := s.host, rcd := s.rcd, out := [] } = { s with out := [] }) ∧
  (∀ (s : State) (f : ChpFrame) (k : Nat), s.carries f.source = true → f.formed = true → f.body.length = 16 → f.mac = none →
    s.slotOf f false = some k → s.admits (s.hs k).host f.source = true → s.serves 2 = true →
    f.body ≠ s.proof (ascii "CMT-CHP-HOST") (s.hs k) →
    ∃ t, exec (.auth f) s = .next t ∧ t.host.sessions = s.host.sessions ∧ t.host.authFail = incr s.host.authFail ∧
      (Tab.get 0 s.host.failures (s.hs k).host + 1 < 5 → t.host.lockout = s.host.lockout ∧
        t.host.failures = Tab.set 0 s.host.failures (s.hs k).host (Tab.get 0 s.host.failures (s.hs k).host + 1)) ∧
      (5 ≤ Tab.get 0 s.host.failures (s.hs k).host + 1 →
        t.host.lockout = Tab.set 0 s.host.lockout (s.hs k).host (60000000000 + s.ns) ∧
        t.host.failures = Tab.set 0 s.host.failures (s.hs k).host 0) ∧
      t.out = [.reply ⟨f.session, f.sequence, 2#16, 4#8, [], none, f.source⟩] ∧
      { t with host := s.host, rcd := s.rcd, out := [] } = { s with out := [] }) ∧
  (∀ (s : State) (f : ChpFrame) (k : Nat), chpPasses 0x0003 none false f k s → f.body = [] →
    ∃ t mac, exec (.close f) s = .next t ∧ t.hs k = {} ∧ otherSessions k s t ∧
      t.out = [.reply ⟨f.session, f.sequence, 3#16, 0#8, [], some mac, f.source⟩] ∧
      (s.diag.session = true → s.diag.slot = k → t.diag.session = false) ∧
      (s.diag.session = false ∨ s.diag.slot ≠ k → t.diag = s.diag ∧ t.stop = s.stop) ∧
      { t with host := s.host, rcd := s.rcd, diag := s.diag, stop.differ := s.stop.differ, out := [] } = { s with out := [] }) ∧
  (∀ (s : State) (k : Fin 8), s.powered = true → (s.hs k.val).inUse = true → (s.hs k.val).authed = false →
    ∃ t, exec (.authPendingTimeout k) s = .next t ∧ t.hs k.val = {} ∧ otherSessions k.val s t ∧
      t.time.frc = (s.atLeast (5000000000 + (s.hs k.val).opened)).time.frc ∧
      { t with host.sessions := s.host.sessions, rcd := s.rcd, diag := s.diag, stop.differ := s.stop.differ, time.frc := s.time.frc } =
        { s with out := [] }) ∧
  (∀ (s : State) (k : Fin 8), s.powered = true → (s.hs k.val).inUse = true → (s.hs k.val).authed = true →
    ∃ t, exec (.sessionIdleTimeout k) s = .next t ∧ t.hs k.val = {} ∧ otherSessions k.val s t ∧
      t.time.frc = (s.atLeast (120000000000 + (s.hs k.val).lastFrame)).time.frc ∧
      (s.diag.session = true → s.diag.slot = k.val → t.diag.session = false) ∧
      { t with host.sessions := s.host.sessions, rcd := s.rcd, diag := s.diag, stop.differ := s.stop.differ, time.frc := s.time.frc } =
        { s with out := [] }) ∧
  (∀ (s : State) (h : Fin 16) (n : Nat), Tab.get 0 s.host.lockout h.val = n → n ≠ 0 → Tab.wf 0 s.host.lockout = true →
    ∃ t, exec (.lockoutEnd h) s = .next t ∧ Tab.get 0 t.host.lockout h.val = 0 ∧
      (∀ j, j ≠ h.val → Tab.get 0 t.host.lockout j = Tab.get 0 s.host.lockout j) ∧ t.time.frc = (s.atLeast n).time.frc ∧
      { t with host.lockout := s.host.lockout, time.frc := s.time.frc } = { s with out := [] }) ∧
  (∀ (s : State) (k : Fin 8), s.powered = true →
    ∃ t, exec (.closeOthers k) s = .next t ∧ (∀ j, j < 8 → j ≠ k.val → (t.hs j).inUse = false) ∧ t.hs k.val = s.hs k.val ∧
      { t with host.sessions := s.host.sessions, rcd := s.rcd, diag := s.diag, stop.differ := s.stop.differ } = { s with out := [] })

/-- A configuration commit's answer: a valid slot becomes the pending one, one that fails a step of R76 answers its code and detail; SYS_CFG
shows what the slot's last validation found. -/
def commitAnswer (f : ChpFrame) (k : Nat) (s t : State) : Except (Nat × Nat) Image → Prop
  | .ok _ => t.cfg = { (s.noteSlot (getLe f.body 0 1) 0 0).cfg with pending := some (getLe f.body 0 1) } ∧
      answered f 0x0091 0 [0#8, 0#8, 0#8, 0#8, 0#8, 0#8, 0#8, 0#8] k t
  | .error (c, d) => t.cfg = (s.noteSlot (getLe f.body 0 1) c d).cfg ∧
      answered f 0x0091 0 (leBytes 1 c ++ [0#8, 0#8, 0#8] ++ leBytes 4 d) k t

/-- The body of a STATUS_WRITE of one register. -/
def oneWrite (b : List Octet) : Prop := b.length = 12 ∧ getLe b 0 2 = 1 ∧ zeros b 2 2 = true

/-- The write of pair `i` of a STATUS_WRITE: its result code and the state after it. -/
def pairWritten (f : ChpFrame) (i : Nat) (w : Writer) (s : State) : Nat × State :=
  s.writeReg w (getLe f.body (4 + 8 * i) 4) (getLe f.body (8 + 8 * i) 4)

/-- The pairs of a STATUS_WRITE of `n` pairs have been applied in order from state `s`, each with result 0, up to pair `c`: the states `q` lie
between them. -/
def writtenTo (f : ChpFrame) (n : Nat) (s : State) (q : Nat → State) (c : Nat) : Prop :=
  { q 0 with host := s.host } = { s with out := [] } ∧ c ≤ n ∧
  ∀ i, i < c → ∃ w, (q i).writer f = some w ∧ pairWritten f i w (q i) = (0, q (i + 1))

/-- Host messages: STATUS_READ carries the registers asked for, and names the first address that is not assigned; STATUS_WRITE names
the pair that it refuses, and puts a pair-wide register off to the next second in both units; RESTART answers and starts the unit
over; NODE_SEND queues a frame and NODE_LAST shows the last report; CONFIG_WRITE programs an inactive slot and CONFIG_COMMIT
validates it. Rules: R77, R78, R115, R478, R479, R482, R483. Model's choices: logs 3, 44, 82, 88, 89. -/
def Obligations.HostMessages : Prop :=
  (∀ (s : State) (f : ChpFrame) (k a n : Nat), chpPasses 0x0010 (some 0) false f k s → f.body.length = 8 → getLe f.body 0 4 = a →
    getLe f.body 4 2 = n → 1 ≤ n → n ≤ 256 → zeros f.body 6 2 = true → blockOf a ≠ 0x11 →
    (∀ x ∈ readAddresses a n, blockOf x = blockOf a ∧ (liveReg x s).isSome = true ∧ wideReg (blockOf x) (offsetOf x) = none) →
    ∃ t, exec (.statusRead f) s = .next t ∧
      answered f 0x0010 0 (leBytes 2 n ++ [0#8, 0#8] ++ leBytes 4 s.pub.tick ++ s.credits ++
        (readAddresses a n).flatMap (fun x => leBytes 4 ((liveReg x s).getD 0#32).toNat)) k t ∧
      { t with host := s.host, out := [] } = { s with out := [] }) ∧
  (∀ (s : State) (f : ChpFrame) (k a n : Nat), chpPasses 0x0010 (some 0) false f k s → f.body.length = 8 → getLe f.body 0 4 = a →
    getLe f.body 4 2 = n → 1 ≤ n → n ≤ 256 → zeros f.body 6 2 = true →
    (∀ x ∈ readAddresses a n, blockOf x = blockOf a ∧ ∀ h, (liveReg x { s with host := h }).isSome = true) →
    ∃ (t : State) (l : List Word), exec (.statusRead f) s = .next t ∧ l.length = n ∧
      answered f 0x0010 0 (leBytes 2 n ++ [0#8, 0#8] ++ leBytes 4 s.pub.tick ++ s.credits ++ l.flatMap (fun w => leBytes 4 w.toNat)) k t ∧
      (∀ i, i < n → blockOf a ≠ 0x11 → wideReg (blockOf a) (offsetOf (a + 4 * i)) = none → l[i]? = liveReg (a + 4 * i) s) ∧
      { t with host := s.host, latch := s.latch, out := [] } = { s with out := [] }) ∧
  (∀ (s : State) (f : ChpFrame) (k a : Nat), chpPasses 0x0010 (some 0) false f k s → f.body.length = 8 → getLe f.body 0 4 = a →
    1 ≤ getLe f.body 4 2 → getLe f.body 4 2 ≤ 256 → zeros f.body 6 2 = true → blockOf a ≠ 0x11 → liveReg a s = none →
    ∃ t, exec (.statusRead f) s = .next t ∧ answered f 0x0010 7 (leBytes 4 a) k t ∧
      { t with host := s.host, out := [] } = { s with out := [] }) ∧
  (∀ (s : State) (f : ChpFrame) (k a v : Nat), chpPasses 0x0011 (some 1) false f k s → oneWrite f.body → getLe f.body 4 4 = a →
    getLe f.body 8 4 = v → liveReg a s ≠ none → pairWide (blockOf a) (offsetOf a) = true →
    pairWideOk (blockOf a) (offsetOf a) v = true → s.isLead = true → (s.pair.viaUp && s.paired) = false →
    ∃ t, exec (.statusWrite f) s = .next t ∧ t.pair = { s.pair with regDue := s.pair.regDue ++ [(a, v, secOf s.now + 1)] } ∧
      answered f 0x0011 0 [0xFF#8, 0xFF#8, 0#8, 0#8] k t ∧ { t with pair := s.pair, host := s.host, out := [] } = { s with out := [] }) ∧
  (∀ (s : State) (f : ChpFrame) (k a v : Nat), chpPasses 0x0011 (some 1) false f k s → oneWrite f.body → getLe f.body 4 4 = a →
    getLe f.body 8 4 = v → liveReg a s ≠ none → pairWide (blockOf a) (offsetOf a) = true →
    pairWideOk (blockOf a) (offsetOf a) v = true → s.isLead = true → s.pair.viaUp = true → s.paired = true →
    ∃ t r, exec (.statusWrite f) s = .next t ∧ t.pair = { s.pair with regDue := s.pair.regDue ++ [(a, v, secOf s.now + 1)] } ∧
      t.out = [.viaduct 0x06 (s.framed 0x06 (leBytes 4 a ++ leBytes 4 v ++ leBytes 4 (secOf s.now + 1))), .reply r] ∧ r.result = 0#8 ∧
      r.body = [0xFF#8, 0xFF#8, 0#8, 0#8] ∧ r.session = f.session ∧ r.sequence = f.sequence ∧
      { t with pair := s.pair, host := s.host, out := [] } = { s with out := [] }) ∧
  (∀ (s : State) (f : ChpFrame) (k n : Nat), chpPasses 0x0011 (some 1) false f k s → getLe f.body 0 2 = n → 1 ≤ n → n ≤ 64 →
    f.body.length = 4 + 8 * n → zeros f.body 2 2 = true →
    ∃ t c q, exec (.statusWrite f) s = .next t ∧ writtenTo f n s q c ∧
      (c = n → (q n).writer f ≠ none → (q n).tres.frozen.getLsbD 8 = false →
        ∃ r, .reply r ∈ t.out ∧ r.result = 0#8 ∧ r.body = [0xFF#8, 0xFF#8, 0#8, 0#8]) ∧
      (c < n → ∀ w e u, (q c).writer f = some w → pairWritten f c w (q c) = (e, u) → e ≠ 0 ∧
        (u.writer f ≠ none → u.tres.frozen.getLsbD 8 = false →
          ∃ r, .reply r ∈ t.out ∧ r.result = 0#8 ∧ r.body = leBytes 2 c ++ leBytes 1 e ++ [0#8]))) ∧
  (∀ (s : State) (f : ChpFrame) (k a v : Nat), chpPasses 0x0011 (some 1) false f k s → oneWrite f.body → getLe f.body 4 4 = a →
    getLe f.body 8 4 = v → blockOf a ≠ 0x11 →
    (liveReg a s = none ∨ pairWide (blockOf a) (offsetOf a) = true ∧ (s.isLead = false ∨ pairWideOk (blockOf a) (offsetOf a) v = false)) →
    ∃ t, exec (.statusWrite f) s = .next t ∧
      answered f 0x0011 0 ([0#8, 0#8] ++ leBytes 1 (if liveReg a s = none then 7 else if s.isLead = false then 9 else 8) ++ [0#8]) k t ∧
      { t with host := s.host, out := [] } = { s with out := [] }) ∧
  (∀ (s : State) (f : ChpFrame) (k : Nat), chpPasses 0x0012 (some 1) false f k s → f.body = [] →
    ∃ t mac, exec (.restart f) s = .next t ∧ t.sys.mode = .start ∧ t.sys.cause = 3 ∧ t.pair.claim = false ∧
      t.out.head? = some (.reply ⟨f.session, f.sequence, 0x12#16, 0#8, [], some mac, f.source⟩) ∧
      t.ao.restarts = min (s.ao.restarts + 1) 0xFFFF ∧ t.keys = s.keys ∧ t.flash = s.flash ∧ t.pending = s.pending) ∧
  (∀ (s : State) (f : ChpFrame) (k a n : Nat), chpPasses 0x0021 (some 2) true f k s → getLe f.body 0 2 = a → getLe f.body 2 1 = n → 1 ≤ n →
    n ≤ 64 → f.body.length = 4 + n → zeros f.body 3 1 = true → (s.nodeRec a).isSome = true →
    ((s.waitingFor a).filter (fun u => decide (u.kind = 0x21))).length < 4 →
    ∃ t, exec (.nodeSend f) s = .next t ∧
      t.fleet.unicast = s.fleet.unicast ++ [{ radio := 1, kind := 0x21, dest := a, extended := false
                                              payload := [0x21#8] ++ leBytes 1 n ++ slice f.body 4 n, tick := tickOf s.now }] ∧
      t.host.awaiting = s.host.awaiting ++ [⟨f, 0x0021, 0, s.nextTick, []⟩] ∧ waiting f k t ∧
      { t with fleet.unicast := s.fleet.unicast, host := s.host } = { s with out := [] }) ∧
  (∀ (s : State) (f : ChpFrame) (k a n : Nat), chpPasses 0x0021 (some 2) true f k s → getLe f.body 0 2 = a → getLe f.body 2 1 = n → 1 ≤ n →
    n ≤ 64 → f.body.length = 4 + n → zeros f.body 3 1 = true →
    (s.nodeRec a = none ∨ 4 ≤ ((s.waitingFor a).filter (fun u => decide (u.kind = 0x21))).length) →
    ∃ t, exec (.nodeSend f) s = .next t ∧
      t.host.awaiting = s.host.awaiting ++ [⟨f, 0x0021, if s.nodeRec a = none then 1 else 2, s.nextTick, []⟩] ∧ waiting f k t ∧
      { t with host := s.host } = { s with out := [] }) ∧
  (∀ (s : State) (f : ChpFrame) (k a : Nat), chpPasses 0x0022 (some 0) false f k s → f.body.length = 4 → zeros f.body 2 2 = true →
    getLe f.body 0 2 = a →
    ∃ t, exec (.nodeLast f) s = .next t ∧
      answered f 0x0022 0 ((s.node a).reported.elim (List.replicate 8 0#8) (fun sec =>
        leBytes 4 sec ++ leBytes 1 (nodePayload (s.node a).battery (s.node a).items).length ++ [0#8, 0#8, 0#8] ++
          nodePayload (s.node a).battery (s.node a).items)) k t ∧
      { t with host := s.host, out := [] } = { s with out := [] }) ∧
  (∀ (s : State) (f : ChpFrame) (k slot off : Nat) (d : List Octet), chpPasses 0x0090 (some 9) false f k s → configWriteOk f.body = true →
    getLe f.body 0 1 = slot → getLe f.body 4 4 = off → f.body.drop 8 = d → (s.sys.restricted = 1 ∨ s.cfg.active ≠ slot) → off % 4 = 0 →
    d.length % 4 = 0 → off + d.length ≤ 2097152 → s.flash.wf = true →
    ∃ t, exec (.configWrite f) s = .next t ∧
      (∀ i, i < d.length → t.flash.read (slotBase slot + off + i) =
        (if off % 65536 = 0 then 0xFF#8 else s.flash.read (slotBase slot + off + i)) &&& (d[i]?).getD 0#8) ∧
      (∀ x, x < slotBase slot + off ∨ slotBase slot + off + d.length ≤ x →
        t.flash.read x = if off % 65536 = 0 ∧ slotBase slot + off ≤ x ∧ x < slotBase slot + off + 65536 then 0xFF#8 else s.flash.read x) ∧
      t.cfg = { s.cfg with pending := if s.cfg.pending = some slot then none else s.cfg.pending } ∧
      (t.flash.readN (slotBase slot + off) d.length = d → answered f 0x0090 0 [] k t) ∧
      (t.flash.readN (slotBase slot + off) d.length ≠ d → answered f 0x0090 0x0E [3#8] k t) ∧
      { t with flash := s.flash, cfg := s.cfg, host := s.host, out := [] } = { s with out := [] }) ∧
  (∀ (s : State) (f : ChpFrame) (k : Nat), chpPasses 0x0090 (some 9) false f k s → configWriteOk f.body = true → s.sys.restricted ≠ 1 →
    s.cfg.active = getLe f.body 0 1 →
    ∃ t, exec (.configWrite f) s = .next t ∧ answered f 0x0090 0x0E [1#8] k t ∧ { t with host := s.host, out := [] } = { s with out := [] }) ∧
  (∀ (s : State) (f : ChpFrame) (k : Nat), chpPasses 0x0091 (some 9) false f k s → f.body.length = 4 → getLe f.body 0 1 < 2 →
    zeros f.body 1 3 = true →
    ∃ t, exec (.configCommit f) s = .next t ∧ commitAnswer f k s t (s.validateSlot (getLe f.body 0 1)) ∧
      { t with cfg := s.cfg, host := s.host, out := [] } = { s with out := [] })

/-- The host ports: an incomplete reassembly is dropped and counted; the SPI port takes a frame into a free buffer, answers one whose
form or type is wrong, discards one whose octets differ from its length, that finds no buffer or that no state serves, shows the
oldest reply until its last octet has been clocked out, and clears RX_ERROR on a read of its status; a link that changes is kept
with its speed. Rules: R469, R471, R489. Model's choices: logs 41, 42. -/
def Obligations.HostPorts : Prop :=
  (∀ s : State, s.powered = true → s.cfg.image.isSome = true →
    exec .reassemblyTimeout s = .next { s with out := [], host.reassemblyDrop := incr s.host.reassemblyDrop }) ∧
  (∀ (s : State) (q : Bool) (n : BitVec 16) (b : List Octet), s.carries .spi = true → b.length = n.toNat → b.length ≤ 4352 →
    s.host.spiRx.length < 4 → spiRefusal b = none →
    exec (.spiWriteFrame q n b) s = .next { s with
      out := [], host.spiQuad := q, host.spiLast := some s.ns, host.spiRx := s.host.spiRx ++ [b] }) ∧
  (∀ (s : State) (q : Bool) (n : BitVec 16) (b : List Octet) (r : Nat), s.carries .spi = true → b.length = n.toNat → b.length ≤ 4352 →
    s.host.spiRx.length < 4 → spiRefusal b = some r → bit (getLe b 3 1) 2 = false →
    ∃ t, exec (.spiWriteFrame q n b) s = .next t ∧
      t.out = [.reply ⟨BitVec.ofNat 32 (getLe b 8 4), BitVec.ofNat 32 (getLe b 12 4), BitVec.ofNat 16 (getLe b 4 2), BitVec.ofNat 8 r, [], none, .spi⟩] ∧
      t.host.spiRx = s.host.spiRx ∧ t.host.spiTx.length = s.host.spiTx.length + 1 ∧ t.host.sessions = s.host.sessions ∧
      { t with host := s.host, out := [] } = { s with out := [] }) ∧
  (∀ (s : State) (q : Bool) (n : BitVec 16) (b : List Octet), s.powered = true → s.sys.saving = false → s.tres.frozen.getLsbD 8 = false →
    b.length = n.toNat → b.length ≤ 4352 → s.host.spiRx.length < 4 → s.carries .spi = false →
    exec (.spiWriteFrame q n b) s = .next { s with
      out := [], host.spiQuad := q, host.spiLast := some s.ns, host.spiRxError := true }) ∧
  (∀ (s : State) (q : Bool) (n : BitVec 16) (b : List Octet), s.carries .spi = true →
    (b.length ≠ n.toNat ∨ 4352 < b.length ∨ 4 ≤ s.host.spiRx.length) →
    ∃ t, exec (.spiWriteFrame q n b) s = .next t ∧ t.host = { s.host with
        spiQuad := q, spiLast := some s.ns, spiRxError := true, spiOvf := incr s.host.spiOvf, events := s.host.events ||| 16#32 } ∧
      { t with host := s.host, rcd := s.rcd } = { s with out := [] }) ∧
  (∀ (s : State) (n : BitVec 16) (r : List Octet) (l : List (List Octet)), s.powered = true →
    s.tres.frozen.getLsbD 8 = false → s.host.spiTx = r :: l →
    exec (.spiReadReply n) s = .next { s with
      out := [.spi (leBytes 2 r.length ++ r.take n.toNat)], host.spiTx := if r.length ≤ n.toNat then l else r :: l }) ∧
  (∀ (s : State) (n : BitVec 16), s.powered = true → s.tres.frozen.getLsbD 8 = false → s.host.spiTx = [] →
    exec (.spiReadReply n) s = .next { s with out := [.spi [0#8, 0#8]] }) ∧
  (∀ s : State, s.powered = true → s.tres.frozen.getLsbD 8 = false →
    exec .spiReadStatus s = .next { s with out := [.spi [s.spiStatus]], host.spiRxError := false }) ∧
  (∀ (s : State) (m : Fin 2) (u : Bool) (v : Fin 3), s.powered = true → s.host.linkUp.getLsbD m.val = !u → s.host.linkSpeed.length = 2 →
    ∃ t, exec (.linkChanged m u v) s = .next t ∧ t.host.linkUp.getLsbD m.val = u ∧
      (∀ j, j ≠ m.val → t.host.linkUp.getLsbD j = s.host.linkUp.getLsbD j) ∧ t.host.linkSpeed[m.val]? = some (if u then v.val else 0) ∧
      t.host.events = s.host.events ||| 64#32 ∧
      { t with host.linkUp := s.host.linkUp, host.linkSpeed := s.host.linkSpeed, host.events := s.host.events, rcd := s.rcd } =
        { s with out := [] }) ∧
  (∀ (s : State) (m : Fin 2) (u : Bool) (v : Fin 3), s.powered = true → s.host.linkUp.getLsbD m.val = u →
    exec (.linkChanged m u v) s = .next { s with out := [] })

/-- Long values are read consistently: reading the first word of a long value latches its other words, and each of them then reads as
it was at that instant, whatever the state has become, as long as the latched words stand; bits that are not part of the value
read live. Rules: R13. Model's choices: log 81. -/
def Obligations.LongValuesLatch : Prop :=
  ∀ (s u : State) (a n i : Nat), wideReg (blockOf a) (offsetOf a) = some (offsetOf a, n) → 0 < i → i < n → Tab.wf 0#32 s.latch = true →
    u.latch = (s.readWord a).2.latch →
    (u.readWord (a + 4 * i)).1 =
      ((readReg (blockOf a) (offsetOf a + 4 * i) s).getD 0#32 &&& maskReg (blockOf a) (offsetOf a + 4 * i)) |||
        ((liveReg (a + 4 * i) u).getD 0#32 &&& ~~~(maskReg (blockOf a) (offsetOf a + 4 * i)))

/-- The boot flash keeps its canonical form (addresses rising, no entry of an erased octet) through every step, whatever command
waits: a firmware block, a configuration write, an activation's copies, an erase. Model's choices: log 3. -/
def Obligations.FlashStaysCanonical : Prop :=
  ∀ s t : State, s.flash.wf = true → step s = .next t → t.flash.wf = true

/-- Fuses only burn: through every step no bit of the life-cycle word, of the key indices programmed or revoked, of the vendor indices
revoked clears, the authority digest and the Keystone stay committed, the counter floor never falls, the serial number stays.
Rules: R362, R371, R372, R378. -/
def Obligations.FusesOnlyBurn : Prop :=
  ∀ s t : State, step s = .next t →
    (∀ i, bit s.keys.fuse.word i = true → bit t.keys.fuse.word i = true) ∧
    (∀ i, bit s.keys.fuse.cfgProg i = true → bit t.keys.fuse.cfgProg i = true) ∧
    (∀ i, bit s.keys.fuse.cfgRevoked i = true → bit t.keys.fuse.cfgRevoked i = true) ∧
    (∀ i, bit s.keys.fuse.vendorRevoked i = true → bit t.keys.fuse.vendorRevoked i = true) ∧
    (s.keys.fuse.authProg = true → t.keys.fuse.authProg = true) ∧ (s.keys.fuse.committed = true → t.keys.fuse.committed = true) ∧
    s.keys.fuse.floor ≤ t.keys.fuse.floor ∧ t.keys.fuse.serial = s.keys.fuse.serial
end

