-- ==== Sys2Proof/Laws/Memory.lean ====
section
/-! SUPPORT. Sparse tables and the boot flash: every operation keeps the canonical form, a read after a write at the same place gives
the value written, and a write leaves every other place alone. -/

namespace Sys2Proof.Machine

/-- A table whose keys start higher also starts at or above any lower bound. -/
theorem Tab.wfFrom_mono {α : Type} [DecidableEq α] {d : α} : ∀ {t : Tab α} {lo lo' : Nat}, lo' ≤ lo →
    Tab.wfFrom d lo t = true → Tab.wfFrom d lo' t = true
  | [], _, _, _, _ => rfl
  | (_, _) :: _, _, _, hl, h => by
    simp only [Tab.wfFrom, Bool.and_eq_true, decide_eq_true_eq] at h ⊢
    exact ⟨⟨by omega, h.1.2⟩, h.2⟩

/-- A key below every listed one reads as unlisted. -/
theorem Tab.get_below {α : Type} [DecidableEq α] {d : α} : ∀ {t : Tab α} {lo i : Nat}, i < lo → Tab.wfFrom d lo t = true → Tab.get d t i = d
  | [], _, _, _, _ => rfl
  | (k, v) :: t, lo, i, hi, h => by
    simp only [Tab.wfFrom, Bool.and_eq_true, decide_eq_true_eq] at h
    rw [Tab.get, if_neg (by omega)]
    exact Tab.get_below (by omega) h.2

/-- Setting a key keeps the canonical form. -/
theorem Tab.wfFrom_set {α : Type} [DecidableEq α] {d : α} : ∀ {t : Tab α} {lo i : Nat} (v : α), lo ≤ i → Tab.wfFrom d lo t = true →
    Tab.wfFrom d lo (Tab.set d t i v) = true
  | [], lo, i, v, hl, _ => by
    unfold Tab.set; split
    · rfl
    · simp_all [Tab.wfFrom]
  | (k, w) :: t, lo, i, v, hl, h => by
    have h' := h
    simp only [Tab.wfFrom, Bool.and_eq_true, decide_eq_true_eq] at h
    unfold Tab.set
    split
    · split
      · exact h'
      · simp only [Tab.wfFrom, Bool.and_eq_true, decide_eq_true_eq]
        exact ⟨⟨hl, by assumption⟩, ⟨by omega, h.1.2⟩, h.2⟩
    · split
      · split
        · exact Tab.wfFrom_mono (by omega) h.2
        · simp only [Tab.wfFrom, Bool.and_eq_true, decide_eq_true_eq]
          exact ⟨⟨hl, by assumption⟩, Tab.wfFrom_mono (by omega) h.2⟩
      · simp only [Tab.wfFrom, Bool.and_eq_true, decide_eq_true_eq]
        exact ⟨h.1, Tab.wfFrom_set v (by omega) h.2⟩

/-- Setting a key keeps the canonical form. -/
theorem Tab.wf_set {α : Type} [DecidableEq α] {d : α} {t : Tab α} (i : Nat) (v : α) (h : Tab.wf d t = true) : Tab.wf d (Tab.set d t i v) = true :=
  Tab.wfFrom_set v (Nat.zero_le i) h

/-- Changing a key keeps the canonical form. -/
theorem Tab.wf_upd {α : Type} [DecidableEq α] {d : α} {t : Tab α} (i : Nat) (f : α → α) (h : Tab.wf d t = true) : Tab.wf d (Tab.upd d t i f) = true :=
  Tab.wf_set i _ h

/-- What a key reads after another was set, in a table in canonical form. -/
theorem Tab.get_set {α : Type} [DecidableEq α] {d : α} : ∀ {t : Tab α} {lo : Nat} (i j : Nat) (v : α), Tab.wfFrom d lo t = true →
    Tab.get d (Tab.set d t i v) j = if j = i then v else Tab.get d t j
  | [], _, i, j, v, _ => by
    unfold Tab.set
    split
    · rename_i hv; rw [hv]; simp [Tab.get]
    · by_cases hj : j = i
      · simp [hj, Tab.get]
      · simp [hj, Tab.get, show i ≠ j from fun e => hj e.symm]
  | (k, w) :: t, lo, i, j, v, h => by
    simp only [Tab.wfFrom, Bool.and_eq_true, decide_eq_true_eq] at h
    have hb : Tab.get d t k = d := Tab.get_below (Nat.lt_succ_self k) h.2
    have hl : ∀ m, m < k → Tab.get d t m = d := fun m hm => Tab.get_below (by omega) h.2
    unfold Tab.set
    split
    · rename_i hik
      split
      · rename_i hv
        by_cases hj : j = i
        · subst hj hv; simp [Tab.get, show k ≠ j by omega, hl j hik]
        · simp [hj]
      · by_cases hj : j = i
        · simp [hj, Tab.get]
        · rw [Tab.get, if_neg (fun e => hj e.symm), if_neg hj]
    · split
      · rename_i hik
        subst hik
        split
        · rename_i hv
          by_cases hj : j = i
          · subst hj hv; simp [hb]
          · rw [if_neg hj, Tab.get, if_neg (fun e => hj e.symm)]
        · by_cases hj : j = i
          · simp [hj, Tab.get]
          · rw [Tab.get, if_neg (fun e => hj e.symm), if_neg hj, Tab.get, if_neg (fun e => hj e.symm)]
      · rename_i hik
        by_cases hk : k = j
        · subst hk; simp [Tab.get, show k ≠ i by omega]
        · rw [Tab.get, if_neg hk, Tab.get_set i j v h.2, Tab.get, if_neg hk]

/-- A key set reads as set. -/
theorem Tab.get_set_same {α : Type} [DecidableEq α] {d : α} {t : Tab α} (i : Nat) (v : α) (h : Tab.wf d t = true) :
    Tab.get d (Tab.set d t i v) i = v := by rw [Tab.get_set i i v h, if_pos rfl]

/-- Every other key reads as before. -/
theorem Tab.get_set_other {α : Type} [DecidableEq α] {d : α} {t : Tab α} {i j : Nat} (v : α) (h : Tab.wf d t = true) (hj : j ≠ i) :
    Tab.get d (Tab.set d t i v) j = Tab.get d t j := by rw [Tab.get_set i j v h, if_neg hj]

/-- Leaving entries out keeps the canonical form. -/
theorem Tab.wfFrom_filter {α : Type} [DecidableEq α] {d : α} (p : Nat × α → Bool) : ∀ {t : Tab α} {lo : Nat}, Tab.wfFrom d lo t = true →
    Tab.wfFrom d lo (t.filter p) = true
  | [], _, _ => rfl
  | (k, v) :: t, lo, h => by
    simp only [Tab.wfFrom, Bool.and_eq_true, decide_eq_true_eq] at h
    rw [List.filter_cons]; split
    · simp only [Tab.wfFrom, Bool.and_eq_true, decide_eq_true_eq]
      exact ⟨h.1, Tab.wfFrom_filter p h.2⟩
    · exact Tab.wfFrom_mono (by omega) (Tab.wfFrom_filter p h.2)

/-- One octet programmed keeps the canonical form. -/
theorem Memory.wf_write {m : Memory} (a : Nat) (v : Octet) (h : m.wf = true) : (m.write a v).wf = true := Tab.wf_set a v h

/-- The octet written is read back. -/
@[simp] theorem Memory.read_write_same {m : Memory} (a : Nat) (v : Octet) (h : m.wf = true) : (m.write a v).read a = v := Tab.get_set_same a v h

/-- A write leaves every other octet alone. -/
theorem Memory.read_write_other {m : Memory} {a b : Nat} (v : Octet) (h : m.wf = true) (hb : b ≠ a) : (m.write a v).read b = m.read b :=
  Tab.get_set_other v h hb

/-- Octets written upward keep the canonical form. -/
theorem Memory.wf_writeN : ∀ {m : Memory} (a : Nat) (l : List Octet), m.wf = true → (m.writeN a l).wf = true
  | _, _, [], h => h
  | _, a, b :: l, h => Memory.wf_writeN (a + 1) l (Memory.wf_write a b h)

/-- Programming, which only clears bits, keeps the canonical form. -/
theorem Memory.wf_program : ∀ {m : Memory} (a : Nat) (l : List Octet), m.wf = true → (m.program a l).wf = true
  | _, _, [], h => h
  | m, a, b :: l, h => Memory.wf_program (a + 1) l (Memory.wf_write a (m.read a &&& b) h)

/-- An erase keeps the canonical form. -/
theorem Memory.wf_erase {m : Memory} (a n : Nat) (h : m.wf = true) : (m.erase a n).wf = true := Tab.wfFrom_filter _ h

/-- A copy keeps the canonical form. -/
theorem Memory.wf_copy {m : Memory} (src dst n : Nat) (h : m.wf = true) : (m.copy src dst n).wf = true := by
  have key : ∀ (l : List (Nat × Octet)) (acc : Memory), acc.wf = true →
      (l.foldl (fun acc c => acc.write (dst + (c.1 - src)) c.2) acc).wf = true := by
    intro l
    induction l with
    | nil => exact fun _ h => h
    | cons c l ih => exact fun acc h => ih _ (Memory.wf_write _ _ h)
  exact key _ _ (Memory.wf_erase dst n h)

/-- Octets written below or above a place leave it alone. -/
theorem Memory.read_writeN_other : ∀ {m : Memory} (a b : Nat) (l : List Octet), m.wf = true → b < a ∨ a + l.length ≤ b →
    (m.writeN a l).read b = m.read b
  | _, _, _, [], _, _ => rfl
  | m, a, b, o :: l, h, hb => by
    simp only [List.length_cons] at hb
    rw [Memory.writeN, Memory.read_writeN_other (a + 1) b l (Memory.wf_write a o h) (by omega), Memory.read_write_other o h (by omega)]

/-- Programming below or above a place leaves it alone. -/
theorem Memory.read_program_other : ∀ {m : Memory} (a b : Nat) (l : List Octet), m.wf = true → b < a ∨ a + l.length ≤ b →
    (m.program a l).read b = m.read b
  | _, _, _, [], _, _ => rfl
  | m, a, b, o :: l, h, hb => by
    simp only [List.length_cons] at hb
    rw [Memory.program, Memory.read_program_other (a + 1) b l (Memory.wf_write a _ h) (by omega), Memory.read_write_other _ h (by omega)]

/-- An erased place reads as erased, and every other place as before. -/
theorem Tab.get_filter {α : Type} [DecidableEq α] {d : α} (p : Nat → Bool) : ∀ (t : Tab α) (i : Nat), p i = true →
    Tab.get d (t.filter (fun c => p c.1)) i = Tab.get d t i
  | [], _, _ => rfl
  | (k, v) :: t, i, hp => by
    rw [List.filter_cons]
    by_cases hk : k = i
    · subst hk; simp [hp, Tab.get]
    · split
      · rw [Tab.get, if_neg hk, Tab.get_filter p t i hp, Tab.get, if_neg hk]
      · rw [Tab.get_filter p t i hp, Tab.get, if_neg hk]

/-- An erase leaves every place outside its range alone. -/
theorem Memory.read_erase_other {m : Memory} (a n b : Nat) (h : b < a ∨ a + n ≤ b) : (m.erase a n).read b = m.read b :=
  Tab.get_filter (fun k => !(decide (a ≤ k) && decide (k < a + n))) m b (by simp; omega)

end Sys2Proof.Machine
end

