-- ==== Sys2Proof/Laws/Ops.lean ====
section
/-! SUPPORT. What each shared operation can do to the state, said once: how a command ends, what the recorder's operations change, what
an effect over a list keeps. -/

namespace Sys2Proof.Machine

/-- Every meaning answers a next state; only the queue's rest is put back. -/
theorem done_next (f : State → State) (s : State) :
    done f s = .next { f { s with out := [] } with pending := s.pending } := rfl

@[simp] theorem State.when_true (f : State → State) (s : State) : s.when true f = f s := rfl
@[simp] theorem State.when_false (f : State → State) (s : State) : s.when false f = s := rfl

/-- What each element's effect keeps, the effect of the whole list keeps. -/
theorem State.each_keeps {α : Type} (P : State → Prop) (f : α → State → State) (h : ∀ a s, P s → P (f a s)) :
    ∀ (l : List α) (s : State), P s → P (s.each l f)
  | [], _, hs => hs
  | a :: l, s, hs => State.each_keeps P f h l (f a s) (h a s hs)

/-- The intake changes the recorder's registers and nothing else (R453). -/
theorem State.intake_eq (code : Nat) (data : List Octet) (s : State) :
    s.intake code data = { s with rcd := (s.intake code data).rcd } := by
  unfold State.intake
  split
  · rfl
  · simp only []
    split
    · rfl
    · split <;> rfl

/-- A report changes the recorder's registers and nothing else. -/
theorem State.report_eq (code : Nat) (data : List (Nat × Int)) (s : State) :
    s.report code data = { s with rcd := (s.report code data).rcd } := State.intake_eq code (itemOctets 12 data) s

/-- The writer changes the recorder, the intake count that the always-on domain holds, and an injection's note of its check record. -/
theorem State.store1_eq (e : Entry) (cls : Nat) (s : State) :
    s.store1 e cls = { s with rcd := (s.store1 e cls).rcd, ao.intake := (s.store1 e cls).ao.intake, diag.active := (s.store1 e cls).diag.active } := by
  unfold State.store1
  simp only []
  split
  · split <;> rfl
  · rfl

theorem State.storeDirect_eq (code : Nat) (data : List (Nat × Int)) (cls : Nat) (s : State) :
    s.storeDirect code data cls = { s with rcd := (s.storeDirect code data cls).rcd, ao.intake := (s.storeDirect code data cls).ao.intake,
                                           diag.active := (s.storeDirect code data cls).diag.active } :=
  State.store1_eq _ cls s

theorem State.writeOne_eq (s : State) :
    s.writeOne = { s with rcd := s.writeOne.rcd, ao.intake := s.writeOne.ao.intake, diag.active := s.writeOne.diag.active } := by
  unfold State.writeOne
  split
  · rfl
  · simp only []
    rw [State.store1_eq]
    split
    · rw [State.storeDirect_eq]
    · rfl

theorem State.writeN_eq : ∀ (n : Nat) (s : State),
    s.writeN n = { s with rcd := (s.writeN n).rcd, ao.intake := (s.writeN n).ao.intake, diag.active := (s.writeN n).diag.active }
  | 0, _ => rfl
  | n + 1, s => by
    unfold State.writeN
    rw [State.writeN_eq n s.writeOne, State.writeOne_eq s]

theorem State.drain_eq (s : State) : s.drain = { s with rcd := s.drain.rcd, ao.intake := s.drain.ao.intake, diag.active := s.drain.diag.active } :=
  State.writeN_eq _ s

theorem State.reportNow_eq (code : Nat) (data : List (Nat × Int)) (s : State) :
    s.reportNow code data = { s with rcd := (s.reportNow code data).rcd, ao.intake := (s.reportNow code data).ao.intake,
                                     diag.active := (s.reportNow code data).diag.active } := by
  unfold State.reportNow
  rw [State.drain_eq, State.report_eq]

/-! The fields that a report and the writer leave as they are. -/

@[simp] theorem State.report_sys (code : Nat) (data : List (Nat × Int)) (s : State) : (s.report code data).sys = s.sys := by rw [State.report_eq]
@[simp] theorem State.report_clk (code : Nat) (data : List (Nat × Int)) (s : State) : (s.report code data).clk = s.clk := by rw [State.report_eq]
@[simp] theorem State.report_tres (code : Nat) (data : List (Nat × Int)) (s : State) : (s.report code data).tres = s.tres := by rw [State.report_eq]
@[simp] theorem State.report_ao (code : Nat) (data : List (Nat × Int)) (s : State) : (s.report code data).ao = s.ao := by rw [State.report_eq]
@[simp] theorem State.report_cfg (code : Nat) (data : List (Nat × Int)) (s : State) : (s.report code data).cfg = s.cfg := by rw [State.report_eq]
@[simp] theorem State.report_time (code : Nat) (data : List (Nat × Int)) (s : State) : (s.report code data).time = s.time := by rw [State.report_eq]
@[simp] theorem State.report_treg (code : Nat) (data : List (Nat × Int)) (s : State) : (s.report code data).treg = s.treg := by rw [State.report_eq]
@[simp] theorem State.report_store (code : Nat) (data : List (Nat × Int)) (s : State) : (s.report code data).store = s.store := by rw [State.report_eq]
@[simp] theorem State.report_diag (code : Nat) (data : List (Nat × Int)) (s : State) : (s.report code data).diag = s.diag := by rw [State.report_eq]
@[simp] theorem State.report_host (code : Nat) (data : List (Nat × Int)) (s : State) : (s.report code data).host = s.host := by rw [State.report_eq]
@[simp] theorem State.report_flash (code : Nat) (data : List (Nat × Int)) (s : State) : (s.report code data).flash = s.flash := by rw [State.report_eq]
@[simp] theorem State.report_saved (code : Nat) (data : List (Nat × Int)) (s : State) : (s.report code data).saved = s.saved := by rw [State.report_eq]
@[simp] theorem State.report_keys (code : Nat) (data : List (Nat × Int)) (s : State) : (s.report code data).keys = s.keys := by rw [State.report_eq]
@[simp] theorem State.report_kreg (code : Nat) (data : List (Nat × Int)) (s : State) : (s.report code data).kreg = s.kreg := by rw [State.report_eq]
@[simp] theorem State.report_upd (code : Nat) (data : List (Nat × Int)) (s : State) : (s.report code data).upd = s.upd := by rw [State.report_eq]
@[simp] theorem State.report_ureg (code : Nat) (data : List (Nat × Int)) (s : State) : (s.report code data).ureg = s.ureg := by rw [State.report_eq]
@[simp] theorem State.report_pair (code : Nat) (data : List (Nat × Int)) (s : State) : (s.report code data).pair = s.pair := by rw [State.report_eq]
@[simp] theorem State.report_fleet (code : Nat) (data : List (Nat × Int)) (s : State) : (s.report code data).fleet = s.fleet := by rw [State.report_eq]
@[simp] theorem State.report_pub (code : Nat) (data : List (Nat × Int)) (s : State) : (s.report code data).pub = s.pub := by rw [State.report_eq]
@[simp] theorem State.report_inp (code : Nat) (data : List (Nat × Int)) (s : State) : (s.report code data).inp = s.inp := by rw [State.report_eq]
@[simp] theorem State.report_tick (code : Nat) (data : List (Nat × Int)) (s : State) : (s.report code data).tick = s.tick := by rw [State.report_eq]
@[simp] theorem State.report_freg (code : Nat) (data : List (Nat × Int)) (s : State) : (s.report code data).freg = s.freg := by rw [State.report_eq]
@[simp] theorem State.report_guest (code : Nat) (data : List (Nat × Int)) (s : State) : (s.report code data).guest = s.guest := by rw [State.report_eq]
@[simp] theorem State.report_stop (code : Nat) (data : List (Nat × Int)) (s : State) : (s.report code data).stop = s.stop := by rw [State.report_eq]
@[simp] theorem State.report_rad (code : Nat) (data : List (Nat × Int)) (s : State) : (s.report code data).rad = s.rad := by rw [State.report_eq]
@[simp] theorem State.report_lake (code : Nat) (data : List (Nat × Int)) (s : State) : (s.report code data).lake = s.lake := by rw [State.report_eq]
@[simp] theorem State.report_lcnt (code : Nat) (data : List (Nat × Int)) (s : State) : (s.report code data).lcnt = s.lcnt := by rw [State.report_eq]
@[simp] theorem State.report_trk (code : Nat) (data : List (Nat × Int)) (s : State) : (s.report code data).trk = s.trk := by rw [State.report_eq]
@[simp] theorem State.report_loop (code : Nat) (data : List (Nat × Int)) (s : State) : (s.report code data).loop = s.loop := by rw [State.report_eq]
@[simp] theorem State.report_meas (code : Nat) (data : List (Nat × Int)) (s : State) : (s.report code data).meas = s.meas := by rw [State.report_eq]
@[simp] theorem State.report_mreg (code : Nat) (data : List (Nat × Int)) (s : State) : (s.report code data).mreg = s.mreg := by rw [State.report_eq]
@[simp] theorem State.report_lum (code : Nat) (data : List (Nat × Int)) (s : State) : (s.report code data).lum = s.lum := by rw [State.report_eq]
@[simp] theorem State.report_met (code : Nat) (data : List (Nat × Int)) (s : State) : (s.report code data).met = s.met := by rw [State.report_eq]
@[simp] theorem State.report_mets (code : Nat) (data : List (Nat × Int)) (s : State) : (s.report code data).mets = s.mets := by rw [State.report_eq]
@[simp] theorem State.report_tables (code : Nat) (data : List (Nat × Int)) (s : State) : (s.report code data).tables = s.tables := by rw [State.report_eq]
@[simp] theorem State.report_kept (code : Nat) (data : List (Nat × Int)) (s : State) : (s.report code data).kept = s.kept := by rw [State.report_eq]
@[simp] theorem State.report_latch (code : Nat) (data : List (Nat × Int)) (s : State) : (s.report code data).latch = s.latch := by rw [State.report_eq]
@[simp] theorem State.report_free (code : Nat) (data : List (Nat × Int)) (s : State) : (s.report code data).free = s.free := by rw [State.report_eq]
@[simp] theorem State.report_out (code : Nat) (data : List (Nat × Int)) (s : State) : (s.report code data).out = s.out := by rw [State.report_eq]
@[simp] theorem State.report_pending (code : Nat) (data : List (Nat × Int)) (s : State) : (s.report code data).pending = s.pending := by rw [State.report_eq]

@[simp] theorem State.intake_sys (code : Nat) (data : List Octet) (s : State) : (s.intake code data).sys = s.sys := by rw [State.intake_eq]
@[simp] theorem State.intake_clk (code : Nat) (data : List Octet) (s : State) : (s.intake code data).clk = s.clk := by rw [State.intake_eq]
@[simp] theorem State.intake_tres (code : Nat) (data : List Octet) (s : State) : (s.intake code data).tres = s.tres := by rw [State.intake_eq]
@[simp] theorem State.intake_ao (code : Nat) (data : List Octet) (s : State) : (s.intake code data).ao = s.ao := by rw [State.intake_eq]
@[simp] theorem State.intake_cfg (code : Nat) (data : List Octet) (s : State) : (s.intake code data).cfg = s.cfg := by rw [State.intake_eq]
@[simp] theorem State.intake_time (code : Nat) (data : List Octet) (s : State) : (s.intake code data).time = s.time := by rw [State.intake_eq]
@[simp] theorem State.intake_treg (code : Nat) (data : List Octet) (s : State) : (s.intake code data).treg = s.treg := by rw [State.intake_eq]
@[simp] theorem State.intake_store (code : Nat) (data : List Octet) (s : State) : (s.intake code data).store = s.store := by rw [State.intake_eq]
@[simp] theorem State.intake_diag (code : Nat) (data : List Octet) (s : State) : (s.intake code data).diag = s.diag := by rw [State.intake_eq]
@[simp] theorem State.intake_host (code : Nat) (data : List Octet) (s : State) : (s.intake code data).host = s.host := by rw [State.intake_eq]
@[simp] theorem State.intake_flash (code : Nat) (data : List Octet) (s : State) : (s.intake code data).flash = s.flash := by rw [State.intake_eq]
@[simp] theorem State.intake_saved (code : Nat) (data : List Octet) (s : State) : (s.intake code data).saved = s.saved := by rw [State.intake_eq]
@[simp] theorem State.intake_keys (code : Nat) (data : List Octet) (s : State) : (s.intake code data).keys = s.keys := by rw [State.intake_eq]
@[simp] theorem State.intake_kreg (code : Nat) (data : List Octet) (s : State) : (s.intake code data).kreg = s.kreg := by rw [State.intake_eq]
@[simp] theorem State.intake_upd (code : Nat) (data : List Octet) (s : State) : (s.intake code data).upd = s.upd := by rw [State.intake_eq]
@[simp] theorem State.intake_ureg (code : Nat) (data : List Octet) (s : State) : (s.intake code data).ureg = s.ureg := by rw [State.intake_eq]
@[simp] theorem State.intake_pair (code : Nat) (data : List Octet) (s : State) : (s.intake code data).pair = s.pair := by rw [State.intake_eq]
@[simp] theorem State.intake_fleet (code : Nat) (data : List Octet) (s : State) : (s.intake code data).fleet = s.fleet := by rw [State.intake_eq]
@[simp] theorem State.intake_pub (code : Nat) (data : List Octet) (s : State) : (s.intake code data).pub = s.pub := by rw [State.intake_eq]
@[simp] theorem State.intake_inp (code : Nat) (data : List Octet) (s : State) : (s.intake code data).inp = s.inp := by rw [State.intake_eq]
@[simp] theorem State.intake_tick (code : Nat) (data : List Octet) (s : State) : (s.intake code data).tick = s.tick := by rw [State.intake_eq]
@[simp] theorem State.intake_freg (code : Nat) (data : List Octet) (s : State) : (s.intake code data).freg = s.freg := by rw [State.intake_eq]
@[simp] theorem State.intake_guest (code : Nat) (data : List Octet) (s : State) : (s.intake code data).guest = s.guest := by rw [State.intake_eq]
@[simp] theorem State.intake_stop (code : Nat) (data : List Octet) (s : State) : (s.intake code data).stop = s.stop := by rw [State.intake_eq]
@[simp] theorem State.intake_rad (code : Nat) (data : List Octet) (s : State) : (s.intake code data).rad = s.rad := by rw [State.intake_eq]
@[simp] theorem State.intake_lake (code : Nat) (data : List Octet) (s : State) : (s.intake code data).lake = s.lake := by rw [State.intake_eq]
@[simp] theorem State.intake_lcnt (code : Nat) (data : List Octet) (s : State) : (s.intake code data).lcnt = s.lcnt := by rw [State.intake_eq]
@[simp] theorem State.intake_trk (code : Nat) (data : List Octet) (s : State) : (s.intake code data).trk = s.trk := by rw [State.intake_eq]
@[simp] theorem State.intake_loop (code : Nat) (data : List Octet) (s : State) : (s.intake code data).loop = s.loop := by rw [State.intake_eq]
@[simp] theorem State.intake_meas (code : Nat) (data : List Octet) (s : State) : (s.intake code data).meas = s.meas := by rw [State.intake_eq]
@[simp] theorem State.intake_mreg (code : Nat) (data : List Octet) (s : State) : (s.intake code data).mreg = s.mreg := by rw [State.intake_eq]
@[simp] theorem State.intake_lum (code : Nat) (data : List Octet) (s : State) : (s.intake code data).lum = s.lum := by rw [State.intake_eq]
@[simp] theorem State.intake_met (code : Nat) (data : List Octet) (s : State) : (s.intake code data).met = s.met := by rw [State.intake_eq]
@[simp] theorem State.intake_mets (code : Nat) (data : List Octet) (s : State) : (s.intake code data).mets = s.mets := by rw [State.intake_eq]
@[simp] theorem State.intake_tables (code : Nat) (data : List Octet) (s : State) : (s.intake code data).tables = s.tables := by rw [State.intake_eq]
@[simp] theorem State.intake_kept (code : Nat) (data : List Octet) (s : State) : (s.intake code data).kept = s.kept := by rw [State.intake_eq]
@[simp] theorem State.intake_latch (code : Nat) (data : List Octet) (s : State) : (s.intake code data).latch = s.latch := by rw [State.intake_eq]
@[simp] theorem State.intake_free (code : Nat) (data : List Octet) (s : State) : (s.intake code data).free = s.free := by rw [State.intake_eq]
@[simp] theorem State.intake_out (code : Nat) (data : List Octet) (s : State) : (s.intake code data).out = s.out := by rw [State.intake_eq]
@[simp] theorem State.intake_pending (code : Nat) (data : List Octet) (s : State) : (s.intake code data).pending = s.pending := by rw [State.intake_eq]

@[simp] theorem State.reportNow_sys (code : Nat) (data : List (Nat × Int)) (s : State) : (s.reportNow code data).sys = s.sys := by rw [State.reportNow_eq]
@[simp] theorem State.reportNow_clk (code : Nat) (data : List (Nat × Int)) (s : State) : (s.reportNow code data).clk = s.clk := by rw [State.reportNow_eq]
@[simp] theorem State.reportNow_tres (code : Nat) (data : List (Nat × Int)) (s : State) : (s.reportNow code data).tres = s.tres := by rw [State.reportNow_eq]
@[simp] theorem State.reportNow_cfg (code : Nat) (data : List (Nat × Int)) (s : State) : (s.reportNow code data).cfg = s.cfg := by rw [State.reportNow_eq]
@[simp] theorem State.reportNow_time (code : Nat) (data : List (Nat × Int)) (s : State) : (s.reportNow code data).time = s.time := by rw [State.reportNow_eq]
@[simp] theorem State.reportNow_treg (code : Nat) (data : List (Nat × Int)) (s : State) : (s.reportNow code data).treg = s.treg := by rw [State.reportNow_eq]
@[simp] theorem State.reportNow_store (code : Nat) (data : List (Nat × Int)) (s : State) : (s.reportNow code data).store = s.store := by rw [State.reportNow_eq]
@[simp] theorem State.reportNow_host (code : Nat) (data : List (Nat × Int)) (s : State) : (s.reportNow code data).host = s.host := by rw [State.reportNow_eq]
@[simp] theorem State.reportNow_flash (code : Nat) (data : List (Nat × Int)) (s : State) : (s.reportNow code data).flash = s.flash := by rw [State.reportNow_eq]
@[simp] theorem State.reportNow_saved (code : Nat) (data : List (Nat × Int)) (s : State) : (s.reportNow code data).saved = s.saved := by rw [State.reportNow_eq]
@[simp] theorem State.reportNow_keys (code : Nat) (data : List (Nat × Int)) (s : State) : (s.reportNow code data).keys = s.keys := by rw [State.reportNow_eq]
@[simp] theorem State.reportNow_kreg (code : Nat) (data : List (Nat × Int)) (s : State) : (s.reportNow code data).kreg = s.kreg := by rw [State.reportNow_eq]
@[simp] theorem State.reportNow_upd (code : Nat) (data : List (Nat × Int)) (s : State) : (s.reportNow code data).upd = s.upd := by rw [State.reportNow_eq]
@[simp] theorem State.reportNow_ureg (code : Nat) (data : List (Nat × Int)) (s : State) : (s.reportNow code data).ureg = s.ureg := by rw [State.reportNow_eq]
@[simp] theorem State.reportNow_pair (code : Nat) (data : List (Nat × Int)) (s : State) : (s.reportNow code data).pair = s.pair := by rw [State.reportNow_eq]
@[simp] theorem State.reportNow_fleet (code : Nat) (data : List (Nat × Int)) (s : State) : (s.reportNow code data).fleet = s.fleet := by rw [State.reportNow_eq]
@[simp] theorem State.reportNow_pub (code : Nat) (data : List (Nat × Int)) (s : State) : (s.reportNow code data).pub = s.pub := by rw [State.reportNow_eq]
@[simp] theorem State.reportNow_inp (code : Nat) (data : List (Nat × Int)) (s : State) : (s.reportNow code data).inp = s.inp := by rw [State.reportNow_eq]
@[simp] theorem State.reportNow_tick (code : Nat) (data : List (Nat × Int)) (s : State) : (s.reportNow code data).tick = s.tick := by rw [State.reportNow_eq]
@[simp] theorem State.reportNow_freg (code : Nat) (data : List (Nat × Int)) (s : State) : (s.reportNow code data).freg = s.freg := by rw [State.reportNow_eq]
@[simp] theorem State.reportNow_guest (code : Nat) (data : List (Nat × Int)) (s : State) : (s.reportNow code data).guest = s.guest := by rw [State.reportNow_eq]
@[simp] theorem State.reportNow_stop (code : Nat) (data : List (Nat × Int)) (s : State) : (s.reportNow code data).stop = s.stop := by rw [State.reportNow_eq]
@[simp] theorem State.reportNow_rad (code : Nat) (data : List (Nat × Int)) (s : State) : (s.reportNow code data).rad = s.rad := by rw [State.reportNow_eq]
@[simp] theorem State.reportNow_lake (code : Nat) (data : List (Nat × Int)) (s : State) : (s.reportNow code data).lake = s.lake := by rw [State.reportNow_eq]
@[simp] theorem State.reportNow_lcnt (code : Nat) (data : List (Nat × Int)) (s : State) : (s.reportNow code data).lcnt = s.lcnt := by rw [State.reportNow_eq]
@[simp] theorem State.reportNow_trk (code : Nat) (data : List (Nat × Int)) (s : State) : (s.reportNow code data).trk = s.trk := by rw [State.reportNow_eq]
@[simp] theorem State.reportNow_loop (code : Nat) (data : List (Nat × Int)) (s : State) : (s.reportNow code data).loop = s.loop := by rw [State.reportNow_eq]
@[simp] theorem State.reportNow_meas (code : Nat) (data : List (Nat × Int)) (s : State) : (s.reportNow code data).meas = s.meas := by rw [State.reportNow_eq]
@[simp] theorem State.reportNow_mreg (code : Nat) (data : List (Nat × Int)) (s : State) : (s.reportNow code data).mreg = s.mreg := by rw [State.reportNow_eq]
@[simp] theorem State.reportNow_lum (code : Nat) (data : List (Nat × Int)) (s : State) : (s.reportNow code data).lum = s.lum := by rw [State.reportNow_eq]
@[simp] theorem State.reportNow_met (code : Nat) (data : List (Nat × Int)) (s : State) : (s.reportNow code data).met = s.met := by rw [State.reportNow_eq]
@[simp] theorem State.reportNow_mets (code : Nat) (data : List (Nat × Int)) (s : State) : (s.reportNow code data).mets = s.mets := by rw [State.reportNow_eq]
@[simp] theorem State.reportNow_tables (code : Nat) (data : List (Nat × Int)) (s : State) : (s.reportNow code data).tables = s.tables := by rw [State.reportNow_eq]
@[simp] theorem State.reportNow_kept (code : Nat) (data : List (Nat × Int)) (s : State) : (s.reportNow code data).kept = s.kept := by rw [State.reportNow_eq]
@[simp] theorem State.reportNow_latch (code : Nat) (data : List (Nat × Int)) (s : State) : (s.reportNow code data).latch = s.latch := by rw [State.reportNow_eq]
@[simp] theorem State.reportNow_free (code : Nat) (data : List (Nat × Int)) (s : State) : (s.reportNow code data).free = s.free := by rw [State.reportNow_eq]
@[simp] theorem State.reportNow_out (code : Nat) (data : List (Nat × Int)) (s : State) : (s.reportNow code data).out = s.out := by rw [State.reportNow_eq]
@[simp] theorem State.reportNow_pending (code : Nat) (data : List (Nat × Int)) (s : State) : (s.reportNow code data).pending = s.pending := by rw [State.reportNow_eq]

@[simp] theorem State.writeOne_sys  (s : State) : (s.writeOne).sys = s.sys := by rw [State.writeOne_eq]
@[simp] theorem State.writeOne_clk  (s : State) : (s.writeOne).clk = s.clk := by rw [State.writeOne_eq]
@[simp] theorem State.writeOne_tres  (s : State) : (s.writeOne).tres = s.tres := by rw [State.writeOne_eq]
@[simp] theorem State.writeOne_cfg  (s : State) : (s.writeOne).cfg = s.cfg := by rw [State.writeOne_eq]
@[simp] theorem State.writeOne_time  (s : State) : (s.writeOne).time = s.time := by rw [State.writeOne_eq]
@[simp] theorem State.writeOne_treg  (s : State) : (s.writeOne).treg = s.treg := by rw [State.writeOne_eq]
@[simp] theorem State.writeOne_store  (s : State) : (s.writeOne).store = s.store := by rw [State.writeOne_eq]
@[simp] theorem State.writeOne_host  (s : State) : (s.writeOne).host = s.host := by rw [State.writeOne_eq]
@[simp] theorem State.writeOne_flash  (s : State) : (s.writeOne).flash = s.flash := by rw [State.writeOne_eq]
@[simp] theorem State.writeOne_saved  (s : State) : (s.writeOne).saved = s.saved := by rw [State.writeOne_eq]
@[simp] theorem State.writeOne_keys  (s : State) : (s.writeOne).keys = s.keys := by rw [State.writeOne_eq]
@[simp] theorem State.writeOne_kreg  (s : State) : (s.writeOne).kreg = s.kreg := by rw [State.writeOne_eq]
@[simp] theorem State.writeOne_upd  (s : State) : (s.writeOne).upd = s.upd := by rw [State.writeOne_eq]
@[simp] theorem State.writeOne_ureg  (s : State) : (s.writeOne).ureg = s.ureg := by rw [State.writeOne_eq]
@[simp] theorem State.writeOne_pair  (s : State) : (s.writeOne).pair = s.pair := by rw [State.writeOne_eq]
@[simp] theorem State.writeOne_fleet  (s : State) : (s.writeOne).fleet = s.fleet := by rw [State.writeOne_eq]
@[simp] theorem State.writeOne_pub  (s : State) : (s.writeOne).pub = s.pub := by rw [State.writeOne_eq]
@[simp] theorem State.writeOne_inp  (s : State) : (s.writeOne).inp = s.inp := by rw [State.writeOne_eq]
@[simp] theorem State.writeOne_tick  (s : State) : (s.writeOne).tick = s.tick := by rw [State.writeOne_eq]
@[simp] theorem State.writeOne_freg  (s : State) : (s.writeOne).freg = s.freg := by rw [State.writeOne_eq]
@[simp] theorem State.writeOne_guest  (s : State) : (s.writeOne).guest = s.guest := by rw [State.writeOne_eq]
@[simp] theorem State.writeOne_stop  (s : State) : (s.writeOne).stop = s.stop := by rw [State.writeOne_eq]
@[simp] theorem State.writeOne_rad  (s : State) : (s.writeOne).rad = s.rad := by rw [State.writeOne_eq]
@[simp] theorem State.writeOne_lake  (s : State) : (s.writeOne).lake = s.lake := by rw [State.writeOne_eq]
@[simp] theorem State.writeOne_lcnt  (s : State) : (s.writeOne).lcnt = s.lcnt := by rw [State.writeOne_eq]
@[simp] theorem State.writeOne_trk  (s : State) : (s.writeOne).trk = s.trk := by rw [State.writeOne_eq]
@[simp] theorem State.writeOne_loop  (s : State) : (s.writeOne).loop = s.loop := by rw [State.writeOne_eq]
@[simp] theorem State.writeOne_meas  (s : State) : (s.writeOne).meas = s.meas := by rw [State.writeOne_eq]
@[simp] theorem State.writeOne_mreg  (s : State) : (s.writeOne).mreg = s.mreg := by rw [State.writeOne_eq]
@[simp] theorem State.writeOne_lum  (s : State) : (s.writeOne).lum = s.lum := by rw [State.writeOne_eq]
@[simp] theorem State.writeOne_met  (s : State) : (s.writeOne).met = s.met := by rw [State.writeOne_eq]
@[simp] theorem State.writeOne_mets  (s : State) : (s.writeOne).mets = s.mets := by rw [State.writeOne_eq]
@[simp] theorem State.writeOne_tables  (s : State) : (s.writeOne).tables = s.tables := by rw [State.writeOne_eq]
@[simp] theorem State.writeOne_kept  (s : State) : (s.writeOne).kept = s.kept := by rw [State.writeOne_eq]
@[simp] theorem State.writeOne_latch  (s : State) : (s.writeOne).latch = s.latch := by rw [State.writeOne_eq]
@[simp] theorem State.writeOne_free  (s : State) : (s.writeOne).free = s.free := by rw [State.writeOne_eq]
@[simp] theorem State.writeOne_out  (s : State) : (s.writeOne).out = s.out := by rw [State.writeOne_eq]
@[simp] theorem State.writeOne_pending  (s : State) : (s.writeOne).pending = s.pending := by rw [State.writeOne_eq]

@[simp] theorem State.drain_sys  (s : State) : (s.drain).sys = s.sys := by rw [State.drain_eq]
@[simp] theorem State.drain_clk  (s : State) : (s.drain).clk = s.clk := by rw [State.drain_eq]
@[simp] theorem State.drain_tres  (s : State) : (s.drain).tres = s.tres := by rw [State.drain_eq]
@[simp] theorem State.drain_cfg  (s : State) : (s.drain).cfg = s.cfg := by rw [State.drain_eq]
@[simp] theorem State.drain_time  (s : State) : (s.drain).time = s.time := by rw [State.drain_eq]
@[simp] theorem State.drain_treg  (s : State) : (s.drain).treg = s.treg := by rw [State.drain_eq]
@[simp] theorem State.drain_store  (s : State) : (s.drain).store = s.store := by rw [State.drain_eq]
@[simp] theorem State.drain_host  (s : State) : (s.drain).host = s.host := by rw [State.drain_eq]
@[simp] theorem State.drain_flash  (s : State) : (s.drain).flash = s.flash := by rw [State.drain_eq]
@[simp] theorem State.drain_saved  (s : State) : (s.drain).saved = s.saved := by rw [State.drain_eq]
@[simp] theorem State.drain_keys  (s : State) : (s.drain).keys = s.keys := by rw [State.drain_eq]
@[simp] theorem State.drain_kreg  (s : State) : (s.drain).kreg = s.kreg := by rw [State.drain_eq]
@[simp] theorem State.drain_upd  (s : State) : (s.drain).upd = s.upd := by rw [State.drain_eq]
@[simp] theorem State.drain_ureg  (s : State) : (s.drain).ureg = s.ureg := by rw [State.drain_eq]
@[simp] theorem State.drain_pair  (s : State) : (s.drain).pair = s.pair := by rw [State.drain_eq]
@[simp] theorem State.drain_fleet  (s : State) : (s.drain).fleet = s.fleet := by rw [State.drain_eq]
@[simp] theorem State.drain_pub  (s : State) : (s.drain).pub = s.pub := by rw [State.drain_eq]
@[simp] theorem State.drain_inp  (s : State) : (s.drain).inp = s.inp := by rw [State.drain_eq]
@[simp] theorem State.drain_tick  (s : State) : (s.drain).tick = s.tick := by rw [State.drain_eq]
@[simp] theorem State.drain_freg  (s : State) : (s.drain).freg = s.freg := by rw [State.drain_eq]
@[simp] theorem State.drain_guest  (s : State) : (s.drain).guest = s.guest := by rw [State.drain_eq]
@[simp] theorem State.drain_stop  (s : State) : (s.drain).stop = s.stop := by rw [State.drain_eq]
@[simp] theorem State.drain_rad  (s : State) : (s.drain).rad = s.rad := by rw [State.drain_eq]
@[simp] theorem State.drain_lake  (s : State) : (s.drain).lake = s.lake := by rw [State.drain_eq]
@[simp] theorem State.drain_lcnt  (s : State) : (s.drain).lcnt = s.lcnt := by rw [State.drain_eq]
@[simp] theorem State.drain_trk  (s : State) : (s.drain).trk = s.trk := by rw [State.drain_eq]
@[simp] theorem State.drain_loop  (s : State) : (s.drain).loop = s.loop := by rw [State.drain_eq]
@[simp] theorem State.drain_meas  (s : State) : (s.drain).meas = s.meas := by rw [State.drain_eq]
@[simp] theorem State.drain_mreg  (s : State) : (s.drain).mreg = s.mreg := by rw [State.drain_eq]
@[simp] theorem State.drain_lum  (s : State) : (s.drain).lum = s.lum := by rw [State.drain_eq]
@[simp] theorem State.drain_met  (s : State) : (s.drain).met = s.met := by rw [State.drain_eq]
@[simp] theorem State.drain_mets  (s : State) : (s.drain).mets = s.mets := by rw [State.drain_eq]
@[simp] theorem State.drain_tables  (s : State) : (s.drain).tables = s.tables := by rw [State.drain_eq]
@[simp] theorem State.drain_kept  (s : State) : (s.drain).kept = s.kept := by rw [State.drain_eq]
@[simp] theorem State.drain_latch  (s : State) : (s.drain).latch = s.latch := by rw [State.drain_eq]
@[simp] theorem State.drain_free  (s : State) : (s.drain).free = s.free := by rw [State.drain_eq]
@[simp] theorem State.drain_out  (s : State) : (s.drain).out = s.out := by rw [State.drain_eq]
@[simp] theorem State.drain_pending  (s : State) : (s.drain).pending = s.pending := by rw [State.drain_eq]

/-! Of the always-on domain and the DIAG block the writer changes the intake count and the injection in force alone. -/

@[simp] theorem State.reportNow_ao_optime (code : Nat) (data : List (Nat × Int)) (s : State) : (s.reportNow code data).ao.optime = s.ao.optime := by rw [State.reportNow_eq]
@[simp] theorem State.reportNow_ao_pwrcyc (code : Nat) (data : List (Nat × Int)) (s : State) : (s.reportNow code data).ao.pwrcyc = s.ao.pwrcyc := by rw [State.reportNow_eq]
@[simp] theorem State.reportNow_ao_restarts (code : Nat) (data : List (Nat × Int)) (s : State) : (s.reportNow code data).ao.restarts = s.ao.restarts := by rw [State.reportNow_eq]
@[simp] theorem State.reportNow_ao_intakeValid (code : Nat) (data : List (Nat × Int)) (s : State) : (s.reportNow code data).ao.intakeValid = s.ao.intakeValid := by rw [State.reportNow_eq]
@[simp] theorem State.reportNow_ao_vbatLost (code : Nat) (data : List (Nat × Int)) (s : State) : (s.reportNow code data).ao.vbatLost = s.ao.vbatLost := by rw [State.reportNow_eq]
@[simp] theorem State.reportNow_ao_crystalArmed (code : Nat) (data : List (Nat × Int)) (s : State) : (s.reportNow code data).ao.crystalArmed = s.ao.crystalArmed := by rw [State.reportNow_eq]
@[simp] theorem State.reportNow_ao_vbatLow (code : Nat) (data : List (Nat × Int)) (s : State) : (s.reportNow code data).ao.vbatLow = s.ao.vbatLow := by rw [State.reportNow_eq]
@[simp] theorem State.reportNow_diag_session (code : Nat) (data : List (Nat × Int)) (s : State) : (s.reportNow code data).diag.session = s.diag.session := by rw [State.reportNow_eq]
@[simp] theorem State.reportNow_diag_host (code : Nat) (data : List (Nat × Int)) (s : State) : (s.reportNow code data).diag.host = s.diag.host := by rw [State.reportNow_eq]
@[simp] theorem State.reportNow_diag_slot (code : Nat) (data : List (Nat × Int)) (s : State) : (s.reportNow code data).diag.slot = s.diag.slot := by rw [State.reportNow_eq]
@[simp] theorem State.reportNow_diag_lastWrite (code : Nat) (data : List (Nat × Int)) (s : State) : (s.reportNow code data).diag.lastWrite = s.diag.lastWrite := by rw [State.reportNow_eq]
@[simp] theorem State.reportNow_diag_selDetector (code : Nat) (data : List (Nat × Int)) (s : State) : (s.reportNow code data).diag.selDetector = s.diag.selDetector := by rw [State.reportNow_eq]
@[simp] theorem State.reportNow_diag_selTarget (code : Nat) (data : List (Nat × Int)) (s : State) : (s.reportNow code data).diag.selTarget = s.diag.selTarget := by rw [State.reportNow_eq]
@[simp] theorem State.reportNow_diag_argument (code : Nat) (data : List (Nat × Int)) (s : State) : (s.reportNow code data).diag.argument = s.diag.argument := by rw [State.reportNow_eq]
@[simp] theorem State.reportNow_diag_resDetector (code : Nat) (data : List (Nat × Int)) (s : State) : (s.reportNow code data).diag.resDetector = s.diag.resDetector := by rw [State.reportNow_eq]
@[simp] theorem State.reportNow_diag_resOutcome (code : Nat) (data : List (Nat × Int)) (s : State) : (s.reportNow code data).diag.resOutcome = s.diag.resOutcome := by rw [State.reportNow_eq]
@[simp] theorem State.reportNow_diag_resReason (code : Nat) (data : List (Nat × Int)) (s : State) : (s.reportNow code data).diag.resReason = s.diag.resReason := by rw [State.reportNow_eq]
@[simp] theorem State.reportNow_diag_resLatency (code : Nat) (data : List (Nat × Int)) (s : State) : (s.reportNow code data).diag.resLatency = s.diag.resLatency := by rw [State.reportNow_eq]
@[simp] theorem State.reportNow_diag_count (code : Nat) (data : List (Nat × Int)) (s : State) : (s.reportNow code data).diag.count = s.diag.count := by rw [State.reportNow_eq]
@[simp] theorem State.reportNow_diag_events (code : Nat) (data : List (Nat × Int)) (s : State) : (s.reportNow code data).diag.events = s.diag.events := by rw [State.reportNow_eq]
@[simp] theorem State.reportNow_diag_stallStep (code : Nat) (data : List (Nat × Int)) (s : State) : (s.reportNow code data).diag.stallStep = s.diag.stallStep := by rw [State.reportNow_eq]
@[simp] theorem State.reportNow_diag_tempOffset (code : Nat) (data : List (Nat × Int)) (s : State) : (s.reportNow code data).diag.tempOffset = s.diag.tempOffset := by rw [State.reportNow_eq]
@[simp] theorem State.reportNow_diag_stopHold (code : Nat) (data : List (Nat × Int)) (s : State) : (s.reportNow code data).diag.stopHold = s.diag.stopHold := by rw [State.reportNow_eq]
@[simp] theorem State.reportNow_diag_satChannel (code : Nat) (data : List (Nat × Int)) (s : State) : (s.reportNow code data).diag.satChannel = s.diag.satChannel := by rw [State.reportNow_eq]
@[simp] theorem State.reportNow_diag_biasSense (code : Nat) (data : List (Nat × Int)) (s : State) : (s.reportNow code data).diag.biasSense = s.diag.biasSense := by rw [State.reportNow_eq]
@[simp] theorem State.reportNow_diag_viaCorrupt (code : Nat) (data : List (Nat × Int)) (s : State) : (s.reportNow code data).diag.viaCorrupt = s.diag.viaCorrupt := by rw [State.reportNow_eq]
@[simp] theorem State.reportNow_diag_loopDelay (code : Nat) (data : List (Nat × Int)) (s : State) : (s.reportNow code data).diag.loopDelay = s.diag.loopDelay := by rw [State.reportNow_eq]
@[simp] theorem State.reportNow_diag_authCut (code : Nat) (data : List (Nat × Int)) (s : State) : (s.reportNow code data).diag.authCut = s.diag.authCut := by rw [State.reportNow_eq]
@[simp] theorem State.reportNow_diag_synthFault (code : Nat) (data : List (Nat × Int)) (s : State) : (s.reportNow code data).diag.synthFault = s.diag.synthFault := by rw [State.reportNow_eq]
@[simp] theorem State.reportNow_diag_paFault (code : Nat) (data : List (Nat × Int)) (s : State) : (s.reportNow code data).diag.paFault = s.diag.paFault := by rw [State.reportNow_eq]
@[simp] theorem State.reportNow_diag_eccArmed (code : Nat) (data : List (Nat × Int)) (s : State) : (s.reportNow code data).diag.eccArmed = s.diag.eccArmed := by rw [State.reportNow_eq]
@[simp] theorem State.reportNow_diag_timedEnd (code : Nat) (data : List (Nat × Int)) (s : State) : (s.reportNow code data).diag.timedEnd = s.diag.timedEnd := by rw [State.reportNow_eq]

@[simp] theorem State.drain_ao_optime (s : State) : (s.drain).ao.optime = s.ao.optime := by rw [State.drain_eq]
@[simp] theorem State.drain_ao_pwrcyc (s : State) : (s.drain).ao.pwrcyc = s.ao.pwrcyc := by rw [State.drain_eq]
@[simp] theorem State.drain_ao_restarts (s : State) : (s.drain).ao.restarts = s.ao.restarts := by rw [State.drain_eq]
@[simp] theorem State.drain_ao_intakeValid (s : State) : (s.drain).ao.intakeValid = s.ao.intakeValid := by rw [State.drain_eq]
@[simp] theorem State.drain_ao_vbatLost (s : State) : (s.drain).ao.vbatLost = s.ao.vbatLost := by rw [State.drain_eq]
@[simp] theorem State.drain_ao_crystalArmed (s : State) : (s.drain).ao.crystalArmed = s.ao.crystalArmed := by rw [State.drain_eq]
@[simp] theorem State.drain_ao_vbatLow (s : State) : (s.drain).ao.vbatLow = s.ao.vbatLow := by rw [State.drain_eq]
@[simp] theorem State.drain_diag_session (s : State) : (s.drain).diag.session = s.diag.session := by rw [State.drain_eq]
@[simp] theorem State.drain_diag_host (s : State) : (s.drain).diag.host = s.diag.host := by rw [State.drain_eq]
@[simp] theorem State.drain_diag_slot (s : State) : (s.drain).diag.slot = s.diag.slot := by rw [State.drain_eq]
@[simp] theorem State.drain_diag_lastWrite (s : State) : (s.drain).diag.lastWrite = s.diag.lastWrite := by rw [State.drain_eq]
@[simp] theorem State.drain_diag_selDetector (s : State) : (s.drain).diag.selDetector = s.diag.selDetector := by rw [State.drain_eq]
@[simp] theorem State.drain_diag_selTarget (s : State) : (s.drain).diag.selTarget = s.diag.selTarget := by rw [State.drain_eq]
@[simp] theorem State.drain_diag_argument (s : State) : (s.drain).diag.argument = s.diag.argument := by rw [State.drain_eq]
@[simp] theorem State.drain_diag_resDetector (s : State) : (s.drain).diag.resDetector = s.diag.resDetector := by rw [State.drain_eq]
@[simp] theorem State.drain_diag_resOutcome (s : State) : (s.drain).diag.resOutcome = s.diag.resOutcome := by rw [State.drain_eq]
@[simp] theorem State.drain_diag_resReason (s : State) : (s.drain).diag.resReason = s.diag.resReason := by rw [State.drain_eq]
@[simp] theorem State.drain_diag_resLatency (s : State) : (s.drain).diag.resLatency = s.diag.resLatency := by rw [State.drain_eq]
@[simp] theorem State.drain_diag_count (s : State) : (s.drain).diag.count = s.diag.count := by rw [State.drain_eq]
@[simp] theorem State.drain_diag_events (s : State) : (s.drain).diag.events = s.diag.events := by rw [State.drain_eq]
@[simp] theorem State.drain_diag_stallStep (s : State) : (s.drain).diag.stallStep = s.diag.stallStep := by rw [State.drain_eq]
@[simp] theorem State.drain_diag_tempOffset (s : State) : (s.drain).diag.tempOffset = s.diag.tempOffset := by rw [State.drain_eq]
@[simp] theorem State.drain_diag_stopHold (s : State) : (s.drain).diag.stopHold = s.diag.stopHold := by rw [State.drain_eq]
@[simp] theorem State.drain_diag_satChannel (s : State) : (s.drain).diag.satChannel = s.diag.satChannel := by rw [State.drain_eq]
@[simp] theorem State.drain_diag_biasSense (s : State) : (s.drain).diag.biasSense = s.diag.biasSense := by rw [State.drain_eq]
@[simp] theorem State.drain_diag_viaCorrupt (s : State) : (s.drain).diag.viaCorrupt = s.diag.viaCorrupt := by rw [State.drain_eq]
@[simp] theorem State.drain_diag_loopDelay (s : State) : (s.drain).diag.loopDelay = s.diag.loopDelay := by rw [State.drain_eq]
@[simp] theorem State.drain_diag_authCut (s : State) : (s.drain).diag.authCut = s.diag.authCut := by rw [State.drain_eq]
@[simp] theorem State.drain_diag_synthFault (s : State) : (s.drain).diag.synthFault = s.diag.synthFault := by rw [State.drain_eq]
@[simp] theorem State.drain_diag_paFault (s : State) : (s.drain).diag.paFault = s.diag.paFault := by rw [State.drain_eq]
@[simp] theorem State.drain_diag_eccArmed (s : State) : (s.drain).diag.eccArmed = s.diag.eccArmed := by rw [State.drain_eq]
@[simp] theorem State.drain_diag_timedEnd (s : State) : (s.drain).diag.timedEnd = s.diag.timedEnd := by rw [State.drain_eq]

end Sys2Proof.Machine
end

