-- ==== Sys2Proof/Laws/Modes.lean ====
section
/-! SUPPORT. What releasing the claim, a change of mode and an entry to START do to the state, said once. -/

namespace Sys2Proof.Machine

/-- A report for each element of a list changes the recorder's registers and nothing else. -/
theorem State.each_report_eq {α : Type} (l : List α) (c : Nat) (d : α → List (Nat × Int)) (s : State) :
    s.each l (fun h s => s.report c (d h)) = { s with rcd := (s.each l (fun h s => s.report c (d h))).rcd } := by
  apply State.each_keeps (fun t => t = { s with rcd := t.rcd }) _ _ l s rfl
  intro a t h
  rw [State.report_eq, h]

/-- Cutting off what is on air changes the radios and sends what was cut (R46, R338). -/
theorem State.cutAir_eq (s : State) : s.cutAir = { s with rad := s.cutAir.rad, out := s.cutAir.out } := by
  unfold State.cutAir
  apply State.each_keeps (fun t => t = { s with rad := t.rad, out := t.out }) _ _ _ _ rfl
  intro i t h
  simp only []
  split
  · unfold State.updRadio State.send
    (repeat' split) <;> (rw [h])
  · exact h

/-- Releasing the claim cuts off the air, clears the claim and forgets what was decided on it (R339). -/
theorem State.releaseClaim_eq (s : State) :
    s.releaseClaim = { s with rad := s.releaseClaim.rad, out := s.releaseClaim.out, pair.claim := false, pair.decided := none,
                              pair.swapDue := false } := by
  unfold State.releaseClaim
  simp only []
  rw [State.cutAir_eq]

@[simp] theorem State.releaseClaim_pair (s : State) :
    s.releaseClaim.pair = { s.pair with claim := false, decided := none, swapDue := false } := by rw [State.releaseClaim_eq]

/-- Cancelling an injection changes the DIAG block and what the discrepancy comparator sees (R464). -/
theorem State.cancelInjection_eq (s : State) :
    s.cancelInjection = { s with diag := s.cancelInjection.diag, stop := s.cancelInjection.stop } := by
  unfold State.cancelInjection
  split <;> rfl

/-- A change of mode changes SYS and records it (R36). -/
theorem State.setMode_eq (m : Mode) (trigger : Nat) (s : State) :
    s.setMode m trigger = { s with sys := (s.setMode m trigger).sys, rcd := (s.setMode m trigger).rcd } := by
  unfold State.setMode
  simp only []
  split
  · rfl
  · rw [State.report_eq]

/-- The mode is the one entered. -/
@[simp] theorem State.setMode_mode (m : Mode) (trigger : Nat) (s : State) : (s.setMode m trigger).sys.mode = m := by
  unfold State.setMode
  simp only []
  split <;> simp

@[simp] theorem State.cutAir_sys (s : State) : (s.cutAir).sys = s.sys := by rw [State.cutAir_eq]
@[simp] theorem State.cutAir_clk (s : State) : (s.cutAir).clk = s.clk := by rw [State.cutAir_eq]
@[simp] theorem State.cutAir_tres (s : State) : (s.cutAir).tres = s.tres := by rw [State.cutAir_eq]
@[simp] theorem State.cutAir_ao (s : State) : (s.cutAir).ao = s.ao := by rw [State.cutAir_eq]
@[simp] theorem State.cutAir_cfg (s : State) : (s.cutAir).cfg = s.cfg := by rw [State.cutAir_eq]
@[simp] theorem State.cutAir_time (s : State) : (s.cutAir).time = s.time := by rw [State.cutAir_eq]
@[simp] theorem State.cutAir_treg (s : State) : (s.cutAir).treg = s.treg := by rw [State.cutAir_eq]
@[simp] theorem State.cutAir_rcd (s : State) : (s.cutAir).rcd = s.rcd := by rw [State.cutAir_eq]
@[simp] theorem State.cutAir_store (s : State) : (s.cutAir).store = s.store := by rw [State.cutAir_eq]
@[simp] theorem State.cutAir_diag (s : State) : (s.cutAir).diag = s.diag := by rw [State.cutAir_eq]
@[simp] theorem State.cutAir_host (s : State) : (s.cutAir).host = s.host := by rw [State.cutAir_eq]
@[simp] theorem State.cutAir_flash (s : State) : (s.cutAir).flash = s.flash := by rw [State.cutAir_eq]
@[simp] theorem State.cutAir_saved (s : State) : (s.cutAir).saved = s.saved := by rw [State.cutAir_eq]
@[simp] theorem State.cutAir_keys (s : State) : (s.cutAir).keys = s.keys := by rw [State.cutAir_eq]
@[simp] theorem State.cutAir_kreg (s : State) : (s.cutAir).kreg = s.kreg := by rw [State.cutAir_eq]
@[simp] theorem State.cutAir_upd (s : State) : (s.cutAir).upd = s.upd := by rw [State.cutAir_eq]
@[simp] theorem State.cutAir_ureg (s : State) : (s.cutAir).ureg = s.ureg := by rw [State.cutAir_eq]
@[simp] theorem State.cutAir_pair (s : State) : (s.cutAir).pair = s.pair := by rw [State.cutAir_eq]
@[simp] theorem State.cutAir_fleet (s : State) : (s.cutAir).fleet = s.fleet := by rw [State.cutAir_eq]
@[simp] theorem State.cutAir_pub (s : State) : (s.cutAir).pub = s.pub := by rw [State.cutAir_eq]
@[simp] theorem State.cutAir_inp (s : State) : (s.cutAir).inp = s.inp := by rw [State.cutAir_eq]
@[simp] theorem State.cutAir_tick (s : State) : (s.cutAir).tick = s.tick := by rw [State.cutAir_eq]
@[simp] theorem State.cutAir_freg (s : State) : (s.cutAir).freg = s.freg := by rw [State.cutAir_eq]
@[simp] theorem State.cutAir_guest (s : State) : (s.cutAir).guest = s.guest := by rw [State.cutAir_eq]
@[simp] theorem State.cutAir_stop (s : State) : (s.cutAir).stop = s.stop := by rw [State.cutAir_eq]
@[simp] theorem State.cutAir_lake (s : State) : (s.cutAir).lake = s.lake := by rw [State.cutAir_eq]
@[simp] theorem State.cutAir_lcnt (s : State) : (s.cutAir).lcnt = s.lcnt := by rw [State.cutAir_eq]
@[simp] theorem State.cutAir_trk (s : State) : (s.cutAir).trk = s.trk := by rw [State.cutAir_eq]
@[simp] theorem State.cutAir_loop (s : State) : (s.cutAir).loop = s.loop := by rw [State.cutAir_eq]
@[simp] theorem State.cutAir_meas (s : State) : (s.cutAir).meas = s.meas := by rw [State.cutAir_eq]
@[simp] theorem State.cutAir_mreg (s : State) : (s.cutAir).mreg = s.mreg := by rw [State.cutAir_eq]
@[simp] theorem State.cutAir_lum (s : State) : (s.cutAir).lum = s.lum := by rw [State.cutAir_eq]
@[simp] theorem State.cutAir_met (s : State) : (s.cutAir).met = s.met := by rw [State.cutAir_eq]
@[simp] theorem State.cutAir_mets (s : State) : (s.cutAir).mets = s.mets := by rw [State.cutAir_eq]
@[simp] theorem State.cutAir_tables (s : State) : (s.cutAir).tables = s.tables := by rw [State.cutAir_eq]
@[simp] theorem State.cutAir_kept (s : State) : (s.cutAir).kept = s.kept := by rw [State.cutAir_eq]
@[simp] theorem State.cutAir_latch (s : State) : (s.cutAir).latch = s.latch := by rw [State.cutAir_eq]
@[simp] theorem State.cutAir_free (s : State) : (s.cutAir).free = s.free := by rw [State.cutAir_eq]
@[simp] theorem State.cutAir_pending (s : State) : (s.cutAir).pending = s.pending := by rw [State.cutAir_eq]

@[simp] theorem State.releaseClaim_sys (s : State) : (s.releaseClaim).sys = s.sys := by rw [State.releaseClaim_eq]
@[simp] theorem State.releaseClaim_clk (s : State) : (s.releaseClaim).clk = s.clk := by rw [State.releaseClaim_eq]
@[simp] theorem State.releaseClaim_tres (s : State) : (s.releaseClaim).tres = s.tres := by rw [State.releaseClaim_eq]
@[simp] theorem State.releaseClaim_ao (s : State) : (s.releaseClaim).ao = s.ao := by rw [State.releaseClaim_eq]
@[simp] theorem State.releaseClaim_cfg (s : State) : (s.releaseClaim).cfg = s.cfg := by rw [State.releaseClaim_eq]
@[simp] theorem State.releaseClaim_time (s : State) : (s.releaseClaim).time = s.time := by rw [State.releaseClaim_eq]
@[simp] theorem State.releaseClaim_treg (s : State) : (s.releaseClaim).treg = s.treg := by rw [State.releaseClaim_eq]
@[simp] theorem State.releaseClaim_rcd (s : State) : (s.releaseClaim).rcd = s.rcd := by rw [State.releaseClaim_eq]
@[simp] theorem State.releaseClaim_store (s : State) : (s.releaseClaim).store = s.store := by rw [State.releaseClaim_eq]
@[simp] theorem State.releaseClaim_diag (s : State) : (s.releaseClaim).diag = s.diag := by rw [State.releaseClaim_eq]
@[simp] theorem State.releaseClaim_host (s : State) : (s.releaseClaim).host = s.host := by rw [State.releaseClaim_eq]
@[simp] theorem State.releaseClaim_flash (s : State) : (s.releaseClaim).flash = s.flash := by rw [State.releaseClaim_eq]
@[simp] theorem State.releaseClaim_saved (s : State) : (s.releaseClaim).saved = s.saved := by rw [State.releaseClaim_eq]
@[simp] theorem State.releaseClaim_keys (s : State) : (s.releaseClaim).keys = s.keys := by rw [State.releaseClaim_eq]
@[simp] theorem State.releaseClaim_kreg (s : State) : (s.releaseClaim).kreg = s.kreg := by rw [State.releaseClaim_eq]
@[simp] theorem State.releaseClaim_upd (s : State) : (s.releaseClaim).upd = s.upd := by rw [State.releaseClaim_eq]
@[simp] theorem State.releaseClaim_ureg (s : State) : (s.releaseClaim).ureg = s.ureg := by rw [State.releaseClaim_eq]
@[simp] theorem State.releaseClaim_fleet (s : State) : (s.releaseClaim).fleet = s.fleet := by rw [State.releaseClaim_eq]
@[simp] theorem State.releaseClaim_pub (s : State) : (s.releaseClaim).pub = s.pub := by rw [State.releaseClaim_eq]
@[simp] theorem State.releaseClaim_inp (s : State) : (s.releaseClaim).inp = s.inp := by rw [State.releaseClaim_eq]
@[simp] theorem State.releaseClaim_tick (s : State) : (s.releaseClaim).tick = s.tick := by rw [State.releaseClaim_eq]
@[simp] theorem State.releaseClaim_freg (s : State) : (s.releaseClaim).freg = s.freg := by rw [State.releaseClaim_eq]
@[simp] theorem State.releaseClaim_guest (s : State) : (s.releaseClaim).guest = s.guest := by rw [State.releaseClaim_eq]
@[simp] theorem State.releaseClaim_stop (s : State) : (s.releaseClaim).stop = s.stop := by rw [State.releaseClaim_eq]
@[simp] theorem State.releaseClaim_lake (s : State) : (s.releaseClaim).lake = s.lake := by rw [State.releaseClaim_eq]
@[simp] theorem State.releaseClaim_lcnt (s : State) : (s.releaseClaim).lcnt = s.lcnt := by rw [State.releaseClaim_eq]
@[simp] theorem State.releaseClaim_trk (s : State) : (s.releaseClaim).trk = s.trk := by rw [State.releaseClaim_eq]
@[simp] theorem State.releaseClaim_loop (s : State) : (s.releaseClaim).loop = s.loop := by rw [State.releaseClaim_eq]
@[simp] theorem State.releaseClaim_meas (s : State) : (s.releaseClaim).meas = s.meas := by rw [State.releaseClaim_eq]
@[simp] theorem State.releaseClaim_mreg (s : State) : (s.releaseClaim).mreg = s.mreg := by rw [State.releaseClaim_eq]
@[simp] theorem State.releaseClaim_lum (s : State) : (s.releaseClaim).lum = s.lum := by rw [State.releaseClaim_eq]
@[simp] theorem State.releaseClaim_met (s : State) : (s.releaseClaim).met = s.met := by rw [State.releaseClaim_eq]
@[simp] theorem State.releaseClaim_mets (s : State) : (s.releaseClaim).mets = s.mets := by rw [State.releaseClaim_eq]
@[simp] theorem State.releaseClaim_tables (s : State) : (s.releaseClaim).tables = s.tables := by rw [State.releaseClaim_eq]
@[simp] theorem State.releaseClaim_kept (s : State) : (s.releaseClaim).kept = s.kept := by rw [State.releaseClaim_eq]
@[simp] theorem State.releaseClaim_latch (s : State) : (s.releaseClaim).latch = s.latch := by rw [State.releaseClaim_eq]
@[simp] theorem State.releaseClaim_free (s : State) : (s.releaseClaim).free = s.free := by rw [State.releaseClaim_eq]
@[simp] theorem State.releaseClaim_pending (s : State) : (s.releaseClaim).pending = s.pending := by rw [State.releaseClaim_eq]

@[simp] theorem State.cancelInjection_sys (s : State) : (s.cancelInjection).sys = s.sys := by rw [State.cancelInjection_eq]
@[simp] theorem State.cancelInjection_clk (s : State) : (s.cancelInjection).clk = s.clk := by rw [State.cancelInjection_eq]
@[simp] theorem State.cancelInjection_tres (s : State) : (s.cancelInjection).tres = s.tres := by rw [State.cancelInjection_eq]
@[simp] theorem State.cancelInjection_ao (s : State) : (s.cancelInjection).ao = s.ao := by rw [State.cancelInjection_eq]
@[simp] theorem State.cancelInjection_cfg (s : State) : (s.cancelInjection).cfg = s.cfg := by rw [State.cancelInjection_eq]
@[simp] theorem State.cancelInjection_time (s : State) : (s.cancelInjection).time = s.time := by rw [State.cancelInjection_eq]
@[simp] theorem State.cancelInjection_treg (s : State) : (s.cancelInjection).treg = s.treg := by rw [State.cancelInjection_eq]
@[simp] theorem State.cancelInjection_rcd (s : State) : (s.cancelInjection).rcd = s.rcd := by rw [State.cancelInjection_eq]
@[simp] theorem State.cancelInjection_store (s : State) : (s.cancelInjection).store = s.store := by rw [State.cancelInjection_eq]
@[simp] theorem State.cancelInjection_host (s : State) : (s.cancelInjection).host = s.host := by rw [State.cancelInjection_eq]
@[simp] theorem State.cancelInjection_flash (s : State) : (s.cancelInjection).flash = s.flash := by rw [State.cancelInjection_eq]
@[simp] theorem State.cancelInjection_saved (s : State) : (s.cancelInjection).saved = s.saved := by rw [State.cancelInjection_eq]
@[simp] theorem State.cancelInjection_keys (s : State) : (s.cancelInjection).keys = s.keys := by rw [State.cancelInjection_eq]
@[simp] theorem State.cancelInjection_kreg (s : State) : (s.cancelInjection).kreg = s.kreg := by rw [State.cancelInjection_eq]
@[simp] theorem State.cancelInjection_upd (s : State) : (s.cancelInjection).upd = s.upd := by rw [State.cancelInjection_eq]
@[simp] theorem State.cancelInjection_ureg (s : State) : (s.cancelInjection).ureg = s.ureg := by rw [State.cancelInjection_eq]
@[simp] theorem State.cancelInjection_pair (s : State) : (s.cancelInjection).pair = s.pair := by rw [State.cancelInjection_eq]
@[simp] theorem State.cancelInjection_fleet (s : State) : (s.cancelInjection).fleet = s.fleet := by rw [State.cancelInjection_eq]
@[simp] theorem State.cancelInjection_pub (s : State) : (s.cancelInjection).pub = s.pub := by rw [State.cancelInjection_eq]
@[simp] theorem State.cancelInjection_inp (s : State) : (s.cancelInjection).inp = s.inp := by rw [State.cancelInjection_eq]
@[simp] theorem State.cancelInjection_tick (s : State) : (s.cancelInjection).tick = s.tick := by rw [State.cancelInjection_eq]
@[simp] theorem State.cancelInjection_freg (s : State) : (s.cancelInjection).freg = s.freg := by rw [State.cancelInjection_eq]
@[simp] theorem State.cancelInjection_guest (s : State) : (s.cancelInjection).guest = s.guest := by rw [State.cancelInjection_eq]
@[simp] theorem State.cancelInjection_rad (s : State) : (s.cancelInjection).rad = s.rad := by rw [State.cancelInjection_eq]
@[simp] theorem State.cancelInjection_lake (s : State) : (s.cancelInjection).lake = s.lake := by rw [State.cancelInjection_eq]
@[simp] theorem State.cancelInjection_lcnt (s : State) : (s.cancelInjection).lcnt = s.lcnt := by rw [State.cancelInjection_eq]
@[simp] theorem State.cancelInjection_trk (s : State) : (s.cancelInjection).trk = s.trk := by rw [State.cancelInjection_eq]
@[simp] theorem State.cancelInjection_loop (s : State) : (s.cancelInjection).loop = s.loop := by rw [State.cancelInjection_eq]
@[simp] theorem State.cancelInjection_meas (s : State) : (s.cancelInjection).meas = s.meas := by rw [State.cancelInjection_eq]
@[simp] theorem State.cancelInjection_mreg (s : State) : (s.cancelInjection).mreg = s.mreg := by rw [State.cancelInjection_eq]
@[simp] theorem State.cancelInjection_lum (s : State) : (s.cancelInjection).lum = s.lum := by rw [State.cancelInjection_eq]
@[simp] theorem State.cancelInjection_met (s : State) : (s.cancelInjection).met = s.met := by rw [State.cancelInjection_eq]
@[simp] theorem State.cancelInjection_mets (s : State) : (s.cancelInjection).mets = s.mets := by rw [State.cancelInjection_eq]
@[simp] theorem State.cancelInjection_tables (s : State) : (s.cancelInjection).tables = s.tables := by rw [State.cancelInjection_eq]
@[simp] theorem State.cancelInjection_kept (s : State) : (s.cancelInjection).kept = s.kept := by rw [State.cancelInjection_eq]
@[simp] theorem State.cancelInjection_latch (s : State) : (s.cancelInjection).latch = s.latch := by rw [State.cancelInjection_eq]
@[simp] theorem State.cancelInjection_free (s : State) : (s.cancelInjection).free = s.free := by rw [State.cancelInjection_eq]
@[simp] theorem State.cancelInjection_out (s : State) : (s.cancelInjection).out = s.out := by rw [State.cancelInjection_eq]
@[simp] theorem State.cancelInjection_pending (s : State) : (s.cancelInjection).pending = s.pending := by rw [State.cancelInjection_eq]

@[simp] theorem State.setMode_clk (m : Mode) (trigger : Nat) (s : State) : (s.setMode m trigger).clk = s.clk := by rw [State.setMode_eq]
@[simp] theorem State.setMode_tres (m : Mode) (trigger : Nat) (s : State) : (s.setMode m trigger).tres = s.tres := by rw [State.setMode_eq]
@[simp] theorem State.setMode_ao (m : Mode) (trigger : Nat) (s : State) : (s.setMode m trigger).ao = s.ao := by rw [State.setMode_eq]
@[simp] theorem State.setMode_cfg (m : Mode) (trigger : Nat) (s : State) : (s.setMode m trigger).cfg = s.cfg := by rw [State.setMode_eq]
@[simp] theorem State.setMode_time (m : Mode) (trigger : Nat) (s : State) : (s.setMode m trigger).time = s.time := by rw [State.setMode_eq]
@[simp] theorem State.setMode_treg (m : Mode) (trigger : Nat) (s : State) : (s.setMode m trigger).treg = s.treg := by rw [State.setMode_eq]
@[simp] theorem State.setMode_store (m : Mode) (trigger : Nat) (s : State) : (s.setMode m trigger).store = s.store := by rw [State.setMode_eq]
@[simp] theorem State.setMode_diag (m : Mode) (trigger : Nat) (s : State) : (s.setMode m trigger).diag = s.diag := by rw [State.setMode_eq]
@[simp] theorem State.setMode_host (m : Mode) (trigger : Nat) (s : State) : (s.setMode m trigger).host = s.host := by rw [State.setMode_eq]
@[simp] theorem State.setMode_flash (m : Mode) (trigger : Nat) (s : State) : (s.setMode m trigger).flash = s.flash := by rw [State.setMode_eq]
@[simp] theorem State.setMode_saved (m : Mode) (trigger : Nat) (s : State) : (s.setMode m trigger).saved = s.saved := by rw [State.setMode_eq]
@[simp] theorem State.setMode_keys (m : Mode) (trigger : Nat) (s : State) : (s.setMode m trigger).keys = s.keys := by rw [State.setMode_eq]
@[simp] theorem State.setMode_kreg (m : Mode) (trigger : Nat) (s : State) : (s.setMode m trigger).kreg = s.kreg := by rw [State.setMode_eq]
@[simp] theorem State.setMode_upd (m : Mode) (trigger : Nat) (s : State) : (s.setMode m trigger).upd = s.upd := by rw [State.setMode_eq]
@[simp] theorem State.setMode_ureg (m : Mode) (trigger : Nat) (s : State) : (s.setMode m trigger).ureg = s.ureg := by rw [State.setMode_eq]
@[simp] theorem State.setMode_pair (m : Mode) (trigger : Nat) (s : State) : (s.setMode m trigger).pair = s.pair := by rw [State.setMode_eq]
@[simp] theorem State.setMode_fleet (m : Mode) (trigger : Nat) (s : State) : (s.setMode m trigger).fleet = s.fleet := by rw [State.setMode_eq]
@[simp] theorem State.setMode_pub (m : Mode) (trigger : Nat) (s : State) : (s.setMode m trigger).pub = s.pub := by rw [State.setMode_eq]
@[simp] theorem State.setMode_inp (m : Mode) (trigger : Nat) (s : State) : (s.setMode m trigger).inp = s.inp := by rw [State.setMode_eq]
@[simp] theorem State.setMode_tick (m : Mode) (trigger : Nat) (s : State) : (s.setMode m trigger).tick = s.tick := by rw [State.setMode_eq]
@[simp] theorem State.setMode_freg (m : Mode) (trigger : Nat) (s : State) : (s.setMode m trigger).freg = s.freg := by rw [State.setMode_eq]
@[simp] theorem State.setMode_guest (m : Mode) (trigger : Nat) (s : State) : (s.setMode m trigger).guest = s.guest := by rw [State.setMode_eq]
@[simp] theorem State.setMode_stop (m : Mode) (trigger : Nat) (s : State) : (s.setMode m trigger).stop = s.stop := by rw [State.setMode_eq]
@[simp] theorem State.setMode_rad (m : Mode) (trigger : Nat) (s : State) : (s.setMode m trigger).rad = s.rad := by rw [State.setMode_eq]
@[simp] theorem State.setMode_lake (m : Mode) (trigger : Nat) (s : State) : (s.setMode m trigger).lake = s.lake := by rw [State.setMode_eq]
@[simp] theorem State.setMode_lcnt (m : Mode) (trigger : Nat) (s : State) : (s.setMode m trigger).lcnt = s.lcnt := by rw [State.setMode_eq]
@[simp] theorem State.setMode_trk (m : Mode) (trigger : Nat) (s : State) : (s.setMode m trigger).trk = s.trk := by rw [State.setMode_eq]
@[simp] theorem State.setMode_loop (m : Mode) (trigger : Nat) (s : State) : (s.setMode m trigger).loop = s.loop := by rw [State.setMode_eq]
@[simp] theorem State.setMode_meas (m : Mode) (trigger : Nat) (s : State) : (s.setMode m trigger).meas = s.meas := by rw [State.setMode_eq]
@[simp] theorem State.setMode_mreg (m : Mode) (trigger : Nat) (s : State) : (s.setMode m trigger).mreg = s.mreg := by rw [State.setMode_eq]
@[simp] theorem State.setMode_lum (m : Mode) (trigger : Nat) (s : State) : (s.setMode m trigger).lum = s.lum := by rw [State.setMode_eq]
@[simp] theorem State.setMode_met (m : Mode) (trigger : Nat) (s : State) : (s.setMode m trigger).met = s.met := by rw [State.setMode_eq]
@[simp] theorem State.setMode_mets (m : Mode) (trigger : Nat) (s : State) : (s.setMode m trigger).mets = s.mets := by rw [State.setMode_eq]
@[simp] theorem State.setMode_tables (m : Mode) (trigger : Nat) (s : State) : (s.setMode m trigger).tables = s.tables := by rw [State.setMode_eq]
@[simp] theorem State.setMode_kept (m : Mode) (trigger : Nat) (s : State) : (s.setMode m trigger).kept = s.kept := by rw [State.setMode_eq]
@[simp] theorem State.setMode_latch (m : Mode) (trigger : Nat) (s : State) : (s.setMode m trigger).latch = s.latch := by rw [State.setMode_eq]
@[simp] theorem State.setMode_free (m : Mode) (trigger : Nat) (s : State) : (s.setMode m trigger).free = s.free := by rw [State.setMode_eq]
@[simp] theorem State.setMode_out (m : Mode) (trigger : Nat) (s : State) : (s.setMode m trigger).out = s.out := by rw [State.setMode_eq]
@[simp] theorem State.setMode_pending (m : Mode) (trigger : Nat) (s : State) : (s.setMode m trigger).pending = s.pending := by rw [State.setMode_eq]

theorem State.ite_report_eq (c : Nat) (d : List (Nat × Int)) (b : Bool) (s : State) :
    (if b = true then s.report c d else s) = { s with rcd := (if b = true then s.report c d else s).rcd } := by
  cases b
  · rfl
  · exact State.report_eq c d s

theorem State.setMode_start_sys (trigger : Nat) (s : State) :
    (s.setMode .start trigger).sys = { s.sys with mode := .start, events := s.sys.events ||| 1#32, serviceSince := none } := by
  simp [State.setMode]

/-! What an entry to START settles, keeps and counts (R44, R54). -/

@[simp] theorem State.enterStart_mode (c trigger : Nat) (s : State) : (s.enterStart c trigger).sys.mode = (.start) := by
  simp only [State.enterStart]
  generalize hs : (if (s.diag.active.elim true Injection.outlives) = true then s else s.cancelInjection) = u
  have hu : u = { s with diag := u.diag, stop := u.stop } := by
    rw [← hs]; split
    · rfl
    · exact State.cancelInjection_eq s
  rw [State.ite_report_eq, State.each_report_eq, State.each_report_eq, hu]
  simp [State.setMode_start_sys, State.fresh]

@[simp] theorem State.enterStart_cause (c trigger : Nat) (s : State) : (s.enterStart c trigger).sys.cause = (c) := by
  simp only [State.enterStart]
  generalize hs : (if (s.diag.active.elim true Injection.outlives) = true then s else s.cancelInjection) = u
  have hu : u = { s with diag := u.diag, stop := u.stop } := by
    rw [← hs]; split
    · rfl
    · exact State.cancelInjection_eq s
  rw [State.ite_report_eq, State.each_report_eq, State.each_report_eq, hu]
  simp [State.setMode_start_sys, State.fresh]

@[simp] theorem State.enterStart_step (c trigger : Nat) (s : State) : (s.enterStart c trigger).sys.startStep = (0) := by
  simp only [State.enterStart]
  generalize hs : (if (s.diag.active.elim true Injection.outlives) = true then s else s.cancelInjection) = u
  have hu : u = { s with diag := u.diag, stop := u.stop } := by
    rw [← hs]; split
    · rfl
    · exact State.cancelInjection_eq s
  rw [State.ite_report_eq, State.each_report_eq, State.each_report_eq, hu]
  simp [State.setMode_start_sys, State.fresh]

@[simp] theorem State.enterStart_saving (c trigger : Nat) (s : State) : (s.enterStart c trigger).sys.saving = (false) := by
  simp only [State.enterStart]
  generalize hs : (if (s.diag.active.elim true Injection.outlives) = true then s else s.cancelInjection) = u
  have hu : u = { s with diag := u.diag, stop := u.stop } := by
    rw [← hs]; split
    · rfl
    · exact State.cancelInjection_eq s
  rw [State.ite_report_eq, State.each_report_eq, State.each_report_eq, hu]
  simp [State.setMode_start_sys, State.fresh]

@[simp] theorem State.enterStart_saveEnded (c trigger : Nat) (s : State) : (s.enterStart c trigger).sys.saveEnded = (false) := by
  simp only [State.enterStart]
  generalize hs : (if (s.diag.active.elim true Injection.outlives) = true then s else s.cancelInjection) = u
  have hu : u = { s with diag := u.diag, stop := u.stop } := by
    rw [← hs]; split
    · rfl
    · exact State.cancelInjection_eq s
  rw [State.ite_report_eq, State.each_report_eq, State.each_report_eq, hu]
  simp [State.setMode_start_sys, State.fresh]

@[simp] theorem State.enterStart_watchdog (c trigger : Nat) (s : State) : (s.enterStart c trigger).sys.watchdog = (true) := by
  simp only [State.enterStart]
  generalize hs : (if (s.diag.active.elim true Injection.outlives) = true then s else s.cancelInjection) = u
  have hu : u = { s with diag := u.diag, stop := u.stop } := by
    rw [← hs]; split
    · rfl
    · exact State.cancelInjection_eq s
  rw [State.ite_report_eq, State.each_report_eq, State.each_report_eq, hu]
  simp [State.setMode_start_sys, State.fresh]

@[simp] theorem State.enterStart_claim (c trigger : Nat) (s : State) : (s.enterStart c trigger).pair.claim = (false) := by
  simp only [State.enterStart]
  generalize hs : (if (s.diag.active.elim true Injection.outlives) = true then s else s.cancelInjection) = u
  have hu : u = { s with diag := u.diag, stop := u.stop } := by
    rw [← hs]; split
    · rfl
    · exact State.cancelInjection_eq s
  rw [State.ite_report_eq, State.each_report_eq, State.each_report_eq, hu]
  simp [State.setMode_start_sys, State.fresh]

@[simp] theorem State.enterStart_pairSel (c trigger : Nat) (s : State) : (s.enterStart c trigger).sys.pairSel = (s.sys.pairSel) := by
  simp only [State.enterStart]
  generalize hs : (if (s.diag.active.elim true Injection.outlives) = true then s else s.cancelInjection) = u
  have hu : u = { s with diag := u.diag, stop := u.stop } := by
    rw [← hs]; split
    · rfl
    · exact State.cancelInjection_eq s
  rw [State.ite_report_eq, State.each_report_eq, State.each_report_eq, hu]
  simp [State.setMode_start_sys, State.fresh]

@[simp] theorem State.enterStart_resetHeld (c trigger : Nat) (s : State) : (s.enterStart c trigger).sys.resetHeld = (s.sys.resetHeld) := by
  simp only [State.enterStart]
  generalize hs : (if (s.diag.active.elim true Injection.outlives) = true then s else s.cancelInjection) = u
  have hu : u = { s with diag := u.diag, stop := u.stop } := by
    rw [← hs]; split
    · rfl
    · exact State.cancelInjection_eq s
  rw [State.ite_report_eq, State.each_report_eq, State.each_report_eq, hu]
  simp [State.setMode_start_sys, State.fresh]

@[simp] theorem State.enterStart_frc (c trigger : Nat) (s : State) : (s.enterStart c trigger).time.frc = (s.time.frc) := by
  simp only [State.enterStart]
  generalize hs : (if (s.diag.active.elim true Injection.outlives) = true then s else s.cancelInjection) = u
  have hu : u = { s with diag := u.diag, stop := u.stop } := by
    rw [← hs]; split
    · rfl
    · exact State.cancelInjection_eq s
  rw [State.ite_report_eq, State.each_report_eq, State.each_report_eq, hu]
  simp [State.setMode_start_sys, State.fresh]

@[simp] theorem State.enterStart_optime (c trigger : Nat) (s : State) : (s.enterStart c trigger).ao.optime = (s.ao.optime) := by
  simp only [State.enterStart]
  generalize hs : (if (s.diag.active.elim true Injection.outlives) = true then s else s.cancelInjection) = u
  have hu : u = { s with diag := u.diag, stop := u.stop } := by
    rw [← hs]; split
    · rfl
    · exact State.cancelInjection_eq s
  rw [State.ite_report_eq, State.each_report_eq, State.each_report_eq, hu]
  simp [State.setMode_start_sys, State.fresh]

@[simp] theorem State.enterStart_flash (c trigger : Nat) (s : State) : (s.enterStart c trigger).flash = (s.flash) := by
  simp only [State.enterStart]
  generalize hs : (if (s.diag.active.elim true Injection.outlives) = true then s else s.cancelInjection) = u
  have hu : u = { s with diag := u.diag, stop := u.stop } := by
    rw [← hs]; split
    · rfl
    · exact State.cancelInjection_eq s
  rw [State.ite_report_eq, State.each_report_eq, State.each_report_eq, hu]
  simp [State.setMode_start_sys, State.fresh]

@[simp] theorem State.enterStart_store (c trigger : Nat) (s : State) : (s.enterStart c trigger).store = (s.store) := by
  simp only [State.enterStart]
  generalize hs : (if (s.diag.active.elim true Injection.outlives) = true then s else s.cancelInjection) = u
  have hu : u = { s with diag := u.diag, stop := u.stop } := by
    rw [← hs]; split
    · rfl
    · exact State.cancelInjection_eq s
  rw [State.ite_report_eq, State.each_report_eq, State.each_report_eq, hu]
  simp [State.setMode_start_sys, State.fresh]

@[simp] theorem State.enterStart_keys (c trigger : Nat) (s : State) : (s.enterStart c trigger).keys = (s.keys) := by
  simp only [State.enterStart]
  generalize hs : (if (s.diag.active.elim true Injection.outlives) = true then s else s.cancelInjection) = u
  have hu : u = { s with diag := u.diag, stop := u.stop } := by
    rw [← hs]; split
    · rfl
    · exact State.cancelInjection_eq s
  rw [State.ite_report_eq, State.each_report_eq, State.each_report_eq, hu]
  simp [State.setMode_start_sys, State.fresh]

@[simp] theorem State.enterStart_mets (c trigger : Nat) (s : State) : (s.enterStart c trigger).mets = (s.mets) := by
  simp only [State.enterStart]
  generalize hs : (if (s.diag.active.elim true Injection.outlives) = true then s else s.cancelInjection) = u
  have hu : u = { s with diag := u.diag, stop := u.stop } := by
    rw [← hs]; split
    · rfl
    · exact State.cancelInjection_eq s
  rw [State.ite_report_eq, State.each_report_eq, State.each_report_eq, hu]
  simp [State.setMode_start_sys, State.fresh]

@[simp] theorem State.enterStart_kept (c trigger : Nat) (s : State) : (s.enterStart c trigger).kept = (s.kept) := by
  simp only [State.enterStart]
  generalize hs : (if (s.diag.active.elim true Injection.outlives) = true then s else s.cancelInjection) = u
  have hu : u = { s with diag := u.diag, stop := u.stop } := by
    rw [← hs]; split
    · rfl
    · exact State.cancelInjection_eq s
  rw [State.ite_report_eq, State.each_report_eq, State.each_report_eq, hu]
  simp [State.setMode_start_sys, State.fresh]

@[simp] theorem State.enterStart_upd (c trigger : Nat) (s : State) : (s.enterStart c trigger).upd = (s.upd) := by
  simp only [State.enterStart]
  generalize hs : (if (s.diag.active.elim true Injection.outlives) = true then s else s.cancelInjection) = u
  have hu : u = { s with diag := u.diag, stop := u.stop } := by
    rw [← hs]; split
    · rfl
    · exact State.cancelInjection_eq s
  rw [State.ite_report_eq, State.each_report_eq, State.each_report_eq, hu]
  simp [State.setMode_start_sys, State.fresh]

@[simp] theorem State.enterStart_saved (c trigger : Nat) (s : State) : (s.enterStart c trigger).saved = (s.saved) := by
  simp only [State.enterStart]
  generalize hs : (if (s.diag.active.elim true Injection.outlives) = true then s else s.cancelInjection) = u
  have hu : u = { s with diag := u.diag, stop := u.stop } := by
    rw [← hs]; split
    · rfl
    · exact State.cancelInjection_eq s
  rw [State.ite_report_eq, State.each_report_eq, State.each_report_eq, hu]
  simp [State.setMode_start_sys, State.fresh]

@[simp] theorem State.enterStart_pending (c trigger : Nat) (s : State) : (s.enterStart c trigger).pending = (s.pending) := by
  simp only [State.enterStart]
  generalize hs : (if (s.diag.active.elim true Injection.outlives) = true then s else s.cancelInjection) = u
  have hu : u = { s with diag := u.diag, stop := u.stop } := by
    rw [← hs]; split
    · rfl
    · exact State.cancelInjection_eq s
  rw [State.ite_report_eq, State.each_report_eq, State.each_report_eq, hu]
  simp [State.setMode_start_sys, State.fresh]

@[simp] theorem State.enterStart_pwrcyc (c trigger : Nat) (s : State) : (s.enterStart c trigger).ao.pwrcyc = (if c = 1 then min (s.ao.pwrcyc + 1) 0xFFFFFF else s.ao.pwrcyc) := by
  simp only [State.enterStart]
  generalize hs : (if (s.diag.active.elim true Injection.outlives) = true then s else s.cancelInjection) = u
  have hu : u = { s with diag := u.diag, stop := u.stop } := by
    rw [← hs]; split
    · rfl
    · exact State.cancelInjection_eq s
  rw [State.ite_report_eq, State.each_report_eq, State.each_report_eq, hu]
  simp [State.setMode_start_sys, State.fresh]

@[simp] theorem State.enterStart_restarts (c trigger : Nat) (s : State) : (s.enterStart c trigger).ao.restarts = (if c = 1 then s.ao.restarts else min (s.ao.restarts + 1) 0xFFFF) := by
  simp only [State.enterStart]
  generalize hs : (if (s.diag.active.elim true Injection.outlives) = true then s else s.cancelInjection) = u
  have hu : u = { s with diag := u.diag, stop := u.stop } := by
    rw [← hs]; split
    · rfl
    · exact State.cancelInjection_eq s
  rw [State.ite_report_eq, State.each_report_eq, State.each_report_eq, hu]
  simp [State.setMode_start_sys, State.fresh]

@[simp] theorem State.enterStart_succession (c trigger : Nat) (s : State) : (s.enterStart c trigger).sys.succession = (if c = 1 ∨ c = 2 then 0 else if c = 4 then min (s.sys.succession + 1) 3 else s.sys.succession) := by
  simp only [State.enterStart]
  generalize hs : (if (s.diag.active.elim true Injection.outlives) = true then s else s.cancelInjection) = u
  have hu : u = { s with diag := u.diag, stop := u.stop } := by
    rw [← hs]; split
    · rfl
    · exact State.cancelInjection_eq s
  rw [State.ite_report_eq, State.each_report_eq, State.each_report_eq, hu]
  simp [State.setMode_start_sys, State.fresh]

end Sys2Proof.Machine
end

