-- ==== Sys2Proof/Laws/State.lean ====
section
/-! SUPPORT. The named updates of the state: the one entry that each sets, what the entry and every other reads then, and, one lemma per
field, the parts of the state that it leaves alone. -/

namespace Sys2Proof.Machine

@[simp] theorem State.takeFree_fst (s : State) : s.takeFree.1 = s.free := rfl
@[simp] theorem State.takeFree_snd_free (s : State) : s.takeFree.2.free = s.free + 1 := rfl
@[simp] theorem State.send_out (o : Out) (s : State) : (s.send o).out = s.out ++ [o] := rfl
@[simp] theorem State.send_sys (o : Out) (s : State) : (s.send o).sys = s.sys := rfl
@[simp] theorem State.send_clk (o : Out) (s : State) : (s.send o).clk = s.clk := rfl
@[simp] theorem State.send_tres (o : Out) (s : State) : (s.send o).tres = s.tres := rfl
@[simp] theorem State.send_ao (o : Out) (s : State) : (s.send o).ao = s.ao := rfl
@[simp] theorem State.send_cfg (o : Out) (s : State) : (s.send o).cfg = s.cfg := rfl
@[simp] theorem State.send_time (o : Out) (s : State) : (s.send o).time = s.time := rfl
@[simp] theorem State.send_treg (o : Out) (s : State) : (s.send o).treg = s.treg := rfl
@[simp] theorem State.send_rcd (o : Out) (s : State) : (s.send o).rcd = s.rcd := rfl
@[simp] theorem State.send_store (o : Out) (s : State) : (s.send o).store = s.store := rfl
@[simp] theorem State.send_diag (o : Out) (s : State) : (s.send o).diag = s.diag := rfl
@[simp] theorem State.send_host (o : Out) (s : State) : (s.send o).host = s.host := rfl
@[simp] theorem State.send_flash (o : Out) (s : State) : (s.send o).flash = s.flash := rfl
@[simp] theorem State.send_saved (o : Out) (s : State) : (s.send o).saved = s.saved := rfl
@[simp] theorem State.send_keys (o : Out) (s : State) : (s.send o).keys = s.keys := rfl
@[simp] theorem State.send_kreg (o : Out) (s : State) : (s.send o).kreg = s.kreg := rfl
@[simp] theorem State.send_upd (o : Out) (s : State) : (s.send o).upd = s.upd := rfl
@[simp] theorem State.send_ureg (o : Out) (s : State) : (s.send o).ureg = s.ureg := rfl
@[simp] theorem State.send_pair (o : Out) (s : State) : (s.send o).pair = s.pair := rfl
@[simp] theorem State.send_fleet (o : Out) (s : State) : (s.send o).fleet = s.fleet := rfl
@[simp] theorem State.send_pub (o : Out) (s : State) : (s.send o).pub = s.pub := rfl
@[simp] theorem State.send_inp (o : Out) (s : State) : (s.send o).inp = s.inp := rfl
@[simp] theorem State.send_tick (o : Out) (s : State) : (s.send o).tick = s.tick := rfl
@[simp] theorem State.send_freg (o : Out) (s : State) : (s.send o).freg = s.freg := rfl
@[simp] theorem State.send_guest (o : Out) (s : State) : (s.send o).guest = s.guest := rfl
@[simp] theorem State.send_stop (o : Out) (s : State) : (s.send o).stop = s.stop := rfl
@[simp] theorem State.send_rad (o : Out) (s : State) : (s.send o).rad = s.rad := rfl
@[simp] theorem State.send_lake (o : Out) (s : State) : (s.send o).lake = s.lake := rfl
@[simp] theorem State.send_lcnt (o : Out) (s : State) : (s.send o).lcnt = s.lcnt := rfl
@[simp] theorem State.send_trk (o : Out) (s : State) : (s.send o).trk = s.trk := rfl
@[simp] theorem State.send_loop (o : Out) (s : State) : (s.send o).loop = s.loop := rfl
@[simp] theorem State.send_meas (o : Out) (s : State) : (s.send o).meas = s.meas := rfl
@[simp] theorem State.send_mreg (o : Out) (s : State) : (s.send o).mreg = s.mreg := rfl
@[simp] theorem State.send_lum (o : Out) (s : State) : (s.send o).lum = s.lum := rfl
@[simp] theorem State.send_met (o : Out) (s : State) : (s.send o).met = s.met := rfl
@[simp] theorem State.send_mets (o : Out) (s : State) : (s.send o).mets = s.mets := rfl
@[simp] theorem State.send_tables (o : Out) (s : State) : (s.send o).tables = s.tables := rfl
@[simp] theorem State.send_kept (o : Out) (s : State) : (s.send o).kept = s.kept := rfl
@[simp] theorem State.send_latch (o : Out) (s : State) : (s.send o).latch = s.latch := rfl
@[simp] theorem State.send_free (o : Out) (s : State) : (s.send o).free = s.free := rfl
@[simp] theorem State.send_pending (o : Out) (s : State) : (s.send o).pending = s.pending := rfl

/-! `State.setRs`: the radio's session. -/

@[simp] theorem State.setRs_same (n : Nat) (v : RadioSess) (s : State) (h : Tab.wf ({} : RadioSess) s.fleet.sessions = true) : (s.setRs n v).rs n = v :=
  Tab.get_set_same n v h
theorem State.setRs_other {n k : Nat} (v : RadioSess) (s : State) (h : Tab.wf ({} : RadioSess) s.fleet.sessions = true) (hk : k ≠ n) :
    (s.setRs n v).rs k = s.rs k := Tab.get_set_other v h hk
theorem State.setRs_wf (n : Nat) (v : RadioSess) (s : State) (h : Tab.wf ({} : RadioSess) s.fleet.sessions = true) :
    Tab.wf ({} : RadioSess) ((s.setRs n v).fleet.sessions) = true := Tab.wf_set n v h
@[simp] theorem State.setRs_sys (n : Nat) (v : RadioSess) (s : State) : (s.setRs n v).sys = s.sys := rfl
@[simp] theorem State.setRs_clk (n : Nat) (v : RadioSess) (s : State) : (s.setRs n v).clk = s.clk := rfl
@[simp] theorem State.setRs_tres (n : Nat) (v : RadioSess) (s : State) : (s.setRs n v).tres = s.tres := rfl
@[simp] theorem State.setRs_ao (n : Nat) (v : RadioSess) (s : State) : (s.setRs n v).ao = s.ao := rfl
@[simp] theorem State.setRs_cfg (n : Nat) (v : RadioSess) (s : State) : (s.setRs n v).cfg = s.cfg := rfl
@[simp] theorem State.setRs_time (n : Nat) (v : RadioSess) (s : State) : (s.setRs n v).time = s.time := rfl
@[simp] theorem State.setRs_treg (n : Nat) (v : RadioSess) (s : State) : (s.setRs n v).treg = s.treg := rfl
@[simp] theorem State.setRs_rcd (n : Nat) (v : RadioSess) (s : State) : (s.setRs n v).rcd = s.rcd := rfl
@[simp] theorem State.setRs_store (n : Nat) (v : RadioSess) (s : State) : (s.setRs n v).store = s.store := rfl
@[simp] theorem State.setRs_diag (n : Nat) (v : RadioSess) (s : State) : (s.setRs n v).diag = s.diag := rfl
@[simp] theorem State.setRs_host (n : Nat) (v : RadioSess) (s : State) : (s.setRs n v).host = s.host := rfl
@[simp] theorem State.setRs_flash (n : Nat) (v : RadioSess) (s : State) : (s.setRs n v).flash = s.flash := rfl
@[simp] theorem State.setRs_saved (n : Nat) (v : RadioSess) (s : State) : (s.setRs n v).saved = s.saved := rfl
@[simp] theorem State.setRs_keys (n : Nat) (v : RadioSess) (s : State) : (s.setRs n v).keys = s.keys := rfl
@[simp] theorem State.setRs_kreg (n : Nat) (v : RadioSess) (s : State) : (s.setRs n v).kreg = s.kreg := rfl
@[simp] theorem State.setRs_upd (n : Nat) (v : RadioSess) (s : State) : (s.setRs n v).upd = s.upd := rfl
@[simp] theorem State.setRs_ureg (n : Nat) (v : RadioSess) (s : State) : (s.setRs n v).ureg = s.ureg := rfl
@[simp] theorem State.setRs_pair (n : Nat) (v : RadioSess) (s : State) : (s.setRs n v).pair = s.pair := rfl
@[simp] theorem State.setRs_pub (n : Nat) (v : RadioSess) (s : State) : (s.setRs n v).pub = s.pub := rfl
@[simp] theorem State.setRs_inp (n : Nat) (v : RadioSess) (s : State) : (s.setRs n v).inp = s.inp := rfl
@[simp] theorem State.setRs_tick (n : Nat) (v : RadioSess) (s : State) : (s.setRs n v).tick = s.tick := rfl
@[simp] theorem State.setRs_freg (n : Nat) (v : RadioSess) (s : State) : (s.setRs n v).freg = s.freg := rfl
@[simp] theorem State.setRs_guest (n : Nat) (v : RadioSess) (s : State) : (s.setRs n v).guest = s.guest := rfl
@[simp] theorem State.setRs_stop (n : Nat) (v : RadioSess) (s : State) : (s.setRs n v).stop = s.stop := rfl
@[simp] theorem State.setRs_rad (n : Nat) (v : RadioSess) (s : State) : (s.setRs n v).rad = s.rad := rfl
@[simp] theorem State.setRs_lake (n : Nat) (v : RadioSess) (s : State) : (s.setRs n v).lake = s.lake := rfl
@[simp] theorem State.setRs_lcnt (n : Nat) (v : RadioSess) (s : State) : (s.setRs n v).lcnt = s.lcnt := rfl
@[simp] theorem State.setRs_trk (n : Nat) (v : RadioSess) (s : State) : (s.setRs n v).trk = s.trk := rfl
@[simp] theorem State.setRs_loop (n : Nat) (v : RadioSess) (s : State) : (s.setRs n v).loop = s.loop := rfl
@[simp] theorem State.setRs_meas (n : Nat) (v : RadioSess) (s : State) : (s.setRs n v).meas = s.meas := rfl
@[simp] theorem State.setRs_mreg (n : Nat) (v : RadioSess) (s : State) : (s.setRs n v).mreg = s.mreg := rfl
@[simp] theorem State.setRs_lum (n : Nat) (v : RadioSess) (s : State) : (s.setRs n v).lum = s.lum := rfl
@[simp] theorem State.setRs_met (n : Nat) (v : RadioSess) (s : State) : (s.setRs n v).met = s.met := rfl
@[simp] theorem State.setRs_mets (n : Nat) (v : RadioSess) (s : State) : (s.setRs n v).mets = s.mets := rfl
@[simp] theorem State.setRs_tables (n : Nat) (v : RadioSess) (s : State) : (s.setRs n v).tables = s.tables := rfl
@[simp] theorem State.setRs_kept (n : Nat) (v : RadioSess) (s : State) : (s.setRs n v).kept = s.kept := rfl
@[simp] theorem State.setRs_latch (n : Nat) (v : RadioSess) (s : State) : (s.setRs n v).latch = s.latch := rfl
@[simp] theorem State.setRs_free (n : Nat) (v : RadioSess) (s : State) : (s.setRs n v).free = s.free := rfl
@[simp] theorem State.setRs_out (n : Nat) (v : RadioSess) (s : State) : (s.setRs n v).out = s.out := rfl
@[simp] theorem State.setRs_pending (n : Nat) (v : RadioSess) (s : State) : (s.setRs n v).pending = s.pending := rfl

/-! `State.setXs`: the arbiter's session. -/

@[simp] theorem State.setXs_same (n : Nat) (v : ArbSess) (s : State) (h : Tab.wf ({} : ArbSess) s.fleet.xarb.sessions = true) : (s.setXs n v).xs n = v :=
  Tab.get_set_same n v h
theorem State.setXs_other {n k : Nat} (v : ArbSess) (s : State) (h : Tab.wf ({} : ArbSess) s.fleet.xarb.sessions = true) (hk : k ≠ n) :
    (s.setXs n v).xs k = s.xs k := Tab.get_set_other v h hk
theorem State.setXs_wf (n : Nat) (v : ArbSess) (s : State) (h : Tab.wf ({} : ArbSess) s.fleet.xarb.sessions = true) :
    Tab.wf ({} : ArbSess) ((s.setXs n v).fleet.xarb.sessions) = true := Tab.wf_set n v h
@[simp] theorem State.setXs_sys (n : Nat) (v : ArbSess) (s : State) : (s.setXs n v).sys = s.sys := rfl
@[simp] theorem State.setXs_clk (n : Nat) (v : ArbSess) (s : State) : (s.setXs n v).clk = s.clk := rfl
@[simp] theorem State.setXs_tres (n : Nat) (v : ArbSess) (s : State) : (s.setXs n v).tres = s.tres := rfl
@[simp] theorem State.setXs_ao (n : Nat) (v : ArbSess) (s : State) : (s.setXs n v).ao = s.ao := rfl
@[simp] theorem State.setXs_cfg (n : Nat) (v : ArbSess) (s : State) : (s.setXs n v).cfg = s.cfg := rfl
@[simp] theorem State.setXs_time (n : Nat) (v : ArbSess) (s : State) : (s.setXs n v).time = s.time := rfl
@[simp] theorem State.setXs_treg (n : Nat) (v : ArbSess) (s : State) : (s.setXs n v).treg = s.treg := rfl
@[simp] theorem State.setXs_rcd (n : Nat) (v : ArbSess) (s : State) : (s.setXs n v).rcd = s.rcd := rfl
@[simp] theorem State.setXs_store (n : Nat) (v : ArbSess) (s : State) : (s.setXs n v).store = s.store := rfl
@[simp] theorem State.setXs_diag (n : Nat) (v : ArbSess) (s : State) : (s.setXs n v).diag = s.diag := rfl
@[simp] theorem State.setXs_host (n : Nat) (v : ArbSess) (s : State) : (s.setXs n v).host = s.host := rfl
@[simp] theorem State.setXs_flash (n : Nat) (v : ArbSess) (s : State) : (s.setXs n v).flash = s.flash := rfl
@[simp] theorem State.setXs_saved (n : Nat) (v : ArbSess) (s : State) : (s.setXs n v).saved = s.saved := rfl
@[simp] theorem State.setXs_keys (n : Nat) (v : ArbSess) (s : State) : (s.setXs n v).keys = s.keys := rfl
@[simp] theorem State.setXs_kreg (n : Nat) (v : ArbSess) (s : State) : (s.setXs n v).kreg = s.kreg := rfl
@[simp] theorem State.setXs_upd (n : Nat) (v : ArbSess) (s : State) : (s.setXs n v).upd = s.upd := rfl
@[simp] theorem State.setXs_ureg (n : Nat) (v : ArbSess) (s : State) : (s.setXs n v).ureg = s.ureg := rfl
@[simp] theorem State.setXs_pair (n : Nat) (v : ArbSess) (s : State) : (s.setXs n v).pair = s.pair := rfl
@[simp] theorem State.setXs_pub (n : Nat) (v : ArbSess) (s : State) : (s.setXs n v).pub = s.pub := rfl
@[simp] theorem State.setXs_inp (n : Nat) (v : ArbSess) (s : State) : (s.setXs n v).inp = s.inp := rfl
@[simp] theorem State.setXs_tick (n : Nat) (v : ArbSess) (s : State) : (s.setXs n v).tick = s.tick := rfl
@[simp] theorem State.setXs_freg (n : Nat) (v : ArbSess) (s : State) : (s.setXs n v).freg = s.freg := rfl
@[simp] theorem State.setXs_guest (n : Nat) (v : ArbSess) (s : State) : (s.setXs n v).guest = s.guest := rfl
@[simp] theorem State.setXs_stop (n : Nat) (v : ArbSess) (s : State) : (s.setXs n v).stop = s.stop := rfl
@[simp] theorem State.setXs_rad (n : Nat) (v : ArbSess) (s : State) : (s.setXs n v).rad = s.rad := rfl
@[simp] theorem State.setXs_lake (n : Nat) (v : ArbSess) (s : State) : (s.setXs n v).lake = s.lake := rfl
@[simp] theorem State.setXs_lcnt (n : Nat) (v : ArbSess) (s : State) : (s.setXs n v).lcnt = s.lcnt := rfl
@[simp] theorem State.setXs_trk (n : Nat) (v : ArbSess) (s : State) : (s.setXs n v).trk = s.trk := rfl
@[simp] theorem State.setXs_loop (n : Nat) (v : ArbSess) (s : State) : (s.setXs n v).loop = s.loop := rfl
@[simp] theorem State.setXs_meas (n : Nat) (v : ArbSess) (s : State) : (s.setXs n v).meas = s.meas := rfl
@[simp] theorem State.setXs_mreg (n : Nat) (v : ArbSess) (s : State) : (s.setXs n v).mreg = s.mreg := rfl
@[simp] theorem State.setXs_lum (n : Nat) (v : ArbSess) (s : State) : (s.setXs n v).lum = s.lum := rfl
@[simp] theorem State.setXs_met (n : Nat) (v : ArbSess) (s : State) : (s.setXs n v).met = s.met := rfl
@[simp] theorem State.setXs_mets (n : Nat) (v : ArbSess) (s : State) : (s.setXs n v).mets = s.mets := rfl
@[simp] theorem State.setXs_tables (n : Nat) (v : ArbSess) (s : State) : (s.setXs n v).tables = s.tables := rfl
@[simp] theorem State.setXs_kept (n : Nat) (v : ArbSess) (s : State) : (s.setXs n v).kept = s.kept := rfl
@[simp] theorem State.setXs_latch (n : Nat) (v : ArbSess) (s : State) : (s.setXs n v).latch = s.latch := rfl
@[simp] theorem State.setXs_free (n : Nat) (v : ArbSess) (s : State) : (s.setXs n v).free = s.free := rfl
@[simp] theorem State.setXs_out (n : Nat) (v : ArbSess) (s : State) : (s.setXs n v).out = s.out := rfl
@[simp] theorem State.setXs_pending (n : Nat) (v : ArbSess) (s : State) : (s.setXs n v).pending = s.pending := rfl

/-! `State.setPs`: the profiler's session. -/

@[simp] theorem State.setPs_same (n : Nat) (v : ProfSess) (s : State) (h : Tab.wf ({} : ProfSess) s.fleet.prof.sessions = true) : (s.setPs n v).ps n = v :=
  Tab.get_set_same n v h
theorem State.setPs_other {n k : Nat} (v : ProfSess) (s : State) (h : Tab.wf ({} : ProfSess) s.fleet.prof.sessions = true) (hk : k ≠ n) :
    (s.setPs n v).ps k = s.ps k := Tab.get_set_other v h hk
theorem State.setPs_wf (n : Nat) (v : ProfSess) (s : State) (h : Tab.wf ({} : ProfSess) s.fleet.prof.sessions = true) :
    Tab.wf ({} : ProfSess) ((s.setPs n v).fleet.prof.sessions) = true := Tab.wf_set n v h
@[simp] theorem State.setPs_sys (n : Nat) (v : ProfSess) (s : State) : (s.setPs n v).sys = s.sys := rfl
@[simp] theorem State.setPs_clk (n : Nat) (v : ProfSess) (s : State) : (s.setPs n v).clk = s.clk := rfl
@[simp] theorem State.setPs_tres (n : Nat) (v : ProfSess) (s : State) : (s.setPs n v).tres = s.tres := rfl
@[simp] theorem State.setPs_ao (n : Nat) (v : ProfSess) (s : State) : (s.setPs n v).ao = s.ao := rfl
@[simp] theorem State.setPs_cfg (n : Nat) (v : ProfSess) (s : State) : (s.setPs n v).cfg = s.cfg := rfl
@[simp] theorem State.setPs_time (n : Nat) (v : ProfSess) (s : State) : (s.setPs n v).time = s.time := rfl
@[simp] theorem State.setPs_treg (n : Nat) (v : ProfSess) (s : State) : (s.setPs n v).treg = s.treg := rfl
@[simp] theorem State.setPs_rcd (n : Nat) (v : ProfSess) (s : State) : (s.setPs n v).rcd = s.rcd := rfl
@[simp] theorem State.setPs_store (n : Nat) (v : ProfSess) (s : State) : (s.setPs n v).store = s.store := rfl
@[simp] theorem State.setPs_diag (n : Nat) (v : ProfSess) (s : State) : (s.setPs n v).diag = s.diag := rfl
@[simp] theorem State.setPs_host (n : Nat) (v : ProfSess) (s : State) : (s.setPs n v).host = s.host := rfl
@[simp] theorem State.setPs_flash (n : Nat) (v : ProfSess) (s : State) : (s.setPs n v).flash = s.flash := rfl
@[simp] theorem State.setPs_saved (n : Nat) (v : ProfSess) (s : State) : (s.setPs n v).saved = s.saved := rfl
@[simp] theorem State.setPs_keys (n : Nat) (v : ProfSess) (s : State) : (s.setPs n v).keys = s.keys := rfl
@[simp] theorem State.setPs_kreg (n : Nat) (v : ProfSess) (s : State) : (s.setPs n v).kreg = s.kreg := rfl
@[simp] theorem State.setPs_upd (n : Nat) (v : ProfSess) (s : State) : (s.setPs n v).upd = s.upd := rfl
@[simp] theorem State.setPs_ureg (n : Nat) (v : ProfSess) (s : State) : (s.setPs n v).ureg = s.ureg := rfl
@[simp] theorem State.setPs_pair (n : Nat) (v : ProfSess) (s : State) : (s.setPs n v).pair = s.pair := rfl
@[simp] theorem State.setPs_pub (n : Nat) (v : ProfSess) (s : State) : (s.setPs n v).pub = s.pub := rfl
@[simp] theorem State.setPs_inp (n : Nat) (v : ProfSess) (s : State) : (s.setPs n v).inp = s.inp := rfl
@[simp] theorem State.setPs_tick (n : Nat) (v : ProfSess) (s : State) : (s.setPs n v).tick = s.tick := rfl
@[simp] theorem State.setPs_freg (n : Nat) (v : ProfSess) (s : State) : (s.setPs n v).freg = s.freg := rfl
@[simp] theorem State.setPs_guest (n : Nat) (v : ProfSess) (s : State) : (s.setPs n v).guest = s.guest := rfl
@[simp] theorem State.setPs_stop (n : Nat) (v : ProfSess) (s : State) : (s.setPs n v).stop = s.stop := rfl
@[simp] theorem State.setPs_rad (n : Nat) (v : ProfSess) (s : State) : (s.setPs n v).rad = s.rad := rfl
@[simp] theorem State.setPs_lake (n : Nat) (v : ProfSess) (s : State) : (s.setPs n v).lake = s.lake := rfl
@[simp] theorem State.setPs_lcnt (n : Nat) (v : ProfSess) (s : State) : (s.setPs n v).lcnt = s.lcnt := rfl
@[simp] theorem State.setPs_trk (n : Nat) (v : ProfSess) (s : State) : (s.setPs n v).trk = s.trk := rfl
@[simp] theorem State.setPs_loop (n : Nat) (v : ProfSess) (s : State) : (s.setPs n v).loop = s.loop := rfl
@[simp] theorem State.setPs_meas (n : Nat) (v : ProfSess) (s : State) : (s.setPs n v).meas = s.meas := rfl
@[simp] theorem State.setPs_mreg (n : Nat) (v : ProfSess) (s : State) : (s.setPs n v).mreg = s.mreg := rfl
@[simp] theorem State.setPs_lum (n : Nat) (v : ProfSess) (s : State) : (s.setPs n v).lum = s.lum := rfl
@[simp] theorem State.setPs_met (n : Nat) (v : ProfSess) (s : State) : (s.setPs n v).met = s.met := rfl
@[simp] theorem State.setPs_mets (n : Nat) (v : ProfSess) (s : State) : (s.setPs n v).mets = s.mets := rfl
@[simp] theorem State.setPs_tables (n : Nat) (v : ProfSess) (s : State) : (s.setPs n v).tables = s.tables := rfl
@[simp] theorem State.setPs_kept (n : Nat) (v : ProfSess) (s : State) : (s.setPs n v).kept = s.kept := rfl
@[simp] theorem State.setPs_latch (n : Nat) (v : ProfSess) (s : State) : (s.setPs n v).latch = s.latch := rfl
@[simp] theorem State.setPs_free (n : Nat) (v : ProfSess) (s : State) : (s.setPs n v).free = s.free := rfl
@[simp] theorem State.setPs_out (n : Nat) (v : ProfSess) (s : State) : (s.setPs n v).out = s.out := rfl
@[simp] theorem State.setPs_pending (n : Nat) (v : ProfSess) (s : State) : (s.setPs n v).pending = s.pending := rfl

/-! `State.setWk`: a worker. -/

@[simp] theorem State.setWk_same (n : Nat) (v : Worker) (s : State) (h : Tab.wf ({} : Worker) s.fleet.dsp.workers = true) : (s.setWk n v).wk n = v :=
  Tab.get_set_same n v h
theorem State.setWk_other {n k : Nat} (v : Worker) (s : State) (h : Tab.wf ({} : Worker) s.fleet.dsp.workers = true) (hk : k ≠ n) :
    (s.setWk n v).wk k = s.wk k := Tab.get_set_other v h hk
theorem State.setWk_wf (n : Nat) (v : Worker) (s : State) (h : Tab.wf ({} : Worker) s.fleet.dsp.workers = true) :
    Tab.wf ({} : Worker) ((s.setWk n v).fleet.dsp.workers) = true := Tab.wf_set n v h
@[simp] theorem State.setWk_sys (n : Nat) (v : Worker) (s : State) : (s.setWk n v).sys = s.sys := rfl
@[simp] theorem State.setWk_clk (n : Nat) (v : Worker) (s : State) : (s.setWk n v).clk = s.clk := rfl
@[simp] theorem State.setWk_tres (n : Nat) (v : Worker) (s : State) : (s.setWk n v).tres = s.tres := rfl
@[simp] theorem State.setWk_ao (n : Nat) (v : Worker) (s : State) : (s.setWk n v).ao = s.ao := rfl
@[simp] theorem State.setWk_cfg (n : Nat) (v : Worker) (s : State) : (s.setWk n v).cfg = s.cfg := rfl
@[simp] theorem State.setWk_time (n : Nat) (v : Worker) (s : State) : (s.setWk n v).time = s.time := rfl
@[simp] theorem State.setWk_treg (n : Nat) (v : Worker) (s : State) : (s.setWk n v).treg = s.treg := rfl
@[simp] theorem State.setWk_rcd (n : Nat) (v : Worker) (s : State) : (s.setWk n v).rcd = s.rcd := rfl
@[simp] theorem State.setWk_store (n : Nat) (v : Worker) (s : State) : (s.setWk n v).store = s.store := rfl
@[simp] theorem State.setWk_diag (n : Nat) (v : Worker) (s : State) : (s.setWk n v).diag = s.diag := rfl
@[simp] theorem State.setWk_host (n : Nat) (v : Worker) (s : State) : (s.setWk n v).host = s.host := rfl
@[simp] theorem State.setWk_flash (n : Nat) (v : Worker) (s : State) : (s.setWk n v).flash = s.flash := rfl
@[simp] theorem State.setWk_saved (n : Nat) (v : Worker) (s : State) : (s.setWk n v).saved = s.saved := rfl
@[simp] theorem State.setWk_keys (n : Nat) (v : Worker) (s : State) : (s.setWk n v).keys = s.keys := rfl
@[simp] theorem State.setWk_kreg (n : Nat) (v : Worker) (s : State) : (s.setWk n v).kreg = s.kreg := rfl
@[simp] theorem State.setWk_upd (n : Nat) (v : Worker) (s : State) : (s.setWk n v).upd = s.upd := rfl
@[simp] theorem State.setWk_ureg (n : Nat) (v : Worker) (s : State) : (s.setWk n v).ureg = s.ureg := rfl
@[simp] theorem State.setWk_pair (n : Nat) (v : Worker) (s : State) : (s.setWk n v).pair = s.pair := rfl
@[simp] theorem State.setWk_pub (n : Nat) (v : Worker) (s : State) : (s.setWk n v).pub = s.pub := rfl
@[simp] theorem State.setWk_inp (n : Nat) (v : Worker) (s : State) : (s.setWk n v).inp = s.inp := rfl
@[simp] theorem State.setWk_tick (n : Nat) (v : Worker) (s : State) : (s.setWk n v).tick = s.tick := rfl
@[simp] theorem State.setWk_freg (n : Nat) (v : Worker) (s : State) : (s.setWk n v).freg = s.freg := rfl
@[simp] theorem State.setWk_guest (n : Nat) (v : Worker) (s : State) : (s.setWk n v).guest = s.guest := rfl
@[simp] theorem State.setWk_stop (n : Nat) (v : Worker) (s : State) : (s.setWk n v).stop = s.stop := rfl
@[simp] theorem State.setWk_rad (n : Nat) (v : Worker) (s : State) : (s.setWk n v).rad = s.rad := rfl
@[simp] theorem State.setWk_lake (n : Nat) (v : Worker) (s : State) : (s.setWk n v).lake = s.lake := rfl
@[simp] theorem State.setWk_lcnt (n : Nat) (v : Worker) (s : State) : (s.setWk n v).lcnt = s.lcnt := rfl
@[simp] theorem State.setWk_trk (n : Nat) (v : Worker) (s : State) : (s.setWk n v).trk = s.trk := rfl
@[simp] theorem State.setWk_loop (n : Nat) (v : Worker) (s : State) : (s.setWk n v).loop = s.loop := rfl
@[simp] theorem State.setWk_meas (n : Nat) (v : Worker) (s : State) : (s.setWk n v).meas = s.meas := rfl
@[simp] theorem State.setWk_mreg (n : Nat) (v : Worker) (s : State) : (s.setWk n v).mreg = s.mreg := rfl
@[simp] theorem State.setWk_lum (n : Nat) (v : Worker) (s : State) : (s.setWk n v).lum = s.lum := rfl
@[simp] theorem State.setWk_met (n : Nat) (v : Worker) (s : State) : (s.setWk n v).met = s.met := rfl
@[simp] theorem State.setWk_mets (n : Nat) (v : Worker) (s : State) : (s.setWk n v).mets = s.mets := rfl
@[simp] theorem State.setWk_tables (n : Nat) (v : Worker) (s : State) : (s.setWk n v).tables = s.tables := rfl
@[simp] theorem State.setWk_kept (n : Nat) (v : Worker) (s : State) : (s.setWk n v).kept = s.kept := rfl
@[simp] theorem State.setWk_latch (n : Nat) (v : Worker) (s : State) : (s.setWk n v).latch = s.latch := rfl
@[simp] theorem State.setWk_free (n : Nat) (v : Worker) (s : State) : (s.setWk n v).free = s.free := rfl
@[simp] theorem State.setWk_out (n : Nat) (v : Worker) (s : State) : (s.setWk n v).out = s.out := rfl
@[simp] theorem State.setWk_pending (n : Nat) (v : Worker) (s : State) : (s.setWk n v).pending = s.pending := rfl

/-! `State.setFlow`: a flow. -/

@[simp] theorem State.setFlow_same (n : Nat) (v : Flow) (s : State) (h : Tab.wf ({} : Flow) s.fleet.dsp.flows = true) : (s.setFlow n v).flow n = v :=
  Tab.get_set_same n v h
theorem State.setFlow_other {n k : Nat} (v : Flow) (s : State) (h : Tab.wf ({} : Flow) s.fleet.dsp.flows = true) (hk : k ≠ n) :
    (s.setFlow n v).flow k = s.flow k := Tab.get_set_other v h hk
theorem State.setFlow_wf (n : Nat) (v : Flow) (s : State) (h : Tab.wf ({} : Flow) s.fleet.dsp.flows = true) :
    Tab.wf ({} : Flow) ((s.setFlow n v).fleet.dsp.flows) = true := Tab.wf_set n v h
@[simp] theorem State.setFlow_sys (n : Nat) (v : Flow) (s : State) : (s.setFlow n v).sys = s.sys := rfl
@[simp] theorem State.setFlow_clk (n : Nat) (v : Flow) (s : State) : (s.setFlow n v).clk = s.clk := rfl
@[simp] theorem State.setFlow_tres (n : Nat) (v : Flow) (s : State) : (s.setFlow n v).tres = s.tres := rfl
@[simp] theorem State.setFlow_ao (n : Nat) (v : Flow) (s : State) : (s.setFlow n v).ao = s.ao := rfl
@[simp] theorem State.setFlow_cfg (n : Nat) (v : Flow) (s : State) : (s.setFlow n v).cfg = s.cfg := rfl
@[simp] theorem State.setFlow_time (n : Nat) (v : Flow) (s : State) : (s.setFlow n v).time = s.time := rfl
@[simp] theorem State.setFlow_treg (n : Nat) (v : Flow) (s : State) : (s.setFlow n v).treg = s.treg := rfl
@[simp] theorem State.setFlow_rcd (n : Nat) (v : Flow) (s : State) : (s.setFlow n v).rcd = s.rcd := rfl
@[simp] theorem State.setFlow_store (n : Nat) (v : Flow) (s : State) : (s.setFlow n v).store = s.store := rfl
@[simp] theorem State.setFlow_diag (n : Nat) (v : Flow) (s : State) : (s.setFlow n v).diag = s.diag := rfl
@[simp] theorem State.setFlow_host (n : Nat) (v : Flow) (s : State) : (s.setFlow n v).host = s.host := rfl
@[simp] theorem State.setFlow_flash (n : Nat) (v : Flow) (s : State) : (s.setFlow n v).flash = s.flash := rfl
@[simp] theorem State.setFlow_saved (n : Nat) (v : Flow) (s : State) : (s.setFlow n v).saved = s.saved := rfl
@[simp] theorem State.setFlow_keys (n : Nat) (v : Flow) (s : State) : (s.setFlow n v).keys = s.keys := rfl
@[simp] theorem State.setFlow_kreg (n : Nat) (v : Flow) (s : State) : (s.setFlow n v).kreg = s.kreg := rfl
@[simp] theorem State.setFlow_upd (n : Nat) (v : Flow) (s : State) : (s.setFlow n v).upd = s.upd := rfl
@[simp] theorem State.setFlow_ureg (n : Nat) (v : Flow) (s : State) : (s.setFlow n v).ureg = s.ureg := rfl
@[simp] theorem State.setFlow_pair (n : Nat) (v : Flow) (s : State) : (s.setFlow n v).pair = s.pair := rfl
@[simp] theorem State.setFlow_pub (n : Nat) (v : Flow) (s : State) : (s.setFlow n v).pub = s.pub := rfl
@[simp] theorem State.setFlow_inp (n : Nat) (v : Flow) (s : State) : (s.setFlow n v).inp = s.inp := rfl
@[simp] theorem State.setFlow_tick (n : Nat) (v : Flow) (s : State) : (s.setFlow n v).tick = s.tick := rfl
@[simp] theorem State.setFlow_freg (n : Nat) (v : Flow) (s : State) : (s.setFlow n v).freg = s.freg := rfl
@[simp] theorem State.setFlow_guest (n : Nat) (v : Flow) (s : State) : (s.setFlow n v).guest = s.guest := rfl
@[simp] theorem State.setFlow_stop (n : Nat) (v : Flow) (s : State) : (s.setFlow n v).stop = s.stop := rfl
@[simp] theorem State.setFlow_rad (n : Nat) (v : Flow) (s : State) : (s.setFlow n v).rad = s.rad := rfl
@[simp] theorem State.setFlow_lake (n : Nat) (v : Flow) (s : State) : (s.setFlow n v).lake = s.lake := rfl
@[simp] theorem State.setFlow_lcnt (n : Nat) (v : Flow) (s : State) : (s.setFlow n v).lcnt = s.lcnt := rfl
@[simp] theorem State.setFlow_trk (n : Nat) (v : Flow) (s : State) : (s.setFlow n v).trk = s.trk := rfl
@[simp] theorem State.setFlow_loop (n : Nat) (v : Flow) (s : State) : (s.setFlow n v).loop = s.loop := rfl
@[simp] theorem State.setFlow_meas (n : Nat) (v : Flow) (s : State) : (s.setFlow n v).meas = s.meas := rfl
@[simp] theorem State.setFlow_mreg (n : Nat) (v : Flow) (s : State) : (s.setFlow n v).mreg = s.mreg := rfl
@[simp] theorem State.setFlow_lum (n : Nat) (v : Flow) (s : State) : (s.setFlow n v).lum = s.lum := rfl
@[simp] theorem State.setFlow_met (n : Nat) (v : Flow) (s : State) : (s.setFlow n v).met = s.met := rfl
@[simp] theorem State.setFlow_mets (n : Nat) (v : Flow) (s : State) : (s.setFlow n v).mets = s.mets := rfl
@[simp] theorem State.setFlow_tables (n : Nat) (v : Flow) (s : State) : (s.setFlow n v).tables = s.tables := rfl
@[simp] theorem State.setFlow_kept (n : Nat) (v : Flow) (s : State) : (s.setFlow n v).kept = s.kept := rfl
@[simp] theorem State.setFlow_latch (n : Nat) (v : Flow) (s : State) : (s.setFlow n v).latch = s.latch := rfl
@[simp] theorem State.setFlow_free (n : Nat) (v : Flow) (s : State) : (s.setFlow n v).free = s.free := rfl
@[simp] theorem State.setFlow_out (n : Nat) (v : Flow) (s : State) : (s.setFlow n v).out = s.out := rfl
@[simp] theorem State.setFlow_pending (n : Nat) (v : Flow) (s : State) : (s.setFlow n v).pending = s.pending := rfl

/-! `State.setQueue`: a queue. -/

@[simp] theorem State.setQueue_same (n : Nat) (v : Queue) (s : State) (h : Tab.wf ({} : Queue) s.fleet.dsp.queues = true) : (s.setQueue n v).queue n = v :=
  Tab.get_set_same n v h
theorem State.setQueue_other {n k : Nat} (v : Queue) (s : State) (h : Tab.wf ({} : Queue) s.fleet.dsp.queues = true) (hk : k ≠ n) :
    (s.setQueue n v).queue k = s.queue k := Tab.get_set_other v h hk
theorem State.setQueue_wf (n : Nat) (v : Queue) (s : State) (h : Tab.wf ({} : Queue) s.fleet.dsp.queues = true) :
    Tab.wf ({} : Queue) ((s.setQueue n v).fleet.dsp.queues) = true := Tab.wf_set n v h
@[simp] theorem State.setQueue_sys (n : Nat) (v : Queue) (s : State) : (s.setQueue n v).sys = s.sys := rfl
@[simp] theorem State.setQueue_clk (n : Nat) (v : Queue) (s : State) : (s.setQueue n v).clk = s.clk := rfl
@[simp] theorem State.setQueue_tres (n : Nat) (v : Queue) (s : State) : (s.setQueue n v).tres = s.tres := rfl
@[simp] theorem State.setQueue_ao (n : Nat) (v : Queue) (s : State) : (s.setQueue n v).ao = s.ao := rfl
@[simp] theorem State.setQueue_cfg (n : Nat) (v : Queue) (s : State) : (s.setQueue n v).cfg = s.cfg := rfl
@[simp] theorem State.setQueue_time (n : Nat) (v : Queue) (s : State) : (s.setQueue n v).time = s.time := rfl
@[simp] theorem State.setQueue_treg (n : Nat) (v : Queue) (s : State) : (s.setQueue n v).treg = s.treg := rfl
@[simp] theorem State.setQueue_rcd (n : Nat) (v : Queue) (s : State) : (s.setQueue n v).rcd = s.rcd := rfl
@[simp] theorem State.setQueue_store (n : Nat) (v : Queue) (s : State) : (s.setQueue n v).store = s.store := rfl
@[simp] theorem State.setQueue_diag (n : Nat) (v : Queue) (s : State) : (s.setQueue n v).diag = s.diag := rfl
@[simp] theorem State.setQueue_host (n : Nat) (v : Queue) (s : State) : (s.setQueue n v).host = s.host := rfl
@[simp] theorem State.setQueue_flash (n : Nat) (v : Queue) (s : State) : (s.setQueue n v).flash = s.flash := rfl
@[simp] theorem State.setQueue_saved (n : Nat) (v : Queue) (s : State) : (s.setQueue n v).saved = s.saved := rfl
@[simp] theorem State.setQueue_keys (n : Nat) (v : Queue) (s : State) : (s.setQueue n v).keys = s.keys := rfl
@[simp] theorem State.setQueue_kreg (n : Nat) (v : Queue) (s : State) : (s.setQueue n v).kreg = s.kreg := rfl
@[simp] theorem State.setQueue_upd (n : Nat) (v : Queue) (s : State) : (s.setQueue n v).upd = s.upd := rfl
@[simp] theorem State.setQueue_ureg (n : Nat) (v : Queue) (s : State) : (s.setQueue n v).ureg = s.ureg := rfl
@[simp] theorem State.setQueue_pair (n : Nat) (v : Queue) (s : State) : (s.setQueue n v).pair = s.pair := rfl
@[simp] theorem State.setQueue_pub (n : Nat) (v : Queue) (s : State) : (s.setQueue n v).pub = s.pub := rfl
@[simp] theorem State.setQueue_inp (n : Nat) (v : Queue) (s : State) : (s.setQueue n v).inp = s.inp := rfl
@[simp] theorem State.setQueue_tick (n : Nat) (v : Queue) (s : State) : (s.setQueue n v).tick = s.tick := rfl
@[simp] theorem State.setQueue_freg (n : Nat) (v : Queue) (s : State) : (s.setQueue n v).freg = s.freg := rfl
@[simp] theorem State.setQueue_guest (n : Nat) (v : Queue) (s : State) : (s.setQueue n v).guest = s.guest := rfl
@[simp] theorem State.setQueue_stop (n : Nat) (v : Queue) (s : State) : (s.setQueue n v).stop = s.stop := rfl
@[simp] theorem State.setQueue_rad (n : Nat) (v : Queue) (s : State) : (s.setQueue n v).rad = s.rad := rfl
@[simp] theorem State.setQueue_lake (n : Nat) (v : Queue) (s : State) : (s.setQueue n v).lake = s.lake := rfl
@[simp] theorem State.setQueue_lcnt (n : Nat) (v : Queue) (s : State) : (s.setQueue n v).lcnt = s.lcnt := rfl
@[simp] theorem State.setQueue_trk (n : Nat) (v : Queue) (s : State) : (s.setQueue n v).trk = s.trk := rfl
@[simp] theorem State.setQueue_loop (n : Nat) (v : Queue) (s : State) : (s.setQueue n v).loop = s.loop := rfl
@[simp] theorem State.setQueue_meas (n : Nat) (v : Queue) (s : State) : (s.setQueue n v).meas = s.meas := rfl
@[simp] theorem State.setQueue_mreg (n : Nat) (v : Queue) (s : State) : (s.setQueue n v).mreg = s.mreg := rfl
@[simp] theorem State.setQueue_lum (n : Nat) (v : Queue) (s : State) : (s.setQueue n v).lum = s.lum := rfl
@[simp] theorem State.setQueue_met (n : Nat) (v : Queue) (s : State) : (s.setQueue n v).met = s.met := rfl
@[simp] theorem State.setQueue_mets (n : Nat) (v : Queue) (s : State) : (s.setQueue n v).mets = s.mets := rfl
@[simp] theorem State.setQueue_tables (n : Nat) (v : Queue) (s : State) : (s.setQueue n v).tables = s.tables := rfl
@[simp] theorem State.setQueue_kept (n : Nat) (v : Queue) (s : State) : (s.setQueue n v).kept = s.kept := rfl
@[simp] theorem State.setQueue_latch (n : Nat) (v : Queue) (s : State) : (s.setQueue n v).latch = s.latch := rfl
@[simp] theorem State.setQueue_free (n : Nat) (v : Queue) (s : State) : (s.setQueue n v).free = s.free := rfl
@[simp] theorem State.setQueue_out (n : Nat) (v : Queue) (s : State) : (s.setQueue n v).out = s.out := rfl
@[simp] theorem State.setQueue_pending (n : Nat) (v : Queue) (s : State) : (s.setQueue n v).pending = s.pending := rfl

/-! `State.setNode`: a node. -/

@[simp] theorem State.setNode_same (n : Nat) (v : NodeState) (s : State) (h : Tab.wf ({} : NodeState) s.fleet.nodes = true) : (s.setNode n v).node n = v :=
  Tab.get_set_same n v h
theorem State.setNode_other {n k : Nat} (v : NodeState) (s : State) (h : Tab.wf ({} : NodeState) s.fleet.nodes = true) (hk : k ≠ n) :
    (s.setNode n v).node k = s.node k := Tab.get_set_other v h hk
theorem State.setNode_wf (n : Nat) (v : NodeState) (s : State) (h : Tab.wf ({} : NodeState) s.fleet.nodes = true) :
    Tab.wf ({} : NodeState) ((s.setNode n v).fleet.nodes) = true := Tab.wf_set n v h
@[simp] theorem State.setNode_sys (n : Nat) (v : NodeState) (s : State) : (s.setNode n v).sys = s.sys := rfl
@[simp] theorem State.setNode_clk (n : Nat) (v : NodeState) (s : State) : (s.setNode n v).clk = s.clk := rfl
@[simp] theorem State.setNode_tres (n : Nat) (v : NodeState) (s : State) : (s.setNode n v).tres = s.tres := rfl
@[simp] theorem State.setNode_ao (n : Nat) (v : NodeState) (s : State) : (s.setNode n v).ao = s.ao := rfl
@[simp] theorem State.setNode_cfg (n : Nat) (v : NodeState) (s : State) : (s.setNode n v).cfg = s.cfg := rfl
@[simp] theorem State.setNode_time (n : Nat) (v : NodeState) (s : State) : (s.setNode n v).time = s.time := rfl
@[simp] theorem State.setNode_treg (n : Nat) (v : NodeState) (s : State) : (s.setNode n v).treg = s.treg := rfl
@[simp] theorem State.setNode_rcd (n : Nat) (v : NodeState) (s : State) : (s.setNode n v).rcd = s.rcd := rfl
@[simp] theorem State.setNode_store (n : Nat) (v : NodeState) (s : State) : (s.setNode n v).store = s.store := rfl
@[simp] theorem State.setNode_diag (n : Nat) (v : NodeState) (s : State) : (s.setNode n v).diag = s.diag := rfl
@[simp] theorem State.setNode_host (n : Nat) (v : NodeState) (s : State) : (s.setNode n v).host = s.host := rfl
@[simp] theorem State.setNode_flash (n : Nat) (v : NodeState) (s : State) : (s.setNode n v).flash = s.flash := rfl
@[simp] theorem State.setNode_saved (n : Nat) (v : NodeState) (s : State) : (s.setNode n v).saved = s.saved := rfl
@[simp] theorem State.setNode_keys (n : Nat) (v : NodeState) (s : State) : (s.setNode n v).keys = s.keys := rfl
@[simp] theorem State.setNode_kreg (n : Nat) (v : NodeState) (s : State) : (s.setNode n v).kreg = s.kreg := rfl
@[simp] theorem State.setNode_upd (n : Nat) (v : NodeState) (s : State) : (s.setNode n v).upd = s.upd := rfl
@[simp] theorem State.setNode_ureg (n : Nat) (v : NodeState) (s : State) : (s.setNode n v).ureg = s.ureg := rfl
@[simp] theorem State.setNode_pair (n : Nat) (v : NodeState) (s : State) : (s.setNode n v).pair = s.pair := rfl
@[simp] theorem State.setNode_pub (n : Nat) (v : NodeState) (s : State) : (s.setNode n v).pub = s.pub := rfl
@[simp] theorem State.setNode_inp (n : Nat) (v : NodeState) (s : State) : (s.setNode n v).inp = s.inp := rfl
@[simp] theorem State.setNode_tick (n : Nat) (v : NodeState) (s : State) : (s.setNode n v).tick = s.tick := rfl
@[simp] theorem State.setNode_freg (n : Nat) (v : NodeState) (s : State) : (s.setNode n v).freg = s.freg := rfl
@[simp] theorem State.setNode_guest (n : Nat) (v : NodeState) (s : State) : (s.setNode n v).guest = s.guest := rfl
@[simp] theorem State.setNode_stop (n : Nat) (v : NodeState) (s : State) : (s.setNode n v).stop = s.stop := rfl
@[simp] theorem State.setNode_rad (n : Nat) (v : NodeState) (s : State) : (s.setNode n v).rad = s.rad := rfl
@[simp] theorem State.setNode_lake (n : Nat) (v : NodeState) (s : State) : (s.setNode n v).lake = s.lake := rfl
@[simp] theorem State.setNode_lcnt (n : Nat) (v : NodeState) (s : State) : (s.setNode n v).lcnt = s.lcnt := rfl
@[simp] theorem State.setNode_trk (n : Nat) (v : NodeState) (s : State) : (s.setNode n v).trk = s.trk := rfl
@[simp] theorem State.setNode_loop (n : Nat) (v : NodeState) (s : State) : (s.setNode n v).loop = s.loop := rfl
@[simp] theorem State.setNode_meas (n : Nat) (v : NodeState) (s : State) : (s.setNode n v).meas = s.meas := rfl
@[simp] theorem State.setNode_mreg (n : Nat) (v : NodeState) (s : State) : (s.setNode n v).mreg = s.mreg := rfl
@[simp] theorem State.setNode_lum (n : Nat) (v : NodeState) (s : State) : (s.setNode n v).lum = s.lum := rfl
@[simp] theorem State.setNode_met (n : Nat) (v : NodeState) (s : State) : (s.setNode n v).met = s.met := rfl
@[simp] theorem State.setNode_mets (n : Nat) (v : NodeState) (s : State) : (s.setNode n v).mets = s.mets := rfl
@[simp] theorem State.setNode_tables (n : Nat) (v : NodeState) (s : State) : (s.setNode n v).tables = s.tables := rfl
@[simp] theorem State.setNode_kept (n : Nat) (v : NodeState) (s : State) : (s.setNode n v).kept = s.kept := rfl
@[simp] theorem State.setNode_latch (n : Nat) (v : NodeState) (s : State) : (s.setNode n v).latch = s.latch := rfl
@[simp] theorem State.setNode_free (n : Nat) (v : NodeState) (s : State) : (s.setNode n v).free = s.free := rfl
@[simp] theorem State.setNode_out (n : Nat) (v : NodeState) (s : State) : (s.setNode n v).out = s.out := rfl
@[simp] theorem State.setNode_pending (n : Nat) (v : NodeState) (s : State) : (s.setNode n v).pending = s.pending := rfl

/-! `State.setKey`: a key slot. -/

@[simp] theorem State.setKey_same (n : Nat) (v : KeySlot) (s : State) (h : Tab.wf ({} : KeySlot) s.keys.slots = true) : (s.setKey n v).keySlot n = v :=
  Tab.get_set_same n v h
theorem State.setKey_other {n k : Nat} (v : KeySlot) (s : State) (h : Tab.wf ({} : KeySlot) s.keys.slots = true) (hk : k ≠ n) :
    (s.setKey n v).keySlot k = s.keySlot k := Tab.get_set_other v h hk
theorem State.setKey_wf (n : Nat) (v : KeySlot) (s : State) (h : Tab.wf ({} : KeySlot) s.keys.slots = true) :
    Tab.wf ({} : KeySlot) ((s.setKey n v).keys.slots) = true := Tab.wf_set n v h
@[simp] theorem State.setKey_sys (n : Nat) (v : KeySlot) (s : State) : (s.setKey n v).sys = s.sys := rfl
@[simp] theorem State.setKey_clk (n : Nat) (v : KeySlot) (s : State) : (s.setKey n v).clk = s.clk := rfl
@[simp] theorem State.setKey_tres (n : Nat) (v : KeySlot) (s : State) : (s.setKey n v).tres = s.tres := rfl
@[simp] theorem State.setKey_ao (n : Nat) (v : KeySlot) (s : State) : (s.setKey n v).ao = s.ao := rfl
@[simp] theorem State.setKey_cfg (n : Nat) (v : KeySlot) (s : State) : (s.setKey n v).cfg = s.cfg := rfl
@[simp] theorem State.setKey_time (n : Nat) (v : KeySlot) (s : State) : (s.setKey n v).time = s.time := rfl
@[simp] theorem State.setKey_treg (n : Nat) (v : KeySlot) (s : State) : (s.setKey n v).treg = s.treg := rfl
@[simp] theorem State.setKey_rcd (n : Nat) (v : KeySlot) (s : State) : (s.setKey n v).rcd = s.rcd := rfl
@[simp] theorem State.setKey_store (n : Nat) (v : KeySlot) (s : State) : (s.setKey n v).store = s.store := rfl
@[simp] theorem State.setKey_diag (n : Nat) (v : KeySlot) (s : State) : (s.setKey n v).diag = s.diag := rfl
@[simp] theorem State.setKey_host (n : Nat) (v : KeySlot) (s : State) : (s.setKey n v).host = s.host := rfl
@[simp] theorem State.setKey_flash (n : Nat) (v : KeySlot) (s : State) : (s.setKey n v).flash = s.flash := rfl
@[simp] theorem State.setKey_saved (n : Nat) (v : KeySlot) (s : State) : (s.setKey n v).saved = s.saved := rfl
@[simp] theorem State.setKey_kreg (n : Nat) (v : KeySlot) (s : State) : (s.setKey n v).kreg = s.kreg := rfl
@[simp] theorem State.setKey_upd (n : Nat) (v : KeySlot) (s : State) : (s.setKey n v).upd = s.upd := rfl
@[simp] theorem State.setKey_ureg (n : Nat) (v : KeySlot) (s : State) : (s.setKey n v).ureg = s.ureg := rfl
@[simp] theorem State.setKey_pair (n : Nat) (v : KeySlot) (s : State) : (s.setKey n v).pair = s.pair := rfl
@[simp] theorem State.setKey_fleet (n : Nat) (v : KeySlot) (s : State) : (s.setKey n v).fleet = s.fleet := rfl
@[simp] theorem State.setKey_pub (n : Nat) (v : KeySlot) (s : State) : (s.setKey n v).pub = s.pub := rfl
@[simp] theorem State.setKey_inp (n : Nat) (v : KeySlot) (s : State) : (s.setKey n v).inp = s.inp := rfl
@[simp] theorem State.setKey_tick (n : Nat) (v : KeySlot) (s : State) : (s.setKey n v).tick = s.tick := rfl
@[simp] theorem State.setKey_freg (n : Nat) (v : KeySlot) (s : State) : (s.setKey n v).freg = s.freg := rfl
@[simp] theorem State.setKey_guest (n : Nat) (v : KeySlot) (s : State) : (s.setKey n v).guest = s.guest := rfl
@[simp] theorem State.setKey_stop (n : Nat) (v : KeySlot) (s : State) : (s.setKey n v).stop = s.stop := rfl
@[simp] theorem State.setKey_rad (n : Nat) (v : KeySlot) (s : State) : (s.setKey n v).rad = s.rad := rfl
@[simp] theorem State.setKey_lake (n : Nat) (v : KeySlot) (s : State) : (s.setKey n v).lake = s.lake := rfl
@[simp] theorem State.setKey_lcnt (n : Nat) (v : KeySlot) (s : State) : (s.setKey n v).lcnt = s.lcnt := rfl
@[simp] theorem State.setKey_trk (n : Nat) (v : KeySlot) (s : State) : (s.setKey n v).trk = s.trk := rfl
@[simp] theorem State.setKey_loop (n : Nat) (v : KeySlot) (s : State) : (s.setKey n v).loop = s.loop := rfl
@[simp] theorem State.setKey_meas (n : Nat) (v : KeySlot) (s : State) : (s.setKey n v).meas = s.meas := rfl
@[simp] theorem State.setKey_mreg (n : Nat) (v : KeySlot) (s : State) : (s.setKey n v).mreg = s.mreg := rfl
@[simp] theorem State.setKey_lum (n : Nat) (v : KeySlot) (s : State) : (s.setKey n v).lum = s.lum := rfl
@[simp] theorem State.setKey_met (n : Nat) (v : KeySlot) (s : State) : (s.setKey n v).met = s.met := rfl
@[simp] theorem State.setKey_mets (n : Nat) (v : KeySlot) (s : State) : (s.setKey n v).mets = s.mets := rfl
@[simp] theorem State.setKey_tables (n : Nat) (v : KeySlot) (s : State) : (s.setKey n v).tables = s.tables := rfl
@[simp] theorem State.setKey_kept (n : Nat) (v : KeySlot) (s : State) : (s.setKey n v).kept = s.kept := rfl
@[simp] theorem State.setKey_latch (n : Nat) (v : KeySlot) (s : State) : (s.setKey n v).latch = s.latch := rfl
@[simp] theorem State.setKey_free (n : Nat) (v : KeySlot) (s : State) : (s.setKey n v).free = s.free := rfl
@[simp] theorem State.setKey_out (n : Nat) (v : KeySlot) (s : State) : (s.setKey n v).out = s.out := rfl
@[simp] theorem State.setKey_pending (n : Nat) (v : KeySlot) (s : State) : (s.setKey n v).pending = s.pending := rfl

/-! `State.setSlot`: a search slot. -/

@[simp] theorem State.setSlot_same (n : Nat) (v : LakeSlot) (s : State) (h : Tab.wf (LakeSlot.reset : LakeSlot) s.lake.slots = true) : (s.setSlot n v).slot n = v :=
  Tab.get_set_same n v h
theorem State.setSlot_other {n k : Nat} (v : LakeSlot) (s : State) (h : Tab.wf (LakeSlot.reset : LakeSlot) s.lake.slots = true) (hk : k ≠ n) :
    (s.setSlot n v).slot k = s.slot k := Tab.get_set_other v h hk
theorem State.setSlot_wf (n : Nat) (v : LakeSlot) (s : State) (h : Tab.wf (LakeSlot.reset : LakeSlot) s.lake.slots = true) :
    Tab.wf (LakeSlot.reset : LakeSlot) ((s.setSlot n v).lake.slots) = true := Tab.wf_set n v h
@[simp] theorem State.setSlot_sys (n : Nat) (v : LakeSlot) (s : State) : (s.setSlot n v).sys = s.sys := rfl
@[simp] theorem State.setSlot_clk (n : Nat) (v : LakeSlot) (s : State) : (s.setSlot n v).clk = s.clk := rfl
@[simp] theorem State.setSlot_tres (n : Nat) (v : LakeSlot) (s : State) : (s.setSlot n v).tres = s.tres := rfl
@[simp] theorem State.setSlot_ao (n : Nat) (v : LakeSlot) (s : State) : (s.setSlot n v).ao = s.ao := rfl
@[simp] theorem State.setSlot_cfg (n : Nat) (v : LakeSlot) (s : State) : (s.setSlot n v).cfg = s.cfg := rfl
@[simp] theorem State.setSlot_time (n : Nat) (v : LakeSlot) (s : State) : (s.setSlot n v).time = s.time := rfl
@[simp] theorem State.setSlot_treg (n : Nat) (v : LakeSlot) (s : State) : (s.setSlot n v).treg = s.treg := rfl
@[simp] theorem State.setSlot_rcd (n : Nat) (v : LakeSlot) (s : State) : (s.setSlot n v).rcd = s.rcd := rfl
@[simp] theorem State.setSlot_store (n : Nat) (v : LakeSlot) (s : State) : (s.setSlot n v).store = s.store := rfl
@[simp] theorem State.setSlot_diag (n : Nat) (v : LakeSlot) (s : State) : (s.setSlot n v).diag = s.diag := rfl
@[simp] theorem State.setSlot_host (n : Nat) (v : LakeSlot) (s : State) : (s.setSlot n v).host = s.host := rfl
@[simp] theorem State.setSlot_flash (n : Nat) (v : LakeSlot) (s : State) : (s.setSlot n v).flash = s.flash := rfl
@[simp] theorem State.setSlot_saved (n : Nat) (v : LakeSlot) (s : State) : (s.setSlot n v).saved = s.saved := rfl
@[simp] theorem State.setSlot_keys (n : Nat) (v : LakeSlot) (s : State) : (s.setSlot n v).keys = s.keys := rfl
@[simp] theorem State.setSlot_kreg (n : Nat) (v : LakeSlot) (s : State) : (s.setSlot n v).kreg = s.kreg := rfl
@[simp] theorem State.setSlot_upd (n : Nat) (v : LakeSlot) (s : State) : (s.setSlot n v).upd = s.upd := rfl
@[simp] theorem State.setSlot_ureg (n : Nat) (v : LakeSlot) (s : State) : (s.setSlot n v).ureg = s.ureg := rfl
@[simp] theorem State.setSlot_pair (n : Nat) (v : LakeSlot) (s : State) : (s.setSlot n v).pair = s.pair := rfl
@[simp] theorem State.setSlot_fleet (n : Nat) (v : LakeSlot) (s : State) : (s.setSlot n v).fleet = s.fleet := rfl
@[simp] theorem State.setSlot_pub (n : Nat) (v : LakeSlot) (s : State) : (s.setSlot n v).pub = s.pub := rfl
@[simp] theorem State.setSlot_inp (n : Nat) (v : LakeSlot) (s : State) : (s.setSlot n v).inp = s.inp := rfl
@[simp] theorem State.setSlot_tick (n : Nat) (v : LakeSlot) (s : State) : (s.setSlot n v).tick = s.tick := rfl
@[simp] theorem State.setSlot_freg (n : Nat) (v : LakeSlot) (s : State) : (s.setSlot n v).freg = s.freg := rfl
@[simp] theorem State.setSlot_guest (n : Nat) (v : LakeSlot) (s : State) : (s.setSlot n v).guest = s.guest := rfl
@[simp] theorem State.setSlot_stop (n : Nat) (v : LakeSlot) (s : State) : (s.setSlot n v).stop = s.stop := rfl
@[simp] theorem State.setSlot_rad (n : Nat) (v : LakeSlot) (s : State) : (s.setSlot n v).rad = s.rad := rfl
@[simp] theorem State.setSlot_lcnt (n : Nat) (v : LakeSlot) (s : State) : (s.setSlot n v).lcnt = s.lcnt := rfl
@[simp] theorem State.setSlot_trk (n : Nat) (v : LakeSlot) (s : State) : (s.setSlot n v).trk = s.trk := rfl
@[simp] theorem State.setSlot_loop (n : Nat) (v : LakeSlot) (s : State) : (s.setSlot n v).loop = s.loop := rfl
@[simp] theorem State.setSlot_meas (n : Nat) (v : LakeSlot) (s : State) : (s.setSlot n v).meas = s.meas := rfl
@[simp] theorem State.setSlot_mreg (n : Nat) (v : LakeSlot) (s : State) : (s.setSlot n v).mreg = s.mreg := rfl
@[simp] theorem State.setSlot_lum (n : Nat) (v : LakeSlot) (s : State) : (s.setSlot n v).lum = s.lum := rfl
@[simp] theorem State.setSlot_met (n : Nat) (v : LakeSlot) (s : State) : (s.setSlot n v).met = s.met := rfl
@[simp] theorem State.setSlot_mets (n : Nat) (v : LakeSlot) (s : State) : (s.setSlot n v).mets = s.mets := rfl
@[simp] theorem State.setSlot_tables (n : Nat) (v : LakeSlot) (s : State) : (s.setSlot n v).tables = s.tables := rfl
@[simp] theorem State.setSlot_kept (n : Nat) (v : LakeSlot) (s : State) : (s.setSlot n v).kept = s.kept := rfl
@[simp] theorem State.setSlot_latch (n : Nat) (v : LakeSlot) (s : State) : (s.setSlot n v).latch = s.latch := rfl
@[simp] theorem State.setSlot_free (n : Nat) (v : LakeSlot) (s : State) : (s.setSlot n v).free = s.free := rfl
@[simp] theorem State.setSlot_out (n : Nat) (v : LakeSlot) (s : State) : (s.setSlot n v).out = s.out := rfl
@[simp] theorem State.setSlot_pending (n : Nat) (v : LakeSlot) (s : State) : (s.setSlot n v).pending = s.pending := rfl

/-! `State.setChan`: a channel. -/

@[simp] theorem State.setChan_same (n : Nat) (v : Channel) (s : State) (h : Tab.wf (Channel.reset : Channel) s.trk.channels = true) : (s.setChan n v).chan n = v :=
  Tab.get_set_same n v h
theorem State.setChan_other {n k : Nat} (v : Channel) (s : State) (h : Tab.wf (Channel.reset : Channel) s.trk.channels = true) (hk : k ≠ n) :
    (s.setChan n v).chan k = s.chan k := Tab.get_set_other v h hk
theorem State.setChan_wf (n : Nat) (v : Channel) (s : State) (h : Tab.wf (Channel.reset : Channel) s.trk.channels = true) :
    Tab.wf (Channel.reset : Channel) ((s.setChan n v).trk.channels) = true := Tab.wf_set n v h
@[simp] theorem State.setChan_sys (n : Nat) (v : Channel) (s : State) : (s.setChan n v).sys = s.sys := rfl
@[simp] theorem State.setChan_clk (n : Nat) (v : Channel) (s : State) : (s.setChan n v).clk = s.clk := rfl
@[simp] theorem State.setChan_tres (n : Nat) (v : Channel) (s : State) : (s.setChan n v).tres = s.tres := rfl
@[simp] theorem State.setChan_ao (n : Nat) (v : Channel) (s : State) : (s.setChan n v).ao = s.ao := rfl
@[simp] theorem State.setChan_cfg (n : Nat) (v : Channel) (s : State) : (s.setChan n v).cfg = s.cfg := rfl
@[simp] theorem State.setChan_time (n : Nat) (v : Channel) (s : State) : (s.setChan n v).time = s.time := rfl
@[simp] theorem State.setChan_treg (n : Nat) (v : Channel) (s : State) : (s.setChan n v).treg = s.treg := rfl
@[simp] theorem State.setChan_rcd (n : Nat) (v : Channel) (s : State) : (s.setChan n v).rcd = s.rcd := rfl
@[simp] theorem State.setChan_store (n : Nat) (v : Channel) (s : State) : (s.setChan n v).store = s.store := rfl
@[simp] theorem State.setChan_diag (n : Nat) (v : Channel) (s : State) : (s.setChan n v).diag = s.diag := rfl
@[simp] theorem State.setChan_host (n : Nat) (v : Channel) (s : State) : (s.setChan n v).host = s.host := rfl
@[simp] theorem State.setChan_flash (n : Nat) (v : Channel) (s : State) : (s.setChan n v).flash = s.flash := rfl
@[simp] theorem State.setChan_saved (n : Nat) (v : Channel) (s : State) : (s.setChan n v).saved = s.saved := rfl
@[simp] theorem State.setChan_keys (n : Nat) (v : Channel) (s : State) : (s.setChan n v).keys = s.keys := rfl
@[simp] theorem State.setChan_kreg (n : Nat) (v : Channel) (s : State) : (s.setChan n v).kreg = s.kreg := rfl
@[simp] theorem State.setChan_upd (n : Nat) (v : Channel) (s : State) : (s.setChan n v).upd = s.upd := rfl
@[simp] theorem State.setChan_ureg (n : Nat) (v : Channel) (s : State) : (s.setChan n v).ureg = s.ureg := rfl
@[simp] theorem State.setChan_pair (n : Nat) (v : Channel) (s : State) : (s.setChan n v).pair = s.pair := rfl
@[simp] theorem State.setChan_fleet (n : Nat) (v : Channel) (s : State) : (s.setChan n v).fleet = s.fleet := rfl
@[simp] theorem State.setChan_pub (n : Nat) (v : Channel) (s : State) : (s.setChan n v).pub = s.pub := rfl
@[simp] theorem State.setChan_inp (n : Nat) (v : Channel) (s : State) : (s.setChan n v).inp = s.inp := rfl
@[simp] theorem State.setChan_tick (n : Nat) (v : Channel) (s : State) : (s.setChan n v).tick = s.tick := rfl
@[simp] theorem State.setChan_freg (n : Nat) (v : Channel) (s : State) : (s.setChan n v).freg = s.freg := rfl
@[simp] theorem State.setChan_guest (n : Nat) (v : Channel) (s : State) : (s.setChan n v).guest = s.guest := rfl
@[simp] theorem State.setChan_stop (n : Nat) (v : Channel) (s : State) : (s.setChan n v).stop = s.stop := rfl
@[simp] theorem State.setChan_rad (n : Nat) (v : Channel) (s : State) : (s.setChan n v).rad = s.rad := rfl
@[simp] theorem State.setChan_lake (n : Nat) (v : Channel) (s : State) : (s.setChan n v).lake = s.lake := rfl
@[simp] theorem State.setChan_lcnt (n : Nat) (v : Channel) (s : State) : (s.setChan n v).lcnt = s.lcnt := rfl
@[simp] theorem State.setChan_loop (n : Nat) (v : Channel) (s : State) : (s.setChan n v).loop = s.loop := rfl
@[simp] theorem State.setChan_meas (n : Nat) (v : Channel) (s : State) : (s.setChan n v).meas = s.meas := rfl
@[simp] theorem State.setChan_mreg (n : Nat) (v : Channel) (s : State) : (s.setChan n v).mreg = s.mreg := rfl
@[simp] theorem State.setChan_lum (n : Nat) (v : Channel) (s : State) : (s.setChan n v).lum = s.lum := rfl
@[simp] theorem State.setChan_met (n : Nat) (v : Channel) (s : State) : (s.setChan n v).met = s.met := rfl
@[simp] theorem State.setChan_mets (n : Nat) (v : Channel) (s : State) : (s.setChan n v).mets = s.mets := rfl
@[simp] theorem State.setChan_tables (n : Nat) (v : Channel) (s : State) : (s.setChan n v).tables = s.tables := rfl
@[simp] theorem State.setChan_kept (n : Nat) (v : Channel) (s : State) : (s.setChan n v).kept = s.kept := rfl
@[simp] theorem State.setChan_latch (n : Nat) (v : Channel) (s : State) : (s.setChan n v).latch = s.latch := rfl
@[simp] theorem State.setChan_free (n : Nat) (v : Channel) (s : State) : (s.setChan n v).free = s.free := rfl
@[simp] theorem State.setChan_out (n : Nat) (v : Channel) (s : State) : (s.setChan n v).out = s.out := rfl
@[simp] theorem State.setChan_pending (n : Nat) (v : Channel) (s : State) : (s.setChan n v).pending = s.pending := rfl

/-! `State.setObj`: a loop object. -/

@[simp] theorem State.setObj_same (n : Nat) (v : LoopObj) (s : State) (h : Tab.wf (LoopObj.reset : LoopObj) s.loop.objects = true) : (s.setObj n v).obj n = v :=
  Tab.get_set_same n v h
theorem State.setObj_other {n k : Nat} (v : LoopObj) (s : State) (h : Tab.wf (LoopObj.reset : LoopObj) s.loop.objects = true) (hk : k ≠ n) :
    (s.setObj n v).obj k = s.obj k := Tab.get_set_other v h hk
theorem State.setObj_wf (n : Nat) (v : LoopObj) (s : State) (h : Tab.wf (LoopObj.reset : LoopObj) s.loop.objects = true) :
    Tab.wf (LoopObj.reset : LoopObj) ((s.setObj n v).loop.objects) = true := Tab.wf_set n v h
@[simp] theorem State.setObj_sys (n : Nat) (v : LoopObj) (s : State) : (s.setObj n v).sys = s.sys := rfl
@[simp] theorem State.setObj_clk (n : Nat) (v : LoopObj) (s : State) : (s.setObj n v).clk = s.clk := rfl
@[simp] theorem State.setObj_tres (n : Nat) (v : LoopObj) (s : State) : (s.setObj n v).tres = s.tres := rfl
@[simp] theorem State.setObj_ao (n : Nat) (v : LoopObj) (s : State) : (s.setObj n v).ao = s.ao := rfl
@[simp] theorem State.setObj_cfg (n : Nat) (v : LoopObj) (s : State) : (s.setObj n v).cfg = s.cfg := rfl
@[simp] theorem State.setObj_time (n : Nat) (v : LoopObj) (s : State) : (s.setObj n v).time = s.time := rfl
@[simp] theorem State.setObj_treg (n : Nat) (v : LoopObj) (s : State) : (s.setObj n v).treg = s.treg := rfl
@[simp] theorem State.setObj_rcd (n : Nat) (v : LoopObj) (s : State) : (s.setObj n v).rcd = s.rcd := rfl
@[simp] theorem State.setObj_store (n : Nat) (v : LoopObj) (s : State) : (s.setObj n v).store = s.store := rfl
@[simp] theorem State.setObj_diag (n : Nat) (v : LoopObj) (s : State) : (s.setObj n v).diag = s.diag := rfl
@[simp] theorem State.setObj_host (n : Nat) (v : LoopObj) (s : State) : (s.setObj n v).host = s.host := rfl
@[simp] theorem State.setObj_flash (n : Nat) (v : LoopObj) (s : State) : (s.setObj n v).flash = s.flash := rfl
@[simp] theorem State.setObj_saved (n : Nat) (v : LoopObj) (s : State) : (s.setObj n v).saved = s.saved := rfl
@[simp] theorem State.setObj_keys (n : Nat) (v : LoopObj) (s : State) : (s.setObj n v).keys = s.keys := rfl
@[simp] theorem State.setObj_kreg (n : Nat) (v : LoopObj) (s : State) : (s.setObj n v).kreg = s.kreg := rfl
@[simp] theorem State.setObj_upd (n : Nat) (v : LoopObj) (s : State) : (s.setObj n v).upd = s.upd := rfl
@[simp] theorem State.setObj_ureg (n : Nat) (v : LoopObj) (s : State) : (s.setObj n v).ureg = s.ureg := rfl
@[simp] theorem State.setObj_pair (n : Nat) (v : LoopObj) (s : State) : (s.setObj n v).pair = s.pair := rfl
@[simp] theorem State.setObj_fleet (n : Nat) (v : LoopObj) (s : State) : (s.setObj n v).fleet = s.fleet := rfl
@[simp] theorem State.setObj_pub (n : Nat) (v : LoopObj) (s : State) : (s.setObj n v).pub = s.pub := rfl
@[simp] theorem State.setObj_inp (n : Nat) (v : LoopObj) (s : State) : (s.setObj n v).inp = s.inp := rfl
@[simp] theorem State.setObj_tick (n : Nat) (v : LoopObj) (s : State) : (s.setObj n v).tick = s.tick := rfl
@[simp] theorem State.setObj_freg (n : Nat) (v : LoopObj) (s : State) : (s.setObj n v).freg = s.freg := rfl
@[simp] theorem State.setObj_guest (n : Nat) (v : LoopObj) (s : State) : (s.setObj n v).guest = s.guest := rfl
@[simp] theorem State.setObj_stop (n : Nat) (v : LoopObj) (s : State) : (s.setObj n v).stop = s.stop := rfl
@[simp] theorem State.setObj_rad (n : Nat) (v : LoopObj) (s : State) : (s.setObj n v).rad = s.rad := rfl
@[simp] theorem State.setObj_lake (n : Nat) (v : LoopObj) (s : State) : (s.setObj n v).lake = s.lake := rfl
@[simp] theorem State.setObj_lcnt (n : Nat) (v : LoopObj) (s : State) : (s.setObj n v).lcnt = s.lcnt := rfl
@[simp] theorem State.setObj_trk (n : Nat) (v : LoopObj) (s : State) : (s.setObj n v).trk = s.trk := rfl
@[simp] theorem State.setObj_meas (n : Nat) (v : LoopObj) (s : State) : (s.setObj n v).meas = s.meas := rfl
@[simp] theorem State.setObj_mreg (n : Nat) (v : LoopObj) (s : State) : (s.setObj n v).mreg = s.mreg := rfl
@[simp] theorem State.setObj_lum (n : Nat) (v : LoopObj) (s : State) : (s.setObj n v).lum = s.lum := rfl
@[simp] theorem State.setObj_met (n : Nat) (v : LoopObj) (s : State) : (s.setObj n v).met = s.met := rfl
@[simp] theorem State.setObj_mets (n : Nat) (v : LoopObj) (s : State) : (s.setObj n v).mets = s.mets := rfl
@[simp] theorem State.setObj_tables (n : Nat) (v : LoopObj) (s : State) : (s.setObj n v).tables = s.tables := rfl
@[simp] theorem State.setObj_kept (n : Nat) (v : LoopObj) (s : State) : (s.setObj n v).kept = s.kept := rfl
@[simp] theorem State.setObj_latch (n : Nat) (v : LoopObj) (s : State) : (s.setObj n v).latch = s.latch := rfl
@[simp] theorem State.setObj_free (n : Nat) (v : LoopObj) (s : State) : (s.setObj n v).free = s.free := rfl
@[simp] theorem State.setObj_out (n : Nat) (v : LoopObj) (s : State) : (s.setObj n v).out = s.out := rfl
@[simp] theorem State.setObj_pending (n : Nat) (v : LoopObj) (s : State) : (s.setObj n v).pending = s.pending := rfl

/-! `State.setLstr`: a string. -/

@[simp] theorem State.setLstr_same (n : Nat) (v : LumString) (s : State) (h : Tab.wf ({} : LumString) s.lum.strings = true) : (s.setLstr n v).lstr n = v :=
  Tab.get_set_same n v h
theorem State.setLstr_other {n k : Nat} (v : LumString) (s : State) (h : Tab.wf ({} : LumString) s.lum.strings = true) (hk : k ≠ n) :
    (s.setLstr n v).lstr k = s.lstr k := Tab.get_set_other v h hk
theorem State.setLstr_wf (n : Nat) (v : LumString) (s : State) (h : Tab.wf ({} : LumString) s.lum.strings = true) :
    Tab.wf ({} : LumString) ((s.setLstr n v).lum.strings) = true := Tab.wf_set n v h
@[simp] theorem State.setLstr_sys (n : Nat) (v : LumString) (s : State) : (s.setLstr n v).sys = s.sys := rfl
@[simp] theorem State.setLstr_clk (n : Nat) (v : LumString) (s : State) : (s.setLstr n v).clk = s.clk := rfl
@[simp] theorem State.setLstr_tres (n : Nat) (v : LumString) (s : State) : (s.setLstr n v).tres = s.tres := rfl
@[simp] theorem State.setLstr_ao (n : Nat) (v : LumString) (s : State) : (s.setLstr n v).ao = s.ao := rfl
@[simp] theorem State.setLstr_cfg (n : Nat) (v : LumString) (s : State) : (s.setLstr n v).cfg = s.cfg := rfl
@[simp] theorem State.setLstr_time (n : Nat) (v : LumString) (s : State) : (s.setLstr n v).time = s.time := rfl
@[simp] theorem State.setLstr_treg (n : Nat) (v : LumString) (s : State) : (s.setLstr n v).treg = s.treg := rfl
@[simp] theorem State.setLstr_rcd (n : Nat) (v : LumString) (s : State) : (s.setLstr n v).rcd = s.rcd := rfl
@[simp] theorem State.setLstr_store (n : Nat) (v : LumString) (s : State) : (s.setLstr n v).store = s.store := rfl
@[simp] theorem State.setLstr_diag (n : Nat) (v : LumString) (s : State) : (s.setLstr n v).diag = s.diag := rfl
@[simp] theorem State.setLstr_host (n : Nat) (v : LumString) (s : State) : (s.setLstr n v).host = s.host := rfl
@[simp] theorem State.setLstr_flash (n : Nat) (v : LumString) (s : State) : (s.setLstr n v).flash = s.flash := rfl
@[simp] theorem State.setLstr_saved (n : Nat) (v : LumString) (s : State) : (s.setLstr n v).saved = s.saved := rfl
@[simp] theorem State.setLstr_keys (n : Nat) (v : LumString) (s : State) : (s.setLstr n v).keys = s.keys := rfl
@[simp] theorem State.setLstr_kreg (n : Nat) (v : LumString) (s : State) : (s.setLstr n v).kreg = s.kreg := rfl
@[simp] theorem State.setLstr_upd (n : Nat) (v : LumString) (s : State) : (s.setLstr n v).upd = s.upd := rfl
@[simp] theorem State.setLstr_ureg (n : Nat) (v : LumString) (s : State) : (s.setLstr n v).ureg = s.ureg := rfl
@[simp] theorem State.setLstr_pair (n : Nat) (v : LumString) (s : State) : (s.setLstr n v).pair = s.pair := rfl
@[simp] theorem State.setLstr_fleet (n : Nat) (v : LumString) (s : State) : (s.setLstr n v).fleet = s.fleet := rfl
@[simp] theorem State.setLstr_pub (n : Nat) (v : LumString) (s : State) : (s.setLstr n v).pub = s.pub := rfl
@[simp] theorem State.setLstr_inp (n : Nat) (v : LumString) (s : State) : (s.setLstr n v).inp = s.inp := rfl
@[simp] theorem State.setLstr_tick (n : Nat) (v : LumString) (s : State) : (s.setLstr n v).tick = s.tick := rfl
@[simp] theorem State.setLstr_freg (n : Nat) (v : LumString) (s : State) : (s.setLstr n v).freg = s.freg := rfl
@[simp] theorem State.setLstr_guest (n : Nat) (v : LumString) (s : State) : (s.setLstr n v).guest = s.guest := rfl
@[simp] theorem State.setLstr_stop (n : Nat) (v : LumString) (s : State) : (s.setLstr n v).stop = s.stop := rfl
@[simp] theorem State.setLstr_rad (n : Nat) (v : LumString) (s : State) : (s.setLstr n v).rad = s.rad := rfl
@[simp] theorem State.setLstr_lake (n : Nat) (v : LumString) (s : State) : (s.setLstr n v).lake = s.lake := rfl
@[simp] theorem State.setLstr_lcnt (n : Nat) (v : LumString) (s : State) : (s.setLstr n v).lcnt = s.lcnt := rfl
@[simp] theorem State.setLstr_trk (n : Nat) (v : LumString) (s : State) : (s.setLstr n v).trk = s.trk := rfl
@[simp] theorem State.setLstr_loop (n : Nat) (v : LumString) (s : State) : (s.setLstr n v).loop = s.loop := rfl
@[simp] theorem State.setLstr_meas (n : Nat) (v : LumString) (s : State) : (s.setLstr n v).meas = s.meas := rfl
@[simp] theorem State.setLstr_mreg (n : Nat) (v : LumString) (s : State) : (s.setLstr n v).mreg = s.mreg := rfl
@[simp] theorem State.setLstr_met (n : Nat) (v : LumString) (s : State) : (s.setLstr n v).met = s.met := rfl
@[simp] theorem State.setLstr_mets (n : Nat) (v : LumString) (s : State) : (s.setLstr n v).mets = s.mets := rfl
@[simp] theorem State.setLstr_tables (n : Nat) (v : LumString) (s : State) : (s.setLstr n v).tables = s.tables := rfl
@[simp] theorem State.setLstr_kept (n : Nat) (v : LumString) (s : State) : (s.setLstr n v).kept = s.kept := rfl
@[simp] theorem State.setLstr_latch (n : Nat) (v : LumString) (s : State) : (s.setLstr n v).latch = s.latch := rfl
@[simp] theorem State.setLstr_free (n : Nat) (v : LumString) (s : State) : (s.setLstr n v).free = s.free := rfl
@[simp] theorem State.setLstr_out (n : Nat) (v : LumString) (s : State) : (s.setLstr n v).out = s.out := rfl
@[simp] theorem State.setLstr_pending (n : Nat) (v : LumString) (s : State) : (s.setLstr n v).pending = s.pending := rfl

/-! `State.updMp`: a metering point. -/

@[simp] theorem State.updMp_same (p : Nat) (f : MetPoint → MetPoint) (s : State) (h : Tab.wf ({} : MetPoint) s.met.points = true) :
    (s.updMp p f).mp p = f (s.mp p) := Tab.get_set_same p _ h
theorem State.updMp_other {p k : Nat} (f : MetPoint → MetPoint) (s : State) (h : Tab.wf ({} : MetPoint) s.met.points = true) (hk : k ≠ p) :
    (s.updMp p f).mp k = s.mp k := Tab.get_set_other _ h hk
@[simp] theorem State.updMp_sys (p : Nat) (f : MetPoint → MetPoint) (s : State) : (s.updMp p f).sys = s.sys := rfl
@[simp] theorem State.updMp_clk (p : Nat) (f : MetPoint → MetPoint) (s : State) : (s.updMp p f).clk = s.clk := rfl
@[simp] theorem State.updMp_tres (p : Nat) (f : MetPoint → MetPoint) (s : State) : (s.updMp p f).tres = s.tres := rfl
@[simp] theorem State.updMp_ao (p : Nat) (f : MetPoint → MetPoint) (s : State) : (s.updMp p f).ao = s.ao := rfl
@[simp] theorem State.updMp_cfg (p : Nat) (f : MetPoint → MetPoint) (s : State) : (s.updMp p f).cfg = s.cfg := rfl
@[simp] theorem State.updMp_time (p : Nat) (f : MetPoint → MetPoint) (s : State) : (s.updMp p f).time = s.time := rfl
@[simp] theorem State.updMp_treg (p : Nat) (f : MetPoint → MetPoint) (s : State) : (s.updMp p f).treg = s.treg := rfl
@[simp] theorem State.updMp_rcd (p : Nat) (f : MetPoint → MetPoint) (s : State) : (s.updMp p f).rcd = s.rcd := rfl
@[simp] theorem State.updMp_store (p : Nat) (f : MetPoint → MetPoint) (s : State) : (s.updMp p f).store = s.store := rfl
@[simp] theorem State.updMp_diag (p : Nat) (f : MetPoint → MetPoint) (s : State) : (s.updMp p f).diag = s.diag := rfl
@[simp] theorem State.updMp_host (p : Nat) (f : MetPoint → MetPoint) (s : State) : (s.updMp p f).host = s.host := rfl
@[simp] theorem State.updMp_flash (p : Nat) (f : MetPoint → MetPoint) (s : State) : (s.updMp p f).flash = s.flash := rfl
@[simp] theorem State.updMp_saved (p : Nat) (f : MetPoint → MetPoint) (s : State) : (s.updMp p f).saved = s.saved := rfl
@[simp] theorem State.updMp_keys (p : Nat) (f : MetPoint → MetPoint) (s : State) : (s.updMp p f).keys = s.keys := rfl
@[simp] theorem State.updMp_kreg (p : Nat) (f : MetPoint → MetPoint) (s : State) : (s.updMp p f).kreg = s.kreg := rfl
@[simp] theorem State.updMp_upd (p : Nat) (f : MetPoint → MetPoint) (s : State) : (s.updMp p f).upd = s.upd := rfl
@[simp] theorem State.updMp_ureg (p : Nat) (f : MetPoint → MetPoint) (s : State) : (s.updMp p f).ureg = s.ureg := rfl
@[simp] theorem State.updMp_pair (p : Nat) (f : MetPoint → MetPoint) (s : State) : (s.updMp p f).pair = s.pair := rfl
@[simp] theorem State.updMp_fleet (p : Nat) (f : MetPoint → MetPoint) (s : State) : (s.updMp p f).fleet = s.fleet := rfl
@[simp] theorem State.updMp_pub (p : Nat) (f : MetPoint → MetPoint) (s : State) : (s.updMp p f).pub = s.pub := rfl
@[simp] theorem State.updMp_inp (p : Nat) (f : MetPoint → MetPoint) (s : State) : (s.updMp p f).inp = s.inp := rfl
@[simp] theorem State.updMp_tick (p : Nat) (f : MetPoint → MetPoint) (s : State) : (s.updMp p f).tick = s.tick := rfl
@[simp] theorem State.updMp_freg (p : Nat) (f : MetPoint → MetPoint) (s : State) : (s.updMp p f).freg = s.freg := rfl
@[simp] theorem State.updMp_guest (p : Nat) (f : MetPoint → MetPoint) (s : State) : (s.updMp p f).guest = s.guest := rfl
@[simp] theorem State.updMp_stop (p : Nat) (f : MetPoint → MetPoint) (s : State) : (s.updMp p f).stop = s.stop := rfl
@[simp] theorem State.updMp_rad (p : Nat) (f : MetPoint → MetPoint) (s : State) : (s.updMp p f).rad = s.rad := rfl
@[simp] theorem State.updMp_lake (p : Nat) (f : MetPoint → MetPoint) (s : State) : (s.updMp p f).lake = s.lake := rfl
@[simp] theorem State.updMp_lcnt (p : Nat) (f : MetPoint → MetPoint) (s : State) : (s.updMp p f).lcnt = s.lcnt := rfl
@[simp] theorem State.updMp_trk (p : Nat) (f : MetPoint → MetPoint) (s : State) : (s.updMp p f).trk = s.trk := rfl
@[simp] theorem State.updMp_loop (p : Nat) (f : MetPoint → MetPoint) (s : State) : (s.updMp p f).loop = s.loop := rfl
@[simp] theorem State.updMp_meas (p : Nat) (f : MetPoint → MetPoint) (s : State) : (s.updMp p f).meas = s.meas := rfl
@[simp] theorem State.updMp_mreg (p : Nat) (f : MetPoint → MetPoint) (s : State) : (s.updMp p f).mreg = s.mreg := rfl
@[simp] theorem State.updMp_lum (p : Nat) (f : MetPoint → MetPoint) (s : State) : (s.updMp p f).lum = s.lum := rfl
@[simp] theorem State.updMp_mets (p : Nat) (f : MetPoint → MetPoint) (s : State) : (s.updMp p f).mets = s.mets := rfl
@[simp] theorem State.updMp_tables (p : Nat) (f : MetPoint → MetPoint) (s : State) : (s.updMp p f).tables = s.tables := rfl
@[simp] theorem State.updMp_kept (p : Nat) (f : MetPoint → MetPoint) (s : State) : (s.updMp p f).kept = s.kept := rfl
@[simp] theorem State.updMp_latch (p : Nat) (f : MetPoint → MetPoint) (s : State) : (s.updMp p f).latch = s.latch := rfl
@[simp] theorem State.updMp_free (p : Nat) (f : MetPoint → MetPoint) (s : State) : (s.updMp p f).free = s.free := rfl
@[simp] theorem State.updMp_out (p : Nat) (f : MetPoint → MetPoint) (s : State) : (s.updMp p f).out = s.out := rfl
@[simp] theorem State.updMp_pending (p : Nat) (f : MetPoint → MetPoint) (s : State) : (s.updMp p f).pending = s.pending := rfl

/-! `State.updHs`: a host session. -/

@[simp] theorem State.updHs_sys (k : Nat) (f : HostSess → HostSess) (s : State) : (s.updHs k f).sys = s.sys := rfl
@[simp] theorem State.updHs_clk (k : Nat) (f : HostSess → HostSess) (s : State) : (s.updHs k f).clk = s.clk := rfl
@[simp] theorem State.updHs_tres (k : Nat) (f : HostSess → HostSess) (s : State) : (s.updHs k f).tres = s.tres := rfl
@[simp] theorem State.updHs_ao (k : Nat) (f : HostSess → HostSess) (s : State) : (s.updHs k f).ao = s.ao := rfl
@[simp] theorem State.updHs_cfg (k : Nat) (f : HostSess → HostSess) (s : State) : (s.updHs k f).cfg = s.cfg := rfl
@[simp] theorem State.updHs_time (k : Nat) (f : HostSess → HostSess) (s : State) : (s.updHs k f).time = s.time := rfl
@[simp] theorem State.updHs_treg (k : Nat) (f : HostSess → HostSess) (s : State) : (s.updHs k f).treg = s.treg := rfl
@[simp] theorem State.updHs_rcd (k : Nat) (f : HostSess → HostSess) (s : State) : (s.updHs k f).rcd = s.rcd := rfl
@[simp] theorem State.updHs_store (k : Nat) (f : HostSess → HostSess) (s : State) : (s.updHs k f).store = s.store := rfl
@[simp] theorem State.updHs_diag (k : Nat) (f : HostSess → HostSess) (s : State) : (s.updHs k f).diag = s.diag := rfl
@[simp] theorem State.updHs_flash (k : Nat) (f : HostSess → HostSess) (s : State) : (s.updHs k f).flash = s.flash := rfl
@[simp] theorem State.updHs_saved (k : Nat) (f : HostSess → HostSess) (s : State) : (s.updHs k f).saved = s.saved := rfl
@[simp] theorem State.updHs_keys (k : Nat) (f : HostSess → HostSess) (s : State) : (s.updHs k f).keys = s.keys := rfl
@[simp] theorem State.updHs_kreg (k : Nat) (f : HostSess → HostSess) (s : State) : (s.updHs k f).kreg = s.kreg := rfl
@[simp] theorem State.updHs_upd (k : Nat) (f : HostSess → HostSess) (s : State) : (s.updHs k f).upd = s.upd := rfl
@[simp] theorem State.updHs_ureg (k : Nat) (f : HostSess → HostSess) (s : State) : (s.updHs k f).ureg = s.ureg := rfl
@[simp] theorem State.updHs_pair (k : Nat) (f : HostSess → HostSess) (s : State) : (s.updHs k f).pair = s.pair := rfl
@[simp] theorem State.updHs_fleet (k : Nat) (f : HostSess → HostSess) (s : State) : (s.updHs k f).fleet = s.fleet := rfl
@[simp] theorem State.updHs_pub (k : Nat) (f : HostSess → HostSess) (s : State) : (s.updHs k f).pub = s.pub := rfl
@[simp] theorem State.updHs_inp (k : Nat) (f : HostSess → HostSess) (s : State) : (s.updHs k f).inp = s.inp := rfl
@[simp] theorem State.updHs_tick (k : Nat) (f : HostSess → HostSess) (s : State) : (s.updHs k f).tick = s.tick := rfl
@[simp] theorem State.updHs_freg (k : Nat) (f : HostSess → HostSess) (s : State) : (s.updHs k f).freg = s.freg := rfl
@[simp] theorem State.updHs_guest (k : Nat) (f : HostSess → HostSess) (s : State) : (s.updHs k f).guest = s.guest := rfl
@[simp] theorem State.updHs_stop (k : Nat) (f : HostSess → HostSess) (s : State) : (s.updHs k f).stop = s.stop := rfl
@[simp] theorem State.updHs_rad (k : Nat) (f : HostSess → HostSess) (s : State) : (s.updHs k f).rad = s.rad := rfl
@[simp] theorem State.updHs_lake (k : Nat) (f : HostSess → HostSess) (s : State) : (s.updHs k f).lake = s.lake := rfl
@[simp] theorem State.updHs_lcnt (k : Nat) (f : HostSess → HostSess) (s : State) : (s.updHs k f).lcnt = s.lcnt := rfl
@[simp] theorem State.updHs_trk (k : Nat) (f : HostSess → HostSess) (s : State) : (s.updHs k f).trk = s.trk := rfl
@[simp] theorem State.updHs_loop (k : Nat) (f : HostSess → HostSess) (s : State) : (s.updHs k f).loop = s.loop := rfl
@[simp] theorem State.updHs_meas (k : Nat) (f : HostSess → HostSess) (s : State) : (s.updHs k f).meas = s.meas := rfl
@[simp] theorem State.updHs_mreg (k : Nat) (f : HostSess → HostSess) (s : State) : (s.updHs k f).mreg = s.mreg := rfl
@[simp] theorem State.updHs_lum (k : Nat) (f : HostSess → HostSess) (s : State) : (s.updHs k f).lum = s.lum := rfl
@[simp] theorem State.updHs_met (k : Nat) (f : HostSess → HostSess) (s : State) : (s.updHs k f).met = s.met := rfl
@[simp] theorem State.updHs_mets (k : Nat) (f : HostSess → HostSess) (s : State) : (s.updHs k f).mets = s.mets := rfl
@[simp] theorem State.updHs_tables (k : Nat) (f : HostSess → HostSess) (s : State) : (s.updHs k f).tables = s.tables := rfl
@[simp] theorem State.updHs_kept (k : Nat) (f : HostSess → HostSess) (s : State) : (s.updHs k f).kept = s.kept := rfl
@[simp] theorem State.updHs_latch (k : Nat) (f : HostSess → HostSess) (s : State) : (s.updHs k f).latch = s.latch := rfl
@[simp] theorem State.updHs_free (k : Nat) (f : HostSess → HostSess) (s : State) : (s.updHs k f).free = s.free := rfl
@[simp] theorem State.updHs_out (k : Nat) (f : HostSess → HostSess) (s : State) : (s.updHs k f).out = s.out := rfl
@[simp] theorem State.updHs_pending (k : Nat) (f : HostSess → HostSess) (s : State) : (s.updHs k f).pending = s.pending := rfl

end Sys2Proof.Machine
end

