-- ==== Sys2Proof/Machine/Balls.lean ====
section
/-! DEFINITION. The output balls (R495, Table 19-2) and the JTAG port (R497, Table 13-7): what each is driven to in reset, in DORMANT and in
service, as a function of the state. -/

namespace Sys2Proof.Machine

/-- The reach of the JTAG port (Table 13-7). -/
inductive JtagReach where
  | none | normalWorld | full
deriving DecidableEq, Repr

/-- The reach that the life-cycle state gives the JTAG port (R497): in every state but VENDOR and SERVICE its inputs are ignored. -/
def State.jtag (s : State) : JtagReach :=
  if !s.powered then .none
  else match s.life with | .vendor => .full | .service => .normalWorld | .provision | .field | .retired => .none

/-- The outputs of Table 19-2 that the state sets. -/
inductive Ball where
  | femTx (radio : Fin 2) | femRx (radio : Fin 2) | tdo | stopSt | claimOut | forceOut | ppsOut (output : Fin 2) | phyRstN (mac : Fin 2)
  | uartTx (port : Fin 2) | mclk (pair : Fin 8) | led (string : Fin 24) | bstGate
  | spiIrqN
deriving DecidableEq, Repr

/-- What an output ball does: a level, no drive, or its function where that is no level: the JTAG port, a clock, a UART's frames, a sink of
so many mA, the gate's pulses at a duty in 2^-16. -/
inductive Drive where
  | low | high | hiZ | shifting | clock | frames | sink (milliamps : Nat) | gate (duty : Int)
deriving DecidableEq, Repr

/-- A level. -/
def Drive.level (high : Bool) : Drive := if high then .high else .low

/-- The unit is in reset as Table 19-2 means it: RESET_N low, or START before its configuration step (R495). -/
def State.ballReset (s : State) : Bool := s.sys.resetHeld || (decide (s.sys.mode = .start) && decide (s.sys.startStep ≤ 8))

/-- The state of a ball without VDD_CORE (Table 19-2, DORMANT). -/
def Ball.dormant : Ball → Drive
  | .led _ => .sink 0
  | .femTx _ | .femRx _ | .tdo | .stopSt | .claimOut | .forceOut | .ppsOut _ | .phyRstN _ | .uartTx _ | .mclk _ | .bstGate | .spiIrqN => .hiZ

/-- The state of a ball in reset (Table 19-2, Reset). -/
def Ball.inReset : Ball → Drive
  | .tdo | .stopSt | .spiIrqN => .hiZ
  | .uartTx _ => .high
  | .led _ => .sink 0
  | .femTx _ | .femRx _ | .claimOut | .forceOut | .ppsOut _ | .phyRstN _ | .mclk _ | .bstGate => .low

/-- The FEM mode of a radio's plan (Table 8-3). -/
def State.femMode (i : Nat) (s : State) : Nat := (s.planRec i).elim 0 (·.frontEnd)

/-- What an output ball is driven to (R188, R204, R323, R337, R413, R433, R439, R470, R495, R497). -/
def State.drive (b : Ball) (s : State) : Drive :=
  if !s.powered then b.dormant
  else if s.ballReset then b.inReset
  else
    match b with
      | .tdo => if s.jtag = .none then .hiZ else .shifting
      | .femTx i => .level (s.femLines i.val (s.femMode i.val) s.now).1
      | .femRx i => .level (s.femLines i.val (s.femMode i.val) s.now).2
      | .stopSt => if s.pair.claim then .level s.stopSt else .hiZ
      | .claimOut => .level s.pair.claim
      | .forceOut => .level s.pair.forceOut
      | .spiIrqN => if s.spiIrq then .low else .hiZ
      | .ppsOut n => .level (s.ppsLevel n.val)
      | .phyRstN m => .level (if m = 0 then s.clk.eth0 else s.clk.eth1)
      | .uartTx _ => .frames
      | .mclk p => if s.metering && s.pairUsed p.val then .clock else .low
      | .led n =>
        if s.onClocks n.val = 0 then .sink 0 else .sink ((s.strRec n.val).elim 0 (·.current))
      | .bstGate =>
        match s.lum.boost with
        | .softStart | .run => .gate ((s.obj 578).output / loopOne)
        | .off | .faultWait | .latched => .low

end Sys2Proof.Machine
end

