-- ==== Sys2Proof/WellFormed.lean ====
section
/-! DEFINITION. Well-formed commands: the operands that a carrier of their width can hold. A Lean type bounds the others. -/

namespace Sys2Proof
open Sys2Proof.Machine

/-- A number of 32 bits. -/
def word32 (v : Nat) : Bool := decide (v < 2 ^ 32)

/-- A number of 16 bits. -/
def half (v : Nat) : Bool := decide (v < 2 ^ 16)

/-- A CHP frame whose body the frame's length field can count (Table 18-3). -/
def Machine.ChpFrame.wf (f : ChpFrame) : Bool := decide (f.body.length < 65536)

/-- An ECC site that exists (Table 1-5): a slot of a queue, a record of the recorder's buffer. -/
def siteWf : EccSite → Bool
  | .queue _ slot => decide (slot < 4096)
  | .recorder index => decide (index < 4096)
  | .l1d _ | .l1i _ | .mram _ | .sram _ | .correlator _ | .session _ | .span _ | .profiler _ => true

/-- The samples of the Low band that reach a blanking threshold: rising positions among the 64,000 of a millisecond, levels up to 15 + 15
(R90, R96). -/
def hitsWf : Nat → List (Nat × Nat) → Bool
  | _, [] => true
  | lo, h :: hs => decide (lo ≤ h.1 ∧ h.1 < 64000 ∧ h.2 ≤ 30) && hitsWf (h.1 + 1) hs

/-- A sample of a converter: odd levels from -15 to 15 (R90). -/
def sampleWf (x : Sample) : Bool := decide (x.i.natAbs ≤ 15 ∧ x.q.natAbs ≤ 15 ∧ x.i % 2 = 1 ∧ x.q % 2 = 1)

/-- A channel's samples in a block: at most 80, of 24 bits (R413, R417). -/
def blockWf (b : BlockIn) : Bool :=
  decide (b.channel < 38) && decide (b.samples.length ≤ 80) && b.samples.all (fun x => decide (x.natAbs ≤ 2 ^ 23 - 1))

/-- A radio frame that the air can carry: a sequence number of one octet, at most 127 octets (R210). -/
def airWf (f : RxFrame) : Bool := decide (f.seq < 256) && decide (f.payload.length ≤ 127)

/-- A command is well-formed. -/
def Instr.wf : Instr → Bool
  | .powerOn _ => true
  | .resetNAsserted => true
  | .vddCorePor _ => true
  | .railMonitorTrip => true
  | .start input => decide (input.areasBad < 128) && decide (input.failures < 4096)
  | .startTimeout => true
  | .degradedSuccessionReset => true
  | .firmwareWatchdog => true
  | .viaductWaitRetry _ checks _ => decide (checks.length = 4)
  | .pairMismatchRecheck _ checks _ => decide (checks.length = 4)
  | .powerFailDetect blocks => blocks.all blockWf
  | .saveEnd => true
  | .powerRestored => true
  | .optimeTick => true
  | .counterCheckpoint => true
  | .trestleWindow cycles => decide (cycles.length ≤ 8000) && cycles.all (fun c => (c.keep.getD []).all (fun p => word32 p.1))
  | .bankOverstay _ _ address => word32 address
  | .worldWindowViolation _ _ _ address => word32 address
  | .scrubAccess _ site _ address => word32 address && siteWf site
  | .tableCommit _ entries _ => entries.all (fun e => decide (e.2.length ≤ 8))
  | .tableExchange _ => true
  | .arbitrationTick => true
  | .publishDeadline => true
  | .spectrumMonitorRun _ power => decide (power.length = 4096)
  | .notchEngaged _ _ _ _ => true
  | .blankEval hits => hitsWf 0 hits
  | .agcReferenceUpdate _ _ _ _ => true
  | .searchRequest request _ => decide (request.length = 32)
  | .searchRecordDone _ _ _ _ => true
  | .searchDone _ => true
  | .verifyDone _ _ _ _ _ => true
  | .noChannel _ => true
  | .handoverAccepted _ => true
  | .searchCancel _ => true
  | .aidRequeue => true
  | .lakeDomainStop => true
  | .antOpen _ _ => true
  | .antOpenRestored _ _ => true
  | .antShort _ _ => true
  | .antShortWaitEnd _ _ => true
  | .antShortCountReset => true
  | .antSupplyFault _ _ _ => true
  | .antSupplyRestored _ _ _ => true
  | .antRetry => true
  | .vddIo33Loss => true
  | .specLatch _ => true
  | .pairWideRegApply => true
  | .coherentIntervalEnd _ samples symbol =>
    decide (samples.length ≤ 1280000) && samples.all sampleWf && symbol.all (fun x => decide (x.2 < 16))
  | .fllTimeEnd _ => true
  | .pullinFailed _ => true
  | .chDropped _ => true
  | .reacqRequeue => true
  | .polarityReport _ _ => true
  | .trkChCfgWrite _ _ => true
  | .loopPeriodBoundary _ sample => decide (-(2 ^ 63) ≤ sample ∧ sample < 2 ^ 63)
  | .fixedPhaseApply _ => true
  | .epochLatch sky => sky.tow.all (fun p => decide (p.1 < 288)) && sky.slots.all (fun p => decide (p.1 < 288 ∧ 1 ≤ p.2 ∧ p.2 ≤ 24))
  | .auditEvaluate _ _ => true
  | .auditOverdue _ => true
  | .auditSnapshotDiscard _ => true
  | .anchorUpdate offsets => offsets.leap.all (fun n => decide (n < 256))
  | .refFault _ => true
  | .timeStep frame => frame.wf
  | .stepApply => true
  | .ppsEdge _ => true
  | .evtCapture _ _ _ => true
  | .evtPop _ => true
  | .ptpMessageRx _ message => decide (message.kind < 16) && half message.sequence
  | .ptpTx _ follow => follow.all half
  | .txtsStale _ => true
  | .radioWake _ => true
  | .radioSleep _ => true
  | .beaconEntry => true
  | .beaconStartTimeout => true
  | .stopEntry => true
  | .corrEntry => true
  | .downEntry _ => true
  | .upAssignedEntry => true
  | .upContentionEntry _ => true
  | .ceilingAckTimeout => true
  | .frameReceived _ frame => airWf frame
  | .report => true
  | .ask => true
  | .route => true
  | .audit => true
  | .join => true
  | .ackReceived _ _ => true
  | .sessionSilent _ => true
  | .nodeReport => true
  | .nodeContactMissed _ => true
  | .nodeDataSend => true
  | .pllUnlock _ => true
  | .paFault _ _ _ => true
  | .taskSubmit frame => frame.wf
  | .coreAsk _ _ => true
  | .coreDescriptorArrive _ descriptor => decide (descriptor.length = 64)
  | .coreTaskComplete _ => true
  | .dspFlush _ => true
  | .dspStatClr => true
  | .peekLatch _ _ _ => true
  | .xarbClassSet _ _ => true
  | .xarbAlarmClr => true
  | .forceRelease frame => frame.wf
  | .guestRequest frame => frame.wf
  | .guestAnswer frame => frame.wf
  | .guestRelease frame => frame.wf
  | .guestReleaseResend => true
  | .backboneAlive received => received.all ChpFrame.wf
  | .guestLost _ => true
  | .stopInput _ _ => true
  | .discrepancy => true
  | .stop frame => frame.wf
  | .release frame => frame.wf
  | .robotClose frame => frame.wf
  | .claimDecision _ => true
  | .claimBRecheck _ _ => true
  | .claimConflict => true
  | .forceInAsserted => true
  | .healthRefresh => true
  | .heartbeatSend => true
  | .heartbeatKeepaliveExpiry => true
  | .heartbeatReceived beat _ received => decide (received < 2 ^ 96) && decide (beat.sequence < 256) && decide (1 ≤ beat.unit ∧ beat.unit ≤ 2)
  | .heartbeatMissed => true
  | .viaductLinkDown _ => true
  | .viaductLinkUp _ => true
  | .tickDelta delta => word32 delta.tick
  | .deltaAck tick _ _ => word32 tick
  | .epochFrame _ => true
  | .ceiling _ c => decide (c ≤ 2 ^ 32)
  | .registerFrame address _ second => word32 address && word32 second
  | .configFrame _ checks => decide (checks.length = 4)
  | .resync tick _ => word32 tick
  | .handoverRequest => true
  | .handoverGrant tick => word32 tick
  | .handoverRefused _ => true
  | .handoverRetry => true
  | .swapInstant _ => true
  | .pairCtlHandover => true
  | .forceClr => true
  | .claimInReleased _ => true
  | .beaconWatch _ _ _ => true
  | .forceOutAssert => true
  | .cryptoJob _ _ _ _ => true
  | .keyUpdateAuthority frame => frame.wf
  | .keyUpdateWrite frame => frame.wf
  | .keyUpdateErase frame => frame.wf
  | .keyUpdateEpochSwitch frame => frame.wf
  | .keyUpdateConfigKey frame => frame.wf
  | .keyUpdateConfigRevoke frame => frame.wf
  | .keyUpdateLifecycle frame => frame.wf
  | .keyUpdateFloor frame => frame.wf
  | .epochSwitchApply => true
  | .previousEpochClear => true
  | .tamper _ => true
  | .vbatLow vbat => half vbat
  | .tempHigh _ => true
  | .updateBegin frame => frame.wf
  | .updateBlock frame _ => frame.wf
  | .updateQuery frame => frame.wf
  | .updateVerify frame => frame.wf
  | .verifyComplete => true
  | .verifyRestart => true
  | .trialConfirm => true
  | .trialExpired => true
  | .updCancel => true
  | .updRevert => true
  | .meterBlock blocks => blocks.all (fun b => blockWf b && decide (b.samples.length = 80))
  | .meterSecond => true
  | .meterCheckpoint _ => true
  | .bitstreamFault _ => true
  | .bitstreamRecovered _ => true
  | .snapshotLatch => true
  | .calWrite _ _ _ => true
  | .lumBasePeriod _ sink current => half sink && word32 current
  | .diagPulse _ => true
  | .boostHeadroomPeriod sinks output => decide (output < 1024) && sinks.all (fun p => half p.2.1 && word32 p.2.2)
  | .bstCsTrip => true
  | .boostFault _ output => decide (output < 1024)
  | .boostFaultWaitEnd => true
  | .boostRun output => decide (output < 1024)
  | .boostRetry => true
  | .stringRetry => true
  | .adjTestDue => true
  | .lumTest => true
  | .adjTest phaseA phaseB => decide (phaseA.length = 24) && decide (phaseB.length = 24)
  | .eventIntake _ data => decide (data.length ≤ 12)
  | .recordStore => true
  | .tokenRefill _ => true
  | .flush => true
  | .recFlushCmd => true
  | .archive _ _ => true
  | .recArchiveCmd => true
  | .archiveHourly => true
  | .recReadLatch _ => true
  | .diagOpen frame => frame.wf
  | .diagClose frame => frame.wf
  | .diagIdleTimeout => true
  | .diagInject _ _ address => word32 address
  | .diagCancel _ => true
  | .injectResult => true
  | .open_ frame => frame.wf
  | .auth frame => frame.wf
  | .close frame => frame.wf
  | .authPendingTimeout _ => true
  | .sessionIdleTimeout _ => true
  | .lockoutEnd _ => true
  | .closeOthers _ => true
  | .statusRead frame => frame.wf
  | .statusWrite frame => frame.wf
  | .restart frame => frame.wf
  | .nodeSend frame => frame.wf
  | .nodeLast frame => frame.wf
  | .configWrite frame => frame.wf
  | .configCommit frame => frame.wf
  | .reassemblyTimeout => true
  | .spiWriteFrame _ _ octets => decide (octets.length < 65536)
  | .spiReadReply _ => true
  | .spiReadStatus => true
  | .backboneRejected _ frame => frame.wf
  | .linkChanged _ _ _ => true
  | .resetNReleased _ => true
  | .manufacturingMessage _ => true
  | .boostFaultCountReset => true
  | .ptpAnnounceReceiptTimeout _ => true
  | .injectionDurationEnd => true
  | .vbatApplied => true

end Sys2Proof
end

