-- ==== Sys2Proof/Tests/Slice0.lean ====
section
/-! SUPPORT. Small tests: the fixtures of the witnesses; for every statement with hypotheses one theorem `witness_<statement>` that shows,
clause by clause, a state and operands that meet them together; for every check of WellFormed a term that it refuses. -/

set_option maxRecDepth 100000

namespace Sys2Proof.Tests
open Sys2Proof Sys2Proof.Machine

/-- The state after reset. -/
abbrev s0 : State := State.reset

/-- The records of a lone unit's image with one of most things. -/
def img : Image :=
  { head := ⟨0, 1, 0, 0, 7, 0, 0#384, 0#384, 0⟩, site := ⟨7, 0, 1, 0x1234, 18, []⟩
    station := ⟨0, 31, 0, 0, 0, 0, 600, 1, 1, 1, 60, 0, 0, 1000, 0⟩, unit := ⟨1, 50, 0, 0, 10, 60, 0, [10, 10, 10, 10], 250, 100⟩
    spans := [⟨1, 1, 2, 0, 1000, 1000, 1, 0xFF, 0xFFFF, 0⟩], piers := [], robots := [⟨0xABC, 1, 0, 3⟩]
    classes := [⟨0, 0, 1, 10, 1000, 500, 500, 500, 100, 10, 100, 100, 50⟩]
    queues := (List.range 28).map (fun q => ⟨q, 0, 4, 0, 0, 0⟩), triggers := [], budget := none
    plans := [⟨0, 2, 0, 3, 0, 0, 0, 0⟩, ⟨1, 2, 0, 3, 0, 0, 0, 0⟩], deck := [], nodes := [⟨0x101, 0, 0, 0xDEF, 60, 0, 1⟩]
    loops := [], points := [⟨0, 0, 0, 2, [0, 1, 2], 100, 230⟩], zones := [⟨0, 1, 2, 3, 0⟩], strings := [⟨0, 0, 1, 100, 1000, 1⟩]
    nets := [⟨0, 11, 41960, 1, 24, 2, 0, 0, [], 0, 0, 0⟩, ⟨1, 11, 41960, 2, 24, 1, 0, 0, [], 0, 0, 0⟩]
    accesses := [⟨0, 3, 0x3FF, 0, 16⟩], shared := [] }

/-- The same image of a member of a pair. -/
def pairImg : Image := { img with unit := { img.unit with pair := 1 } }

/-- A HOST key. -/
def hostSlot : KeySlot := { valid := true, kind := 4, length := 32, material := List.replicate 32 1#8 }

/-- An open session of host 0 on SPI. -/
def sess : HostSess := { inUse := true, authed := true, sid := 1#32, hostNonce := [1#8], unitNonce := [2#8] }

/-- A lone lead in service with one host session. -/
def lead : State :=
  { s0 with
    cfg.image := some img, sys.mode := .lead, pair.claim := true, time.running := true, time.servo := .tracking
    clk := ⟨true, true, 255#8, true, true, true, true, true, true, true, true, true, []⟩, keys.slots := [(16, hostSlot)]
    host.sessions := sess :: List.replicate 7 {}, met.settled := some 0, met.accumulating := true }

/-- A lead of a pair with its Viaduct up. -/
def pairLead : State := { lead with cfg.image := some pairImg, pair.viaUp := true }

/-- A standby that is mirrored. -/
def standby : State :=
  { lead with
    cfg.image := some pairImg, sys.mode := .shadow, pair.claim := false, pair.viaUp := true, pair.peerClaim := true
    pair.mirrored := true, pair.imageTick := some 0 }

/-- A unit in START with its image, waiting. -/
def starting : State := { lead with sys.mode := .start, pair.claim := false }

/-- The request of the open session with this body, under its MAC. -/
def req (s : State) (kind : Nat) (body : List Octet) : ChpFrame :=
  let f : ChpFrame := { source := .spi, length := BitVec.ofNat 16 body.length, session := 1#32, sequence := 1#32, body := body, mac := none }
  { f with mac := some (s.sessMac (s.hs 0) (f.octets kind)) }

/-- What is left to decide of `chpPasses` for such a request. -/
theorem req_passes (kind : Nat) (right : Option Nat) (leads : Bool) (s : State) (body : List Octet)
    (h : s.carries .spi = true ∧ body.length ≤ 4316 ∧ s.slotOf (req s kind body) true = some 0 ∧ s.admits (s.hs 0).host .spi = true ∧
      (s.hs 0).remembered = [] ∧ (s.hs 0).processing = [] ∧ (s.hs 0).lastSeq = 0 ∧ s.serves kind = true ∧
      (right.map (bit ((s.accessRec (s.hs 0).host).elim 0 (·.rights)))).getD true = true ∧ (leads = false ∨ s.isLead = true)) :
    chpPasses kind right leads (req s kind body) 0 s := by
  obtain ⟨h1, h2, h3, h4, h5, h6, h7, h8, h9, h10⟩ := h
  refine ⟨h1, ?_, (show (1#32) ≠ 0#32 from by decide), h3, h4, rfl, by simp [h5], h6, ?_, h8, h9, fun hl => h10.resolve_left (by simp [hl])⟩
  · have : body.length % 65536 = body.length := by omega
    simp [ChpFrame.formed, req, this, h2]
  · rw [h7]; exact (show 0 < (1#32).toNat from by decide)

/-- A request without a session and MAC. -/
def openReq (body : List Octet) : ChpFrame :=
  { source := .spi, flags := 0#8, length := BitVec.ofNat 16 body.length, session := 0#32, sequence := 1#32, body := body, mac := none }

/-- A request of the pending session, without a MAC. -/
def authReq (body : List Octet) : ChpFrame :=
  { source := .spi, flags := 0#8, length := 16#16, session := 1#32, sequence := 1#32, body := body, mac := none }

/-- A Deck entry. -/
def deckOctets (start length kind session flags : Nat) : List Octet := leBytes 2 start ++ leBytes 2 length ++ leBytes 1 kind ++ [0#8] ++ leBytes 1 session ++ leBytes 1 flags

/-- A search request for a GPS L1 C/A signal. -/
def sreq : SearchReq := ⟨⟨0, 1, 0, 0⟩, 3, 3, 5, 0, 0, 20, 8, 0, 5000, 500, 1, 10, 77⟩

/-- The octets of that request in the layout of Table 4-6. -/
def sreqOctets : List Octet :=
  [0, 1, 0, 0, 3, 3, 5, 0] ++ List.replicate 8 0 ++ [20, 0, 8, 0] ++ List.replicate 4 0 ++ [0x88, 0x13, 0xF4, 1, 1, 10, 77, 0]

/-- What START meets where nothing fails. -/
def startIn : StartIn := ⟨none, 0, false, 0, 0, [], none, none, 0, 0, 0, 0, 600, false, false, none, [], 0⟩
/-- What a takeover measures. -/
def take0 : TakeIn := ⟨0, 0, 0⟩
/-- A frame on air from robot 3. -/
def rx (s : State) : RxFrame :=
  let f : RxFrame := ⟨{}, 2, 0x1234, none, .short 3, false, true, 5, 0, 9, [0x10#8], 0#64, -60, 100 * perUs⟩
  { f with mic := Config.ccmMic (s.uplinkKey 0 (s.identityOf 0 f) s.epoch (s.keySlot 0).key (s.keySlot 2).key) (beBytes 8 (s.identityOf 0 f) ++ beBytes 4 f.counter ++ [6#8]) f.header f.payload }

/-- A lead with a backbone key. -/
def cellLead : State := { lead with keys.slots := [(4, { valid := true, kind := 3, length := 32, material := [] }), (16, hostSlot)] }
/-- A backbone frame of cell 1 under the key of slot 4. -/
def bframe (kind : Nat) (body : List Octet) : ChpFrame :=
  let f : ChpFrame := { source := .ethernet 0 0#32 0#16, flags := 6#8, length := BitVec.ofNat 16 body.length, session := 7#32, sequence := 0#32, body := body, mac := none }
  { f with mac := some (mac256 (cellLead.keySlot 4).key (f.octets kind)) }
theorem bframe_takes (kind n : Nat) (body : List Octet) (h : backboneFormed n (bframe kind body) = true) : backboneTakes kind n (bframe kind body) cellLead := by
  refine ⟨(show cellLead.carries (.ethernet 0 0#32 0#16) = true from by decide), by decide, by decide, h, ?_⟩
  have h1 : (bframe kind body).mac = some (mac256 (cellLead.keySlot 4).key ((bframe kind body).octets kind)) := rfl
  have h2 : (cellLead.keySlot 4).valid = true := by decide
  have h3 : (bframe kind body).session.toNat = cellLead.siteId := (show (7#32).toNat = cellLead.siteId from by decide)
  have h4 : (bframe kind body).sequence.toNat = 0 := rfl
  have h5 : tickOf cellLead.now = 0 := by decide
  have h6 : ∀ c, Tab.get none cellLead.host.backboneLast c = none := fun _ => rfl
  simp [State.backboneReject, h1, h2, h3, h4, h5, h6]

/-- A lead whose download of one block has begun. -/
def loading : State := { lead with upd.length := 4 }
/-- A block of the download. -/
def block0 : List Octet := List.replicate 4 0#8

/-- A lead with a pending session. -/
def pendingLead : State := { lead with host.sessions := { sess with authed := false } :: List.replicate 7 {} }
/-- The proof that its host owes. -/
def owed : List Octet := pendingLead.proof (ascii "CMT-CHP-HOST") (pendingLead.hs 0)

/-- No octet is its own successor, so this proof is not the one that the host owes. -/
theorem unowed : (((owed[0]?).getD 0#8 + 1#8) :: owed.drop 1) ≠ owed := fun h =>
  (show ∀ y : BitVec 8, y + 1#8 ≠ y from by decide) _ (congrArg (fun l : List Octet => (l[0]?).getD 0#8) h)

/-- A lead with a position fix. -/
def fixing : State := { lead with meas.sats := 4 }
theorem fixing_offset : fixing.gnssOffset ⟨some (5 + Config.groupDelay fixing.keys.fuse.calibration fixing.bandsUsed), true, none⟩ = some 5 := by
  have h : fixing.gnssUsable = true := by decide
  have hc : ((fixing.unitRec.map (fun u => u.cableDelay / 100)).getD 0) = 0 := by decide
  simp [State.gnssOffset, h, hc]

/-- Two blocks of six samples at full deflection. -/
def loud : List BlockIn := [⟨0, List.replicate 6 8000000⟩, ⟨6, List.replicate 6 8000000⟩, ⟨30, List.replicate 6 8000000⟩]
/-- The metering point of the image. -/
def point0 : PointRec := ⟨0, 0, 0, 2, [0, 1, 2], 100, 230⟩
theorem silent_energy : (lead.meterSamples []).blockEnergy point0 = (0, 0, 0) := by
  have h : ∀ c ∈ [0, 1, 2, 30, 31, 32], (Tab.get {} (lead.meterSamples []).met.chans c).block = [] := by decide
  have hp : point0.pairs = [(0, 30), (1, 31), (2, 32)] := by decide
  have h0 := h 0 (by simp); have h1 := h 1 (by simp); have h2 := h 2 (by simp)
  have h3 := h 30 (by simp); have h4 := h 31 (by simp); have h5 := h 32 (by simp)
  simp [State.blockEnergy, hp, h0, h1, h2, h3, h4, h5, dotInt, PointRec.energy, show isqrt 0 = 0 from by decide]

/-- A FIELD unit whose authority is the one of an all-zero public key; `a` says whether that digest is burnt. -/
def keyed (w : Nat) (a : Bool) : State :=
  { lead with keys.fuse.word := w, keys.fuse.authProg := a, keys.fuse.auth := if a then Config.sha384 (List.replicate 96 0#8) else 0#384
              keys.slots := [(1, { valid := true, kind := 1, length := 32, epoch := 1 }), (3, { valid := true, kind := 2, length := 32, epoch := 1 }),
                             (16, hostSlot)] }
/-- A key update message of a kind, argument and payload length with counter 1 for this unit, its other octets zero. -/
def keyBody (w : Nat) (a : Bool) (kind arg n : Nat) : List Octet :=
  [0x43#8, 0x4D#8, 0x4B#8, 0x55#8, 1#8, 0#8] ++ leBytes 2 (380 + n) ++ leBytes 1 kind ++ leBytes 1 arg ++ leBytes 2 n ++ leBytes 4 1 ++
    (keyed w a).identityDigest ++ List.replicate (316 + n) 0#8
/-- That message read. -/
def keyMess (w : Nat) (a : Bool) (kind arg n : Nat) : KeyMsg := ⟨kind, arg, n, 1, keyBody w a kind arg n⟩
/-- A message whose magic, version and lengths are right is read. -/
theorem key_read (b : List Octet) (h : slice b 0 4 = [0x43#8, 0x4D#8, 0x4B#8, 0x55#8] ∧ getLe b 4 2 = 1 ∧ getLe b 10 2 ≤ 72 ∧
    getLe b 6 2 = 380 + getLe b 10 2 ∧ b.length = 380 + getLe b 10 2) :
    keyMsg b = some ⟨getLe b 8 1, getLe b 9 1, getLe b 10 2, getLe b 12 4, b⟩ := if_pos h
/-- With its signature and its payload as the cipher, which is not part of the model, gives them, such a message passes the checks. -/
theorem key_ok (w : Nat) (a : Bool) (kind arg n : Nat) (p : List Octet) (h1 : keyMsg (keyBody w a kind arg n) = some (keyMess w a kind arg n))
    (h2 : slice (keyBody w a kind arg n) 16 48 = (keyed w a).identityDigest) (h3 : (keyed w a).authorityOk (keyMess w a kind arg n) = true)
    (h4 : (keyMess w a kind arg n).signed = true) (h5 : (keyed w a).counterOk 1 = true)
    (h6 : (keyed w a).kindRefusal (keyMess w a kind arg n) = none) (h7 : (keyed w a).keyPayload (keyMess w a kind arg n) = some p)
    (h8 : (keyed w a).payloadOk (keyMess w a kind arg n) p = true) :
    (keyed w a).keyChecks (keyBody w a kind arg n) = .ok (keyMess w a kind arg n, p) := by
  have h5' : (keyed w a).counterOk (keyMess w a kind arg n).counter = true := h5
  simp [State.keyChecks, h1, h2, h3, h4, h5', h6, h7, h8]

/-- Every step: the premises of the four statements over all steps met together, a counter's command waiting. -/
theorem witness_steps :
    (∃ s t : State, s.flash.wf = true ∧ Tab.wf {} s.met.points = true ∧ step s = .next t ∧ s.inService = true ∧ t.inService = true ∧
      (∀ b, s.pending.head? ≠ some (.meterBlock b)) ∧ (∀ b, s.pending.head? ≠ some (.powerFailDetect b))) :=
  ⟨{ lead with pending := [.optimeTick] }, { lead with out := [], ao.optime := 1 }, by decide, by decide, rfl, by decide, by decide,
    by simp, by simp⟩

/-- The premises of `StepRunsFront`. -/
theorem witness_StepRunsFront :
    (∃ (s : State), s.pending = [] ∧ s.sys.mode ≠ .dormant ∧ s.clk.system = true) ∧
    (∃ (s : State), s.pending = [] ∧ (s.sys.mode = .dormant ∨ s.clk.system = false)) :=
  ⟨⟨{ s0 with pending := [], clk.system := true }, by decide⟩,
    ⟨s0, by decide⟩⟩

/-- The premises of `EntriesToStart`. -/
theorem witness_EntriesToStart :
    (∃ (s : State) (p : Bool), s.sys.mode = .dormant) ∧
    (∃ (s : State), s.sys.mode ≠ .dormant ∧ ((s.sys.saving = false ∨ s.sys.saveEnded = true))) ∧
    (∃ (s : State), s.sys.mode ≠ .dormant ∧ ((s.sys.saving = false ∨ s.sys.saveEnded = true))) ∧
    (∃ (s : State), s.sys.mode ≠ .dormant ∧ s.sys.saving = false ∧ s.sys.resetHeld = false ∧ s.clk.cores ≠ 0#8) ∧
    (∃ (s : State), s.sys.mode ≠ .dormant ∧ s.sys.saving = true ∧ s.sys.saveEnded = true ∧ s.sys.resetHeld = false ∧ s.sys.degradedInSave
      = false) ∧
    (∃ (s : State), s.sys.mode = .start ∧ s.sys.watchdog = true ∧ s.sys.startStep < 12 ∧ s.sys.resetHeld = false ∧ s.sys.saving = false) ∧
    (∃ (s : State), s.sys.mode ≠ .dormant ∧ s.sys.saving = true ∧ s.sys.saveEnded = false) ∧
    (∃ (s : State) (p : Bool), s.sys.resetHeld = true ∧ s.sys.mode = .start ∧ s.sys.startStep = 0 ∧ s.sys.saving = false) ∧
    (∃ (s : State) (areas : Fin 8), s.sys.mode ≠ .dormant ∧ ((s.sys.saving = false ∨ s.sys.saveEnded = true ∨ areas.val < 6))) ∧
    (∃ (s : State) (areas : Fin 8), s.sys.mode ≠ .dormant ∧ s.sys.saving = true ∧ s.sys.saveEnded = false ∧ 6 ≤ areas.val ∧ s.rcd.fifo =
      [] ∧ s.rcd.lostRun = 0 ∧ s.store.unarchived + s.rcd.unflushed ≤ 32768) :=
  ⟨⟨{ s0 with sys.mode := .dormant }, true, by decide⟩,
    ⟨s0, by decide⟩,
    ⟨s0, by decide⟩,
    ⟨{ s0 with clk.cores := 1#8 }, by decide⟩,
    ⟨{ s0 with sys.saving := true, sys.saveEnded := true, sys.resetHeld := false, sys.degradedInSave := false }, by decide⟩,
    ⟨{ s0 with sys.mode := .start, sys.watchdog := true, sys.resetHeld := false, sys.saving := false }, by decide⟩,
    ⟨{ s0 with sys.saving := true, sys.saveEnded := false }, by decide⟩,
    ⟨{ s0 with sys.resetHeld := true, sys.mode := .start, sys.startStep := 0, sys.saving := false }, true, by decide⟩,
    ⟨s0, 2, by decide⟩,
    ⟨{ s0 with sys.saving := true }, 6, by decide⟩⟩

/-- The premises of `SaveRuns`. -/
theorem witness_SaveRuns :
    (∃ (s : State) (blocks : List BlockIn), s.sys.mode ≠ .dormant ∧ s.sys.saving = false ∧ s.sys.resetHeld = false ∧ ((s.sys.mode =
      .start → s.sys.restored = true))) ∧
    (∃ (s : State), s.sys.saving = true ∧ s.sys.saveEnded = false ∧ s.sys.resetDue = false ∧ s.rcd.fifo = [] ∧ s.rcd.lostRun = 0 ∧
      s.store.unarchived + s.rcd.unflushed ≤ 32768) :=
  ⟨⟨lead, [], by decide⟩,
    ⟨{ s0 with sys.saving := true, sys.saveEnded := false, sys.resetDue := false, rcd.fifo := [], rcd.lostRun := 0 }, by decide⟩⟩

/-- The premises of `AlwaysOnCounters`. -/
theorem witness_AlwaysOnCounters :
    (∃ (s : State), s.sys.mode ≠ .dormant) ∧
    (∃ (s : State), s.sys.mode ≠ .dormant ∧ s.sys.saving = false ∧ s.sys.restored = true ∧ s.time.running = true) ∧
    (∃ (s : State), s.sys.mode = .dormant) ∧
    (∃ (s : State) (n : Nat), s.sys.serviceSince = some n ∧ s.inService = true ∧ s.sys.degraded = false ∧ s.sys.saving = false) :=
  ⟨⟨s0, by decide⟩,
    ⟨{ s0 with sys.saving := false, sys.restored := true, time.running := true }, by decide⟩,
    ⟨{ s0 with sys.mode := .dormant }, by decide⟩,
    ⟨{ s0 with sys.serviceSince := some (1), sys.degraded := false, sys.saving := false, sys.mode := .lead }, 1, by decide⟩⟩

/-- The premises of `StartRuns`. -/
theorem witness_StartRuns :
    (∃ (s : State) (i : StartIn), s.sys.mode = .start ∧ s.sys.startStep = 0 ∧ s.sys.resetHeld = false ∧ s.sys.saving = false ∧ i.stall =
      some 0) ∧
    (∃ (s : State) (i : StartIn), s.sys.mode = .start ∧ s.sys.startStep = 0 ∧ s.sys.resetHeld = false ∧ s.sys.saving = false ∧
      s.diag.stallStep = none ∧ i.stall = some 1) ∧
    (∃ (s : State) (i : StartIn), s.sys.mode = .start ∧ s.sys.startStep = 0 ∧ s.sys.resetHeld = false ∧ s.sys.saving = false ∧
      s.diag.stallStep = none ∧ i.stall = some 2) ∧
    (∃ (s : State) (i : StartIn), s.sys.mode = .start ∧ s.sys.startStep = 0 ∧ s.sys.resetHeld = false ∧ s.sys.saving = false ∧
      s.diag.stallStep = none ∧ i.stall = none ∧ i.failures = 0 ∧ i.copyCut = none ∧ (s.flash.journalLast.getD {}).state = 0 ∧
      s.ureg.bootFallback = false ∧ s.sys.restricted = 0) ∧
    (∃ (s : State) (i : StartIn), s.sys.mode = .start ∧ s.sys.startStep = 0 ∧ s.sys.resetHeld = false ∧ s.sys.saving = false ∧
      s.diag.stallStep = none ∧ i.stall = none ∧ s.life = .field ∧ s.keys.pendingLc = none ∧ (s.flash.journalLast.getD {}).state = 0 ∧
      s.ureg.bootFallback = false ∧ s.fwOutcome fwActive ≠ 0 ∧ s.fwOutcome fwFallback ≠ 0) :=
  ⟨⟨s0, { startIn with stall := some 0 }, by decide⟩,
    ⟨s0, { startIn with stall := some 1 }, by decide⟩,
    ⟨s0, { startIn with stall := some 2 }, by decide⟩,
    ⟨{ s0 with sys.mode := .start, sys.startStep := 0, sys.resetHeld := false, sys.saving := false, diag.stallStep := none, ureg.bootFallback := false, sys.restricted := 0 },
      startIn, by decide⟩,
    ⟨{ s0 with keys.fuse.word := 3, flash := [fwActive, fwFallback].flatMap (fun b => (List.range 4).map (fun i => (b + 8 + i, 0#8))) },
      startIn, by decide⟩⟩

/-- The premises of `SaveOutranksReset`. -/
theorem witness_SaveOutranksReset :
    (∃ (s : State), s.sys.mode ≠ .dormant ∧ s.sys.saving = true ∧ s.sys.saveEnded = false) ∧
    (∃ (s : State), s.sys.saving = true ∧ s.sys.saveEnded = false ∧ s.sys.resetDue = true) ∧
    (∃ (s : State) (f : ChpFrame), s.sys.saving = true) :=
  ⟨⟨{ s0 with sys.saving := true, sys.saveEnded := false }, by decide⟩,
    ⟨{ s0 with sys.saving := true, sys.saveEnded := false, sys.resetDue := true }, by decide⟩,
    ⟨{ lead with sys.saving := true }, req lead 0x12 [], by decide⟩⟩

/-- The premises of `DetectionDuringStart`. -/
theorem witness_DetectionDuringStart :
    (∃ (s : State) (b : List BlockIn), s.sys.mode = .start ∧ s.sys.restored = false) ∧
    (∃ (s : State) (b : List BlockIn), s.sys.mode = .start ∧ s.sys.restored = true ∧ s.sys.saving = false ∧ s.sys.resetHeld = false ∧
      s.sys.saveEnded = false) :=
  ⟨⟨{ s0 with sys.mode := .start, sys.restored := false }, [], by decide⟩,
    ⟨{ s0 with sys.mode := .start, sys.restored := true, sys.saving := false, sys.resetHeld := false, sys.saveEnded := false }, [], by
      decide⟩⟩

/-- The premises of `TrestleServesRoundRobin`. -/
theorem witness_TrestleServesRoundRobin :
    (∃ (s : State), s.sys.mode ≠ .dormant) ∧
    (∃ (s : State) (c : BankCycle) (h : BankHold) (ws : List (Nat × Octet)), s.sys.mode ≠ .dormant ∧ s.tres.holder c.bank.val = some h ∧
      c.keep = some ws) ∧
    (∃ (s : State) (c : BankCycle) (h : BankHold) (a : Nat) (v : Octet), s.sys.mode ≠ .dormant ∧ s.tres.holder c.bank.val = some h ∧
      h.writes = [(a, v)] ∧ v ≠ 0#8 ∧ c.keep = none) ∧
    (∃ (s : State) (c : BankCycle), s.sys.mode ≠ .dormant ∧ s.tres.holder c.bank.val = none ∧ c.asking = 0#13 ∧ c.scrub = true) ∧
    (∃ (s : State) (c : BankCycle) (p : Nat) (d : Nat), s.sys.mode ≠ .dormant ∧ s.tres.pointer[c.bank.val]? = some p ∧ p < 13 ∧ d < 13 ∧
      s.tres.holder c.bank.val = none ∧ c.keep = none ∧ c.asking.getLsbD ((p + d) % 13) = true ∧ s.tres.frozen.getLsbD ((p + d) % 13) =
      false ∧ ((∀ e, e < d → c.asking.getLsbD ((p + e) % 13) = false ∨ s.tres.frozen.getLsbD ((p + e) % 13) = true))) :=
  ⟨⟨s0, by decide⟩,
    ⟨{ s0 with tres.holds := [(3, some ⟨1, 0, [(5, 7#8)]⟩)] }, ⟨3, 0#13, false, some [(6, 1#8)]⟩, ⟨1, 0, [(5, 7#8)]⟩, [(6, 1#8)], by
      decide⟩,
    ⟨{ s0 with tres.holds := [(3, some ⟨1, 0, [(5, 7#8)]⟩)] }, ⟨3, 0#13, false, none⟩, ⟨1, 0, [(5, 7#8)]⟩, 5, 7#8, by decide⟩,
    ⟨s0, ⟨3, 0#13, true, none⟩, by decide⟩,
    ⟨{ s0 with tres.frozen := 1#13 }, ⟨3, 0b110#13, false, none⟩, 0, 1, by decide⟩⟩

/-- The premises of `MastersFreeze`. -/
theorem witness_MastersFreeze :
    (∃ (s : State) (m : Fin 13) (w : Bool) (a : Nat), s.sys.mode ≠ .dormant ∧ m.val < 8 ∧ s.tres.frozen.getLsbD m.val = false ∧ bits
      (s.tres.frozen ||| BitVec.ofNat 13 (2 ^ m.val)).toNat 9 4 = 0 ∧ ones (s.tres.frozen ||| BitVec.ofNat 13 (2 ^ m.val)).toNat 0 8 < 3) ∧
    (∃ (s : State) (m : Fin 13) (w : Bool) (r : Fin 3) (a : Nat), s.sys.mode ≠ .dormant ∧ m.val < 8 ∧ s.tres.frozen.getLsbD m.val = false
      ∧ ((∀ v ∈ s.tres.windows, v.master = m.val → v.secure = w → bit v.perms r.val = true → a < v.base ∨ v.base + v.size ≤ a)) ∧ bits
      (s.tres.frozen ||| BitVec.ofNat 13 (2 ^ m.val)).toNat 9 4 = 0 ∧ ones (s.tres.frozen ||| BitVec.ofNat 13 (2 ^ m.val)).toNat 0 8 < 3) ∧
    (∃ (s : State) (m : Fin 13) (w : Bool) (r : Fin 3) (a : Nat), s.tres.frozen.getLsbD m.val = true) ∧
    (∃ (s : State) (m : Fin 13) (w : Bool) (r : Fin 3) (a : Nat) (v : WorldWindow), m.val < 8 ∧ v ∈ s.tres.windows ∧ v.master = m.val ∧
      v.secure = w ∧ bit v.perms r.val = true ∧ v.base ≤ a ∧ a < v.base + v.size) ∧
    (∃ (s : State) (m : Fin 13) (w : Bool) (a : Nat), s.sys.mode = .lead ∧ s.paired = false ∧ s.sys.degraded = false ∧ s.sys.saving =
      false ∧ 8 < m.val ∧ s.tres.frozen.getLsbD m.val = false ∧ bit s.cellSet causeDegraded = false) :=
  ⟨⟨s0, 0, true, 1, by decide⟩,
    ⟨s0, 0, true, 0, 1, by decide⟩,
    ⟨{ s0 with tres.frozen := 1#13 }, 0, true, 0, 1, by decide⟩,
    ⟨{ s0 with tres.windows := [⟨0, true, 16, 32, 4⟩] }, 0, true, 2, 47, ⟨0, true, 16, 32, 4⟩, by decide⟩,
    ⟨lead, 9, true, 1, by decide⟩⟩

/-- The premises of `EccFindings`. -/
theorem witness_EccFindings :
    (∃ (s : State) (site : EccSite) (a : Nat), s.diag.eccArmed = none) ∧
    (∃ (s : State) (c : Fin 8) (f : EccFinding) (a : Nat), s.diag.eccArmed = none) ∧
    (∃ (s : State) (site : EccSite) (a : Nat) (words : Nat) (period : Nat), s.sys.mode ≠ .dormant ∧ s.diag.eccArmed = none ∧ scrubPass
      site.memory = some (words, period)) ∧
    (∃ (s : State) (m : Option (Fin 13)) (a : Nat), s.sys.mode ≠ .dormant ∧ s.diag.eccArmed = none ∧ s.diag.active = none) ∧
    (∃ (s : State) (q : Fin 32) (k : Nat) (a : Nat), s.sys.mode ≠ .dormant ∧ s.diag.eccArmed = none ∧ s.diag.active = none) ∧
    (∃ (s : State) (site : EccSite) (a : Nat), ((site = .sram none ∨ (∃ c, site = .l1d c) ∨ (∃ m : Fin 13, 8 ≤ m.val ∧ site = .sram (some
      m)))) ∧ s.sys.mode ≠ .dormant ∧ s.diag.eccArmed = none) ∧
    (∃ (s : State) (site : EccSite) (a : Nat), (((∃ n, site = .session n) ∨ (∃ n, site = .span n) ∨ (∃ n, site = .profiler n))) ∧
      s.sys.mode = .lead ∧ s.paired = false ∧ s.sys.degraded = false ∧ s.sys.saving = false ∧ s.diag.eccArmed = none ∧ bit s.cellSet
      causeDegraded = false) :=
  ⟨⟨s0, .l1d 0, 1, by decide⟩,
    ⟨s0, 7, .correctable, 5, by decide⟩,
    ⟨s0, .sram none, 16383, 1572864, 60000000000, by decide⟩,
    ⟨s0, some 1, 1, by decide⟩,
    ⟨{ s0 with diag.eccArmed := none, diag.active := none }, 0, 1, 1, by decide⟩,
    ⟨s0, .sram (some 8), 1, .inr (.inr ⟨8, by decide⟩), by decide⟩,
    ⟨lead, .session 3, 1, .inl ⟨3, rfl⟩, by decide⟩⟩

/-- The premises of `TablesExchangeAtBoundary`. -/
theorem witness_TablesExchangeAtBoundary :
    (∃ (s : State) (n : Fin 5) (e : List (Nat × List Octet)) (c : Bool), s.sys.mode ≠ .dormant ∧ (s.table n.val).committed ≠ none) ∧
    (∃ (s : State) (n : Fin 5) (e : List (Nat × List Octet)) (c : Bool), s.sys.mode ≠ .dormant ∧ s.tables.length = 5 ∧ (s.table
      n.val).committed = none) ∧
    (∃ (s : State) (b : State) (n : Fin 5) (c : Nat), (n.val = 2 ∨ n.val = 3) ∧ s.sys.mode ≠ .dormant ∧ s.time.running = true ∧
      s.tables.length = 5 ∧ b = State.mark (20 + n.val) perSec { s with out := [] } ∧ (s.table n.val).committed = some c ∧ c + 50 * perUs
      ≤ b.now) ∧
    (∃ (s : State) (b : State) (c : Nat), s.sys.mode ≠ .dormant ∧ s.time.running = true ∧ s.tables.length = 5 ∧ b = State.mark 20 perSec
      { s with out := [] } ∧ (s.table 0).committed = some c ∧ c + 50 * perUs ≤ b.now) ∧
    (∃ (s : State) (b : State) (n : Fin 5), s.sys.mode ≠ .dormant ∧ s.time.running = true ∧ b = State.mark (20 + n.val) (if n.val = 4
      then 10 * perMs else perSec) { s with out := [] } ∧ ((∀ c, (s.table n.val).committed = some c → b.now < c + 50 * perUs))) :=
  ⟨⟨{ s0 with tables := [{ committed := some 0 }, {}, {}, {}, {}] }, 0, [], by decide⟩,
    ⟨s0, 4, [], by decide⟩,
    ⟨{ lead with tables := [{}, {}, {}, { committed := some 0 }, {}], time.frc := 1000000000#64 }, _, 3, 0, by decide, by decide, by
      decide, by decide, rfl, by decide, by decide⟩,
    ⟨{ lead with time.frc := 3000000000#64, tables := [{ committed := some 0 }, {}, {}, {}, {}] }, _, 0, by decide, by decide, by decide,
      rfl, by decide⟩,
    ⟨lead, _, 4, by decide, by decide, rfl, by simp [lead, State.table, s0, State.reset]⟩⟩

/-- The premises of `TickStages`. -/
theorem witness_TickStages :
    (∃ (s : State) (b : State), s.sys.mode = .shadow ∧ s.time.running = true ∧ s.tick = none ∧ b = State.mark 1 (10 * perMs) { s with out := [] }) ∧
    (∃ (s : State), s.isLead = true ∧ s.time.running = true ∧ s.sys.saving = false ∧ s.tick = none ∧ s.pair.unapplied = false) ∧
    (∃ (s : State) (o : TickOut), s.tick = some o ∧ s.pair.deltaDue = true ∧ s.pair.mirrored = true) ∧
    (∃ (s : State), s.tick = none) :=
  ⟨⟨standby, _, by decide, by decide, by decide, rfl⟩,
    ⟨{ s0 with time.running := true, sys.saving := false, tick := none, pair.unapplied := false, sys.mode := .lead, pair.claim := true },
      by decide⟩,
    ⟨{ lead with tick := some { tick := 3 }, pair.deltaDue := true, pair.mirrored := true }, { tick := 3 }, by decide⟩,
    ⟨{ s0 with tick := none }, by decide⟩⟩

/-- The premises of `AntennaBias`. -/
theorem witness_AntennaBias :
    (∃ (s : State) (c : BitVec 8) (v : BitVec 12), s.lake.ant = .on ∧ c.toNat < 2) ∧
    (∃ (s : State) (c : BitVec 8) (v : BitVec 12), (s.lake.ant = .passive ∨ s.lake.ant = .off)) ∧
    (∃ (s : State) (c : BitVec 8) (v : BitVec 12), s.lake.ant = .openCircuit ∧ 4 ≤ c.toNat) ∧
    (∃ (s : State) (c : BitVec 8) (v : BitVec 12), (s.lake.ant = .on ∨ s.lake.ant = .openCircuit) ∧ s.lake.shorts < 7 ∧ s.biasShorted
      c.toNat v.toNat = true) ∧
    (∃ (s : State) (b : State) (c : BitVec 8) (v : BitVec 12), s.lake.ant = .shortWait ∧ s.lake.shorts ≤ 4 ∧ b = State.atLeast
      (s.lake.antSince + 1000000000) { s with out := [] }) ∧
    (∃ (s : State) (b : State) (c : BitVec 8) (v : BitVec 12), s.lake.ant = .shortWait ∧ s.lake.shorts = 5 ∧ b = State.atLeast
      (s.lake.antSince + 1000000000) { s with out := [] }) ∧
    (∃ (s : State) (c : BitVec 8) (v : BitVec 12) (n : Nat), (s.lake.ant = .on ∨ s.lake.ant = .openCircuit) ∧ s.biasSupplyOk n = false) ∧
    (∃ (s : State) (c : BitVec 8) (v : BitVec 12) (n : Nat), s.lake.ant = .supplyFault ∧ s.biasSupplyOk n = true) ∧
    (∃ (s : State), s.lake.ant = .on) ∧
    (∃ (s : State), s.lake.ant = .latchedOff) ∧
    (∃ (s : State), s.lake.ant ≠ .latchedOff) :=
  ⟨⟨{ s0 with lake.ant := .on }, 1#8, 1#12, by decide⟩,
    ⟨s0, 1#8, 1#12, by decide⟩,
    ⟨{ s0 with lake.ant := .openCircuit }, 4#8, 1#12, by decide⟩,
    ⟨{ lead with lake.ant := .on, lake.shorts := 6 }, 1#8, 1#12, by decide⟩,
    ⟨{ s0 with lake.ant := .shortWait, lake.shorts := 4 }, _, 1#8, 1#12, by decide, by decide, rfl⟩,
    ⟨{ s0 with lake.ant := .shortWait, lake.shorts := 5 }, _, 1#8, 1#12, by decide, by decide, rfl⟩,
    ⟨{ lead with lake.ant := .openCircuit }, 1#8, 1#12, 1, by decide⟩,
    ⟨{ lead with lake.ant := .supplyFault }, 1#8, 1#12, lead.biasMv, by decide⟩,
    ⟨{ s0 with lake.ant := .on }, by decide⟩,
    ⟨{ s0 with lake.ant := .latchedOff }, by decide⟩,
    ⟨s0, by decide⟩⟩

/-- The premises of `SearchesRun`. -/
theorem witness_SearchesRun :
    (∃ (s : State) (o : List Octet) (d : Bool) (q : SearchReq) (r : Nat), q = (if d then (searchReqOf o).withDefaults else searchReqOf o)
      ∧ s.clk.gnss = true ∧ s.searchRefusal q = some r ∧ r ≠ 1) ∧
    (∃ (s : State) (o : List Octet) (d : Bool) (q : SearchReq), q = (if d then (searchReqOf o).withDefaults else searchReqOf o) ∧
      s.clk.gnss = true ∧ 32 ≤ s.lake.fifo.length) ∧
    (∃ (s : State) (o : List Octet) (d : Bool) (q : SearchReq), q = (if d then (searchReqOf o).withDefaults else searchReqOf o) ∧
      s.clk.gnss = true ∧ s.clk.lake = true ∧ s.domReady domLake = true ∧ s.searchRefusal q = none ∧ s.lake.slots = [] ∧ s.lake.fifo =
      []) ∧
    (∃ (s : State) (o : List Octet) (d : Bool) (q : SearchReq), q = (if d then (searchReqOf o).withDefaults else searchReqOf o) ∧
      s.clk.gnss = true ∧ s.clk.lake = false ∧ s.searchRefusal q = none) ∧
    (∃ (s : State) (n : Fin 96) (a : Nat) (d : Int) (r : Nat), ((s.slot n.val).state = .search ∨ (s.slot n.val).state = .verify) ∧
      s.diag.eccArmed = none ∧ s.lake.fifo = []) ∧
    (∃ (s : State) (n : Fin 96) (d : Int) (r : Nat), (s.slot n.val).state = .search ∧ s.diag.eccArmed = none ∧ s.lake.fifo = [] ∧ (s.slot
      n.val).ncDone < (s.slot n.val).req.nnc ∧ (s.slot n.val).peak ≤ r ∧ r < 65536) ∧
    (∃ (s : State) (n : Fin 96) (q : SearchReq) (p : Option Nat) (d : Int) (r : Nat), 0 < n.val ∧ s.diag.eccArmed = none ∧ s.clk.lake =
      true ∧ Tab.get 0 s.clk.readyAt domLake < 2 ^ 64 ∧ s.lake.slots = [] ∧ s.lake.fifo = [q]) ∧
    (∃ (s : State) (n : Fin 96), (s.slot n.val).state = .search ∧ (s.slot n.val).req.nnc ≤ (s.slot n.val).ncDone ∧ 10 * s.lake.detect ≤
      (s.slot n.val).ratio ∧ (s.slot n.val).since + (s.slot n.val).req.searchNs < 2 ^ 64) ∧
    (∃ (s : State) (n : Fin 96), (s.slot n.val).state = .search ∧ (s.slot n.val).req.nnc ≤ (s.slot n.val).ncDone ∧ (s.slot n.val).ratio <
      10 * s.lake.detect ∧ s.lake.fifo = []) ∧
    (∃ (s : State) (n : Fin 96) (r : Nat) (c : Nat) (p : Nat) (d : Int), (s.slot n.val).state = .verify ∧ (s.slot n.val).req.nnc ≤
      (s.slot n.val).ncDone ∧ r < 10 * s.lake.verify ∧ s.lake.fifo = []) ∧
    (∃ (s : State) (n : Fin 96), (s.slot n.val).state = .waitChannel ∧ s.lake.fifo = []) ∧
    (∃ (s : State) (g : BitVec 16) (n : Fin 96), (s.slot n.val).req.tag = g.toNat ∧ ((s.slot n.val).state = .search ∨ (s.slot
      n.val).state = .verify ∨ (s.slot n.val).state = .waitChannel) ∧ ((∀ q ∈ s.lake.fifo, q.tag = g.toNat))) :=
  ⟨⟨lead, sreqOctets, false, _, 3, rfl, by decide, by decide, by decide⟩,
    ⟨{ lead with lake.fifo := List.replicate 32 sreq }, sreqOctets, false, _, rfl, by decide, by decide⟩,
    ⟨{ lead with lake.sigEn := 1 }, sreqOctets, false, _, rfl, by decide, by decide, by decide, by decide, by decide, by decide⟩,
    ⟨{ lead with lake.sigEn := 1, clk.lake := false }, sreqOctets, false, _, rfl, by decide, by decide, by decide⟩,
    ⟨{ lead with lake.slots := [(3, { state := .verify, req := sreq, ncDone := 3, peak := 100 })] }, 3, 7, 5, 1, by decide⟩,
    ⟨{ lead with lake.slots := [(3, { state := .search, req := sreq, ncDone := 9, peak := 100 })] }, 3, 5, 100, by decide⟩,
    ⟨{ lead with lake.fifo := [sreq] }, 3, sreq, none, 5, 10, by decide⟩,
    ⟨{ lead with lake.slots := [(3, { state := .search, req := sreq, ncDone := 10, ratio := 1200 })] }, 3, by decide⟩,
    ⟨{ lead with lake.slots := [(3, { state := .search, req := sreq, ncDone := 10, peak := 1199 })] }, 3, by decide⟩,
    ⟨{ lead with lake.slots := [(3, { state := .verify, req := sreq, ncDone := 10, peak := 1199 })] }, 3, 999, 1, 1, 5, by decide⟩,
    ⟨{ lead with lake.slots := [(3, { state := .waitChannel, req := sreq, ncDone := 10, peak := 1199 })] }, 3, by decide⟩,
    ⟨{ lead with lake.slots := [(3, { state := .waitChannel, req := sreq, ncDone := 10, peak := 1199 })] }, 77#16, 3, by decide⟩⟩

/-- The premises of `HandoverToChannel`. -/
theorem witness_HandoverToChannel :
    (∃ (s : State) (n : Fin 96) (r : Nat) (c : Nat) (p : Nat) (d : Int), (s.slot n.val).state = .verify ∧ (s.slot n.val).req.nnc ≤
      (s.slot n.val).ncDone ∧ 10 * s.lake.verify ≤ r ∧ s.lake.xcorrCheck = false ∧ s.trk.channels = [] ∧ (s.slot n.val).req.target ≤ 287
      ∧ ((∀ v ∈ s.lake.slots, v.2.state ≠ .handover))) ∧
    (∃ (s : State) (n : Fin 96) (r : Nat) (c : Nat) (p : Nat) (d : Int), (s.slot n.val).state = .verify ∧ (s.slot n.val).req.nnc ≤
      (s.slot n.val).ncDone ∧ 10 * s.lake.verify ≤ r ∧ s.lake.xcorrCheck = false ∧ ((∀ k, k < 288 → (s.chan k).state ≠ .free))) ∧
    (∃ (s : State) (n : Fin 96) (c : Nat), (s.slot n.val).state = .handover ∧ (s.slot n.val).channel = some c ∧ (s.chan c).state = .free
      ∧ s.lake.fifo = []) :=
  ⟨⟨{ lead with lake.slots := [(3, { state := .verify, req := sreq, ncDone := 10 })], lake.xcorrCheck := false }, 3, 1000, 400, 9, 5, by
      decide⟩,
    ⟨{ lead with lake.slots := [(3, { state := .verify, req := sreq, ncDone := 10 })], lake.xcorrCheck := false, trk.channels := (List.range 288).map (fun k => (k, { state := .locked })) },
      3, 1000, 400, 9, 5, by decide⟩,
    ⟨{ lead with lake.slots := [(3, { state := .handover, req := sreq, channel := some 7 })] }, 3, 7, by decide⟩⟩

/-- The premises of `BandPaths`. -/
theorem witness_BandPaths :
    (∃ (s : State) (b : Fin 3) (p : List Int), s.clk.gnss = true ∧ s.lake.bands.length = 3 ∧ p.length = 4096) ∧
    (∃ (s : State) (b : Fin 3) (n : Fin 4) (o : Int) (d : BitVec 6) (v : Notch), s.clk.gnss = true ∧ s.lake.bands.length = 3 ∧ (s.band
      b.val).notches[n.val]? = some v ∧ v.state = 1 ∧ ((∀ w ∈ (s.band b.val).notches, w.state ≠ 2))) ∧
    (∃ (s : State) (b : Fin 3) (n : Fin 4) (o : Int) (r : Int) (a : Int) (d : BitVec 6) (v : Notch), s.clk.gnss = true ∧
      s.lake.bands.length = 3 ∧ (s.band b.val).notches[n.val]? = some v ∧ v.state = 2 ∧ ((∀ k w, (s.band b.val).notches[k]? = some w → k
      ≠ n.val → w.state ≠ 2)) ∧ r = 100 * max 1 ((s.ns - v.instant) / 1000000 : Nat) ∧ a = max (v.offset - r) (min o (v.offset + r))) ∧
    (∃ (s : State) (l : List (Nat × Nat)) (r : Nat × Nat × Nat) (n : Nat), s.clk.gnss = true ∧ r = blankGo s.lake.blankPost ((l.filter
      (fun h => s.lake.blankEn && decide (h.1 < 64000 ∧ s.lake.blankThreshold ≤ h.2))).map (·.1)) (s.lake.blankCarry, s.lake.blankCarry,
      0) ∧ n = r.2.1 - (r.1 - 64000)) ∧
    (∃ (s : State) (b : Fin 3) (g : Int) (f : BitVec 8), s.clk.gnss = true ∧ s.lake.bands.length = 3 ∧ s.bandFlagged b.val = false ∧ 0 ≤
      g ∧ g ≤ 120 ∧ (s.band b.val).reference = 0xFF ∧ (s.band b.val).learnCount = 599) ∧
    (∃ (s : State) (g : Int) (f : BitVec 8), s.clk.gnss = true ∧ s.lake.bands.length = 3 ∧ s.lake.blankEn = true) ∧
    (∃ (s : State) (v : Word), v.getLsbD 8 = true) ∧
    (∃ (s : State), s.clk.lake = true ∧ s.lake.fifo = [] ∧ ((∀ n ∈ s.lake.slots, n.2.state = .idle)) ∧ ((∀ b ∈ s.lake.bands, b.runPending
      = false))) ∧
    (∃ (s : State), s.lake.fifo ≠ []) ∧
    (∃ (s : State) (q : SearchReq) (c : Nat), s.lake.requeue = [(q, c)] ∧ (s.chan c).state = .free) ∧
    (∃ (s : State) (q : SearchReq) (c : Nat), s.lake.requeue = [(q, c)] ∧ (s.chan c).state = .locked ∧ sameSat (s.chan c).sig q.sig =
      true ∧ s.searchRefusal (State.aidedReq s.ns (s.chan c) q.sig.signal) = none ∧ s.duplicate q.sig = false ∧ s.lake.slots = [] ∧
      s.lake.fifo = [] ∧ s.clk.lake = true ∧ s.domReady domLake = true) :=
  ⟨⟨lead, 2, List.replicate 4096 3, by decide, by decide, by simp⟩,
    ⟨{ lead with lake.bands := [{}, {}, { notches := [{}, { state := 1 }, {}, {}] }] }, 2, 1, 5, 3#6, { state := 1 }, by decide⟩,
    ⟨{ lead with lake.bands := [{}, {}, { notches := [{}, { state := 2, offset := 100 }, {}, {}] }] }, 2, 1, 5, _, _, 3#6, { state := 2, offset := 100 },
      by decide, by decide, by decide, by decide, by rintro (_ | _ | _ | _ | k) w h hk <;> simp_all [State.band, Band.notches] <;>
      subst_vars <;> decide, rfl, rfl⟩,
    ⟨lead, [(5, 30)], _, _, by decide, rfl, rfl⟩,
    ⟨{ lead with lake.bands := [{}, { learnCount := 599 }, {}] }, 1, 9, 4#8, by decide⟩,
    ⟨lead, 9, 4#8, by decide⟩,
    ⟨lead, 0x101#32, by decide⟩,
    ⟨{ s0 with clk.lake := true, lake.fifo := [] }, by decide⟩,
    ⟨{ lead with lake.fifo := [sreq] }, by decide⟩,
    ⟨{ lead with lake.requeue := [(sreq, 4)] }, sreq, 4, by decide⟩,
    ⟨{ lead with lake.requeue := [({ sreq with sig := ⟨0, 1, 3, 0⟩ }, 4)], lake.sigEn := 0xFFFFF, trk.channels := [(4, { state := .locked, sig := ⟨0, 1, 0, 0⟩, doppler := 1000 })] },
      { sreq with sig := ⟨0, 1, 3, 0⟩ }, 4, by decide⟩⟩

/-- The premises of `PairWideWritesAtSecond`. -/
theorem witness_PairWideWritesAtSecond :
    (∃ (s : State) (b : State), s.sys.mode ≠ .dormant ∧ s.sys.saving = false ∧ s.time.running = true ∧ b = State.mark 27 perSec { s with out := [] }
      ∧ ((∀ p ∈ s.pair.regDue, secOf b.now < p.2.2))) ∧
    (∃ (s : State) (b : State) (v : Nat) (second : Nat), s.sys.mode ≠ .dormant ∧ s.sys.saving = false ∧ s.time.running = true ∧ b =
      State.mark 27 perSec { s with out := [] } ∧ s.pair.regDue = [(0x000100B0, v, second)] ∧ second ≤ secOf b.now) :=
  ⟨⟨{ lead with pair.regDue := [(0x100B0, 5, 2)] }, _, by decide, by decide, by decide, rfl, by decide⟩,
    ⟨{ lead with pair.regDue := [(0x100B0, 5, 0)] }, _, 5, 0, by decide, by decide, by decide, rfl, by decide⟩⟩

/-- The premises of `ChannelsTrack`. -/
theorem witness_ChannelsTrack :
    (∃ (s : State) (c : Fin 288), (s.chan c.val).state = .pullIn ∧ (s.chan c.val).entered + 10000000 * s.trk.fllTime < 2 ^ 64) ∧
    (∃ (s : State) (c : Fin 288) (i : Bool), (s.chan c.val).state ≠ .free ∧ (s.chan c.val).half = false ∧ (s.chan c.val).polarity = some
      i) ∧
    (∃ (s : State) (c : Fin 288) (i : Bool), (s.chan c.val).state ≠ .free ∧ halfBySync (s.chan c.val).sig.signal = false ∧ (s.chan
      c.val).half = true) ∧
    (∃ (s : State) (c : Fin 288) (v : Word), (s.chan c.val).state ≠ .free ∧ chanCfgOk (s.chan c.val).sig (chanCfgOf v.toNat) = true) ∧
    (∃ (s : State) (c : Fin 288) (v : Word), ((s.chan c.val).state = .free ∨ chanCfgOk (s.chan c.val).sig (chanCfgOf v.toNat) = false)) ∧
    (∃ (s : State) (b : State) (c : Fin 288), b = State.atLeast ((s.chan c.val).entered + 10000000 * s.trk.pullinMax) { s with out := [] }
      ∧ (s.chan c.val).state = .pullIn ∧ Tab.wf Channel.reset s.trk.channels = true ∧ s.lake.slots = [] ∧ s.lake.fifo = [] ∧ s.clk.lake =
      true ∧ b.domReady domLake = true ∧ reqInRange (reacqReq b.ns c.val (s.chan c.val)) = true ∧ bit s.lake.sigEn (s.chan
      c.val).sig.signal = true ∧ s.lake.lowJammed = false ∧ ((∀ v ∈ s.trk.channels, v.1 ≠ c.val → v.2.state ≠ .free → sameSignal v.2.sig
      (s.chan c.val).sig = false))) ∧
    (∃ (s : State) (b : State) (c : Fin 288), b = State.atLeast ((s.chan c.val).entered + 100000000 * s.trk.coastMax) { s with out := [] }
      ∧ (s.chan c.val).state = .coast ∧ Tab.wf Channel.reset s.trk.channels = true ∧ s.lake.slots = [] ∧ s.lake.fifo = [] ∧ s.clk.lake =
      true ∧ b.domReady domLake = true ∧ reqInRange (reacqReq b.ns c.val (s.chan c.val)) = true ∧ bit s.lake.sigEn (s.chan
      c.val).sig.signal = true ∧ s.lake.lowJammed = false ∧ ((∀ v ∈ s.trk.channels, v.1 ≠ c.val → v.2.state ≠ .free → sameSignal v.2.sig
      (s.chan c.val).sig = false))) ∧
    (∃ (s : State) (q : SearchReq) (w : Nat) (i : Nat), s.trk.requeue = [(q, w, i)] ∧ w < s.ns) ∧
    (∃ (s : State) (q : SearchReq) (w : Nat) (i : Nat), s.trk.requeue = [(q, w, i)] ∧ s.ns ≤ w ∧ s.trk.channels = [] ∧ s.searchRefusal
      (q.carried (s.ns - i)) = none ∧ s.lake.slots = [] ∧ s.lake.fifo = [] ∧ s.clk.lake = true ∧ s.domReady domLake = true) :=
  ⟨⟨{ lead with lake.sigEn := 0xFFFFF, trk.channels := [(7, { state := .pullIn, sig := ⟨0, 1, 0, 0⟩, half := true, fll := true })] }, 7,
      by decide⟩,
    ⟨{ lead with trk.channels := [(7, { state := .locked, polarity := some true })] }, 7, true, by decide⟩,
    ⟨{ lead with trk.channels := [(7, { state := .locked, sig := ⟨0, 1, 0, 0⟩, half := true })] }, 7, true, by decide⟩,
    ⟨{ lead with lake.sigEn := 0xFFFFF, trk.channels := [(7, { state := .locked, sig := ⟨0, 1, 0, 0⟩, half := true, fll := true })] }, 7,
      0x00A01008#32, by decide⟩,
    ⟨s0, 0, 1#32, by decide⟩,
    ⟨{ lead with lake.sigEn := 0xFFFFF, trk.channels := [(7, { state := .pullIn, sig := ⟨0, 1, 0, 0⟩, half := true, fll := true })] }, _,
      7, rfl, by decide, by decide, by decide, by decide, by decide, by decide, by decide, by decide, by decide, by decide⟩,
    ⟨{ lead with lake.sigEn := 0xFFFFF, trk.channels := [(7, { state := .coast, sig := ⟨0, 1, 0, 0⟩, half := true, fll := true })] }, _,
      7, rfl, by decide, by decide, by decide, by decide, by decide, by decide, by decide, by decide, by decide, by decide⟩,
    ⟨{ lead with trk.requeue := [(sreq, 4, 0)], time.frc := 5#64 }, sreq, 4, 0, by decide⟩,
    ⟨{ lead with trk.requeue := [(sreq, 5, 0)], time.frc := 5#64, lake.sigEn := 1 }, sreq, 5, 0, by decide⟩⟩

/-- The premises of `IntervalsAndLoops`. -/
theorem witness_IntervalsAndLoops :
    (∃ (s : State) (b : State) (c : Fin 288) (l : List Sample) (y : Option (Bool × Nat)) (u : TapSums) (ch : Channel), ch = s.chan c.val
      ∧ ch.state = .pullIn ∧ ch.fll = true ∧ s.clk.gnss = true ∧ b = State.atLeast (ch.instant + ch.toEpoch) { s with out := [] } ∧ u =
      ch.taps l) ∧
    (∃ (s : State) (b : State) (c : Fin 288) (l : List Sample) (ch : Channel) (v : Channel), ch = s.chan c.val ∧ ch.state = .pullIn ∧
      ch.fll = false ∧ s.clk.gnss = true ∧ b = State.atLeast (ch.instant + ch.toEpoch) { s with out := [] } ∧ v = ch.interval b.ns
      s.trk.pliLock s.trk.pliSlip l ∧ 100 ≤ v.pliGood ∧ 5 * s.trk.lockCn0 ≤ v.cn0 ∧ s.lake.autoAid = false ∧ ch.sig.signal ≠ 10) ∧
    (∃ (s : State) (b : State) (c : Fin 288) (l : List Sample) (ch : Channel) (v : Channel), ch = s.chan c.val ∧ (ch.state = .locked ∨
      ch.state = .synced) ∧ s.clk.gnss = true ∧ b = State.atLeast (ch.instant + ch.toEpoch) { s with out := [] } ∧ v = ch.interval b.ns
      s.trk.pliLock s.trk.pliSlip l ∧ v.pliBad < 100 ∧ v.window.foldl (fun a e => a + e.2.2) 0 < 1000 ∧ v.pliDip = false ∧ v.opposite <
      3) ∧
    (∃ (s : State) (b : State) (c : Fin 288) (l : List Sample) (ch : Channel) (v : Channel), ch = s.chan c.val ∧ (ch.state = .locked ∨
      ch.state = .synced) ∧ s.clk.gnss = true ∧ b = State.atLeast (ch.instant + ch.toEpoch) { s with out := [] } ∧ v = ch.interval b.ns
      s.trk.pliLock s.trk.pliSlip l ∧ 100 ≤ v.pliBad) ∧
    (∃ (s : State) (c : Fin 288) (l : List Sample) (y : Option (Bool × Nat)), (s.chan c.val).state = .free) ∧
    (∃ (s : State) (b : State) (x : Int), s.objRuns 576 = true ∧ (s.loopParams 3).fixed = false ∧ s.diag.loopDelay = none ∧ (s.obj
      576).due = none ∧ (s.obj 576).lateDue = none ∧ s.loop.jobs = [] ∧ b = State.mark (markLoop 0) perSec { s with out := [] }) ∧
    (∃ (s : State) (b : State) (x : Int) (u : Int) (f : Nat), s.objRuns 576 = true ∧ (s.loopParams 3).fixed = false ∧ s.diag.loopDelay =
      none ∧ (s.obj 576).due = some u ∧ (s.obj 576).lateDue = none ∧ u ≠ 0 ∧ s.loop.jobs = [] ∧ b = State.mark (markLoop 0) perSec { s with out := [] }
      ∧ (s.obj 576).finish = some f ∧ f ≤ 32 * b.ns) ∧
    (∃ (s : State) (b : State) (x : Int) (u : Int) (f : Nat), s.objRuns 576 = true ∧ (s.loopParams 3).fixed = false ∧ s.diag.loopDelay =
      none ∧ (s.obj 576).due = some u ∧ (s.obj 576).lateDue = none ∧ s.loop.jobs = [] ∧ b = State.mark (markLoop 0) perSec { s with out := [] }
      ∧ (s.obj 576).finish = some f ∧ 32 * b.ns < f) ∧
    (∃ (s : State) (o : Fin 580) (c : Nat) (x : Int) (u : Int), o.val = 2 * c ∧ c < 288 ∧ s.objRuns o.val = true ∧ (s.chan c).fresh =
      true ∧ (s.loopParams 0).fixed = false ∧ s.diag.loopDelay = none ∧ (s.obj o.val).due = some u ∧ (s.obj o.val).lateDue = none ∧ u ≠ 0
      ∧ s.loop.jobs = [] ∧ s.finished o.val = true) ∧
    (∃ (s : State) (b : State) (o : Fin 580) (u : Int), s.objRuns o.val = true ∧ (s.loopParams (objKind o.val)).fixed = true ∧ (s.obj
      o.val).due = some u ∧ b = State.atLeast ((s.obj o.val).boundary + ceilDiv (125 * (s.loopParams (objKind o.val)).offset) 32) { s with out := [] }
      ∧ b.finished o.val = false) ∧
    (∃ (s : State) (b : State) (u : Int), s.objRuns 578 = true ∧ (s.loopParams 4).fixed = true ∧ (s.obj 578).due = some u ∧ u ≠ 0 ∧ b =
      State.atLeast ((s.obj 578).boundary + ceilDiv (125 * (s.loopParams 4).offset) 32) { s with out := [] } ∧ b.finished 578 = true) ∧
    (∃ (s : State) (o : Fin 580) (x : Int), s.objRuns o.val = false) :=
  ⟨⟨{ lead with lake.autoAid := false, trk.channels := [(7, { state := .pullIn, sig := ⟨0, 1, 0, 0⟩, coh := 1, pli := 65536, pliGood := 99, pliBad := 0, fll := true, window := [(100000, 1, 1)] })] },
      _, 7, [], none, _, _, rfl, by decide, by decide, by decide, rfl, rfl⟩,
    ⟨{ lead with lake.autoAid := false, trk.channels := [(7, { state := .pullIn, sig := ⟨0, 1, 0, 0⟩, coh := 1, pli := 65536, pliGood := 99, pliBad := 0, fll := false, window := [(100000, 1, 1)] })] },
      _, 7, [], _, _, rfl, by decide, by decide, by decide, rfl, rfl, by decide, by decide, by decide, by decide⟩,
    ⟨{ lead with lake.autoAid := false, trk.channels := [(7, { state := .locked, sig := ⟨0, 1, 0, 0⟩, coh := 1, pli := 65536, pliGood := 99, pliBad := 0, fll := false, window := [(100000, 1, 1)] })] },
      _, 7, [], _, _, rfl, by decide, by decide, rfl, rfl, by decide, by decide, by decide, by decide⟩,
    ⟨{ lead with lake.autoAid := false, trk.channels := [(7, { state := .locked, sig := ⟨0, 1, 0, 0⟩, coh := 1, pli := 0, pliGood := 99, pliBad := 99, fll := false, window := [(100000, 1, 1)] })] },
      _, 7, [], _, _, rfl, by decide, by decide, rfl, rfl, by decide⟩,
    ⟨lead, 7, [], none, by decide⟩,
    ⟨lead, _, 5, by decide, by decide, by decide, by decide, by decide, by decide, rfl⟩,
    ⟨{ lead with loop.objects := [(576, { LoopObj.reset with due := some 9, finish := some 0 })] }, _, 5, 9, 0, by decide, by decide, by
      decide, by decide, by decide, by decide, by decide, rfl, by decide, by decide⟩,
    ⟨{ lead with loop.objects := [(576, { LoopObj.reset with due := some 9, finish := some (2 ^ 50) })] }, _, 5, 9, 2 ^ 50, by decide, by
      decide, by decide, by decide, by decide, by decide, rfl, by decide, by decide⟩,
    ⟨{ lead with loop.objects := [(14, { LoopObj.reset with due := some 9, finish := some 0 })], trk.channels := [(7, { state := .locked, fresh := true })] },
      14, 7, 5, 9, by decide⟩,
    ⟨{ lead with loop.objects := [(576, { LoopObj.reset with due := some 9, finish := none })], cfg.image := some { img with loops := [⟨3, 1, 1, 1, 100, 0xFFFFFFFF, 0⟩] } },
      _, 576, 9, by decide, by decide, by decide, rfl, by decide⟩,
    ⟨{ lead with loop.objects := [(578, { LoopObj.reset with due := some 9, finish := some 0 })], lum.boost := .run, cfg.image := some { img with loops := [⟨4, 1, 1, 1, 100, 0xFFFFFFFF, 0⟩] } },
      _, 9, by decide, by decide, by decide, by decide, rfl, by decide⟩,
    ⟨s0, 578, 5, by decide⟩⟩

/-- The premises of `PositionAudits`. -/
theorem witness_PositionAudits :
    (∃ (s : State) (n : Fin 256) (sats : List SatState) (v : AuditSnap) (e : RingEntry) (b : Baseline) (h : Nat) (w : Nat), s.isLead =
      true ∧ (s.rs n.val).state ≠ 0 ∧ (s.rs n.val).snap = some v ∧ v.complete = true ∧ s.meas.ring.find? (fun (x : RingEntry) => decide
      (x.second = fullSecond (secOf s.now) v.epoch)) = some e ∧ e.valid = true ∧ 6 ≤ (satellites (e.obs.filter (·.published))).length ∧
      (s.rs n.val).audit.seen.contains (fullSecond (secOf s.now) v.epoch) = false ∧ b = baselineOf s.basePos sats v e.obs ∧ h =
      (s.classRec (s.sessClass n.val)).elim 0 (·.auditH) ∧ w = (s.classRec (s.sessClass n.val)).elim 0 (·.auditV)) ∧
    (∃ (s : State) (n : Fin 256) (sats : List SatState) (v : AuditSnap), s.isLead = true ∧ (s.rs n.val).state ≠ 0 ∧ (s.rs n.val).snap =
      some v ∧ v.complete = true ∧ ((∀ x ∈ s.meas.ring, x.second ≠ fullSecond (secOf s.now) v.epoch)) ∧ (s.rs n.val).audit.seen.contains
      (fullSecond (secOf s.now) v.epoch) = false) ∧
    (∃ (s : State) (n : Fin 256) (sats : List SatState) (v : AuditSnap), s.isLead = true ∧ (s.rs n.val).state ≠ 0 ∧ (s.rs n.val).snap =
      some v ∧ v.complete = true ∧ (s.rs n.val).audit.seen.contains (fullSecond (secOf s.now) v.epoch) = true) ∧
    (∃ (s : State) (n : Fin 256) (c : ClassRec), s.isLead = true ∧ (s.rs n.val).state ≠ 0 ∧ (s.rs n.val).audit.hold = false ∧ s.classRec
      (s.sessClass n.val) = some c ∧ c.auditPeriod ≠ 0) ∧
    (∃ (s : State) (n : Fin 256) (v : AuditSnap), (s.rs n.val).state ≠ 0 ∧ (s.rs n.val).snap = some v ∧ v.complete = false) ∧
    (∃ (s : State) (n : Fin 256) (v : AuditSnap), (s.rs n.val).snap = some v ∧ v.complete = true) :=
  ⟨⟨{ lead with time.frc := 70000000000#64, fleet.sessions := [(3, { state := 1, snap := some { epoch := 70, count := 1, began := 0, parts := [(0, some [])] } })], meas.ring := [⟨70, true, (List.range 6).map (fun v => ⟨⟨0, v, 0, 0⟩, v, 0, 0, 0, 0, 400, 0, false, false, false, false, false, false, false, false, 0, true⟩)⟩] },
      3, [], { epoch := 70, count := 1, began := 0, parts := [(0, some [])] }, ⟨70, true, (List.range 6).map (fun v => ⟨⟨0, v, 0, 0⟩, v,
      0, 0, 0, 0, 400, 0, false, false, false, false, false, false, false, false, 0, true⟩)⟩, _, _, _, by decide, by decide, by decide,
      by decide, by decide, by decide, by decide, by decide, rfl, rfl, rfl⟩,
    ⟨{ lead with time.frc := 70000000000#64, fleet.sessions := [(3, { state := 1, snap := some { epoch := 70, count := 1, began := 0, parts := [(0, some [])] } })] },
      3, [], { epoch := 70, count := 1, began := 0, parts := [(0, some [])] }, by decide⟩,
    ⟨{ lead with time.frc := 70000000000#64, fleet.sessions := [(3, { state := 1, snap := some { epoch := 70, count := 1, began := 0, parts := [(0, some [])] }, audit := { seen := [70] } })], meas.ring := [⟨70, true, (List.range 6).map (fun v => ⟨⟨0, v, 0, 0⟩, v, 0, 0, 0, 0, 400, 0, false, false, false, false, false, false, false, false, 0, true⟩)⟩] },
      3, [], { epoch := 70, count := 1, began := 0, parts := [(0, some [])] }, by decide⟩,
    ⟨{ lead with fleet.sessions := [(3, { state := 1 })] }, 3, ⟨0, 0, 1, 10, 1000, 500, 500, 500, 100, 10, 100, 100, 50⟩, by decide⟩,
    ⟨{ lead with fleet.sessions := [(3, { state := 1, snap := some { epoch := 70, count := 2, began := 0, parts := [(0, some [])] } })] },
      3, { epoch := 70, count := 2, began := 0, parts := [(0, some [])] }, by decide⟩,
    ⟨{ lead with fleet.sessions := [(3, { state := 1, snap := some { epoch := 70, count := 1, began := 0, parts := [(0, some [])] } })] },
      3, { epoch := 70, count := 1, began := 0, parts := [(0, some [])] }, by decide⟩⟩

/-- The premises of `EpochsLatched`. -/
theorem witness_EpochsLatched :
    (∃ (s : State) (e : EpochIn), s.inService = true ∧ s.sys.saving = false ∧ s.time.running = true ∧ s.clk.gnss = true) ∧
    (∃ (s : State) (e : EpochIn), s.inService = false) ∧
    (∃ (s : State) (f : EpochFrame), s.sys.mode = .shadow ∧ s.sys.saving = false ∧ s.pair.viaUp = true ∧ s.diag.viaCorrupt = none ∧ ((∀ x
      ∈ s.meas.ring, x.second ≠ f.second)) ∧ f.survey.base ≠ 3) ∧
    (∃ (s : State) (f : EpochFrame) (e : RingEntry), s.sys.mode = .shadow ∧ s.sys.saving = false ∧ s.pair.viaUp = true ∧
      s.diag.viaCorrupt = none ∧ s.meas.ring.find? (fun (x : RingEntry) => decide (x.second = f.second)) = some e ∧ s.meas.align = [] ∧
      s.meas.clkRun = []) ∧
    (∃ (s : State) (d : Int), s.sys.mode = .lead ∧ s.paired = false ∧ s.sys.degraded = false ∧ s.sys.saving = false ∧ bit s.cellSet
      causeDegraded = false) :=
  ⟨⟨lead, ⟨[], [], []⟩, by decide⟩,
    ⟨s0, ⟨[], [], []⟩, by decide⟩,
    ⟨standby, ⟨9, [], {}⟩, by decide⟩,
    ⟨{ standby with meas.ring := [⟨9, true, []⟩] }, ⟨9, [], {}⟩, ⟨9, true, []⟩, by decide⟩,
    ⟨lead, 5, by decide⟩⟩

/-- The premises of `WholeSecondOfTime`. -/
theorem witness_WholeSecondOfTime :
    (∃ (s : State) (o : SecondOffsets), s.time.running = true ∧ s.sys.mode ≠ .shadow ∧ s.time.ctlGnss = false ∧ s.time.ctlPtp = false ∧
      s.time.servo = .holdover ∧ s.time.initDue = none) ∧
    (∃ (s : State) (o : SecondOffsets), s.time.running = true ∧ s.sys.mode ≠ .shadow ∧ s.time.ctlGnss = false ∧ s.time.ctlPtp = false ∧
      s.time.servo = .tracking ∧ 2 ≤ s.time.noOffset ∧ s.time.initDue = none) ∧
    (∃ (s : State) (o : SecondOffsets) (v : Int), s.time.running = true ∧ s.sys.mode ≠ .shadow ∧ s.time.ctlGnss = true ∧
      s.time.biasFrozen = false ∧ s.time.servo = .tracking ∧ s.time.initDue = none ∧ s.gnssOffset o = some v ∧ v.natAbs ≤
      s.jumpThreshold) :=
  ⟨⟨{ lead with time.ctlGnss := false, time.ctlPtp := false, time.servo := .holdover }, ⟨some 5, true, none⟩, by decide⟩,
    ⟨{ lead with time.ctlGnss := false, time.ctlPtp := false, time.noOffset := 2 }, ⟨some 5, true, none⟩, by decide⟩,
    ⟨fixing, ⟨some (5 + Config.groupDelay fixing.keys.fuse.calibration fixing.bandsUsed), true, none⟩, 5, by decide, by decide, by
      decide, by decide, by decide, by decide, fixing_offset, by decide⟩⟩

/-- The premises of `HostTimeStep`. -/
theorem witness_HostTimeStep :
    (∃ (s : State) (f : ChpFrame) (k : Nat), chpPasses 0x0070 (some 7) true f k s ∧ f.body.length = 16 ∧ zeros f.body 12 4 = true ∧
      s.sys.mode = .hold ∧ s.time.servo ≠ .provisional ∧ s.time.step = none ∧ getLeS f.body 0 8 ≠ 0) ∧
    (∃ (s : State) (st : TimeStep), s.time.step = some st ∧ s.sys.mode = .hold) ∧
    (∃ (s : State) (st : TimeStep), s.time.step = some st ∧ s.sys.mode = .lead) :=
  ⟨⟨{ lead with sys.mode := .hold }, req ({ lead with sys.mode := .hold }) 0x70 ([5#8] ++ List.replicate 15 0#8), 0, req_passes _ _ _ _
      _ (by decide), by decide⟩,
    ⟨{ lead with sys.mode := .hold, time.step := some ⟨5, 0, 3⟩ }, ⟨5, 0, 3⟩, by decide⟩,
    ⟨{ lead with time.step := some ⟨5, 0, 3⟩ }, ⟨5, 0, 3⟩, by decide⟩⟩

/-- The premises of `PulsesAndCaptures`. -/
theorem witness_PulsesAndCaptures :
    (∃ (s : State) (n : Fin 2) (p : Pps), s.time.running = true ∧ s.time.pps[n.val]? = some p ∧ p.mode = 2) ∧
    (∃ (s : State) (n : Fin 8) (r : Bool) (q : Fin 4) (i : CaptureIn), s.time.running = true ∧ s.time.evt[n.val]? = some i ∧ bit (bits
      s.time.evtEdge (2 * n.val) 2) (if r = true then 0 else 1) = true ∧ i.last = none ∧ i.fifo.length < 8) ∧
    (∃ (s : State) (n : Fin 8) (r : Bool) (q : Fin 4) (i : CaptureIn) (l : Nat), s.time.running = true ∧ s.time.evt[n.val]? = some i ∧
      bit (bits s.time.evtEdge (2 * n.val) 2) (if r = true then 0 else 1) = true ∧ i.last = some l ∧ 4 * s.ns + q.val < l + 160) ∧
    (∃ (s : State) (n : Fin 8) (r : Bool) (q : Fin 4) (i : CaptureIn) (l : Nat), s.time.running = true ∧ s.time.evt[n.val]? = some i ∧
      bit (bits s.time.evtEdge (2 * n.val) 2) (if r = true then 0 else 1) = true ∧ i.last = some l ∧ l + 160 ≤ 4 * s.ns + q.val ∧ 8 ≤
      i.fifo.length) :=
  ⟨⟨{ lead with time.pps := [{}, { mode := 2, period := 1000 }] }, 1, { mode := 2, period := 1000 }, by decide⟩,
    ⟨{ lead with time.evtEdge := 1, time.frc := 90#64, time.evt := [{}, {}, {}, {}, {}, {}, {}, {}] }, 0, true, 3, {}, by decide⟩,
    ⟨{ lead with time.evtEdge := 1, time.frc := 90#64, time.evt := [{ last := some 201 }, {}, {}, {}, {}, {}, {}, {}] }, 0, true, 0, { last := some 201 },
      201, by decide⟩,
    ⟨{ lead with time.evtEdge := 1, time.frc := 90#64, time.evt := [{ last := some 200, fifo := List.replicate 8 ⟨0, false, false, false⟩ }, {}, {}, {}, {}, {}, {}, {}] },
      0, true, 0, { last := some 200, fifo := List.replicate 8 ⟨0, false, false, false⟩ }, 200, by decide⟩⟩

/-- The premises of `PtpPorts`. -/
theorem witness_PtpPorts :
    (∃ (s : State) (m : Fin 2) (g : PtpMsg), s.time.ptp.length = 2 ∧ (s.port m.val).state = .listening ∧ s.ptpRole m.val = 2 ∧ (s.netRec
      m.val).map (·.ptpDomain) = some g.domain ∧ g.supported = true ∧ g.kind = 0xB) ∧
    (∃ (s : State) (m : Fin 2) (g : PtpMsg), s.time.ptp.length = 2 ∧ (s.port m.val).state ≠ .disabled ∧ (s.netRec m.val).map
      (·.ptpDomain) = some g.domain ∧ g.supported = false) ∧
    (∃ (s : State) (m : Fin 2) (g : PtpMsg), (s.port m.val).state = .master ∧ s.ptpRole m.val = 1 ∧ s.mayMaster = true ∧ (s.netRec
      m.val).map (·.ptpDomain) = some g.domain ∧ g.supported = true ∧ g.kind = 1) ∧
    (∃ (s : State) (m : Fin 2), s.time.ptp.length = 2 ∧ s.ptpRole m.val = 1 ∧ (s.port m.val).state = .master ∧ s.mayMaster = true ∧
      (s.port m.val).queue.length < 16) ∧
    (∃ (s : State) (m : Fin 2), s.time.ptp.length = 2 ∧ s.ptpRole m.val = 2 ∧ (s.port m.val).state = .slave ∧ (s.port m.val).queue.length
      < 16) ∧
    (∃ (s : State) (m : Fin 2) (n : Nat) (e : TxStamp), s.time.ptp.length = 2 ∧ s.ptpRole m.val = 1 ∧ (s.port m.val).state = .master ∧
      s.mayMaster = true ∧ (s.port m.val).queue.find? (fun x => decide (x.kind = 0 ∧ x.sequence = n)) = some e) ∧
    (∃ (s : State) (m : Fin 2), s.time.ptp.length = 2) ∧
    (∃ (s : State) (m : Fin 2), s.time.ptp.length = 2 ∧ (s.port m.val).state = .slave) ∧
    (∃ (s : State) (m : Fin 2), s.time.ptp.length = 2 ∧ (s.port m.val).state = .passive) :=
  ⟨⟨{ lead with time.ptp := [{ state := .listening }, { state := .master }] }, 0, ⟨0xB, 0, true, 3, 9, {}, 0, 0, true⟩, by decide⟩,
    ⟨{ lead with time.ptp := [{ state := .listening }, { state := .master }] }, 0, ⟨0xB, 0, false, 3, 9, {}, 0, 0, true⟩, by decide⟩,
    ⟨{ lead with time.ptp := [{ state := .listening }, { state := .master }] }, 1, ⟨1, 0, true, 3, 9, {}, 0, 0, true⟩, by decide⟩,
    ⟨{ lead with time.ptp := [{ state := .listening }, { state := .master }] }, 1, by decide⟩,
    ⟨{ lead with time.ptp := [{ state := .slave }, { state := .master }] }, 0, by decide⟩,
    ⟨{ lead with time.ptp := [{}, { state := .master, queue := [⟨0, 0, 5, 0⟩] }] }, 1, 5, ⟨0, 0, 5, 0⟩, by decide⟩,
    ⟨{ lead with time.ptp := [{ state := .slave }, { state := .master }] }, 0, by decide⟩,
    ⟨{ lead with time.ptp := [{ state := .slave }, { state := .master }] }, 0, by decide⟩,
    ⟨{ lead with time.ptp := [{ state := .slave }, { state := .passive }] }, 1, by decide⟩⟩

/-- The premises of `RadioDomainsAndFaults`. -/
theorem witness_RadioDomainsAndFaults :
    (∃ (s : State) (i : Fin 2) (e : DeckEntry) (b : Nat), s.inService = true ∧ s.sys.saving = false ∧ (s.radio i.val).awake = false ∧
      s.time.running = true ∧ s.nextEntry i.val (entryMark i.val 9) (-((300 * perUs : Nat) : Int)) (DeckEntry.uses i.val) = some (e, b)) ∧
    (∃ (s : State) (i : Fin 2), s.inService = true ∧ (s.radio i.val).awake = true ∧ s.time.running = true ∧ (s.radio i.val).deck = []) ∧
    (∃ (s : State) (e : DeckEntry) (b : Nat), entryServed 0 5 0 e b s) ∧
    (∃ (s : State) (i : Fin 2) (e : DeckEntry) (b : Nat), entryServed i.val 6 0 e b s) ∧
    (∃ (s : State) (i : Fin 2), s.inService = true) ∧
    (∃ (s : State) (i : Fin 2) (d : Fin 2) (w : BitVec 16), s.inService = true) :=
  ⟨⟨{ lead with rad.a.deck := [(64, deckOctets 0 40 4 0 0)] }, 0, deckEntry (deckOctets 0 40 4 0 0), 100 * perMs, by decide⟩,
    ⟨{ lead with rad.b.awake := true }, 1, by decide⟩,
    ⟨{ lead with rad.a.deck := [(64, deckOctets 0 40 5 0 0)], rad.a.awake := true }, deckEntry (deckOctets 0 40 5 0 0), 100 * perMs, ⟨by
      decide, by decide, by decide, by decide, by decide, by decide, by decide, by decide⟩⟩,
    ⟨{ lead with rad.b.deck := [(64, deckOctets 0 40 6 0 0)], rad.b.awake := true }, 1, deckEntry (deckOctets 0 40 6 0 0), 100 * perMs,
      ⟨by decide, by decide, by decide, by decide, by decide, by decide, by decide, by decide⟩⟩,
    ⟨{ s0 with sys.mode := .lead }, 0, by decide⟩,
    ⟨{ s0 with sys.mode := .lead }, 0, 0, 1#16, by decide⟩⟩

/-- The premises of `BroadcastEntries`. -/
theorem witness_BroadcastEntries :
    (∃ (s : State) (e : DeckEntry) (b : Nat) (c : Nat), entryServed 0 1 beaconRead e b s ∧ s.rad.late = none ∧ sendFree 0 (s.bcastKey 0)
      74 b (e.stop b) c s) ∧
    (∃ (s : State) (e : DeckEntry) (b : Nat), s.inService = true ∧ s.time.running = true ∧ s.nextEntry 0 (entryMark 0 8) beaconLimit (fun
      e => decide (e.kind = 1)) = some (e, b) ∧ s.rad.beaconStart = some b ∧ s.rad.txFail = false) ∧
    (∃ (s : State) (e : DeckEntry) (b : Nat), s.sys.mode = .lead ∧ s.time.running = true ∧ s.onAirAllowed = true ∧ s.nextEntry 0
      (entryMark 0 8) beaconLimit (fun e => decide (e.kind = 1)) = some (e, b) ∧ s.rad.beaconStart ≠ some b ∧ s.rad.skipAt ≠ some b ∧
      s.rad.late = none ∧ s.rad.serveFrom ≤ b ∧ s.sys.degraded = false ∧ s.hasStandby = false) ∧
    (∃ (s : State) (e : DeckEntry) (b : Nat), s.sys.mode = .lead ∧ s.time.running = true ∧ s.onAirAllowed = true ∧ s.nextEntry 0
      (entryMark 0 8) beaconLimit (fun e => decide (e.kind = 1)) = some (e, b) ∧ s.rad.beaconStart ≠ some b ∧ s.rad.skipAt ≠ some b ∧
      s.rad.late = none ∧ s.rad.serveFrom ≤ b ∧ s.sys.degraded = false ∧ s.hasStandby = true ∧ s.sys.succession < 3) ∧
    (∃ (s : State) (e : DeckEntry) (b : Nat) (c : Nat), entryServed 0 2 (-((250 * perUs : Nat) : Int)) e b s ∧ s.cellSet ≠ 0 ∧ sendFree 0
      (s.bcastKey 0) 29 b (e.stop b) c s) ∧
    (∃ (s : State) (e : DeckEntry) (b : Nat) (c : Nat), entryServed 0 3 0 e b s ∧ s.meas.job = none ∧ s.meas.airFrom ≤ b ∧
      s.corrOctets.take (corrRoom e.length) ≠ [] ∧ sendFree 0 (s.bcastKey 0) (27 + (s.corrOctets.take (corrRoom e.length)).length) b
      (e.stop b) c s) ∧
    (∃ (s : State) (e : DeckEntry) (b : Nat), entryServed 0 3 0 e b s ∧ s.meas.job = none ∧ (b < s.meas.airFrom ∨ s.onAirAllowed =
      false)) :=
  ⟨⟨{ lead with rad.a.deck := [(64, deckOctets 0 40 1 0 0)], rad.a.awake := true }, deckEntry (deckOctets 0 40 1 0 0), 100 * perMs, 0,
      ⟨by decide, by decide, by decide, by decide, by decide, by decide, by decide, by decide⟩, by decide, ⟨by decide, by decide, by
      decide, by decide, by decide, by decide⟩⟩,
    ⟨{ lead with rad.a.deck := [(64, deckOctets 0 40 1 0 0)], rad.beaconStart := some (100 * perMs) }, deckEntry (deckOctets 0 40 1 0 0),
      100 * perMs, by decide⟩,
    ⟨{ lead with rad.a.deck := [(64, deckOctets 0 40 1 0 0)] }, deckEntry (deckOctets 0 40 1 0 0), 100 * perMs, by decide⟩,
    ⟨{ lead with rad.a.deck := [(64, deckOctets 0 40 1 0 0)], cfg.image := some pairImg, pair.peerMode := 4 }, deckEntry (deckOctets 0 40
      1 0 0), 100 * perMs, by decide⟩,
    ⟨{ lead with rad.a.deck := [(64, deckOctets 100 10 2 0 0)], rad.a.awake := true, fleet.cell := 1 }, deckEntry (deckOctets 100 10 2 0
      0), 110 * perMs, 0, ⟨by decide, by decide, by decide, by decide, by decide, by decide, by decide, by decide⟩, by decide, ⟨by
      decide, by decide, by decide, by decide, by decide, by decide⟩⟩,
    ⟨{ lead with rad.a.deck := [(64, deckOctets 200 60 3 0 0)], rad.a.awake := true, meas.airQueue := [⟨1005, List.replicate 30 7#8⟩] },
      deckEntry (deckOctets 200 60 3 0 0), 120 * perMs, 0, ⟨by decide, by decide, by decide, by decide, by decide, by decide, by decide,
      by decide⟩, by decide, by decide, by decide, ⟨by decide, by decide, by decide, by decide, by decide, by decide⟩⟩,
    ⟨{ lead with rad.a.deck := [(64, deckOctets 200 60 3 0 0)], rad.a.awake := true, pair.forceIn := true }, deckEntry (deckOctets 200 60
      3 0 0), 120 * perMs, ⟨by decide, by decide, by decide, by decide, by decide, by decide, by decide, by decide⟩, by decide, by
      decide⟩⟩

/-- The premises of `UnicastFrames`. -/
theorem witness_UnicastFrames :
    (∃ (s : State) (e : DeckEntry) (u : Unicast) (b : Nat) (k : Nat) (c : Nat), entryServed 0 4 0 e b s ∧ s.entryAt 0 s.now = none ∧
      s.fleet.unicast = [u] ∧ u.radio = 0 ∧ u.kind ≠ 0x21 ∧ u.sent = 0 ∧ s.unicastKey u = some k ∧ s.rad.a.sentEnd < b ∧ b + perNs *
      (s.airNs 0 u.psdu + 200000 + s.airNs 0 7) ≤ e.stop b ∧ sendFree 0 k u.psdu b (e.stop b) c s) ∧
    (∃ (s : State) (i : Fin 2) (q : BitVec 8) (a : AwaitAck), s.inService = true ∧ (s.radio i.val).sent = some a ∧ a.seq = q.toNat ∧
      a.frame.kind ∉ [0x05, 0x07, 0x21, 0x22]) ∧
    (∃ (s : State) (q : BitVec 8) (a : AwaitAck), s.inService = true ∧ s.rad.a.sent = some a ∧ a.seq = q.toNat ∧ a.frame.kind = 0x07 ∧
      (s.rs a.frame.dest).state ≠ 0 ∧ Tab.wf {} s.fleet.sessions = true ∧ Tab.wf 0 s.fleet.causes = true) ∧
    (∃ (s : State) (e : DeckEntry) (u : Unicast) (a : Nat) (b : Nat) (m : Nat) (k : Nat) (key : Nat) (c : Nat), s.rad.b.contact = some
      (a, m, k) ∧ k < 4 ∧ s.fleet.unicast = [u] ∧ u.radio = 1 ∧ u.kind = 0x21 ∧ u.dest = a ∧ u.sent = 0 ∧ s.unicastKey u = some key ∧
      s.entryAt 1 m = some (e, b) ∧ 1000 * perUs + m + perNs * (s.airNs 1 u.psdu + 200000 + s.airNs 1 11) ≤ e.stop b ∧ sendFree 1 key
      u.psdu (1000 * perUs + m) (e.stop b) c s) ∧
    (∃ (s : State) (k : Nat) (n : Nat) (c : Nat), s.pair.ceilingDue = [(k, n)] ∧ (Tab.get {} s.rad.keys k).raised = some c ∧ Tab.wf {}
      s.rad.keys = true) :=
  ⟨⟨{ lead with rad.a.deck := [(64, deckOctets 200 60 4 0 0)], rad.a.awake := true, fleet.sessions := [(3, { state := 1, identity := 9 })], fleet.unicast := [{ radio := 0, kind := 0x05, dest := 3, extended := false, payload := [5#8], tick := 0 }] },
      deckEntry (deckOctets 200 60 4 0 0), { radio := 0, kind := 0x05, dest := 3, extended := false, payload := [5#8], tick := 0 }, 120 *
      perMs, sendKeyNo 0 2 9, 0, ⟨by decide, by decide, by decide, by decide, by decide, by decide, by decide, by decide⟩, by decide, by
      decide, by decide, by decide, by decide, by decide, by decide, by decide, ⟨by decide, by decide, by decide, by decide, by decide,
      by decide⟩⟩,
    ⟨{ lead with rad.b.sent := some ⟨7, .short 3, { radio := 0, kind := 0x01, dest := 3, extended := false, payload := [], tick := 0 }⟩ },
      1, 7#8, ⟨7, .short 3, { radio := 0, kind := 0x01, dest := 3, extended := false, payload := [], tick := 0 }⟩, by decide⟩,
    ⟨{ lead with rad.a.sent := some ⟨7, .short 3, { radio := 0, kind := 0x07, dest := 3, extended := false, payload := [], tick := 0 }⟩, fleet.sessions := [(3, { state := 1, identity := 9 })] },
      7#8, ⟨7, .short 3, { radio := 0, kind := 0x07, dest := 3, extended := false, payload := [], tick := 0 }⟩, by decide⟩,
    ⟨{ lead with rad.b.deck := [(64, deckOctets 200 600 6 0 2)], rad.b.contact := some (0x101, 121 * perMs, 0), fleet.unicast := [{ radio := 1, kind := 0x21, dest := 0x101, extended := false, payload := [0x21#8, 1#8, 5#8], tick := 0 }] },
      deckEntry (deckOctets 200 600 6 0 2), { radio := 1, kind := 0x21, dest := 0x101, extended := false, payload := [0x21#8, 1#8, 5#8], tick := 0 },
      0x101, 120 * perMs, 121 * perMs, 0, sendKeyNo 0 3 0xDEF, 0, by decide, by decide, by decide, by decide, by decide, by decide, by
      decide, by decide, by decide, by decide, ⟨by decide, by decide, by decide, by decide, by decide, by decide⟩⟩,
    ⟨{ lead with pair.ceilingDue := [(5, 1)], rad.keys := [(5, { raised := some 8192 })] }, 5, 1, 8192, by decide⟩⟩

/-- The premises of `FramesReceived`. -/
theorem witness_FramesReceived :
    (∃ (s : State) (i : Fin 2) (f : RxFrame), s.isLead = true ∧ s.sys.saving = false ∧ f.phr.unsupported = false ∧ s.hears i.val f = true
      ∧ f.fcsOk = false) ∧
    (∃ (s : State) (i : Fin 2) (f : RxFrame), s.isLead = true ∧ s.sys.saving = false ∧ f.phr.unsupported = false ∧ s.hears i.val f = true
      ∧ f.fcsOk = true ∧ s.headerOk i.val f = true ∧ s.micOk i.val f = false) ∧
    (∃ (s : State) (i : Fin 2) (f : RxFrame), s.isLead = true ∧ s.sys.saving = false ∧ f.phr.unsupported = false ∧ s.hears i.val f = true
      ∧ f.fcsOk = true ∧ s.headerOk i.val f = true ∧ s.micOk i.val f = true ∧ (s.dupOf i.val f).isDup f.seq = false ∧ f.counter < Tab.get
      0 s.fleet.counters (sendKeyNo ((s.epochOf f).elim 0 (·.1)) (2 + i.val) (s.identityOf i.val f))) ∧
    (∃ (s : State) (a : Nat) (f : RxFrame), s.isLead = true ∧ s.sys.saving = false ∧ f.phr.unsupported = false ∧ s.hears 0 f = true ∧
      f.fcsOk = true ∧ f.source = .short a ∧ s.headerOk 0 f = true ∧ s.micOk 0 f = true ∧ (s.dupOf 0 f).isDup f.seq = false ∧ Tab.get 0
      s.fleet.counters (sendKeyNo ((s.epochOf f).elim 0 (·.1)) 2 (s.identityOf 0 f)) ≤ f.counter) ∧
    (∃ (s : State) (i : Fin 2) (f : RxFrame), s.sys.mode = .shadow ∧ s.sys.saving = false ∧ f.phr.unsupported = false ∧ s.hears i.val f =
      true ∧ s.pair.imageTick.isSome = true) ∧
    (∃ (s : State) (i : Fin 2) (f : RxFrame), s.inService = true ∧ s.sys.saving = false ∧ f.phr.unsupported = true) :=
  ⟨⟨{ lead with rad.a.deck := [(0, deckOctets 0 40 6 0 0)], fleet.sessions := [(3, { state := 1, identity := 9 })] }, 0, { rx ({ lead with rad.a.deck := [(0, deckOctets 0 40 6 0 0)], fleet.sessions := [(3, { state := 1, identity := 9 })] }) with fcsOk := false },
      by decide⟩,
    ⟨{ lead with rad.a.deck := [(0, deckOctets 0 40 6 0 0)], fleet.sessions := [(3, { state := 1, identity := 9 })] }, 0, { rx ({ lead with rad.a.deck := [(0, deckOctets 0 40 6 0 0)], fleet.sessions := [(3, { state := 1, identity := 9 })] }) with keyIndex := 9 },
      by decide⟩,
    ⟨{ lead with rad.a.deck := [(0, deckOctets 0 40 6 0 0)], fleet.counters := [(sendKeyNo 0 2 9, 10)], fleet.sessions := [(3, { state := 1, identity := 9 })] },
      0, rx ({ lead with rad.a.deck := [(0, deckOctets 0 40 6 0 0)], fleet.counters := [(sendKeyNo 0 2 9, 10)], fleet.sessions := [(3, { state := 1, identity := 9 })] }),
      by decide, by decide, by decide, by decide, by decide, by decide, decide_eq_true rfl, by decide, by decide⟩,
    ⟨{ lead with rad.a.deck := [(0, deckOctets 0 40 6 0 0)], fleet.sessions := [(3, { state := 1, identity := 9 })] }, 3, rx ({ lead with rad.a.deck := [(0, deckOctets 0 40 6 0 0)], fleet.sessions := [(3, { state := 1, identity := 9 })] }),
      by decide, by decide, by decide, by decide, by decide, rfl, by decide, decide_eq_true rfl, by decide, by decide⟩,
    ⟨{ standby with rad.a.deck := [(0, deckOctets 0 40 6 0 0)], fleet.sessions := [(3, { state := 1, identity := 9 })] }, 0, rx ({ standby with rad.a.deck := [(0, deckOctets 0 40 6 0 0)], fleet.sessions := [(3, { state := 1, identity := 9 })] }),
      by decide⟩,
    ⟨{ lead with rad.a.deck := [(0, deckOctets 0 40 6 0 0)], fleet.sessions := [(3, { state := 1, identity := 9 })] }, 0, { rx ({ lead with rad.a.deck := [(0, deckOctets 0 40 6 0 0)], fleet.sessions := [(3, { state := 1, identity := 9 })] }) with phr := { modeSwitch := true } },
      by decide⟩⟩

/-- The premises of `UplinkFrames`. -/
theorem witness_UplinkFrames :
    (∃ (s : State) (d : Delivered) (r : List Delivered), s.rad.delivered = d :: r ∧ fromSession 0x10 (fun n => n == 19) d = true ∧ (s.rs
      d.session).state ≠ 0) ∧
    (∃ (s : State) (d : Delivered) (r : List Delivered), s.rad.delivered = d :: r ∧ fromSession 0x11 (fun n => n == 19) d = true ∧ (s.rs
      d.session).state ≠ 0) ∧
    (∃ (s : State) (d : Delivered) (r : List Delivered), s.rad.delivered = d :: r ∧ fromSession 0x12 (fun n => n == 19) d = true ∧ (s.rs
      d.session).state ≠ 0 ∧ ((s.xs d.session).route.map (·.id)) ≠ some (getLe d.payload 1 1 % 64) ∧ ((s.xs d.session).pending.map
      (·.id)) ≠ some (getLe d.payload 1 1 % 64) ∧ getLe d.payload 2 1 % 32 + (getLe d.payload 2 1 / 32 + 1) ≤ 32) ∧
    (∃ (s : State) (d : Delivered) (r : List Delivered), s.rad.delivered = d :: r ∧ fromSession 0x13 (fun n => decide (4 ≤ n)) d = true ∧
      (s.rs d.session).state ≠ 0 ∧ 4 < d.payload.length) ∧
    (∃ (s : State) (d : Delivered) (r : List Delivered) (x : Nat) (n : Nat) (w : RobotRec), s.rad.delivered = d :: r ∧ d.radio = 0 ∧
      d.source = .ext x ∧ getLe d.payload 0 1 = 0x14 ∧ d.payload.length = 8 ∧ s.robotRec x = some w ∧ (s.spanRec (getLe d.payload 3
      2)).isSome = true ∧ ((∀ k ∈ s.openSessions, (s.rs k).identity ≠ x)) ∧ s.assign x (getLe d.payload 1 1) (bit w.flags 0) (bit (getLe
      d.payload 2 1) 0) = some n) ∧
    (∃ (s : State) (d : Delivered) (r : List Delivered) (x : Nat), s.rad.delivered = d :: r ∧ d.radio = 0 ∧ d.source = .ext x ∧ getLe
      d.payload 0 1 = 0x14 ∧ d.payload.length = 8 ∧ s.robotRec x = none) :=
  ⟨⟨{ lead with rad.delivered := [⟨0, .short 3, [0x10#8] ++ List.replicate 18 0#8, 0, -60, 9⟩], fleet.sessions := [(3, { state := 1, identity := 9 })] },
      ⟨0, .short 3, [0x10#8] ++ List.replicate 18 0#8, 0, -60, 9⟩, [], by decide⟩,
    ⟨{ lead with rad.delivered := [⟨0, .short 3, [0x11#8] ++ List.replicate 18 0#8, 0, -60, 9⟩], fleet.sessions := [(3, { state := 1, identity := 9 })] },
      ⟨0, .short 3, [0x11#8] ++ List.replicate 18 0#8, 0, -60, 9⟩, [], by decide⟩,
    ⟨{ lead with rad.delivered := [⟨0, .short 3, [0x12#8, 1#8, 0x20#8] ++ List.replicate 16 0#8, 0, -60, 9⟩], fleet.sessions := [(3, { state := 1, identity := 9 })] },
      ⟨0, .short 3, [0x12#8, 1#8, 0x20#8] ++ List.replicate 16 0#8, 0, -60, 9⟩, [], by decide⟩,
    ⟨{ lead with rad.delivered := [⟨0, .short 3, [0x13#8, 70#8, 0#8, 2#8, 0#8, 5#8], 0, -60, 9⟩], fleet.sessions := [(3, { state := 1, identity := 9 })] },
      ⟨0, .short 3, [0x13#8, 70#8, 0#8, 2#8, 0#8, 5#8], 0, -60, 9⟩, [], by decide⟩,
    ⟨{ lead with rad.delivered := [⟨0, .ext 0xABC, [0x14#8, 3#8, 0#8, 1#8, 0#8, 0#8, 0#8, 0#8], 0, -60, 9⟩], rad.a.deck := [(0, deckOctets 0 40 5 3 0)] },
      ⟨0, .ext 0xABC, [0x14#8, 3#8, 0#8, 1#8, 0#8, 0#8, 0#8, 0#8], 0, -60, 9⟩, [], 0xABC, 3, ⟨0xABC, 1, 0, 3⟩, by decide⟩,
    ⟨{ lead with rad.delivered := [⟨0, .ext 0xABD, [0x14#8, 3#8, 0#8, 1#8, 0#8, 0#8, 0#8, 0#8], 0, -60, 9⟩] }, ⟨0, .ext 0xABD, [0x14#8,
      3#8, 0#8, 1#8, 0#8, 0#8, 0#8, 0#8], 0, -60, 9⟩, [], 0xABD, by decide⟩⟩

/-- The premises of `SilentSessionsAndNodes`. -/
theorem witness_SilentSessionsAndNodes :
    (∃ (s : State) (n : Fin 256), (s.rs n.val).state = 1 ∧ 3 ≤ (s.rs n.val).missed ∧ s.isLead = true) ∧
    (∃ (s : State) (d : Delivered) (r : List Delivered) (a : Nat), s.rad.delivered = d :: r ∧ d.radio = 1 ∧ d.source = .short a ∧ getLe
      d.payload 0 1 = 0x30 ∧ getLe d.payload 2 1 ≤ 8 ∧ d.payload.length = 3 + 6 * getLe d.payload 2 1 ∧ s.contactOf a d.time = none) ∧
    (∃ (s : State) (a : BitVec 12) (r : NodeRec), s.nodeRec a.toNat = some r ∧ r.kind = 0 ∧ s.isLead = true ∧ s.time.running = true) :=
  ⟨⟨{ lead with fleet.sessions := [(3, { state := 1, missed := 3 })] }, 3, by decide⟩,
    ⟨{ lead with rad.delivered := [⟨1, .short 0x101, [0x30#8, 90#8, 1#8, 2#8, 0#8, 5#8, 0#8, 0#8, 0#8], 0, -60, 9⟩] }, ⟨1, .short 0x101,
      [0x30#8, 90#8, 1#8, 2#8, 0#8, 5#8, 0#8, 0#8, 0#8], 0, -60, 9⟩, [], 0x101, by decide⟩,
    ⟨lead, 0x101#12, ⟨0x101, 0, 0, 0xDEF, 60, 0, 1⟩, by decide⟩⟩

/-- The premises of `CoreWork`. -/
theorem witness_CoreWork :
    (∃ (s : State) (n : Fin 8) (m : BitVec 4), s.powered = true ∧ s.tres.frozen.getLsbD n.val = false ∧ (s.wk (256 + n.val)).task = none
      ∧ ((∀ q, 28 ≤ q → q < 32 → (s.queue q).ring = []))) ∧
    (∃ (s : State) (n : Fin 8) (d : Desc), s.powered = true ∧ s.tres.frozen.getLsbD n.val = false ∧ (s.wk (256 + n.val)).task = none ∧
      (s.queue 28).ring = [some d] ∧ d.flow = 1023 ∧ d.bound = 0xFF) ∧
    (∃ (s : State) (q : Fin 4) (b : List Octet), s.powered = true ∧ s.credit (28 + q.val) ≠ 0 ∧ ((∀ n, n < 8 → (s.wk (256 + n)).ask =
      none))) ∧
    (∃ (s : State) (n : Fin 8) (v : Service), (s.wk (256 + n.val)).task = some v ∧ Tab.wf {} s.fleet.dsp.workers = true) :=
  ⟨⟨s0, 0, 1#4, by decide⟩,
    ⟨{ lead with fleet.dsp.queues := [(28, { ring := [some { task := 1, flow := 1023, mask := 1, queue := 28, origin := 0, dest := 0, impl := 0, bound := 0xFF, targets := [], payload := 0 }] })] },
      3, { task := 1, flow := 1023, mask := 1, queue := 28, origin := 0, dest := 0, impl := 0, bound := 0xFF, targets := [], payload := 0 },
      by decide⟩,
    ⟨s0, 0, [], by decide⟩,
    ⟨{ lead with fleet.dsp.workers := [(259, { task := some { desc := { task := 1, flow := 1023, mask := 1, queue := 28, origin := 0, dest := 0, impl := 0, bound := 0xFF, targets := [], payload := 0 }, slot := none, given := 0 } })] },
      3, { desc := { task := 1, flow := 1023, mask := 1, queue := 28, origin := 0, dest := 0, impl := 0, bound := 0xFF, targets := [], payload := 0 }, slot := none, given := 0 },
      by decide⟩⟩

/-- The premises of `QueueCommands`. -/
theorem witness_QueueCommands :
    (∃ (s : State) (v : Word), s.isLead = true ∧ s.tick = none ∧ Tab.wf {} s.fleet.dsp.queues = true ∧ ((∀ q, q < 28 → bit v.toNat q =
      true → (s.queueRec q).isSome = true))) ∧
    (∃ (s : State), s.powered = true ∧ Tab.wf {} s.freg.waits = true) ∧
    (∃ (s : State) (q : Fin 32) (i : Fin 4096) (d : Desc), s.powered = true ∧ ((selectionOrder (s.shownQueue q.val).stored)[i.val]?).map
      (·.2) = some d) ∧
    (∃ (s : State) (q : Fin 32) (i : Fin 4096), s.powered = true ∧ (selectionOrder (s.shownQueue q.val).stored)[i.val]? = none) :=
  ⟨⟨{ lead with fleet.dsp.queues := [(3, { ring := [some { task := 1, flow := 1023, mask := 1, queue := 28, origin := 0, dest := 0, impl := 0, bound := 0xFF, targets := [], payload := 0 }] })] },
      8#32, by decide⟩,
    ⟨s0, by decide⟩,
    ⟨{ lead with fleet.dsp.queues := [(28, { ring := [some { task := 1, flow := 1023, mask := 1, queue := 28, origin := 0, dest := 0, impl := 0, bound := 0xFF, targets := [], payload := 0 }] })] },
      28, 0, { task := 1, flow := 1023, mask := 1, queue := 28, origin := 0, dest := 0, impl := 0, bound := 0xFF, targets := [], payload := 0 },
      by decide⟩,
    ⟨s0, 0, 0, by decide⟩⟩

/-- The premises of `OrdersWaitForTheSnapshot`. -/
theorem witness_OrdersWaitForTheSnapshot :
    (∃ (s : State) (f : ChpFrame) (k : Nat), chpPasses 0x0020 (some 2) true f k s ∧ 1 ≤ getLe f.body 0 1 ∧ getLe f.body 0 1 ≤ 16 ∧
      f.body.length = 4 + 64 * getLe f.body 0 1 ∧ zeros f.body 1 3 = true) ∧
    (∃ (s : State) (f : ChpFrame) (k : Nat), chpPasses 0x0031 (some 3) true f k s ∧ scopeOk f = true) ∧
    (∃ (s : State) (f : ChpFrame) (k : Nat), chpPasses 0x0080 (some 8) true f k s ∧ f.body.length = 4 ∧ getLe f.body 0 1 ≤ 3 ∧ zeros
      f.body 1 1 = true) ∧
    (∃ (s : State) (n : Fin 256) (c : Fin 4), s.isLead = true ∧ (s.rs n.val).state ≠ 0) ∧
    (∃ (s : State) (n : Fin 256) (c : Fin 4), (s.rs n.val).state = 0) ∧
    (∃ (s : State), s.isLead = true) :=
  ⟨⟨lead, req lead 0x20 ([1#8] ++ List.replicate 67 0#8), 0, req_passes _ _ _ _ _ (by decide), by decide⟩,
    ⟨lead, req lead 0x31 [1#8, 9#8, 0#8, 0#8], 0, req_passes _ _ _ _ _ (by decide), by decide⟩,
    ⟨lead, req lead 0x80 [3#8, 0#8, 1#8, 0#8], 0, req_passes _ _ _ _ _ (by decide), by decide⟩,
    ⟨{ lead with fleet.sessions := [(3, { state := 1 })] }, 3, 2, by decide⟩,
    ⟨s0, 0, 0, by decide⟩,
    ⟨{ s0 with sys.mode := .lead, pair.claim := true }, by decide⟩⟩

/-- The premises of `StopCauses`. -/
theorem witness_StopCauses :
    (∃ (s : State) (f : ChpFrame) (k : Nat), chpPasses 0x0030 (some 3) true f k s ∧ scopeOk f = true ∧ getLe f.body 0 1 = 0) ∧
    (∃ (s : State) (f : ChpFrame) (k : Nat), chpPasses 0x0030 (some 3) true f k s ∧ scopeOk f = true ∧ getLe f.body 0 1 = 1 ∧ (s.rs
      (getLe f.body 1 1)).state ≠ 0) ∧
    (∃ (s : State) (f : ChpFrame) (k : Nat), chpPasses 0x0032 (some 3) true f k s ∧ f.body.length = 4 ∧ zeros f.body 1 3 = true ∧ (s.rs
      (getLe f.body 0 1)).state ≠ 0 ∧ (s.rs (getLe f.body 0 1)).closing = false) ∧
    (∃ (s : State) (h : Bool), s.powered = true ∧ s.isLead = false ∧ s.sys.saving = false) ∧
    (∃ (s : State) (h : Bool), s.powered = true ∧ s.isLead = false ∧ s.sys.saving = false) ∧
    (∃ (s : State), s.powered = true ∧ s.isLead = false ∧ s.sys.saving = true ∧ s.stop.runA = true) ∧
    (∃ (s : State) (n : Fin 2), s.isLead = true) ∧
    (∃ (s : State) (d : Nat), s.stop.differ = some d ∧ s.isLead = true) :=
  ⟨⟨lead, req lead 0x30 [0#8, 0#8, 0#8, 0#8], 0, req_passes _ _ _ _ _ (by decide), by decide⟩,
    ⟨{ lead with fleet.sessions := [(3, { state := 1 })] }, req ({ lead with fleet.sessions := [(3, { state := 1 })] }) 0x30 [1#8, 3#8,
      0#8, 0#8], 0, req_passes _ _ _ _ _ (by decide), by decide⟩,
    ⟨{ lead with fleet.sessions := [(3, { state := 1 })] }, req ({ lead with fleet.sessions := [(3, { state := 1 })] }) 0x32 [3#8, 0#8,
      0#8, 0#8], 0, req_passes _ _ _ _ _ (by decide), by decide⟩,
    ⟨{ s0 with sys.saving := false }, true, by decide⟩,
    ⟨{ s0 with sys.saving := false }, true, by decide⟩,
    ⟨{ s0 with sys.saving := true, stop.runA := true }, by decide⟩,
    ⟨{ s0 with sys.mode := .lead, pair.claim := true }, 0, by decide⟩,
    ⟨{ s0 with stop.differ := some (1), sys.mode := .lead, pair.claim := true }, 1, by decide⟩⟩

/-- The premises of `GuestCells`. -/
theorem witness_GuestCells :
    (∃ (s : State) (f : ChpFrame), backboneTakes 0x00F0 12 f s ∧ getLe f.body 1 1 = s.cellNo ∧ ((∀ x ∈ s.fleet.xarb.asks, ¬(x.cell =
      getLe f.body 0 1 ∧ x.session = getLe f.body 2 1 ∧ x.span = getLe f.body 4 2)))) ∧
    (∃ (s : State) (f : ChpFrame), backboneTakes 0x00F1 8 f s ∧ getLe f.body 1 1 = s.cellNo) ∧
    (∃ (s : State) (f : ChpFrame), backboneTakes 0x00F2 8 f s ∧ getLe f.body 1 1 = s.cellNo) ∧
    (∃ (s : State) (f : ChpFrame), backboneTakes 0x00F3 8 f s) ∧
    (∃ (s : State), s.isLead = true ∧ backboneSends s ∧ s.guestSlots ≠ []) ∧
    (∃ (s : State) (n : Nat) (x : Nat) (m : Nat), s.isLead = true ∧ s.guest.releasing = [(n, x, m)] ∧ backboneSends s) ∧
    (∃ (s : State) (c : Fin 4) (f : ChpFrame), s.carries f.source = true ∧ s.isLead = true ∧ s.time.servo ≠ .provisional ∧ backboneFormed
      (if c.val = 0 then 12 else 8) f = true ∧ f.session.toNat ≠ s.siteId) ∧
    (∃ (s : State) (c : Fin 64) (k : Nat) (g : Guest), s.isLead = true ∧ c.val ∉ s.guest.lost ∧ (k, g) ∈ s.guestSlots ∧ g.cell = c.val ∧
      g.state = 1 ∧ Tab.wf {} s.fleet.xarb.guests = true) :=
  ⟨⟨cellLead, bframe 0xF0 ([1#8] ++ List.replicate 11 0#8), bframe_takes _ _ _ (by decide), by decide⟩,
    ⟨cellLead, bframe 0xF1 ([1#8] ++ List.replicate 7 0#8), bframe_takes _ _ _ (by decide), by decide⟩,
    ⟨cellLead, bframe 0xF2 ([1#8] ++ List.replicate 7 0#8), bframe_takes _ _ _ (by decide), by decide⟩,
    ⟨cellLead, bframe 0xF3 ([1#8] ++ List.replicate 7 0#8), bframe_takes _ _ _ (by decide)⟩,
    ⟨{ cellLead with fleet.xarb.guests := [(0, { state := 1, span := 1, cell := 1, session := 2 })] }, by decide, ⟨by decide, by decide,
      by decide, by decide, by decide⟩, by decide⟩,
    ⟨{ cellLead with guest.releasing := [(1, 2, 3)] }, 1, 2, 3, by decide, by decide, ⟨by decide, by decide, by decide, by decide, by
      decide⟩⟩,
    ⟨cellLead, 2, { bframe 0xF2 ([1#8] ++ List.replicate 7 0#8) with session := 8#32 }, by decide⟩,
    ⟨{ lead with fleet.xarb.guests := [(0, { state := 1, span := 1, cell := 1, session := 2 })] }, 1, 0, { state := 1, span := 1, cell := 1, session := 2 },
      by decide⟩⟩

/-- The premises of `ClaimDecided`. -/
theorem witness_ClaimDecided :
    (∃ (s : State) (k : TakeIn), s.pair.seeking ≠ 0 ∧ s.pair.claim = false ∧ s.pair.decided = none ∧ s.pair.forceIn = false ∧
      s.sys.saving = false ∧ s.powered = true ∧ bit s.stop.own causeTamper = false ∧ s.pair.peerClaim = false ∧ s.unitNo = 2) ∧
    (∃ (s : State) (k : TakeIn), s.pair.seeking = 6 ∧ s.pair.claim = false ∧ s.pair.decided = none ∧ s.pair.forceIn = false ∧
      s.sys.saving = false ∧ s.powered = true ∧ bit s.stop.own causeTamper = false ∧ s.pair.peerClaim = false ∧ s.unitNo ≠ 2 ∧ s.baseMode
      ≠ 1) ∧
    (∃ (s : State) (k : TakeIn) (d : Nat), s.pair.decided = some d ∧ s.pair.claim = false ∧ s.sys.saving = false ∧ s.powered = true) ∧
    (∃ (s : State) (k : TakeIn) (d : Nat), s.pair.decided = some d ∧ s.pair.claim = false ∧ s.sys.saving = false ∧ s.powered = true ∧
      s.pair.seeking = 6 ∧ s.pair.forceIn = false ∧ s.baseMode ≠ 1) ∧
    (∃ (s : State) (p : Image) (l : List Nat) (v : Nat), s.sys.mode = .start ∧ s.sys.waitViaduct = true ∧ s.sys.saving = false ∧
      s.pair.viaUp = true ∧ s.paired = true ∧ s.pair.peerClaim = true ∧ State.accepts { s with cfg.partner := some p, pair.checks := l, pair.peer := s.pair.peer % 2 ^ 24 + 2 ^ 24 * (v % 256) }
      = true) ∧
    (∃ (s : State) (p : Image) (l : List Nat) (v : Nat), s.sys.mode = .start ∧ s.sys.waitViaduct = true ∧ s.sys.saving = false ∧
      s.pair.viaUp = true ∧ s.paired = true ∧ s.pair.peerClaim = true ∧ State.accepts { s with cfg.partner := some p, pair.checks := l, pair.peer := s.pair.peer % 2 ^ 24 + 2 ^ 24 * (v % 256) }
      = false) ∧
    (∃ (s : State) (p : Image) (l : List Nat) (v : Nat), s.sys.mode = .start ∧ s.sys.mismatch = true ∧ s.pair.viaUp = true ∧ s.sys.saving
      = false ∧ s.pair.peerClaim = true ∧ State.accepts { s with cfg.partner := some p, pair.checks := l, pair.peer := s.pair.peer % 2 ^ 24 + 2 ^ 24 * (v % 256) }
      = true) ∧
    (∃ (s : State) (p : Image) (l : List Nat) (v : Nat), s.sys.mode = .start ∧ s.sys.mismatch = true ∧ s.pair.viaUp = true ∧ s.sys.saving
      = false ∧ State.accepts { s with cfg.partner := some p, pair.checks := l, pair.peer := s.pair.peer % 2 ^ 24 + 2 ^ 24 * (v % 256) }
      = false) :=
  ⟨⟨{ starting with cfg.image := some pairImg, sys.pairSel := true, pair.seeking := 6 }, take0, by decide⟩,
    ⟨{ s0 with pair.seeking := 6, pair.claim := false, pair.decided := none, pair.forceIn := false, sys.saving := false, pair.peerClaim := false },
      ⟨0, 0, 0⟩, by decide⟩,
    ⟨{ s0 with pair.decided := some (1), pair.claim := false, sys.saving := false }, ⟨0, 0, 0⟩, 1, by decide⟩,
    ⟨{ s0 with pair.decided := some (1), pair.claim := false, sys.saving := false, pair.seeking := 6, pair.forceIn := false }, ⟨0, 0, 0⟩,
      1, by decide⟩,
    ⟨{ starting with cfg.image := some { pairImg with head := { pairImg.head with target := 1 } }, pair.viaUp := true, pair.peerClaim := true, sys.waitViaduct := true },
      { pairImg with head := { pairImg.head with target := 2 } }, [0, 0, 0, 0], 255, by decide⟩,
    ⟨{ starting with cfg.image := some { pairImg with head := { pairImg.head with target := 1 } }, pair.viaUp := true, pair.peerClaim := true, sys.waitViaduct := true },
      { pairImg with head := { pairImg.head with target := 2 } }, [1, 0, 0, 0], 255, by decide⟩,
    ⟨{ starting with cfg.image := some { pairImg with head := { pairImg.head with target := 1 } }, pair.viaUp := true, pair.peerClaim := true, sys.mismatch := true },
      { pairImg with head := { pairImg.head with target := 2 } }, [0, 0, 0, 0], 255, by decide⟩,
    ⟨{ starting with cfg.image := some { pairImg with head := { pairImg.head with target := 1 } }, pair.viaUp := true, pair.peerClaim := true, sys.mismatch := true },
      { pairImg with head := { pairImg.head with target := 2 } }, [1, 0, 0, 0], 255, by decide⟩⟩

/-- The premises of `ClaimLost`. -/
theorem witness_ClaimLost :
    (∃ (s : State), s.pair.claim = true ∧ s.inService = true ∧ s.unitNo ≠ 2) ∧
    (∃ (s : State), s.pair.claim = true ∧ s.inService = true ∧ s.unitNo = 2 ∧ s.sys.succession < 3) ∧
    (∃ (s : State), s.powered = true ∧ s.sys.mode ≠ .shadow ∧ s.pair.claim = true ∧ s.sys.saving = false ∧ s.sys.succession < 3) ∧
    (∃ (s : State), s.sys.mode = .shadow) ∧
    (∃ (s : State), s.pair.claim = true ∧ s.sys.saving = false) ∧
    (∃ (s : State) (k : TakeIn), s.sys.mode = .shadow ∧ s.sys.saving = false ∧ s.pair.claim = false ∧ s.pair.forceIn = false ∧ bit
      s.stop.own causeTamper = false ∧ s.unitNo ≠ 2 ∧ s.pair.mirrored = false) ∧
    (∃ (s : State) (k : TakeIn), s.powered = true ∧ s.sys.saving = false ∧ s.sys.mode ≠ .shadow ∧ s.sys.mismatch = false) :=
  ⟨⟨{ s0 with pair.claim := true, sys.mode := .lead }, by decide⟩,
    ⟨{ pairLead with sys.pairSel := true }, by decide⟩,
    ⟨{ s0 with pair.claim := true, sys.saving := false }, by decide⟩,
    ⟨{ s0 with sys.mode := .shadow }, by decide⟩,
    ⟨{ s0 with pair.claim := true, sys.saving := false }, by decide⟩,
    ⟨{ s0 with sys.mode := .shadow, sys.saving := false, pair.claim := false, pair.forceIn := false, pair.mirrored := false }, ⟨0, 0, 0⟩,
      by decide⟩,
    ⟨{ s0 with sys.saving := false, sys.mismatch := false }, ⟨0, 0, 0⟩, by decide⟩⟩

/-- The premises of `LinkAndMirror`. -/
theorem witness_LinkAndMirror :
    (∃ (s : State), s.powered = true) ∧
    (∃ (s : State), s.powered = true ∧ s.time.running = true ∧ s.paired = true ∧ s.pair.viaUp = true ∧ (s.mark markBeat (500 *
      perUs)).beats = true) ∧
    (∃ (s : State), s.powered = true ∧ s.time.running = true ∧ (s.mark markBeat (500 * perUs)).beats = false) ∧
    (∃ (s : State) (b : Heartbeat) (r : Nat), s.paired = true ∧ viaCarries 1 s ∧ s.sys.mode = .shadow) ∧
    (∃ (s : State) (b : Heartbeat) (r : Nat), s.paired = true ∧ viaCarries 1 s ∧ s.isLead = true ∧ b.mode = 4 ∧ s.pair.peerMode ≠ 4 ∧
      s.stop.runA = true ∧ s.stop.runB = true ∧ b.stopA = true ∧ b.stopB = true) ∧
    (∃ (s : State) (b : Heartbeat) (r : Nat), s.paired = true ∧ viaCarries 1 s) ∧
    (∃ (s : State), s.inService = true ∧ s.paired = true ∧ s.sys.saving = false ∧ (awaitedBeat s).beatArrived = true) ∧
    (∃ (s : State), s.inService = true ∧ s.paired = true ∧ s.sys.saving = false ∧ (awaitedBeat s).beatArrived = false ∧ s.pair.missed ≠
      3) ∧
    (∃ (s : State), s.inService = true ∧ s.paired = true ∧ s.sys.saving = false ∧ (awaitedBeat s).beatArrived = false ∧ s.pair.missed = 3
      ∧ (s.isLead = true ∨ s.pair.peerClaim = true)) ∧
    (∃ (s : State) (l : Fin 4), s.powered = true ∧ s.pair.viaUp = true) ∧
    (∃ (s : State) (n : Nat), s.powered = true ∧ s.paired = true ∧ s.pair.viaUp = false) ∧
    (∃ (s : State) (d : TickDelta), viaCarries 2 s ∧ s.sys.mode = .shadow ∧ d.crcOk = true ∧ s.pair.imageTick.isSome = true ∧ d.tick =
      s.pair.nextTick ∧ d.digestOk = true ∧ s.paired = true ∧ s.time.servo ≠ .provisional) ∧
    (∃ (s : State) (d : TickDelta), viaCarries 2 s ∧ s.sys.mode = .shadow ∧ d.crcOk = true ∧ s.pair.imageTick.isSome = true ∧
      s.pair.nextTick < d.tick) ∧
    (∃ (s : State) (n : Nat), viaCarries 9 s ∧ s.sys.mode = .shadow) ∧
    (∃ (s : State) (n : Nat) (f : Fleet), viaCarries 9 s ∧ s.sys.mode = .shadow) ∧
    (∃ (s : State) (k : Nat) (c : Nat), viaCarries 5 s ∧ s.sys.mode = .shadow ∧ s.paired = true) ∧
    (∃ (s : State) (a : Nat) (n : Nat) (v : Word), viaCarries 6 s ∧ s.sys.mode = .shadow) ∧
    (∃ (s : State) (p : Image) (l : List Nat), s.paired = true ∧ viaCarries 7 s ∧ s.sys.mode = .start) ∧
    (∃ (s : State) (p : Image) (own : Image) (l : List Nat), s.paired = true ∧ viaCarries 7 s ∧ s.sys.mode = .lead ∧ s.cfg.image = some
      own) ∧
    (∃ (s : State) (n : Nat), viaCarries 3 s ∧ s.isLead = true ∧ s.pair.deltaDue = true ∧ s.pair.sentTick = n ∧ s.tick.all (·.committed)
      = true) ∧
    (∃ (s : State) (n : Nat) (o : TickOut), viaCarries 3 s ∧ s.isLead = true ∧ s.pair.deltaDue = true ∧ s.pair.sentTick = n ∧ s.tick =
      some o ∧ o.committed = true) ∧
    (∃ (s : State) (n : Nat) (k : Nat) (c : Nat) (c' : Nat) (b : Bool) (r : List (Nat × Nat)), viaCarries 3 s ∧ s.pair.ceilingDue = (k,
      c) :: r ∧ (Tab.get {} s.rad.keys k).raised = some c') :=
  ⟨⟨s0, by decide⟩,
    ⟨{ pairLead with pair.healthAt := some 0 }, by decide⟩,
    ⟨{ s0 with time.running := true }, by decide⟩,
    ⟨standby, ⟨1, 1, 3, true, false, false, 1, true, true, 0, 0, 0, 0, 0, 0, 0, 0⟩, 0, by decide, ⟨by decide, by decide, by decide, by
      decide⟩, by decide⟩,
    ⟨{ pairLead with stop.runA := true, stop.runB := true }, ⟨1, 2, 4, false, false, false, 1, true, true, 0, 0, 0, 0, 0, 0, 0, 0⟩, 0, by
      decide, ⟨by decide, by decide, by decide, by decide⟩, by decide, by decide, by decide, by decide, by decide, by decide, by decide⟩,
    ⟨standby, ⟨1, 1, 3, true, false, false, 1, true, true, 0, 0, 0, 0, 0, 0, 0, 0⟩, 0, by decide, ⟨by decide, by decide, by decide, by
      decide⟩⟩,
    ⟨{ pairLead with pair.beatRx := 2 ^ 90 }, by decide⟩,
    ⟨{ pairLead with time.frc := 1000000#64 }, by decide⟩,
    ⟨{ pairLead with time.frc := 1000000#64, pair.missed := 3 }, by decide⟩,
    ⟨{ s0 with pair.viaUp := true }, 0, by decide⟩,
    ⟨{ pairLead with pair.viaUp := false }, 9, by decide⟩,
    ⟨standby, ⟨0, true, true, {}, [], none⟩, ⟨by decide, by decide, by decide, by decide⟩, by decide⟩,
    ⟨standby, ⟨1, true, true, {}, [], none⟩, ⟨by decide, by decide, by decide, by decide⟩, by decide⟩,
    ⟨standby, 3, ⟨by decide, by decide, by decide, by decide⟩, by decide⟩,
    ⟨standby, 3, {}, ⟨by decide, by decide, by decide, by decide⟩, by decide⟩,
    ⟨standby, 5, 4096, ⟨by decide, by decide, by decide, by decide⟩, by decide⟩,
    ⟨standby, 0x100B0, 3, 5#32, ⟨by decide, by decide, by decide, by decide⟩, by decide⟩,
    ⟨{ standby with sys.mode := .start }, pairImg, [], by decide, ⟨by decide, by decide, by decide, by decide⟩, by decide⟩,
    ⟨pairLead, pairImg, pairImg, [], by decide, ⟨by decide, by decide, by decide, by decide⟩, by decide⟩,
    ⟨{ pairLead with pair.deltaDue := true, pair.sentTick := 4 }, 4, ⟨by decide, by decide, by decide, by decide⟩, by decide⟩,
    ⟨{ pairLead with pair.deltaDue := true, pair.sentTick := 4, tick := some { tick := 4, committed := true } }, 4, { tick := 4, committed := true },
      ⟨by decide, by decide, by decide, by decide⟩, by decide, by decide, by decide, by decide, by decide⟩,
    ⟨{ pairLead with pair.ceilingDue := [(5, 1)], rad.keys := [(5, { raised := some 8192 })] }, 4, 5, 1, 8192, true, [], ⟨by decide, by
      decide, by decide, by decide⟩, by decide⟩⟩

/-- The premises of `HandoverAndWatch`. -/
theorem witness_HandoverAndWatch :
    (∃ (s : State), s.sys.mode = .shadow ∧ s.mayAsk = true ∧ s.pair.asked = none ∧ s.paired = true ∧ s.pair.viaUp = true) ∧
    (∃ (s : State), s.isLead = true ∧ s.paired = true ∧ s.pair.handover = none ∧ viaCarries 8 s) ∧
    (∃ (s : State) (n : Nat), s.pair.asked = some n ∧ (s.atLeast (10000000000 + n)).mayAsk = true ∧ s.pair.handover = none ∧ s.paired =
      true ∧ s.pair.viaUp = true) ∧
    (∃ (s : State), s.sys.saving = false ∧ s.isLead = true ∧ s.paired = true ∧ s.pair.handover = none) ∧
    (∃ (s : State) (k : Nat) (n : Nat) (i : Nat) (h : Handover), s.isLead = true ∧ s.pair.handover = some h ∧ h.tick = none ∧
      s.handoverRefusal = none ∧ s.swapTick = some (n, i) ∧ s.paired = true ∧ s.pair.viaUp = true) ∧
    (∃ (s : State) (k : Nat), s.sys.mode = .shadow ∧ viaCarries 8 s) ∧
    (∃ (s : State) (h : Handover) (r : Nat) (x : Fin 3), s.isLead = true ∧ s.pair.handover = some h ∧ h.tick = none ∧ h.source = 1 ∧
      s.handoverRefusal = some r) ∧
    (∃ (s : State) (x : Fin 3), s.sys.mode = .shadow ∧ s.pair.asked.isSome = true ∧ viaCarries 8 s) ∧
    (∃ (s : State) (k : TakeIn) (h : Handover) (n : Nat), s.pair.handover = some h ∧ h.tick = some n ∧ s.sys.saving = false ∧ s.isLead =
      true ∧ s.tick = none) ∧
    (∃ (s : State) (k : TakeIn) (h : Handover) (n : Nat), s.pair.handover = some h ∧ h.tick = some n ∧ s.sys.saving = false ∧ s.sys.mode
      = .shadow ∧ s.pair.claim = false ∧ s.pair.forceIn = false ∧ bit s.stop.own causeTamper = false ∧ s.unitNo ≠ 2 ∧ s.pair.mirrored =
      false) ∧
    (∃ (s : State) (e : DeckEntry) (b : Nat) (r : Option Nat) (k : TakeIn), s.sys.mode = .shadow ∧ s.sys.saving = false ∧ s.time.running
      = true ∧ s.nextEntry 0 (entryMark 0 8) beaconLimit (fun e => decide (e.kind = 1)) = some (e, b)) ∧
    (∃ (s : State) (e : DeckEntry) (b : Nat) (k : TakeIn), s.sys.mode = .shadow ∧ s.sys.saving = false ∧ s.time.running = true ∧
      s.nextEntry 0 (entryMark 0 8) beaconLimit (fun e => decide (e.kind = 1)) = some (e, b) ∧ bit s.pair.peerReady 6 = false ∧
      s.pair.peerClaim = true) ∧
    (∃ (s : State), s.sys.mode = .shadow ∧ s.sys.saving = false ∧ s.pair.peerClaim = true ∧ 3 ≤ s.pair.windows ∧ s.pair.forceOut = false) ∧
    (∃ (s : State), s.powered = true ∧ s.sys.saving = false) :=
  ⟨⟨{ standby with meas.alignState := 2, time.pairAligned := true, time.frc := 60000000000#64 }, by decide⟩,
    ⟨pairLead, by decide, by decide, by decide, ⟨by decide, by decide, by decide, by decide⟩⟩,
    ⟨{ { standby with meas.alignState := 2, time.pairAligned := true, time.frc := 60000000000#64 } with pair.asked := some 0 }, 0, by
      decide⟩,
    ⟨pairLead, by decide⟩,
    ⟨{ pairLead with pair.mirrored := true, pair.peerReady := 6, pair.peerMode := 4, pair.handover := some { source := 0 } }, 9, ((({ pairLead with pair.mirrored := true, pair.peerReady := 6, pair.peerMode := 4, pair.handover := some { source := 0 } }
      : State).swapTick).getD (0, 0)).1, ((({ pairLead with pair.mirrored := true, pair.peerReady := 6, pair.peerMode := 4, pair.handover := some { source := 0 } }
      : State).swapTick).getD (0, 0)).2, { source := 0 }, by decide⟩,
    ⟨standby, 9, by decide, ⟨by decide, by decide, by decide, by decide⟩⟩,
    ⟨{ pairLead with pair.handover := some { source := 1 } }, { source := 1 }, 0, 1, by decide⟩,
    ⟨{ standby with pair.asked := some 0 }, 1, by decide, by decide, ⟨by decide, by decide, by decide, by decide⟩⟩,
    ⟨{ pairLead with pair.handover := some { source := 0, tick := some 4, instant := 9 } }, take0, { source := 0, tick := some 4, instant := 9 },
      4, by decide⟩,
    ⟨{ standby with pair.mirrored := false, pair.handover := some { source := 0, tick := some 4, instant := 9 } }, take0, { source := 0, tick := some 4, instant := 9 },
      4, by decide⟩,
    ⟨{ standby with rad.a.deck := [(64, deckOctets 0 40 1 0 0)] }, deckEntry (deckOctets 0 40 1 0 0), 100 * perMs, none, take0, by
      decide⟩,
    ⟨{ standby with rad.a.deck := [(64, deckOctets 0 40 1 0 0)] }, deckEntry (deckOctets 0 40 1 0 0), 100 * perMs, take0, by decide⟩,
    ⟨{ standby with pair.windows := 3 }, by decide⟩,
    ⟨{ s0 with sys.saving := false }, by decide⟩⟩

/-- The premises of `KeyUpdates`. -/
theorem witness_KeyUpdates :
    (∃ (s : State) (kind : Fin 8) (f : ChpFrame) (k : Nat), ofKind kind.val f = true ∧ chpPasses 0x0050 (if s.openUpdate = true then none
      else some 5) false f k s ∧ Tab.wf {} s.keys.slots = true) ∧
    (∃ (s : State) (kind : Fin 8) (f : ChpFrame) (k : Nat), ofKind kind.val f = true ∧ s.sys.saving = true ∧ chpPasses 0x0050 (if
      s.openUpdate = true then none else some 5) false f k { s with sys.saving := false }) ∧
    (((keyMess 1 false 0 0 0).signed = true) → ((keyed 1 false).keyPayload (keyMess 1 false 0 0 0) = some ([])) → ∃ (s : State) (f :
      ChpFrame) (k : Nat) (m : KeyMsg) (p : List Octet), ofKind 0 f = true ∧ chpPasses 0x0050 (if s.openUpdate = true then none else some
      5) false f k s ∧ s.keyChecks f.body = .ok (m, p)) ∧
    (((keyMess 3 true 1 17 72).signed = true) → ((keyed 3 true).keyPayload (keyMess 3 true 1 17 72) = some ([0#8, 4#8, 32#8] ++
      List.replicate 69 0#8)) → ∃ (s : State) (f : ChpFrame) (k : Nat) (m : KeyMsg) (p : List Octet) (v : KeySlot), ofKind 1 f = true ∧
      chpPasses 0x0050 (if s.openUpdate = true then none else some 5) false f k s ∧ s.keyChecks f.body = .ok (m, p) ∧ newSlot m.arg
      m.counter p = some v ∧ Tab.wf {} s.keys.slots = true) ∧
    (((keyMess 3 true 2 16 0).signed = true) → ((keyed 3 true).keyPayload (keyMess 3 true 2 16 0) = some ([])) → ∃ (s : State) (f :
      ChpFrame) (k : Nat) (m : KeyMsg) (p : List Octet), ofKind 2 f = true ∧ chpPasses 0x0050 (if s.openUpdate = true then none else some
      5) false f k s ∧ s.keyChecks f.body = .ok (m, p) ∧ Tab.wf {} s.keys.slots = true) ∧
    (((keyMess 3 true 3 0 6).signed = true) → ((keyed 3 true).keyPayload (keyMess 3 true 3 0 6) = some (leBytes 2 1 ++ leBytes 4 100)) →
      ∃ (s : State) (f : ChpFrame) (k : Nat) (m : KeyMsg) (p : List Octet), ofKind 3 f = true ∧ chpPasses 0x0050 (if s.openUpdate = true
      then none else some 5) false f k s ∧ s.keyChecks f.body = .ok (m, p)) ∧
    (((keyMess 3 true 4 0 48).signed = true) → ((keyed 3 true).keyPayload (keyMess 3 true 4 0 48) = some (List.replicate 48 0#8)) → ∃ (s
      : State) (f : ChpFrame) (k : Nat) (m : KeyMsg) (p : List Octet), ofKind 4 f = true ∧ chpPasses 0x0050 (if s.openUpdate = true then
      none else some 5) false f k s ∧ s.keyChecks f.body = .ok (m, p)) ∧
    (((keyMess 3 true 5 1 0).signed = true) → ((keyed 3 true).keyPayload (keyMess 3 true 5 1 0) = some ([])) → ∃ (s : State) (f :
      ChpFrame) (k : Nat) (m : KeyMsg) (p : List Octet), ofKind 5 f = true ∧ chpPasses 0x0050 (if s.openUpdate = true then none else some
      5) false f k s ∧ s.keyChecks f.body = .ok (m, p)) ∧
    (((keyMess 3 true 6 3 0).signed = true) → ((keyed 3 true).keyPayload (keyMess 3 true 6 3 0) = some ([])) → ∃ (s : State) (f :
      ChpFrame) (k : Nat) (m : KeyMsg) (p : List Octet), ofKind 6 f = true ∧ chpPasses 0x0050 (if s.openUpdate = true then none else some
      5) false f k s ∧ s.keyChecks f.body = .ok (m, p)) ∧
    (((keyMess 3 true 7 0 0).signed = true) → ((keyed 3 true).keyPayload (keyMess 3 true 7 0 0) = some ([])) → ∃ (s : State) (f :
      ChpFrame) (k : Nat) (m : KeyMsg) (p : List Octet), ofKind 7 f = true ∧ chpPasses 0x0050 (if s.openUpdate = true then none else some
      5) false f k s ∧ s.keyChecks f.body = .ok (m, p)) :=
  ⟨⟨lead, 5, req lead 0x50 (List.replicate 8 0#8 ++ [5#8, 1#8]), 0, by decide, req_passes _ _ _ _ _ (by decide), by decide⟩,
    ⟨{ lead with sys.saving := true }, 5, req lead 0x50 (List.replicate 8 0#8 ++ [5#8, 1#8]), 0, by decide, by decide, req_passes _ _ _
      lead _ (by decide)⟩,
    fun c0 c1 => ⟨keyed 1 false, req (keyed 1 false) 0x50 (keyBody 1 false 0 0 0), 0, keyMess 1 false 0 0 0, [], by decide, req_passes _
      _ _ (keyed 1 false) _ (by decide), key_ok 1 false 0 0 0 ([]) (key_read _ (by decide)) rfl (by decide) c0 (by decide) (by decide) c1
      (by simp [State.payloadOk, keyMess, burnable, keyed, lead, s0, State.reset])⟩,
    fun c0 c1 => ⟨keyed 3 true, req (keyed 3 true) 0x50 (keyBody 3 true 1 17 72), 0, keyMess 3 true 1 17 72, [0#8, 4#8, 32#8] ++
      List.replicate 69 0#8, _, by decide, req_passes _ _ _ (keyed 3 true) _ (by decide), key_ok 3 true 1 17 72 ([0#8, 4#8, 32#8] ++
      List.replicate 69 0#8) (key_read _ (by decide)) rfl (decide_eq_true rfl) c0 (by decide) (by decide) c1 (by decide), rfl, by decide⟩,
    fun c0 c1 => ⟨keyed 3 true, req (keyed 3 true) 0x50 (keyBody 3 true 2 16 0), 0, keyMess 3 true 2 16 0, [], by decide, req_passes _ _
      _ (keyed 3 true) _ (by decide), key_ok 3 true 2 16 0 ([]) (key_read _ (by decide)) rfl (decide_eq_true rfl) c0 (by decide) (by
      decide) c1 (by decide), by decide⟩,
    fun c0 c1 => ⟨keyed 3 true, req (keyed 3 true) 0x50 (keyBody 3 true 3 0 6), 0, keyMess 3 true 3 0 6, leBytes 2 1 ++ leBytes 4 100, by
      decide, req_passes _ _ _ (keyed 3 true) _ (by decide), key_ok 3 true 3 0 6 (leBytes 2 1 ++ leBytes 4 100) (key_read _ (by decide))
      rfl (decide_eq_true rfl) c0 (by decide) (by decide) c1 (by decide)⟩,
    fun c0 c1 => ⟨keyed 3 true, req (keyed 3 true) 0x50 (keyBody 3 true 4 0 48), 0, keyMess 3 true 4 0 48, List.replicate 48 0#8, by
      decide, req_passes _ _ _ (keyed 3 true) _ (by decide), key_ok 3 true 4 0 48 (List.replicate 48 0#8) (key_read _ (by decide)) rfl
      (decide_eq_true rfl) c0 (by decide) (by decide) c1 (by decide)⟩,
    fun c0 c1 => ⟨keyed 3 true, req (keyed 3 true) 0x50 (keyBody 3 true 5 1 0), 0, keyMess 3 true 5 1 0, [], by decide, req_passes _ _ _
      (keyed 3 true) _ (by decide), key_ok 3 true 5 1 0 ([]) (key_read _ (by decide)) rfl (decide_eq_true rfl) c0 (by decide) (by decide)
      c1 (by decide)⟩,
    fun c0 c1 => ⟨keyed 3 true, req (keyed 3 true) 0x50 (keyBody 3 true 6 3 0), 0, keyMess 3 true 6 3 0, [], by decide, req_passes _ _ _
      (keyed 3 true) _ (by decide), key_ok 3 true 6 3 0 ([]) (key_read _ (by decide)) rfl (decide_eq_true rfl) c0 (by decide) (by decide)
      c1 (by decide)⟩,
    fun c0 c1 => ⟨keyed 3 true, req (keyed 3 true) 0x50 (keyBody 3 true 7 0 0), 0, keyMess 3 true 7 0 0, [], by decide, req_passes _ _ _
      (keyed 3 true) _ (by decide), key_ok 3 true 7 0 0 ([]) (key_read _ (by decide)) rfl (decide_eq_true rfl) c0 (by decide) (by decide)
      c1 (by decide)⟩⟩

/-- The premises of `KeysInUse`. -/
theorem witness_KeysInUse :
    (∃ (s : State) (m : Fin 13) (w : Bool) (k : Fin 67) (o : Fin 5), s.powered = true ∧ bit (s.keyUse k.val).1 m.val = true ∧ bit
      (s.keyUse k.val).2.1 (flag (!worldOf m.val w)) = true ∧ bit (s.keyUse k.val).2.2.1 s.life.code = true ∧ bit (s.keyUse k.val).2.2.2
      o.val = true) ∧
    (∃ (s : State) (m : Fin 13) (w : Bool) (k : Fin 67) (o : Fin 5), s.powered = true ∧ bit (s.keyUse k.val).1 m.val = false ∧ m.val < 8
      ∧ s.tres.frozen.getLsbD m.val = false ∧ bits (s.tres.frozen ||| BitVec.ofNat 13 (2 ^ m.val)).toNat 9 4 = 0 ∧ ones (s.tres.frozen
      ||| BitVec.ofNat 13 (2 ^ m.val)).toNat 0 8 < 3) ∧
    (∃ (s : State) (e : Nat) (n : Nat), s.kreg.switch = some (e, n) ∧ s.powered = true ∧ (s.keySlot 1).valid = true ∧ (s.keySlot 3).valid
      = true ∧ Tab.wf {} s.keys.slots = true) ∧
    (∃ (s : State) (e : Nat) (n : Nat) (a : List Octet) (b : List Octet), s.kreg.previous = some (e, a, b, n)) ∧
    (∃ (s : State) (x : BitVec 9), s.sys.mode = .dormant ∧ s.ao.crystalArmed = true ∧ x ≠ 0#9 ∧ s.keys.latch = none) ∧
    (∃ (s : State) (x : BitVec 9), s.powered = true ∧ x ≠ 0#9) ∧
    (∃ (s : State) (x : BitVec 9), s.sys.mode = .lead ∧ s.sys.saving = false ∧ s.sys.degraded = false ∧ s.hasStandby = false ∧ x ≠ 0#9) ∧
    (∃ (s : State), s.life = .vendor) ∧
    (∃ (s : State) (b : Bool), s.life ≠ .vendor) ∧
    (∃ (s : State) (v : Nat), v < 1900 ∧ s.powered = true ∧ s.kreg.vbatRun = false) ∧
    (∃ (s : State) (v : Nat), 1900 ≤ v) ∧
    (∃ (s : State) (v : Int), s.powered = true ∧ s.junctionMax < v + s.diag.tempOffset ∧ s.sys.tempHigh = false) ∧
    (∃ (s : State) (v : Int), s.powered = true ∧ v + s.diag.tempOffset ≤ s.junctionMax - 50) :=
  ⟨⟨{ lead with kreg.cache := [[1#8]] }, 11, false, 64, 2, by decide⟩,
    ⟨s0, 0, true, 0, 0, by decide⟩,
    ⟨{ lead with keys.slots := [(0, { valid := true, kind := 1, length := 32 }), (1, { valid := true, kind := 1, length := 32, epoch := 1 }), (2, { valid := true, kind := 2, length := 32 }), (3, { valid := true, kind := 2, length := 32, epoch := 1 })], kreg.switch := some (1, 100) },
      1, 100, by decide⟩,
    ⟨{ s0 with kreg.previous := some ((1), ([]), ([]), (1)) }, 1, 1, [], [], by decide⟩,
    ⟨{ s0 with sys.mode := .dormant, ao.crystalArmed := true, keys.latch := none }, 1#9, by decide⟩,
    ⟨s0, 1#9, by decide⟩,
    ⟨{ s0 with sys.mode := .lead, sys.saving := false, sys.degraded := false }, 1#9, by decide⟩,
    ⟨s0, by decide⟩,
    ⟨{ lead with keys.fuse.word := 1 }, true, by decide⟩,
    ⟨{ s0 with kreg.vbatRun := false }, 1, by decide⟩,
    ⟨lead, 1900, by decide⟩,
    ⟨lead, lead.junctionMax + 1, by decide⟩,
    ⟨s0, 5, by decide⟩⟩

/-- The premises of `FirmwareUpdate`. -/
theorem witness_FirmwareUpdate :
    (∃ (s : State) (f : ChpFrame) (k : Nat), chpPasses 0x0040 (some 4) false f k s ∧ f.body.length = 52 ∧ getLe f.body 0 4 % 4 = 0 ∧
      65536 ≤ getLe f.body 0 4 ∧ getLe f.body 0 4 ≤ 16777216 ∧ s.ureg.verifying = false ∧ s.upd.journal.state ≠ 1 ∧ getLe f.body 0 4 ≠
      s.upd.length) ∧
    (∃ (s : State) (f : ChpFrame) (k : Nat), chpPasses 0x0041 (some 4) false f k s ∧ 9 ≤ f.body.length ∧ f.body.length ≤ 4104 ∧
      s.ureg.verifying = false ∧ getLe f.body 0 4 % 4096 = 0 ∧ getLe f.body 0 4 < s.upd.length ∧ (f.body.drop 8).length = min 4096
      (s.upd.length - getLe f.body 0 4) ∧ crc32c (f.body.drop 8) = getLe f.body 4 4 ∧ bit s.upd.blocks (getLe f.body 0 4 / 4096) = false
      ∧ s.flash.wf = true) ∧
    (∃ (s : State) (f : ChpFrame) (k : Nat), chpPasses 0x0042 (some 4) false f k s ∧ f.body = []) ∧
    (∃ (s : State) (f : ChpFrame) (k : Nat), chpPasses 0x0043 (some 4) false f k s ∧ f.body.length = 4 ∧ zeros f.body 2 2 = true ∧
      ((getLe f.body 0 2 = 0 ∨ (60 ≤ getLe f.body 0 2 ∧ getLe f.body 0 2 ≤ 3600))) ∧ s.dlComplete = true ∧ s.upd.journal.state ≠ 4 ∧ bit
      s.pair.peer 18 = false ∧ s.ureg.verifying = false) ∧
    (∃ (s : State) (f : ChpFrame) (k : Nat), s.sys.saving = true ∧ chpPasses 0x0040 (some 4) false f k { s with sys.saving := false } ∧
      f.body.length = 52) ∧
    (∃ (s : State) (f : ChpFrame) (k : Nat), s.sys.saving = true ∧ chpPasses 0x0041 (some 4) false f k { s with sys.saving := false } ∧ 9
      ≤ f.body.length ∧ f.body.length ≤ 4104) ∧
    (∃ (s : State) (f : ChpFrame) (k : Nat), s.sys.saving = true ∧ chpPasses 0x0042 (some 4) false f k { s with sys.saving := false } ∧
      f.body = []) ∧
    (∃ (s : State) (f : ChpFrame) (k : Nat), s.sys.saving = true ∧ chpPasses 0x0043 (some 4) false f k { s with sys.saving := false } ∧
      f.body.length = 4 ∧ zeros f.body 2 2 = true) ∧
    (∃ (s : State), s.ureg.verifying = true ∧ s.sys.saving = false ∧ s.ureg.verify = none) ∧
    (∃ (s : State), s.inService = true ∧ s.upd.window.isSome = true ∧ s.ureg.verifying = false) ∧
    (∃ (s : State) (n : Nat), s.upd.journal.state = 4 ∧ s.ureg.opened = some n ∧ s.sys.saving = false ∧ (s.atLeast
      s.trialEnd).trialHealthy = true) ∧
    (∃ (s : State), s.upd.journal.state = 4 ∧ s.inService = true ∧ s.sys.saving = false ∧ (s.atLeast s.trialEnd).trialHealthy = false) ∧
    (∃ (s : State), s.upd.journal.state = 4 ∧ s.powered = true ∧ s.sys.saving = false) ∧
    (∃ (s : State), s.upd.journal.state ≠ 4) ∧
    (∃ (s : State), s.upd.journal.state = 1 ∧ s.powered = true ∧ s.sys.saving = false) :=
  ⟨⟨lead, req lead 0x40 ([0#8, 0#8, 1#8, 0#8] ++ List.replicate 48 1#8), 0, req_passes _ _ _ _ _ (by decide), by decide⟩,
    ⟨loading, req loading 0x41 (leBytes 4 0 ++ leBytes 4 (crc32c block0) ++ block0), 0, req_passes _ _ _ _ _ (by decide), by decide⟩,
    ⟨lead, req lead 0x42 [], 0, req_passes _ _ _ _ _ (by decide), by decide⟩,
    ⟨{ lead with upd.length := 4096, upd.blocks := 1 }, req ({ lead with upd.length := 4096, upd.blocks := 1 }) 0x43 [60#8, 0#8, 0#8,
      0#8], 0, req_passes _ _ _ _ _ (by decide), by decide⟩,
    ⟨{ lead with sys.saving := true }, req lead 0x40 (List.replicate 52 0#8), 0, by decide, req_passes _ _ _ lead _ (by decide), by
      decide⟩,
    ⟨{ lead with sys.saving := true }, req lead 0x41 (List.replicate 9 0#8), 0, by decide, req_passes _ _ _ lead _ (by decide), by
      decide, by decide⟩,
    ⟨{ lead with sys.saving := true }, req lead 0x42 ([]), 0, by decide, req_passes _ _ _ lead _ (by decide), by decide⟩,
    ⟨{ lead with sys.saving := true }, req lead 0x43 ([60#8, 0#8, 0#8, 0#8]), 0, by decide, req_passes _ _ _ lead _ (by decide), by
      decide, by decide⟩,
    ⟨{ s0 with ureg.verifying := true, sys.saving := false, ureg.verify := none }, by decide⟩,
    ⟨{ lead with upd.window := some 60 }, by decide⟩,
    ⟨{ lead with upd.journal.state := 4, ureg.opened := some 0, upd.journal.window := 60, time.frc := 60000000000#64 }, 0, by decide⟩,
    ⟨{ s0 with upd.journal.state := 4, sys.saving := false, sys.mode := .lead }, by decide⟩,
    ⟨{ s0 with upd.journal.state := 4, sys.saving := false }, by decide⟩,
    ⟨s0, by decide⟩,
    ⟨{ s0 with upd.journal.state := 1, sys.saving := false }, by decide⟩⟩

/-- The premises of `EnergyMetering`. -/
theorem witness_EnergyMetering :
    (∃ (s : State) (l : List BlockIn) (r : PointRec) (p : Int) (q : Int) (e : Nat) (i : Nat) (j : Nat), s.metering = true ∧
      s.time.running = true ∧ s.met.accumulating = true ∧ r ∈ s.recs (·.points) ∧ ((s.recs (·.points)).map (·.point)).Nodup ∧
      (s.meterSamples l).blockEnergy r = (p, q, e) ∧ (creepLow r p.natAbs && creepLow r q.natAbs) = false ∧ i = (if 0 ≤ p then 0 else 1)
      ∧ j = (if 0 ≤ q then (if 0 ≤ p then 2 else 3) else (if p < 0 then 4 else 5))) ∧
    (∃ (s : State) (l : List BlockIn) (r : PointRec) (p : Int) (q : Int) (e : Nat), s.metering = true ∧ s.time.running = true ∧
      s.met.accumulating = true ∧ r ∈ s.recs (·.points) ∧ ((s.recs (·.points)).map (·.point)).Nodup ∧ (s.meterSamples l).blockEnergy r =
      (p, q, e) ∧ creepLow r p.natAbs = true ∧ creepLow r q.natAbs = true ∧ creepLow r e = true) ∧
    (∃ (s : State) (l : List BlockIn) (r : PointRec), s.metering = true ∧ s.time.running = true ∧ s.met.accumulating = false ∧
      s.inService = true ∧ r ∈ s.recs (·.points) ∧ ((s.recs (·.points)).map (·.point)).Nodup) ∧
    (∃ (s : State) (r : PointRec), s.metering = true ∧ s.time.running = true ∧ r ∈ s.recs (·.points) ∧ ((s.recs (·.points)).map
      (·.point)).Nodup ∧ Tab.wf {} s.met.points = true ∧ Tab.wf {} s.met.chans = true) ∧
    (∃ (s : State), s.metering = true ∧ s.time.running = true ∧ s.mets.checks.length = 2) ∧
    (∃ (s : State) (x : BitVec 8), s.metering = true ∧ s.time.running = true ∧ s.mets.checks.length = 2) ∧
    (∃ (s : State), s.metering = true) ∧
    (∃ (s : State) (n : Fin 8), s.metering = true ∧ s.pairUsed n.val = true ∧ bit s.met.bsFault n.val = false) ∧
    (∃ (s : State) (n : Fin 8), s.metering = true) ∧
    (∃ (s : State) (c : Fin 38) (h : Fin 2) (v : Word), s.powered = true ∧ ((s.life = .vendor ∨ s.life = .service)) ∧ calRange h.val
      v.toNat = true ∧ s.mets.cal.length = 2) ∧
    (∃ (s : State) (c : Fin 38) (h : Fin 2) (v : Word), ((s.life = .provision ∨ s.life = .field ∨ s.life = .retired))) :=
  ⟨⟨{ lead with met.points := [(0, { acc := [2 ^ 96 - 1, 0, 0, 0, 0, 0, 0], frac := [unitsPerNwh - 1, 0, 0, 0, 0, 0, 0] })] }, loud,
      point0, ((({ lead with met.points := [(0, { acc := [2 ^ 96 - 1, 0, 0, 0, 0, 0, 0], frac := [unitsPerNwh - 1, 0, 0, 0, 0, 0, 0] })] }
      : State).meterSamples loud).blockEnergy point0).1, ((({ lead with met.points := [(0, { acc := [2 ^ 96 - 1, 0, 0, 0, 0, 0, 0], frac := [unitsPerNwh - 1, 0, 0, 0, 0, 0, 0] })] }
      : State).meterSamples loud).blockEnergy point0).2.1, ((({ lead with met.points := [(0, { acc := [2 ^ 96 - 1, 0, 0, 0, 0, 0, 0], frac := [unitsPerNwh - 1, 0, 0, 0, 0, 0, 0] })] }
      : State).meterSamples loud).blockEnergy point0).2.2, _, _, by decide, by decide, by decide, by decide, by decide, rfl, by decide,
      rfl, rfl⟩,
    ⟨lead, [], point0, 0, 0, 0, by decide, by decide, by decide, by decide, by decide, silent_energy, by decide, by decide, by decide⟩,
    ⟨{ lead with met.accumulating := false }, loud, point0, by decide⟩,
    ⟨lead, point0, by decide⟩,
    ⟨lead, by decide⟩,
    ⟨lead, 1#8, by decide⟩,
    ⟨lead, by decide⟩,
    ⟨lead, 2, by decide⟩,
    ⟨{ lead with met.bsFault := 4 }, 2, by decide⟩,
    ⟨lead, 37, 0, 0x200000#32, by decide⟩,
    ⟨{ lead with keys.fuse.word := 1 }, 37, 0, 0#32, by decide⟩⟩

/-- The premises of `ZoneLighting`. -/
theorem witness_ZoneLighting :
    (∃ (s : State) (w : State) (n : Fin 24) (r : StringRec) (v : Nat) (c : Nat), w = s.whenReady domLighting ∧ s.strRec n.val = some r ∧
      s.clk.lighting = true ∧ s.lum.boost = .run ∧ 118 ≤ longest (w.onClocks n.val) ∧ c < r.current * 500 ∧ v < 300 ∧ (s.lstr
      n.val).fails = 2 ∧ (s.lstr n.val).opened = false) ∧
    (∃ (s : State) (w : State) (n : Fin 24) (r : StringRec) (v : Nat) (c : Nat) (x : LumString), w = s.whenReady domLighting ∧ s.strRec
      n.val = some r ∧ s.lstr n.val = x ∧ s.clk.lighting = true ∧ s.lum.boost = .run ∧ 118 ≤ longest (w.onClocks n.val) ∧ Tab.wf {}
      s.lum.strings = true) ∧
    (∃ (s : State) (w : State) (n : Fin 24) (r : StringRec) (v : Nat) (c : Nat), w = s.whenReady domLighting ∧ s.strRec n.val = some r ∧
      s.clk.lighting = true ∧ s.lum.boost ≠ .run) ∧
    (∃ (s : State) (n : Fin 24) (r : StringRec), s.strRec n.val = some r ∧ s.clk.lighting = true ∧ bit r.flags 0 = true ∧ s.lum.boost =
      .run ∧ s.onClocks n.val < 118 ∧ (s.lstr n.val).heldOv = false ∧ (s.lstr n.val).heldAdj = false ∧ 1024 ≤ (s.lstr n.val).sinceDiag) ∧
    (∃ (s : State), s.powered = true ∧ Tab.wf {} s.lum.strings = true) ∧
    (∃ (s : State), s.clk.lighting = true ∧ (s.unitRec.map (·.shortTest)).getD 0 ≠ 0) ∧
    (∃ (s : State), s.powered = true) ∧
    (∃ (s : State) (a : List Nat) (b : List Nat), s.lum.testDue = true ∧ s.lum.boost = .run ∧ s.sys.saving = false ∧ Tab.wf {}
      s.lum.strings = true) ∧
    (∃ (s : State) (b : Bool) (v : Nat), (s.lum.boost = .run ∨ s.lum.boost = .softStart)) ∧
    (∃ (s : State), s.lum.boost = .faultWait ∧ s.lum.faults ≤ 4) ∧
    (∃ (s : State), s.lum.boost = .faultWait ∧ 4 < s.lum.faults) ∧
    (∃ (s : State) (v : Nat), s.lum.boost = .softStart ∧ s.nearSetpoint v = true) ∧
    (∃ (s : State) (v : Nat), s.lum.boost = .softStart ∧ s.nearSetpoint v = false) ∧
    (∃ (s : State) (x : Nat), s.lum.boost = .run ∧ s.lum.runSince = some x) ∧
    (∃ (s : State), s.powered = true ∧ s.lum.boost = .latched) ∧
    (∃ (s : State), s.lum.boost ≠ .off) ∧
    (∃ (s : State) (v : Nat), s.clk.lighting = true) ∧
    (∃ (s : State) (l : List (Fin 24 × Nat × Nat)) (v : Nat), s.clk.lighting = true ∧ (l.map (·.1)).Nodup ∧ Tab.wf {} s.lum.strings =
      true) :=
  ⟨⟨{ lead with lum.boost := .run, lum.active := [(0, 4)], lum.strings := [(0, { fails := 2 })] }, _, 0, ⟨0, 0, 1, 100, 1000, 1⟩, 299,
      49999, rfl, by decide, by decide, by decide, by decide, by decide, by decide, by decide, by decide⟩,
    ⟨{ lead with lum.boost := .run, lum.active := [(0, 4)] }, _, 0, ⟨0, 0, 1, 100, 1000, 1⟩, 10001, 100000, _, rfl, by decide, rfl, by
      decide, by decide, by decide, by decide⟩,
    ⟨lead, _, 0, ⟨0, 0, 1, 100, 1000, 1⟩, 299, 49999, rfl, by decide, by decide, by decide⟩,
    ⟨{ lead with lum.boost := .run, lum.active := [], lum.strings := [(0, { sinceDiag := 1024 })] }, 0, ⟨0, 0, 1, 100, 1000, 1⟩, by
      decide⟩,
    ⟨s0, by decide⟩,
    ⟨lead, by decide⟩,
    ⟨s0, by decide⟩,
    ⟨{ s0 with lum.testDue := true, lum.boost := .run, sys.saving := false }, [], [], by decide⟩,
    ⟨{ lead with lum.boost := .softStart }, true, 9, by decide⟩,
    ⟨{ s0 with lum.boost := .faultWait }, by decide⟩,
    ⟨{ lead with lum.boost := .faultWait, lum.faults := 5 }, by decide⟩,
    ⟨{ lead with lum.boost := .softStart, loop.objects := [(578, { LoopObj.reset with setpoint := 40000 * 2 ^ 20 })] }, 420, by decide⟩,
    ⟨{ lead with lum.boost := .softStart, loop.objects := [(578, { LoopObj.reset with setpoint := 40000 * 2 ^ 20 })] }, 421, by decide⟩,
    ⟨{ s0 with lum.boost := .run, lum.runSince := some (1) }, 1, by decide⟩,
    ⟨{ s0 with lum.boost := .latched }, by decide⟩,
    ⟨{ lead with lum.boost := .run, lum.active := [(0, 4)] }, by decide⟩,
    ⟨{ s0 with clk.lighting := true }, 1, by decide⟩,
    ⟨{ lead with lum.boost := .run, lum.active := [(0, 4)] }, [(0, 800, 90000), (23, 1, 1)], 9, by decide⟩⟩

/-- The premises of `EventsTaken`. -/
theorem witness_EventsTaken :
    (∃ (s : State) (c : BitVec 16) (d : List Octet), s.rcd.closed = false ∧ s.powered = true ∧ s.sys.mode ≠ .shadow ∧ (Tab.get {}
      s.rcd.buckets c.toNat : Bucket).tokens ≠ 0 ∧ s.rcd.fifo.length < 32) ∧
    (∃ (s : State) (c : BitVec 16) (d : List Octet), s.rcd.closed = false ∧ s.powered = true ∧ s.sys.mode ≠ .shadow ∧ (Tab.get {}
      s.rcd.buckets c.toNat : Bucket).tokens = 0) ∧
    (∃ (s : State) (c : BitVec 16) (d : List Octet), s.rcd.closed = false ∧ s.powered = true ∧ s.sys.mode ≠ .shadow ∧ (Tab.get {}
      s.rcd.buckets c.toNat : Bucket).tokens ≠ 0 ∧ 32 ≤ s.rcd.fifo.length) ∧
    (∃ (s : State) (e : Entry) (l : List Entry), s.rcd.closed = false ∧ s.rcd.fifo = e :: l ∧ s.rcd.ovfDrops = 0) ∧
    (∃ (s : State) (c : BitVec 16), (Tab.get {} s.rcd.buckets c.toNat : Bucket).tokens < 7) ∧
    (∃ (s : State) (c : BitVec 16), (Tab.get {} s.rcd.buckets c.toNat : Bucket).tokens = 7 ∧ (Tab.get {} s.rcd.buckets c.toNat :
      Bucket).suppressed = 0 ∧ Tab.wf {} s.rcd.buckets = true) :=
  ⟨⟨{ s0 with rcd.closed := false }, 1#16, [], by decide⟩,
    ⟨{ lead with rcd.buckets := [(0x501, { tokens := 0 })] }, 0x501#16, [1#8], by decide⟩,
    ⟨{ lead with rcd.fifo := List.replicate 32 ⟨0x501#16, [], 0, 0, 0, 0, true, true, false, false⟩ }, 0x501#16, [1#8], by decide⟩,
    ⟨{ lead with rcd.fifo := [⟨0x501#16, [], 0, 0, 0, 0, true, true, false, false⟩] }, ⟨0x501#16, [], 0, 0, 0, 0, true, true, false,
      false⟩, [], by decide⟩,
    ⟨{ lead with rcd.buckets := [(0x501, { tokens := 6 })] }, 0x501#16, by decide⟩,
    ⟨{ lead with rcd.buckets := [(0x501, { tokens := 7 })] }, 0x501#16, by decide⟩⟩

/-- The premises of `SuppressedRecord`. -/
theorem witness_SuppressedRecord :
    (∃ (s : State) (c : BitVec 16) (b : Bucket), Tab.get {} s.rcd.buckets c.toNat = b ∧ b.tokens = 7 ∧ b.suppressed ≠ 0 ∧ s.rcd.closed =
      false) ∧
    (∃ (s : State) (c : BitVec 16) (b : Bucket), Tab.get {} s.rcd.buckets c.toNat = b ∧ b.tokens ≤ 7 ∧ b.suppressed = 0) :=
  ⟨⟨{ lead with rcd.buckets := [(0x501, { tokens := 7, suppressed := 70000, first := 5, last := 9 })] }, 0x501#16, { tokens := 7, suppressed := 70000, first := 5, last := 9 },
      by decide⟩,
    ⟨{ lead with rcd.buckets := [(0x501, { tokens := 7 })] }, 0x501#16, { tokens := 7 }, by decide⟩⟩

/-- The premises of `RecordsKept`. -/
theorem witness_RecordsKept :
    (∃ (s : State), s.powered = true ∧ s.sys.saving = false) ∧
    (∃ (s : State), s.powered = true ∧ s.sys.saving = false ∧ ((s.rcd.flushDue = true ∨ s.rcd.flushing = true)) ∧ s.store.unarchived +
      s.rcd.unflushed ≤ 32768 ∧ s.rcd.lostRun = 0) ∧
    (∃ (s : State), s.inService = true ∧ s.sys.saving = false) ∧
    (∃ (s : State), s.time.running = true ∧ s.inService = true ∧ s.sys.saving = false) ∧
    (∃ (s : State) (l : List Bool), s.inService = true ∧ s.sys.saving = false ∧ ((s.rcd.archiving = true ∨ 24576 ≤ s.store.unarchived)) ∧
      s.store.unarchived ≤ s.store.ring.length) ∧
    (∃ (s : State), s.inService = true ∧ s.sys.saving = false ∧ s.rcd.archiving = true ∧ 8 < s.store.unarchived ∧ s.store.unarchived ≤
      s.store.ring.length) ∧
    (∃ (s : State) (v : Word) (r : Record), s.powered = true ∧ s.recordAt (bits v.toNat 0 2) (bits v.toNat 8 18) = some r) ∧
    (∃ (s : State) (v : Word), s.powered = true ∧ s.recordAt (bits v.toNat 0 2) (bits v.toNat 8 18) = none) :=
  ⟨⟨{ s0 with sys.saving := false }, by decide⟩,
    ⟨{ lead with rcd.flushing := true, rcd.buffer := [⟨0x501#16, 0#8, 0#8, 0, 0, 0, 0, 0, []⟩], rcd.unflushed := 1 }, by decide⟩,
    ⟨{ s0 with sys.saving := false, sys.mode := .lead }, by decide⟩,
    ⟨{ s0 with time.running := true, sys.saving := false, sys.mode := .lead }, by decide⟩,
    ⟨{ lead with rcd.archiving := true, store.ring := [⟨0x501#16, 0#8, 0#8, 0, 0, 0, 0, 0, []⟩], store.unarchived := 1 }, [true, false],
      by decide⟩,
    ⟨{ lead with rcd.archiving := true, store.ring := List.replicate 9 ⟨0x501#16, 0#8, 0#8, 0, 0, 0, 0, 0, []⟩, store.unarchived := 9 },
      by decide⟩,
    ⟨{ lead with rcd.buffer := [⟨0x501#16, 0#8, 0#8, 0, 0, 0, 0, 0, []⟩] }, 0#32, ⟨0x501#16, 0#8, 0#8, 0, 0, 0, 0, 0, []⟩, by decide⟩,
    ⟨s0, 1#32, by decide⟩⟩

/-- The premises of `DiagnosticSessions`. -/
theorem witness_DiagnosticSessions :
    (∃ (s : State) (f : ChpFrame) (k : Nat) (m : BitVec 384), chpPasses 0x0060 (some 6) false f k s ∧ f.body = [] ∧ s.diagPermitted =
      true ∧ s.diag.session = false ∧ s.sys.meas[7]? = some m) ∧
    (∃ (s : State) (f : ChpFrame) (k : Nat), chpPasses 0x0061 (some 6) false f k s ∧ f.body = [] ∧ s.diag.session = true ∧ s.diag.host =
      (s.hs k).host) ∧
    (∃ (s : State), s.powered = true ∧ s.diag.session = true ∧ s.sys.saving = false) ∧
    (∃ (s : State) (w : Fin 8) (b : Bool) (a : Nat), s.powered = true ∧ s.sys.saving = false ∧ s.diag.session = true ∧ s.diag.slot =
      w.val ∧ s.diag.selDetector = 0x08 ∧ s.injectRefusal = none) ∧
    (∃ (s : State) (w : Fin 8) (b : Bool) (a : Nat) (d : Nat) (m : BitVec 384), s.powered = true ∧ s.sys.saving = false ∧ s.diag.session
      = true ∧ s.diag.slot = w.val ∧ s.injectRefusal = none ∧ s.diag.selDetector = d ∧ s.sys.meas[7]? = some m) ∧
    (∃ (s : State) (w : Fin 8) (b : Bool) (a : Nat), s.powered = true ∧ s.sys.saving = false ∧ s.diag.session = false) ∧
    (∃ (s : State) (w : Fin 8) (i : Injection), s.powered = true ∧ s.sys.saving = false ∧ s.diag.session = true ∧ s.diag.slot = w.val ∧
      s.diag.active = some i) ∧
    (∃ (s : State) (i : Injection), s.diag.active = some i ∧ s.powered = true ∧ s.sys.saving = false ∧ i.seen = none) ∧
    (∃ (s : State) (i : Injection) (n : Nat), s.diag.active = some i ∧ s.powered = true ∧ s.sys.saving = false ∧ i.seen = some n ∧
      i.detector ≠ 5 ∧ i.detector ≠ 7 ∧ n ≤ i.began + injectDeadline i.detector) ∧
    (∃ (s : State) (n : Nat), s.diag.timedEnd = some n ∧ s.powered = true) :=
  ⟨⟨lead, req lead 0x60 [], 0, 0#384, req_passes _ _ _ _ _ (by decide), by decide⟩,
    ⟨{ lead with diag.session := true }, req ({ lead with diag.session := true }) 0x61 [], 0, req_passes _ _ _ _ _ (by decide), by
      decide⟩,
    ⟨{ s0 with diag.session := true, sys.saving := false }, by decide⟩,
    ⟨{ s0 with sys.saving := false, diag.session := true, diag.slot := (0), diag.selDetector := 0x08 }, 0, true, 1, by decide⟩,
    ⟨{ lead with diag.session := true, diag.selDetector := 8 }, 0, false, 0, 8, 0#384, by decide⟩,
    ⟨{ s0 with sys.saving := false, diag.session := false }, 0, true, 1, by decide⟩,
    ⟨{ lead with diag.session := true, diag.active := some ⟨8, 0, 5, 0, true, none⟩ }, 0, ⟨8, 0, 5, 0, true, none⟩, by decide⟩,
    ⟨{ lead with diag.active := some ⟨8, 0, 5, 0, true, none⟩ }, ⟨8, 0, 5, 0, true, none⟩, by decide⟩,
    ⟨{ lead with diag.active := some ⟨8, 0, 5, 0, true, some 3⟩ }, ⟨8, 0, 5, 0, true, some 3⟩, 3, by decide⟩,
    ⟨{ s0 with diag.timedEnd := some (1) }, 1, by decide⟩⟩

/-- The premises of `HostSessions`. -/
theorem witness_HostSessions :
    (∃ (s : State) (f : ChpFrame) (k : Nat), f.session = 0#32 ∧ s.carries f.source = true ∧ f.formed = true ∧ f.body.length = 20 ∧ zeros
      f.body 1 3 = true ∧ getLe f.body 0 1 < 16 ∧ s.serves 1 = true ∧ s.admits (getLe f.body 0 1) f.source = true ∧ (s.hostKey (getLe
      f.body 0 1)).isSome = true ∧ Tab.get 0 s.host.lockout (getLe f.body 0 1) = 0 ∧ s.host.sessions.findIdx? (fun x => !x.inUse) = some
      k) ∧
    (∃ (s : State) (f : ChpFrame), f.session = 0#32 ∧ s.carries f.source = true ∧ f.formed = true ∧ f.body.length = 20 ∧ zeros f.body 1 3
      = true ∧ getLe f.body 0 1 < 16 ∧ s.serves 1 = true ∧ ((s.admits (getLe f.body 0 1) f.source = false ∨ s.hostKey (getLe f.body 0 1)
      = none ∨ Tab.get 0 s.host.lockout (getLe f.body 0 1) ≠ 0))) ∧
    (∃ (s : State) (f : ChpFrame), f.session = 0#32 ∧ s.carries f.source = true ∧ f.formed = true ∧ f.body.length = 20 ∧ zeros f.body 1 3
      = true ∧ getLe f.body 0 1 < 16 ∧ s.serves 1 = true ∧ s.admits (getLe f.body 0 1) f.source = true ∧ (s.hostKey (getLe f.body 0
      1)).isSome = true ∧ Tab.get 0 s.host.lockout (getLe f.body 0 1) = 0 ∧ ((∀ x ∈ s.host.sessions, x.inUse = true))) ∧
    (∃ (s : State) (f : ChpFrame) (k : Nat), s.carries f.source = true ∧ f.formed = true ∧ f.body.length = 16 ∧ f.mac = none ∧ s.slotOf f
      false = some k ∧ s.admits (s.hs k).host f.source = true ∧ s.serves 2 = true ∧ (s.hostKey (s.hs k).host).isSome = true ∧ f.body =
      s.proof (ascii "CMT-CHP-HOST") (s.hs k) ∧ Tab.wf 0 s.host.failures = true) ∧
    (∃ (s : State) (f : ChpFrame) (k : Nat), s.carries f.source = true ∧ f.formed = true ∧ f.body.length = 16 ∧ f.mac = none ∧ s.slotOf f
      false = some k ∧ s.admits (s.hs k).host f.source = true ∧ s.serves 2 = true ∧ f.body ≠ s.proof (ascii "CMT-CHP-HOST") (s.hs k)) ∧
    (∃ (s : State) (f : ChpFrame) (k : Nat), chpPasses 0x0003 none false f k s ∧ f.body = []) ∧
    (∃ (s : State) (k : Fin 8), s.powered = true ∧ (s.hs k.val).inUse = true ∧ (s.hs k.val).authed = false) ∧
    (∃ (s : State) (k : Fin 8), s.powered = true ∧ (s.hs k.val).inUse = true ∧ (s.hs k.val).authed = true) ∧
    (∃ (s : State) (h : Fin 16) (n : Nat), Tab.get 0 s.host.lockout h.val = n ∧ n ≠ 0 ∧ Tab.wf 0 s.host.lockout = true) ∧
    (∃ (s : State) (k : Fin 8), s.powered = true) :=
  ⟨⟨lead, openReq (List.replicate 20 0#8), 1, by decide⟩,
    ⟨{ lead with host.lockout := [(0, 9)] }, openReq (List.replicate 20 0#8), by decide⟩,
    ⟨{ lead with host.sessions := List.replicate 8 sess }, openReq (List.replicate 20 0#8), by decide⟩,
    ⟨pendingLead, authReq owed, 0, by decide, by decide, by decide, by decide, by decide, by decide, by decide, by decide, rfl, by
      decide⟩,
    ⟨pendingLead, authReq (((owed[0]?).getD 0#8 + 1#8) :: owed.drop 1), 0, by decide, by decide, by decide, by decide, by decide, by
      decide, by decide, unowed⟩,
    ⟨lead, req lead 3 [], 0, req_passes _ _ _ _ _ (by decide), by decide⟩,
    ⟨pendingLead, 0, by decide⟩,
    ⟨lead, 0, by decide⟩,
    ⟨{ lead with host.lockout := [(15, 60000000000)] }, 15, 60000000000, by decide⟩,
    ⟨s0, 0, by decide⟩⟩

/-- The premises of `HostMessages`. -/
theorem witness_HostMessages :
    (∃ (s : State) (f : ChpFrame) (k : Nat) (a : Nat) (n : Nat), chpPasses 0x0010 (some 0) false f k s ∧ f.body.length = 8 ∧ getLe f.body
      0 4 = a ∧ getLe f.body 4 2 = n ∧ 1 ≤ n ∧ n ≤ 256 ∧ zeros f.body 6 2 = true ∧ blockOf a ≠ 0x11 ∧ ((∀ x ∈ readAddresses a n, blockOf
      x = blockOf a ∧ (liveReg x s).isSome = true ∧ wideReg (blockOf x) (offsetOf x) = none))) ∧
    (∃ (s : State) (f : ChpFrame) (k : Nat) (a : Nat) (n : Nat), chpPasses 0x0010 (some 0) false f k s ∧ f.body.length = 8 ∧ getLe f.body
      0 4 = a ∧ getLe f.body 4 2 = n ∧ 1 ≤ n ∧ n ≤ 256 ∧ zeros f.body 6 2 = true ∧ ((∀ x ∈ readAddresses a n, blockOf x = blockOf a ∧ ∀
      h, (liveReg x { s with host := h }).isSome = true))) ∧
    (∃ (s : State) (f : ChpFrame) (k : Nat) (a : Nat), chpPasses 0x0010 (some 0) false f k s ∧ f.body.length = 8 ∧ getLe f.body 0 4 = a ∧
      1 ≤ getLe f.body 4 2 ∧ getLe f.body 4 2 ≤ 256 ∧ zeros f.body 6 2 = true ∧ blockOf a ≠ 0x11 ∧ liveReg a s = none) ∧
    (∃ (s : State) (f : ChpFrame) (k : Nat) (a : Nat) (v : Nat), chpPasses 0x0011 (some 1) false f k s ∧ oneWrite f.body ∧ getLe f.body 4
      4 = a ∧ getLe f.body 8 4 = v ∧ liveReg a s ≠ none ∧ pairWide (blockOf a) (offsetOf a) = true ∧ pairWideOk (blockOf a) (offsetOf a)
      v = true ∧ s.isLead = true ∧ (s.pair.viaUp && s.paired) = false) ∧
    (∃ (s : State) (f : ChpFrame) (k : Nat) (a : Nat) (v : Nat), chpPasses 0x0011 (some 1) false f k s ∧ oneWrite f.body ∧ getLe f.body 4
      4 = a ∧ getLe f.body 8 4 = v ∧ liveReg a s ≠ none ∧ pairWide (blockOf a) (offsetOf a) = true ∧ pairWideOk (blockOf a) (offsetOf a)
      v = true ∧ s.isLead = true ∧ s.pair.viaUp = true ∧ s.paired = true) ∧
    (∃ (s : State) (f : ChpFrame) (k : Nat) (n : Nat), chpPasses 0x0011 (some 1) false f k s ∧ getLe f.body 0 2 = n ∧ 1 ≤ n ∧ n ≤ 64 ∧
      f.body.length = 4 + 8 * n ∧ zeros f.body 2 2 = true) ∧
    (∃ (s : State) (f : ChpFrame) (k : Nat) (a : Nat) (v : Nat), chpPasses 0x0011 (some 1) false f k s ∧ oneWrite f.body ∧ getLe f.body 4
      4 = a ∧ getLe f.body 8 4 = v ∧ blockOf a ≠ 0x11 ∧ ((liveReg a s = none ∨ pairWide (blockOf a) (offsetOf a) = true ∧ (s.isLead =
      false ∨ pairWideOk (blockOf a) (offsetOf a) v = false)))) ∧
    (∃ (s : State) (f : ChpFrame) (k : Nat), chpPasses 0x0012 (some 1) false f k s ∧ f.body = []) ∧
    (∃ (s : State) (f : ChpFrame) (k : Nat) (a : Nat) (n : Nat), chpPasses 0x0021 (some 2) true f k s ∧ getLe f.body 0 2 = a ∧ getLe
      f.body 2 1 = n ∧ 1 ≤ n ∧ n ≤ 64 ∧ f.body.length = 4 + n ∧ zeros f.body 3 1 = true ∧ (s.nodeRec a).isSome = true ∧ ((s.waitingFor
      a).filter (fun u => decide (u.kind = 0x21))).length < 4) ∧
    (∃ (s : State) (f : ChpFrame) (k : Nat) (a : Nat) (n : Nat), chpPasses 0x0021 (some 2) true f k s ∧ getLe f.body 0 2 = a ∧ getLe
      f.body 2 1 = n ∧ 1 ≤ n ∧ n ≤ 64 ∧ f.body.length = 4 + n ∧ zeros f.body 3 1 = true ∧ ((s.nodeRec a = none ∨ 4 ≤ ((s.waitingFor
      a).filter (fun u => decide (u.kind = 0x21))).length))) ∧
    (∃ (s : State) (f : ChpFrame) (k : Nat) (a : Nat), chpPasses 0x0022 (some 0) false f k s ∧ f.body.length = 4 ∧ zeros f.body 2 2 =
      true ∧ getLe f.body 0 2 = a) ∧
    (∃ (s : State) (f : ChpFrame) (k : Nat) (slot : Nat) (off : Nat) (d : List Octet), chpPasses 0x0090 (some 9) false f k s ∧
      configWriteOk f.body = true ∧ getLe f.body 0 1 = slot ∧ getLe f.body 4 4 = off ∧ f.body.drop 8 = d ∧ ((s.sys.restricted = 1 ∨
      s.cfg.active ≠ slot)) ∧ off % 4 = 0 ∧ d.length % 4 = 0 ∧ off + d.length ≤ 2097152 ∧ s.flash.wf = true) ∧
    (∃ (s : State) (f : ChpFrame) (k : Nat), chpPasses 0x0090 (some 9) false f k s ∧ configWriteOk f.body = true ∧ s.sys.restricted ≠ 1 ∧
      s.cfg.active = getLe f.body 0 1) ∧
    (∃ (s : State) (f : ChpFrame) (k : Nat), chpPasses 0x0091 (some 9) false f k s ∧ f.body.length = 4 ∧ getLe f.body 0 1 < 2 ∧ zeros
      f.body 1 3 = true) :=
  ⟨⟨lead, req lead 0x10 (leBytes 4 0 ++ [2#8, 0#8, 0#8, 0#8]), 0, 0, 2, req_passes _ _ _ _ _ (by decide), by decide⟩,
    ⟨lead, req lead 0x10 [0#8, 0#8, 0#8, 0#8, 1#8, 0#8, 0#8, 0#8], 0, 0, 1, req_passes _ _ _ _ _ (by decide), by decide, by decide, by
      decide, by decide, by decide, by decide, by simp only [readAddresses]; intro x hx; simp at hx; subst hx; exact ⟨rfl, fun _ => rfl⟩⟩,
    ⟨lead, req lead 0x10 (leBytes 4 2 ++ [1#8, 0#8, 0#8, 0#8]), 0, 2, req_passes _ _ _ _ _ (by decide), by decide⟩,
    ⟨lead, req lead 0x11 ([1#8, 0#8, 0#8, 0#8] ++ leBytes 4 0x100B0 ++ leBytes 4 0x000C1401), 0, 0x100B0, 0x000C1401, req_passes _ _ _ _
      _ (by decide), ⟨by decide, by decide, by decide⟩, by decide⟩,
    ⟨pairLead, req pairLead 0x11 ([1#8, 0#8, 0#8, 0#8] ++ leBytes 4 0x100B0 ++ leBytes 4 0x000C1401), 0, 0x100B0, 0x000C1401, req_passes
      _ _ _ _ _ (by decide), ⟨by decide, by decide, by decide⟩, by decide⟩,
    ⟨lead, req lead 0x11 ([1#8, 0#8, 0#8, 0#8] ++ leBytes 4 0x100B0 ++ leBytes 4 0x000C1401), 0, 1, req_passes _ _ _ _ _ (by decide), by
      decide, by decide, by decide, by decide, by decide⟩,
    ⟨starting, req starting 0x11 ([1#8, 0#8, 0#8, 0#8] ++ leBytes 4 0x100B0 ++ leBytes 4 0x000C1401), 0, 0x100B0, 0x000C1401, req_passes
      _ _ _ _ _ (by decide), ⟨by decide, by decide, by decide⟩, by decide⟩,
    ⟨lead, req lead 0x12 [], 0, req_passes _ _ _ _ _ (by decide), by decide⟩,
    ⟨lead, req lead 0x21 [1#8, 1#8, 1#8, 0#8, 5#8], 0, 0x101, 1, req_passes _ _ _ _ _ (by decide), by decide⟩,
    ⟨lead, req lead 0x21 [2#8, 1#8, 1#8, 0#8, 5#8], 0, 0x102, 1, req_passes _ _ _ _ _ (by decide), by decide⟩,
    ⟨lead, req lead 0x22 [1#8, 1#8, 0#8, 0#8], 0, 0x101, req_passes _ _ _ _ _ (by decide), by decide⟩,
    ⟨lead, req lead 0x90 ([1#8, 0#8, 0#8, 0#8] ++ leBytes 4 65536 ++ [1#8, 2#8, 3#8, 4#8]), 0, 1, 65536, [1#8, 2#8, 3#8, 4#8], req_passes
      _ _ _ _ _ (by decide), by decide⟩,
    ⟨lead, req lead 0x90 ([0#8, 0#8, 0#8, 0#8] ++ leBytes 4 65536 ++ [1#8, 2#8, 3#8, 4#8]), 0, req_passes _ _ _ _ _ (by decide), by
      decide⟩,
    ⟨lead, req lead 0x91 [1#8, 0#8, 0#8, 0#8], 0, req_passes _ _ _ _ _ (by decide), by decide⟩⟩

/-- The premises of `HostPorts`. -/
theorem witness_HostPorts :
    (∃ (s : State), s.powered = true ∧ s.cfg.image.isSome = true) ∧
    (∃ (s : State) (q : Bool) (n : BitVec 16) (b : List Octet), s.carries .spi = true ∧ b.length = n.toNat ∧ b.length ≤ 4352 ∧
      s.host.spiRx.length < 4 ∧ spiRefusal b = none) ∧
    (∃ (s : State) (q : Bool) (n : BitVec 16) (b : List Octet) (r : Nat), s.carries .spi = true ∧ b.length = n.toNat ∧ b.length ≤ 4352 ∧
      s.host.spiRx.length < 4 ∧ spiRefusal b = some r ∧ bit (getLe b 3 1) 2 = false) ∧
    (∃ (s : State) (q : Bool) (n : BitVec 16) (b : List Octet), s.powered = true ∧ s.sys.saving = false ∧ s.tres.frozen.getLsbD 8 = false
      ∧ b.length = n.toNat ∧ b.length ≤ 4352 ∧ s.host.spiRx.length < 4 ∧ s.carries .spi = false) ∧
    (∃ (s : State) (q : Bool) (n : BitVec 16) (b : List Octet), s.carries .spi = true ∧ ((b.length ≠ n.toNat ∨ 4352 < b.length ∨ 4 ≤
      s.host.spiRx.length))) ∧
    (∃ (s : State) (n : BitVec 16) (r : List Octet) (l : List (List Octet)), s.powered = true ∧ s.tres.frozen.getLsbD 8 = false ∧
      s.host.spiTx = r :: l) ∧
    (∃ (s : State) (n : BitVec 16), s.powered = true ∧ s.tres.frozen.getLsbD 8 = false ∧ s.host.spiTx = []) ∧
    (∃ (s : State), s.powered = true ∧ s.tres.frozen.getLsbD 8 = false) ∧
    (∃ (s : State) (m : Fin 2) (u : Bool) (v : Fin 3), s.powered = true ∧ s.host.linkUp.getLsbD m.val = !u ∧ s.host.linkSpeed.length = 2) ∧
    (∃ (s : State) (m : Fin 2) (u : Bool) (v : Fin 3), s.powered = true ∧ s.host.linkUp.getLsbD m.val = u) :=
  ⟨⟨lead, by decide⟩,
    ⟨lead, true, 20#16, [0x43#8, 0x48#8, 1#8, 0#8] ++ leBytes 2 0x10 ++ leBytes 2 0 ++ List.replicate 12 0#8, by decide⟩,
    ⟨lead, true, 20#16, [0x43#8, 0x48#8, 1#8, 0#8] ++ leBytes 2 0x13 ++ leBytes 2 0 ++ List.replicate 12 0#8, 2, by decide⟩,
    ⟨{ lead with cfg.image := none }, true, 20#16, [0x43#8, 0x48#8, 1#8, 0#8] ++ leBytes 2 0x10 ++ leBytes 2 0 ++ List.replicate 12 0#8,
      by decide⟩,
    ⟨lead, true, 2#16, [1#8], by decide⟩,
    ⟨{ lead with host.spiTx := [[1#8, 2#8], [3#8]] }, 1#16, [1#8, 2#8], [[3#8]], by decide⟩,
    ⟨{ s0 with host.spiTx := [] }, 1#16, by decide⟩,
    ⟨s0, by decide⟩,
    ⟨lead, 1, true, 2, by decide⟩,
    ⟨lead, 1, false, 2, by decide⟩⟩

/-- The premises of `LongValuesLatch`. -/
theorem witness_LongValuesLatch :
    ∃ (s : State) (u : State) (a : Nat) (n : Nat) (i : Nat), wideReg (blockOf a) (offsetOf a) = some (offsetOf a, n) ∧ 0 < i ∧ i < n ∧
      Tab.wf 0#32 s.latch = true ∧ u.latch = (s.readWord a).2.latch :=
  ⟨s0, { s0 with latch := (s0.readWord 0x50020).2.latch }, 0x50020, 7, 1, by decide⟩

/-- A heartbeat of unit 1 as lead. -/
abbrev beat1 : Heartbeat := ⟨1, 1, 3, true, false, false, 1, true, true, 0, 0, 0, 0, 0, 0, 0, 0⟩

/-- A frame whose length field cannot count its body is refused, and with it every command that carries it. -/
theorem test_wf_long_frame :
    ({ openReq [] with body := List.replicate 65536 0#8 } : ChpFrame).wf = false := by
  rw [ChpFrame.wf, List.length_replicate]; rfl

/-- Every command that carries a frame refuses one that is not well-formed. -/
theorem test_wf_frames (f : ChpFrame) (h : f.wf = false) :
    ([.timeStep f, .taskSubmit f, .forceRelease f, .guestRequest f, .guestAnswer f, .guestRelease f, .stop f, .release f, .robotClose f,
      .keyUpdateAuthority f, .keyUpdateWrite f, .keyUpdateErase f, .keyUpdateEpochSwitch f, .keyUpdateConfigKey f, .keyUpdateConfigRevoke f,
      .keyUpdateLifecycle f, .keyUpdateFloor f, .updateBegin f, .updateBlock f 0, .updateQuery f, .updateVerify f, .diagOpen f,
      .diagClose f, .open_ f, .auth f, .close f, .statusRead f, .statusWrite f, .restart f, .nodeSend f, .nodeLast f, .configWrite f,
      .configCommit f, .backboneRejected 0 f, .backboneAlive (some f)] : List Instr).all (fun i => !i.wf) = true := by
  simp [Instr.wf, h]

/-- START, Viaduct and image operands out of range are refused. -/
theorem test_wf_start :
    ([.start { startIn with areasBad := 128 }, .start { startIn with failures := 4096 }, .viaductWaitRetry none [0] 0,
      .pairMismatchRecheck none [0, 0, 0, 0, 0] 0, .configFrame img []] : List Instr).all (fun i => !i.wf) = true := by decide

/-- Addresses, ticks, seconds and ceilings beyond their width are refused. -/
theorem test_wf_words :
    ([.trestleWindow [⟨3, 0#13, false, some [(4294967296, 0#8)]⟩], .anchorUpdate ⟨none, true, some 256⟩,
      .bankOverstay 0 true 4294967296, .worldWindowViolation 0 true 0 4294967296, .scrubAccess true (.sram none) .clean 4294967296,
      .diagInject 0 true 4294967296, .tickDelta ⟨4294967296, true, true, {}, [], none⟩, .deltaAck 4294967296 true false,
      .resync 4294967296 none, .handoverGrant 4294967296, .registerFrame 4294967296 0#32 0, .registerFrame 0 0#32 4294967296,
      .ceiling 0 4294967297, .lumBasePeriod 0 65536 0, .lumBasePeriod 0 0 4294967296, .vbatLow 65536] : List Instr).all (fun i => !i.wf) =
      true := by decide

/-- Sites, requests, samples, spectra and blanking positions that do not exist are refused. -/
theorem test_wf_signals :
    ([.scrubAccess true (.queue 0 4096) .clean 0, .scrubAccess true (.recorder 4096) .clean 0, .searchRequest (List.replicate 31 0#8) true,
      .spectrumMonitorRun 0 [], .blankEval [(64000, 0)], .blankEval [(5, 1), (5, 1)], .blankEval [(0, 31)],
      .coherentIntervalEnd 0 [⟨0, 1, 0⟩] none, .coherentIntervalEnd 0 [⟨17, 1, 0⟩] none, .coherentIntervalEnd 0 [] (some (true, 16)),
      .epochLatch ⟨[(288, 0)], [], []⟩, .epochLatch ⟨[], [(0, 25)], []⟩, .loopPeriodBoundary 0 (2 ^ 63),
      .loopPeriodBoundary 0 (-(2 ^ 63) - 1)] : List Instr).all (fun i => !i.wf) = true := by decide

/-- Frames of the air, of PTP and of the Viaduct with fields beyond their width are refused. -/
theorem test_wf_frames_fields :
    ([.frameReceived 0 { rx s0 with seq := 256 }, .frameReceived 0 { rx s0 with payload := List.replicate 128 0#8 },
      .ptpMessageRx 0 ⟨16, 0, true, 3, 9, {}, 0, 0, true⟩, .ptpMessageRx 0 ⟨0xB, 0, true, 65536, 9, {}, 0, 0, true⟩, .ptpTx 0 (some 65536),
      .heartbeatReceived { beat1 with sequence := 256 } true 0, .heartbeatReceived { beat1 with unit := 3 } true 0,
      .heartbeatReceived beat1 true (2 ^ 96)] : List Instr).all (fun i => !i.wf) = true := by decide

/-- Metering and lighting operands that no block, channel or string gives are refused. -/
theorem test_wf_meter :
    ([.powerFailDetect [⟨38, []⟩], .powerFailDetect [⟨0, List.replicate 81 0⟩], .meterBlock [⟨0, [1]⟩],
      .meterBlock [⟨0, List.replicate 80 8388608⟩], .boostHeadroomPeriod [] 1024, .boostHeadroomPeriod [(0, 65536, 0)] 0,
      .boostHeadroomPeriod [(0, 0, 4294967296)] 0, .boostFault true 1024, .boostRun 1024, .adjTest [] (List.replicate 24 0),
      .adjTest (List.replicate 24 0) []] : List Instr).all (fun i => !i.wf) = true := by decide

/-- Entries, descriptors and event data longer than their place are refused. -/
theorem test_wf_lengths :
    ([.tableCommit 0 [(0, List.replicate 9 0#8)] true, .coreDescriptorArrive 0 [], .eventIntake 0#16 (List.replicate 13 0#8)] :
      List Instr).all (fun i => !i.wf) = true := by decide

/-- A window with more cycles than its 8,000 quanta, and a burst longer than SPI counts, are refused. -/
theorem test_wf_bursts (c : BankCycle) :
    (Instr.trestleWindow (List.replicate 8001 c)).wf = false ∧
      (Instr.spiWriteFrame false 0#16 (List.replicate 65536 0#8)).wf = false := by
  constructor
  · rw [Instr.wf, List.length_replicate]; rfl
  · rw [Instr.wf, List.length_replicate]; rfl


/-- The reset state's flash is canonical. -/
theorem test_reset_flash : State.reset.flash.wf = true := by decide

end Sys2Proof.Tests
end

section
/-! SUPPORT. Long values in the status space (R13): where their words lie in each block, what a latched word reads as, and what a read
of a first and of a higher word gives. -/

namespace Sys2Proof.Machine

/-! ### Windows of like registers -/

/-- A window's number lies below the count, the offset within it below the stride, and the two give the offset. -/
theorem eq_of_window_eq_some {base stride count off k r : Nat} (hs : 0 < stride) (h : window base stride count off = some (k, r)) :
    k < count ∧ r < stride ∧ off = base + stride * k + r := by
  obtain ⟨⟨hb, hc⟩, rfl, rfl⟩ : (base ≤ off ∧ off < base + stride * count) ∧ (off - base) / stride = k ∧ (off - base) % stride = r := by
    simpa [window] using h
  have := Nat.div_add_mod (off - base) stride
  exact ⟨Nat.div_lt_of_lt_mul (by omega), Nat.mod_lt _ hs, by omega⟩

/-- The offset `r` within window `k` is found there. -/
theorem window_of_index {base stride count k r : Nat} (hk : k < count) (hr : r < stride) :
    window base stride count (base + stride * k + r) = some (k, r) := by
  have hle : stride * k + stride ≤ stride * count := Nat.mul_le_mul_left stride hk
  have hsub : base + stride * k + r - base = stride * k + r := by omega
  rw [window, if_pos (by omega), hsub, Nat.mul_add_div (by omega), Nat.div_eq_of_lt hr, Nat.mul_add_mod, Nat.mod_eq_of_lt hr, Nat.add_zero]

/-- Moving on within a window moves the offset within it. -/
theorem window_add {base stride count off k r : Nat} (d : Nat) (h : window base stride count off = some (k, r)) (hd : r + d < stride) :
    window base stride count (off + d) = some (k, r + d) := by
  obtain ⟨hk, -, rfl⟩ := eq_of_window_eq_some (by omega) h
  rw [Nat.add_assoc]
  exact window_of_index hk hd

/-! ### Where the words of a long value lie -/

/-- A map of long values is regular: from a first offset on, each of the value's words lies in the block and names that value. -/
def WordsNameValue (wide : Nat → Option (Nat × Nat)) : Prop :=
  ∀ off n i : Nat, wide off = some (off, n) → i < n → off + 4 * i < 0x10000 ∧ wide (off + 4 * i) = some (off, n)

/-- A block without long values. -/
theorem wordsNameValue_none : WordsNameValue (fun _ => none) := fun _ _ _ h _ => nomatch h

/-- SYS: the three digests. -/
theorem wideSys_wordsNameValue : WordsNameValue wideSys := by
  intro off n i h hi
  simp only [wideSys] at h ⊢
  split_ifs at h <;> obtain ⟨rfl, rfl⟩ := h
  · rw [if_pos (by omega)]; exact ⟨by omega, rfl⟩
  · rw [if_neg (by omega), if_pos (by omega)]; exact ⟨by omega, rfl⟩
  · rw [if_neg (by omega), if_neg (by omega), if_pos (by omega)]; exact ⟨by omega, rfl⟩

/-- TRK: each channel's carrier phase. -/
theorem wideTrk_wordsNameValue : WordsNameValue wideTrk := by
  intro off n i h hi
  simp only [wideTrk] at h ⊢
  split at h
  case h_2 => cases h
  case h_1 c r hw =>
    obtain ⟨hc, -, hoff⟩ := eq_of_window_eq_some (by omega) hw
    split_ifs at h
    obtain ⟨hfirst, rfl⟩ := Prod.mk.inj (Option.some.inj h)
    rw [window_add (4 * i) hw (by omega)]
    dsimp only
    rw [if_pos (by omega), hfirst]; exact ⟨by omega, rfl⟩

/-- MEAS: the epoch's time, the base coordinates, each observation's pseudorange and phase. -/
theorem wideMeas_wordsNameValue : WordsNameValue wideMeas := by
  intro off n i h hi
  simp only [wideMeas] at h ⊢
  split_ifs at h
  · obtain ⟨rfl, rfl⟩ := h
    rw [if_pos (by omega)]; exact ⟨by omega, rfl⟩
  · obtain ⟨hfirst, rfl⟩ := Prod.mk.inj (Option.some.inj h)
    rw [if_neg (by omega), if_pos (by omega), show off + 4 * i - (off + 4 * i) % 8 = off by omega]
    exact ⟨by omega, rfl⟩
  · split at h
    case h_2 => cases h
    case h_1 k r hw =>
      obtain ⟨hk, -, hoff⟩ := eq_of_window_eq_some (by omega) hw
      rw [if_neg (by omega), if_neg (by omega)]
      split_ifs at h <;> obtain ⟨hfirst, rfl⟩ := Prod.mk.inj (Option.some.inj h)
      all_goals rw [window_add (4 * i) hw (by omega)]; dsimp only
      · rw [if_pos (by omega), hfirst]; exact ⟨by omega, rfl⟩
      · rw [if_neg (by omega), if_pos (by omega), hfirst]; exact ⟨by omega, rfl⟩

/-- TIME: device time with the FRC, the anchor with the rate, the head entry of each input. -/
theorem wideTime_wordsNameValue : WordsNameValue wideTime := by
  intro off n i h hi
  simp only [wideTime] at h ⊢
  split_ifs at h
  · obtain ⟨rfl, rfl⟩ := h
    rw [if_pos (by omega)]; exact ⟨by omega, rfl⟩
  · obtain ⟨rfl, rfl⟩ := h
    rw [if_neg (by omega), if_pos (by omega)]; exact ⟨by omega, rfl⟩
  · split at h
    case h_2 => cases h
    case h_1 k r hw =>
      obtain ⟨hk, -, hoff⟩ := eq_of_window_eq_some (by omega) hw
      split_ifs at h
      obtain ⟨hfirst, rfl⟩ := Prod.mk.inj (Option.some.inj h)
      rw [if_neg (by omega), if_neg (by omega), window_add (4 * i) hw (by omega)]
      dsimp only
      rw [if_neg (by omega), hfirst]; exact ⟨by omega, rfl⟩

/-- RADA and RADB: the channel mask. -/
theorem wideRad_wordsNameValue : WordsNameValue wideRad := by
  intro off n i h hi
  simp only [wideRad] at h ⊢
  split_ifs at h; obtain ⟨rfl, rfl⟩ := h
  rw [if_pos (by omega)]; exact ⟨by omega, rfl⟩

/-- KEY: the valid slots, the serial number, the identity key, each MEASn. -/
theorem wideKey_wordsNameValue : WordsNameValue wideKey := by
  intro off n i h hi
  simp only [wideKey] at h ⊢
  split_ifs at h
  · obtain ⟨rfl, rfl⟩ := h
    rw [if_pos (by omega)]; exact ⟨by omega, rfl⟩
  · obtain ⟨rfl, rfl⟩ := h
    rw [if_neg (by omega), if_pos (by omega)]; exact ⟨by omega, rfl⟩
  · obtain ⟨rfl, rfl⟩ := h
    rw [if_neg (by omega), if_neg (by omega), if_pos (by omega)]; exact ⟨by omega, rfl⟩
  · obtain ⟨⟨k, r⟩, hw, h⟩ := Option.map_eq_some_iff.mp h
    obtain ⟨hk, -, hoff⟩ := eq_of_window_eq_some (by omega) hw
    obtain ⟨hfirst, rfl⟩ := Prod.mk.inj h
    rw [if_neg (by omega), if_neg (by omega), if_neg (by omega), window_add (4 * i) hw (by omega), Option.map_some, hfirst]
    exact ⟨by omega, rfl⟩

/-- UPD: the bitmap of the received blocks. -/
theorem updBitmap_wordsNameValue :
    WordsNameValue (fun off => if 0x1000 ≤ off ∧ off < 0x1200 then some (0x1000, 128) else none) := by
  intro off n i h hi
  dsimp only at h ⊢
  split_ifs at h; obtain ⟨rfl, rfl⟩ := h
  rw [if_pos (by omega)]; exact ⟨by omega, rfl⟩

/-- MET: the snapshot's device time, the saturated channels. -/
theorem wideMet_wordsNameValue : WordsNameValue wideMet := by
  intro off n i h hi
  simp only [wideMet] at h ⊢
  split_ifs at h <;> obtain ⟨rfl, rfl⟩ := h
  · rw [if_pos (by omega)]; exact ⟨by omega, rfl⟩
  · rw [if_neg (by omega), if_pos (by omega)]; exact ⟨by omega, rfl⟩

/-- Every block's map of long values is regular. -/
theorem wideReg_wordsNameValue (block : Nat) : WordsNameValue (wideReg block) := by
  unfold wideReg
  split
  · exact wideSys_wordsNameValue
  · exact wideTrk_wordsNameValue
  · exact wideMeas_wordsNameValue
  · exact wideTime_wordsNameValue
  · exact wideRad_wordsNameValue
  · exact wideRad_wordsNameValue
  · exact wideKey_wordsNameValue
  · exact updBitmap_wordsNameValue
  · exact wideMet_wordsNameValue
  · exact wordsNameValue_none

/-! ### Addresses -/

/-- An address is its block and its offset. -/
theorem block_add_offset (a : Nat) : blockOf a * 0x10000 + offsetOf a = a := Nat.div_add_mod' a 0x10000

/-- A higher address whose offset still lies in the block is of the same block. -/
theorem blockOf_add {a d : Nat} (h : offsetOf a + d < 0x10000) : blockOf (a + d) = blockOf a := by
  unfold blockOf offsetOf at *; omega

/-- There its offset is higher by as much. -/
theorem offsetOf_add {a d : Nat} (h : offsetOf a + d < 0x10000) : offsetOf (a + d) = offsetOf a + d := by
  unfold offsetOf at *; omega

/-! ### Words latched and read -/

/-- Setting one key after another gives each of them its value and leaves the rest, in a table in canonical form. -/
theorem Tab.get_foldl_set {α : Type} [DecidableEq α] {d : α} {key : Nat → Nat} (hkey : Function.Injective key) (val : Nat → α) (j : Nat) :
    ∀ (l : List Nat) (t : Tab α), Tab.wf d t = true →
      Tab.get d (l.foldl (fun t i => Tab.set d t (key i) (val i)) t) (key j) = if j ∈ l then val j else Tab.get d t (key j)
  | [], _, _ => by simp
  | i :: l, t, h => by
    rw [List.foldl_cons, Tab.get_foldl_set hkey val j l _ (Tab.wf_set (key i) (val i) h)]
    by_cases hij : j = i
    · subst hij; simp [Tab.get_set_same _ _ h]
    · simp [hij, Tab.get_set_other _ h (hkey.ne hij)]

/-- A word that a long value's first word latched reads as it was. -/
theorem State.get_latchWords {s : State} (h : Tab.wf 0#32 s.latch = true) (block base : Nat) {n i : Nat} (h0 : 0 < i) (hn : i < n) :
    Tab.get 0#32 (s.latchWords block base n).latch (block * 0x10000 + base + 4 * i) = (readReg block (base + 4 * i) s).getD 0#32 := by
  obtain ⟨j, rfl⟩ := Nat.exists_eq_add_one.mpr h0
  have hkey : Function.Injective (fun i => block * 0x10000 + base + 4 * (i + 1)) := fun x y hxy => by dsimp only at hxy; omega
  have hmem : j ∈ List.range (n - 1) := List.mem_range.mpr (by omega)
  exact (Tab.get_foldl_set hkey (fun i => (readReg block (base + 4 * (i + 1)) s).getD 0#32) j _ _ h).trans (if_pos hmem)

/-- A read of a long value's first word latches the value. -/
theorem State.readWord_first {a n : Nat} (s : State) (h : wideReg (blockOf a) (offsetOf a) = some (offsetOf a, n)) :
    (s.readWord a).2 = s.latchWords (blockOf a) (offsetOf a) n := by
  simp [State.readWord, h]

/-- A read of a higher word gives the latched bits of the value and the other bits live. -/
theorem State.readWord_higher {a base n : Nat} (s : State) (h : wideReg (blockOf a) (offsetOf a) = some (base, n))
    (hne : offsetOf a ≠ base) :
    (s.readWord a).1 = (Tab.get 0#32 s.latch a &&& maskReg (blockOf a) (offsetOf a)) |||
      ((liveReg a s).getD 0#32 &&& ~~~(maskReg (blockOf a) (offsetOf a))) := by
  simp [State.readWord, h, hne]

/-- Settles O57: the higher word names the same long value, so it reads what the first word's read put in the latch. -/
theorem longValuesLatch : Obligations.LongValuesLatch := by
  unfold Obligations.LongValuesLatch
  intro s u a n i hfirst h0 hn hwf hlatch
  obtain ⟨hin, hword⟩ := wideReg_wordsNameValue (blockOf a) _ _ _ hfirst hn
  have hlatched : Tab.get 0#32 u.latch (a + 4 * i) = (readReg (blockOf a) (offsetOf a + 4 * i) s).getD 0#32 := by
    rw [hlatch, State.readWord_first s hfirst, ← State.get_latchWords hwf _ _ h0 hn, block_add_offset]
  rw [← blockOf_add hin, ← offsetOf_add hin] at hword
  rw [State.readWord_higher u hword (by rw [offsetOf_add hin]; omega), hlatched, blockOf_add hin, offsetOf_add hin]

end Sys2Proof.Machine
end

section
/-! SUPPORT. What a table reads after an entry that it keeps was set. -/

namespace Sys2Proof.Machine

/-- A key set to a value that the table keeps reads as set, whatever form the table is in. -/
theorem Tab.get_set_same_of_ne {α : Type} [DecidableEq α] {d v : α} (hv : v ≠ d) (i : Nat) : ∀ t : Tab α, Tab.get d (Tab.set d t i v) i = v
  | [] => by simp [Tab.set, Tab.get, hv]
  | (k, w) :: t => by
    rw [Tab.set, if_neg hv]
    split_ifs with hlt heq
    · simp [Tab.get]
    · simp [Tab.get]
    · rw [Tab.get, if_neg (fun e => heq e.symm), Tab.get_set_same_of_ne hv i t]

/-- Every other key then reads as before. -/
theorem Tab.get_set_other_of_ne {α : Type} [DecidableEq α] {d v : α} (hv : v ≠ d) {i j : Nat} (hj : j ≠ i) :
    ∀ t : Tab α, Tab.get d (Tab.set d t i v) j = Tab.get d t j
  | [] => by simp [Tab.set, Tab.get, hv, hj.symm]
  | (k, w) :: t => by
    rw [Tab.set, if_neg hv]
    split_ifs with hlt heq
    · simp [Tab.get, hj.symm]
    · subst heq; simp [Tab.get, hj.symm]
    · simp only [Tab.get, Tab.get_set_other_of_ne hv hj t]

end Sys2Proof.Machine
end

section
/-! SUPPORT. Trestle windows (R18, R19, R24): whom a bank cycle serves and what it does for that master. -/

namespace Sys2Proof.Machine

/-- Trestle at the start of a window: every quota is that of Table 1-3 again (R18). -/
def Trestle.reload (t : Trestle) : Trestle := { t with quota := quotas }

@[simp] theorem Trestle.reload_quota (t : Trestle) : t.reload.quota = quotas := rfl
@[simp] theorem Trestle.reload_holder (bank : Nat) (t : Trestle) : t.reload.holder bank = t.holder bank := rfl

/-- In a powered mode a window begins at the next whole microsecond of the FRC, with every quota reloaded, and its cycles follow (R18). -/
theorem exec_trestleWindow {s : State} (h : s.sys.mode ≠ .dormant) (cs : List BankCycle) :
    exec (.trestleWindow cs) s = .next { s with
      out := [], time.frc := BitVec.ofNat 64 ((s.time.frc.toNat / 1000 + 1) * 1000)
      tres := s.tres.reload.window (BitVec.ofNat 64 ((s.time.frc.toNat / 1000 + 1) * 1000)).toNat cs } := by
  have hlater : s.time.frc.toNat < (s.time.frc.toNat / 1000 + 1) * 1000 := by omega
  simp [exec, execTrestleWindow, done, Trestle.reload, State.powered, State.atLeast, State.ns, h, hlater]

/-- A window of one cycle. -/
theorem Trestle.window_single (t0 : Nat) (c : BankCycle) (t : Trestle) : t.window t0 [c] = t.cycle t0 c := by
  simp [Trestle.window, Tab.get]

/-- A held bank serves its holder (R19). -/
theorem Trestle.serve_of_held {c : BankCycle} {t : Trestle} {h : BankHold} (hh : t.holder c.bank.val = some h) : t.serve c = some h.master := by
  simp [Trestle.serve, hh]

/-- A cycle in which no master asks at a free bank serves none. -/
theorem Trestle.serve_of_silent {c : BankCycle} {t : Trestle} (hh : t.holder c.bank.val = none) (ha : c.asking = 0#13) : t.serve c = none := by
  simp [Trestle.serve, hh, ha]

/-- Of a round of 13 the first element that a test passes is the `d`-th, where it passes and none before it does. -/
theorem head?_filter_map_range (f : Nat → Nat) (q : Nat → Bool) {d : Nat} (hd : d < 13) (hq : q (f d) = true) (hbefore : ∀ e < d, q (f e) = false) :
    (((List.range 13).map f).filter q).head? = some (f d) := by
  rw [List.head?_filter, List.find?_map, Option.map_eq_some_iff]
  exact ⟨d, List.find?_range_eq_some.mpr ⟨hq, List.mem_range.mpr hd, fun e he => by simp [hbefore e he]⟩, rfl⟩

/-- Of the masters that ask and are not frozen a free bank serves the first in round-robin order from its pointer, where it has quota left (R18). -/
theorem Trestle.serve_of_first {c : BankCycle} {t : Trestle} {p d : Nat} (hp : t.pointer[c.bank.val]? = some p) (hd : d < 13)
    (hh : t.holder c.bank.val = none) (ha : c.asking.getLsbD ((p + d) % 13) = true) (hf : t.frozen.getLsbD ((p + d) % 13) = false)
    (hq : 0 < (t.quota[(p + d) % 13]?).getD 0)
    (hbefore : ∀ e < d, c.asking.getLsbD ((p + e) % 13) = false ∨ t.frozen.getLsbD ((p + e) % 13) = true) :
    t.serve c = some ((p + d) % 13) := by
  have hhead := head?_filter_map_range (fun i => (p + i) % 13) (fun m => c.asking.getLsbD m && !t.frozen.getLsbD m) hd
    (by simp [ha, hf]) (fun e he => by rcases hbefore e he with h | h <;> simp [h])
  obtain ⟨rest, hasks⟩ := List.head?_eq_some_iff.mp hhead
  simp [Trestle.serve, hh, hp, hasks, hq]

/-- Every master has quota after a reload. -/
theorem quotas_pos {m : Nat} (h : m < 13) : 0 < (quotas[m]?).getD 0 := by
  revert m; decide

/-- Changing an element leaves the list as long as it was and every other element alone. -/
theorem getElem?_updAt {α : Type} (f : α → α) : ∀ (l : List α) (i j : Nat), (updAt l i f)[j]? = (l[j]?).map (fun x => if j = i then f x else x)
  | [], _, _ => by simp [updAt]
  | _ :: _, 0, 0 => by simp [updAt]
  | _ :: _, 0, j + 1 => by simp [updAt]
  | _ :: _, i + 1, 0 => by simp [updAt]
  | _ :: l, i + 1, j + 1 => by simp [updAt, getElem?_updAt f l i j]

/-- Setting an element is changing it to a fixed value. -/
theorem updAt_const {α : Type} (v : α) : ∀ (l : List α) (i : Nat), updAt l i (fun _ => v) = l.set i v
  | [], _ => rfl
  | _ :: _, 0 => rfl
  | x :: l, i + 1 => by simp [updAt, updAt_const v l i]

/-- A served master that holds on to the bank keeps it, its writes waiting with those before (R19). -/
theorem Trestle.cycle_of_kept {at_ m : Nat} {c : BankCycle} {t : Trestle} {h : BankHold} {ws : List (Nat × Octet)}
    (hserve : t.serve c = some m) (hh : t.holder c.bank.val = some h) (hk : c.keep = some ws) :
    t.cycle at_ c = { t with quota := updAt t.quota m (· - 1), pointer := updAt t.pointer c.bank.val (fun _ => (m + 1) % 13)
                             holds := Tab.set none t.holds c.bank.val (some { h with writes := h.writes ++ ws }) } := by
  have hh' : Tab.get none t.holds c.bank.val = some h := hh
  simp [Trestle.cycle, Trestle.settle, Trestle.holder, hserve, hk, hh']

/-- A served master that lets go of the bank has its waiting writes in the array (R19). -/
theorem Trestle.cycle_of_released {at_ m : Nat} {c : BankCycle} {t : Trestle} (hserve : t.serve c = some m) (hk : c.keep = none) :
    t.cycle at_ c = { t with
      quota := updAt t.quota m (· - 1), pointer := updAt t.pointer c.bank.val (fun _ => (m + 1) % 13)
      holds := Tab.set none t.holds c.bank.val none
      sram := ((t.holder c.bank.val).elim [] (·.writes)).foldl (fun a w => Tab.set 0#8 a w.1 w.2) t.sram } := by
  cases hh : t.holder c.bank.val <;> simp_all [Trestle.cycle, Trestle.settle, Trestle.holder]

/-- A cycle that serves no master takes a scrubber's access, where one is due (R24). -/
theorem Trestle.cycle_of_scrub {at_ : Nat} {c : BankCycle} {t : Trestle} (hserve : t.serve c = none) (hc : c.scrub = true) :
    t.cycle at_ c = { t with scrubs := Tab.upd {} t.scrubs 0 (fun (p : Scrub) => { p with next := p.next + 1 }) } := by
  simp [Trestle.cycle, hserve, hc]

/-- What a window of one bank cycle does to the state. -/
theorem exec_trestleWindow_single {s : State} (h : s.sys.mode ≠ .dormant) (c : BankCycle) :
    ∃ t t0, exec (.trestleWindow [c]) s = .next t ∧ t.tres = s.tres.reload.cycle t0 c ∧
      { t with tres := s.tres, time := s.time } = { s with out := [] } :=
  ⟨_, _, exec_trestleWindow h [c], Trestle.window_single _ c _, rfl⟩

/-- Settles O11: who is served is what `Trestle.serve` answers in each case; the rest is what the cycle does for it. -/
theorem trestleServesRoundRobin : Obligations.TrestleServesRoundRobin := by
  unfold Obligations.TrestleServesRoundRobin
  refine ⟨fun s hs => by rw [exec_trestleWindow hs]; rfl, ?held_kept, ?held_released, ?scrubbed, ?served⟩
  case held_kept =>
    intro s c h ws hs hh hk
    obtain ⟨t, t0, hexec, htres, hframe⟩ := exec_trestleWindow_single hs c
    rw [← Trestle.reload_holder] at hh
    rw [Trestle.cycle_of_kept (Trestle.serve_of_held hh) hh hk] at htres
    refine ⟨t, hexec, ?_, ?_, ?_, ?_, hframe⟩ <;> rw [htres]
    · exact Tab.get_set_same_of_ne (Option.some_ne_none _) _ _
    all_goals rfl
  case held_released =>
    intro s c h a v hs hh hw hv hk
    obtain ⟨t, t0, hexec, htres, hframe⟩ := exec_trestleWindow_single hs c
    rw [← Trestle.reload_holder] at hh
    rw [Trestle.cycle_of_released (Trestle.serve_of_held hh) hk, hh, Option.elim_some, hw] at htres
    refine ⟨t, hexec, ?_, fun x hx => ?_, ?_, hframe⟩ <;> rw [htres]
    · exact Tab.get_set_same_of_ne hv a _
    · exact Tab.get_set_other_of_ne hv hx _
    · rfl
  case scrubbed =>
    intro s c hs hh ha hc
    obtain ⟨t, t0, hexec, htres, hframe⟩ := exec_trestleWindow_single hs c
    rw [← Trestle.reload_holder] at hh
    rw [Trestle.cycle_of_scrub (Trestle.serve_of_silent hh ha) hc] at htres
    refine ⟨t, hexec, ?_, ?_, ?_, hframe⟩ <;> rw [htres]
    · exact congrArg Scrub.next (Tab.get_set_same_of_ne (fun h => Nat.succ_ne_zero _ (congrArg Scrub.next h)) 0 _)
    all_goals rfl
  case served =>
    intro s c p d hs hp hp13 hd hh hk ha hf hbefore
    obtain ⟨t, t0, hexec, htres, hframe⟩ := exec_trestleWindow_single hs c
    have hserve : s.tres.reload.serve c = some ((p + d) % 13) :=
      Trestle.serve_of_first hp hd hh ha hf (quotas_pos (Nat.mod_lt _ (by decide))) hbefore
    rw [Trestle.cycle_of_released hserve hk] at htres
    refine ⟨t, hexec, ?_, ?_, fun m hm => ?_, hframe⟩ <;> rw [htres]
    · rfl
    · exact updAt_const _ _ _
    · exact getElem?_updAt _ quotas _ _

end Sys2Proof.Machine
end

section
/-! SUPPORT. What setting a cell cause does (R321, R322): every go bit clears; what it leaves alone. What a lone lead that becomes degraded
does (R23). -/

namespace Sys2Proof.Machine

/-- Dropping a go bit changes the fleet's tables and FSTOP and nothing else (R322). -/
theorem State.dropGo_eq (n : Nat) (s : State) : s.dropGo n = { s with fleet := (s.dropGo n).fleet, stop := (s.dropGo n).stop } := by
  unfold State.dropGo
  split
  · dsimp only
    split <;> rfl
  · rfl

/-- A cell's causes stand while a go bit drops. -/
@[simp] theorem State.dropGo_cell (n : Nat) (s : State) : (s.dropGo n).fleet.cell = s.fleet.cell := by
  unfold State.dropGo
  split
  · dsimp only
    split <;> rfl
  · rfl

@[simp] theorem State.dropGo_own (n : Nat) (s : State) : (s.dropGo n).stop.own = s.stop.own := by
  unfold State.dropGo
  split
  · dsimp only
    split <;> rfl
  · rfl

/-- A bit of a bitmap after the clearing of one. -/
theorem getLsbD_goClear (g : BitVec 256) (n k : Nat) : (goClear g n).getLsbD k = (g.getLsbD k && decide (k ≠ n)) := by
  by_cases hk : k < 256
  · simp only [goClear, BitVec.getLsbD_and, BitVec.getLsbD_not, BitVec.getLsbD_ofNat, hk, Nat.testBit_two_pow]
    simp [eq_comm]
  · simp [goClear, BitVec.getLsbD_of_ge g k (by omega)]

/-- The go bit dropped is clear, the others stand. -/
theorem State.getLsbD_dropGo (n k : Nat) (s : State) : (s.dropGo n).fleet.go.getLsbD k = (s.fleet.go.getLsbD k && decide (k ≠ n)) := by
  by_cases h : goBit s.fleet.go n = true
  · have hgo : (s.dropGo n).fleet.go = goClear s.fleet.go n := by
      unfold State.dropGo
      rw [if_pos h]
      dsimp only
      split <;> rfl
    rw [hgo, getLsbD_goClear]
  · have hgo : s.dropGo n = s := by rw [State.dropGo, if_neg h]
    rw [hgo]
    by_cases hk : k = n
    · subst hk; simpa [goBit] using h
    · simp [hk]

/-- After a list of drops exactly the go bits listed are clear of those that were set. -/
theorem State.getLsbD_each_dropGo (k : Nat) : ∀ (l : List Nat) (s : State),
    (s.each l State.dropGo).fleet.go.getLsbD k = (s.fleet.go.getLsbD k && decide (k ∉ l))
  | [], s => by simp [State.each]
  | n :: l, s => by
    have ih := State.getLsbD_each_dropGo k l (s.dropGo n)
    rw [State.each, List.foldl_cons, ← State.each, ih, State.getLsbD_dropGo]
    by_cases h : k = n <;> simp [h]

/-- Every go bit clears. -/
@[simp] theorem State.dropAll_go (s : State) : s.dropAll.fleet.go = 0#256 := by
  refine BitVec.eq_of_getLsbD_eq fun k hk => ?_
  rw [State.dropAll, State.getLsbD_each_dropGo]
  cases hg : s.fleet.go.getLsbD k
  · simp
  · have hmem : k ∈ onesBelow 256 s.fleet.go.toNat := List.mem_filter.mpr ⟨List.mem_range.mpr hk, hg⟩
    simp [hmem]

/-- Dropping every go bit leaves the cell's causes and all but the fleet's tables and FSTOP alone. -/
theorem State.dropAll_keeps (s : State) :
    s.dropAll = { s with fleet := s.dropAll.fleet, stop := s.dropAll.stop } ∧ s.dropAll.fleet.cell = s.fleet.cell ∧ s.dropAll.stop.own = s.stop.own := by
  apply State.each_keeps (fun t => t = { s with fleet := t.fleet, stop := t.stop } ∧ t.fleet.cell = s.fleet.cell ∧ t.stop.own = s.stop.own) _ _ _ s
    ⟨rfl, rfl, rfl⟩
  intro n t ⟨hframe, hcell, hown⟩
  rw [State.dropGo_cell, State.dropGo_own]
  refine ⟨?_, hcell, hown⟩
  rw [State.dropGo_eq, hframe]

/-- A bit set in a mask is set. -/
theorem bit_setBit (m n : Nat) : bit (setBit m n) n = true := by
  simp [bit, setBit, Nat.testBit_or, Nat.testBit_two_pow_self]

/-- What a lead that sets a cell cause other than TAMPER comes to (R321, R322): the cause set and no go bit. The unit, the pair, keys and flash
are as they were. -/
structure CellStopped (c : Nat) (s t : State) : Prop where
  cause : bit t.cellSet c = true
  go : t.fleet.go = 0#256
  sys : t.sys = s.sys
  tres : t.tres = s.tres
  pair : t.pair = s.pair
  flash : t.flash = s.flash
  keys : t.keys = s.keys
  pending : t.pending = s.pending

/-- The stop serial changes the fleet's serial and FSTOP's note of it. -/
theorem State.bumpSerial_eq (s : State) :
    s.bumpSerial = { s with fleet.serial := s.bumpSerial.fleet.serial, stop.serialAt := s.bumpSerial.stop.serialAt } := by
  unfold State.bumpSerial
  split <;> rfl

@[simp] theorem State.dropAll_cell (s : State) : s.dropAll.fleet.cell = s.fleet.cell := s.dropAll_keeps.2.1
@[simp] theorem State.dropAll_own (s : State) : s.dropAll.stop.own = s.stop.own := s.dropAll_keeps.2.2
@[simp] theorem State.dropAll_sys (s : State) : s.dropAll.sys = s.sys := by rw [s.dropAll_keeps.1]
@[simp] theorem State.dropAll_tres (s : State) : s.dropAll.tres = s.tres := by rw [s.dropAll_keeps.1]
@[simp] theorem State.dropAll_pair (s : State) : s.dropAll.pair = s.pair := by rw [s.dropAll_keeps.1]
@[simp] theorem State.dropAll_flash (s : State) : s.dropAll.flash = s.flash := by rw [s.dropAll_keeps.1]
@[simp] theorem State.dropAll_keys (s : State) : s.dropAll.keys = s.keys := by rw [s.dropAll_keeps.1]
@[simp] theorem State.dropAll_pending (s : State) : s.dropAll.pending = s.pending := by rw [s.dropAll_keeps.1]
@[simp] theorem State.bumpSerial_cell (s : State) : s.bumpSerial.fleet.cell = s.fleet.cell := by rw [State.bumpSerial_eq]
@[simp] theorem State.bumpSerial_own (s : State) : s.bumpSerial.stop.own = s.stop.own := by rw [State.bumpSerial_eq]
@[simp] theorem State.bumpSerial_sys (s : State) : s.bumpSerial.sys = s.sys := by rw [State.bumpSerial_eq]
@[simp] theorem State.bumpSerial_tres (s : State) : s.bumpSerial.tres = s.tres := by rw [State.bumpSerial_eq]
@[simp] theorem State.bumpSerial_pair (s : State) : s.bumpSerial.pair = s.pair := by rw [State.bumpSerial_eq]
@[simp] theorem State.bumpSerial_flash (s : State) : s.bumpSerial.flash = s.flash := by rw [State.bumpSerial_eq]
@[simp] theorem State.bumpSerial_keys (s : State) : s.bumpSerial.keys = s.keys := by rw [State.bumpSerial_eq]
@[simp] theorem State.bumpSerial_pending (s : State) : s.bumpSerial.pending = s.pending := by rw [State.bumpSerial_eq]

/-- A lead that sets a cell cause stops every robot. -/
theorem State.setCell_stops {c : Nat} (source : Nat) {s : State} (hc : c ≠ causeTamper) (hm : s.sys.mode ≠ .shadow) (h : bit s.cellSet c = false) :
    CellStopped c s (s.setCell c source) := by
  have hcause : bit (setBit s.fleet.cell c ||| s.stop.own) c = true := by
    have := bit_setBit s.fleet.cell c
    simp_all [bit, Nat.testBit_or]
  unfold State.setCell State.keepCause
  simp only [h, hm, hc, and_false, or_false, Bool.false_eq_true, if_false]
  constructor <;> simp [State.cellSet, hcause]

/-- A lead enters HOLD without further effects (R36): the mode changes and is recorded. -/
theorem State.toMode_hold {s : State} (trigger : Nat) (h : s.sys.mode ≠ .shadow) : s.toMode .hold trigger = s.setMode .hold trigger := by
  simp [State.toMode, h]

/-- A change of mode leaves the degradation as it was. -/
@[simp] theorem State.setMode_degraded (m : Mode) (trigger : Nat) (s : State) : (s.setMode m trigger).sys.degraded = s.sys.degraded := by
  unfold State.setMode
  simp only []
  split <;> simp

/-- What a lead without a standby comes to when it becomes degraded (R23): HOLD with the cause DEGRADED, no go bit, and its claim. -/
structure HeldDegraded (s t : State) : Prop where
  mode : t.sys.mode = .hold
  degraded : t.sys.degraded = true
  cause : bit t.cellSet causeDegraded = true
  go : t.fleet.go = 0#256
  tres : t.tres = s.tres
  pair : t.pair = s.pair
  flash : t.flash = s.flash
  keys : t.keys = s.keys
  pending : t.pending = s.pending

/-- The record of becoming degraded, with what it shows (R23). -/
def State.noteDegraded (cause row : Nat) (s : State) : State :=
  ({ s with sys.degraded := true, sys.degradedRow := row, sys.serviceSince := none
            sys.events := s.sys.events ||| 4#32 }).reportNow 0x000D [(1, cause), (1, row)]

@[simp] theorem State.noteDegraded_cfg (cause row : Nat) (s : State) : (s.noteDegraded cause row).cfg = s.cfg := by simp [State.noteDegraded]
@[simp] theorem State.noteDegraded_tres (cause row : Nat) (s : State) : (s.noteDegraded cause row).tres = s.tres := by simp [State.noteDegraded]
@[simp] theorem State.noteDegraded_pair (cause row : Nat) (s : State) : (s.noteDegraded cause row).pair = s.pair := by simp [State.noteDegraded]
@[simp] theorem State.noteDegraded_flash (cause row : Nat) (s : State) : (s.noteDegraded cause row).flash = s.flash := by simp [State.noteDegraded]
@[simp] theorem State.noteDegraded_keys (cause row : Nat) (s : State) : (s.noteDegraded cause row).keys = s.keys := by simp [State.noteDegraded]
@[simp] theorem State.noteDegraded_fleet (cause row : Nat) (s : State) : (s.noteDegraded cause row).fleet = s.fleet := by simp [State.noteDegraded]
@[simp] theorem State.noteDegraded_stop (cause row : Nat) (s : State) : (s.noteDegraded cause row).stop = s.stop := by simp [State.noteDegraded]
@[simp] theorem State.noteDegraded_pending (cause row : Nat) (s : State) : (s.noteDegraded cause row).pending = s.pending := by simp [State.noteDegraded]
@[simp] theorem State.noteDegraded_mode (cause row : Nat) (s : State) : (s.noteDegraded cause row).sys.mode = s.sys.mode := by
  simp [State.noteDegraded]
@[simp] theorem State.noteDegraded_saving (cause row : Nat) (s : State) : (s.noteDegraded cause row).sys.saving = s.sys.saving := by
  simp [State.noteDegraded]
@[simp] theorem State.noteDegraded_degraded (cause row : Nat) (s : State) : (s.noteDegraded cause row).sys.degraded = true := by
  simp [State.noteDegraded]

/-- A degraded lead stops every robot with the cause DEGRADED. -/
theorem State.noteDegraded_stops (cause row : Nat) {s : State} (hm : s.sys.mode = .lead) (hc : bit s.cellSet causeDegraded = false) :
    CellStopped causeDegraded (s.noteDegraded cause row) ((s.noteDegraded cause row).setCell causeDegraded cause) :=
  State.setCell_stops cause (by decide) (by simp [hm]) (by simpa [State.cellSet] using hc)

/-- A lone lead that becomes degraded notes it, sets the cell cause and enters HOLD (R23). -/
theorem State.degrade_lead_eq (cause row : Nat) {s : State} (hm : s.sys.mode = .lead) (hlone : s.paired = false) (hd : s.sys.degraded = false)
    (hs : s.sys.saving = false) (hc : bit s.cellSet causeDegraded = false) :
    s.degrade cause row = ((s.noteDegraded cause row).setCell causeDegraded cause).setMode .hold 7 := by
  have hstandby : (s.noteDegraded cause row).hasStandby = false := by
    have : (s.noteDegraded cause row).paired = s.paired := by simp [State.paired, State.unitRec]
    simp [State.hasStandby, this, hlone]
  have hstopped := State.noteDegraded_stops cause row hm hc
  unfold State.degrade
  rw [if_neg (by simp [hd, State.powered, hm])]
  dsimp only
  generalize hu : State.reportNow 0x000D _ _ = u
  obtain rfl : s.noteDegraded cause row = u := hu
  simp [hm, hs, hstandby, hstopped.sys, State.toMode_hold]

/-- A lone lead that becomes degraded holds, with its claim. -/
theorem State.degrade_lead (cause row : Nat) {s : State} (hm : s.sys.mode = .lead) (hlone : s.paired = false) (hd : s.sys.degraded = false)
    (hs : s.sys.saving = false) (hc : bit s.cellSet causeDegraded = false) : HeldDegraded s (s.degrade cause row) := by
  rw [State.degrade_lead_eq cause row hm hlone hd hs hc]
  have hu := State.noteDegraded_stops cause row hm hc
  exact {
    mode := State.setMode_mode ..
    degraded := by simp [hu.sys]
    cause := by rw [State.cellSet, State.setMode_fleet, State.setMode_stop]; exact hu.cause
    go := by simp [hu.go]
    tres := by simp [hu.tres]
    pair := by simp [hu.pair]
    flash := by simp [hu.flash]
    keys := by simp [hu.keys]
    pending := by simp [hu.pending] }

end Sys2Proof.Machine
end

section
/-! SUPPORT. Frozen masters (R19–R23): what isolating a master, and returning a core's work, change. -/

namespace Sys2Proof.Machine

/-- The state without the fleet's tables and registers and without what the writer of a record changes: what work in the fleet leaves alone. -/
def State.offWork (s : State) : State := { s with fleet := {}, freg := {}, rcd := {}, ao := {}, diag := {} }

@[simp] theorem State.report_offWork (code : Nat) (data : List (Nat × Int)) (s : State) : (s.report code data).offWork = s.offWork := by
  rw [State.report_eq]; rfl

@[simp] theorem State.reportNow_offWork (code : Nat) (data : List (Nat × Int)) (s : State) : (s.reportNow code data).offWork = s.offWork := by
  rw [State.reportNow_eq]; rfl

@[simp] theorem State.fleetEvent_offWork (code : Nat) (s : State) : (s.fleetEvent code).offWork = s.offWork := by
  unfold State.fleetEvent
  split <;> rfl

@[simp] theorem State.putHead_offWork (v : Service) (progress : Nat) (s : State) : (s.putHead v progress).offWork = s.offWork := by
  unfold State.putHead State.putBack
  split
  · dsimp only
    split <;> rfl
  · rfl

/-- The return of a core's task changes the fleet and the recorder alone (R263). -/
@[simp] theorem State.returnCore_offWork (k cause : Nat) (s : State) : (s.returnCore k cause).offWork = s.offWork := by
  unfold State.returnCore
  dsimp only
  split
  · simp only [State.fleetEvent_offWork, State.reportNow_offWork, State.putHead_offWork]; rfl
  · rfl

/-- So does a core that freezes. -/
@[simp] theorem State.freezeCore_offWork (n : Nat) (s : State) : (s.freezeCore n).offWork = s.offWork :=
  (State.returnCore_offWork (256 + n) 1 (s.updWk (256 + n) _)).trans rfl

/-- A master with its clock gated and its port isolated, as SYS shows it (R21). -/
def State.isolate (m : Nat) (s : State) : State :=
  { s with
    tres := { s.tres with frozen := s.tres.frozen ||| BitVec.ofNat 13 (2 ^ m)
                          holds := s.tres.holds.filter (fun p => p.2.elim true (fun h => decide (h.master ≠ m))) }
    sys.events := s.sys.events ||| 2#32
    clk.cores := s.clk.cores &&& ~~~(BitVec.ofNat 8 (2 ^ m)) }

/-- A master isolated and recorded, with clean health broken (R21, R352). -/
def State.noteFrozen (m : Nat) (w : Bool) (a : Nat) (cause : FreezeCause) (s : State) : State :=
  ((s.isolate m).reportNow 0x000C [(1, m), (4, a), (1, flag (!w)), (1, cause.code)]).breakHealth

@[simp] theorem State.noteFrozen_tres (m : Nat) (w : Bool) (a : Nat) (cause : FreezeCause) (s : State) :
    (s.noteFrozen m w a cause).tres = (s.isolate m).tres := State.reportNow_tres ..
@[simp] theorem State.noteFrozen_sys (m : Nat) (w : Bool) (a : Nat) (cause : FreezeCause) (s : State) :
    (s.noteFrozen m w a cause).sys = (s.isolate m).sys := State.reportNow_sys ..
@[simp] theorem State.noteFrozen_clk (m : Nat) (w : Bool) (a : Nat) (cause : FreezeCause) (s : State) :
    (s.noteFrozen m w a cause).clk = (s.isolate m).clk := State.reportNow_clk ..
@[simp] theorem State.noteFrozen_cfg (m : Nat) (w : Bool) (a : Nat) (cause : FreezeCause) (s : State) :
    (s.noteFrozen m w a cause).cfg = s.cfg := State.reportNow_cfg ..
@[simp] theorem State.noteFrozen_fleet (m : Nat) (w : Bool) (a : Nat) (cause : FreezeCause) (s : State) :
    (s.noteFrozen m w a cause).fleet = s.fleet := State.reportNow_fleet ..
@[simp] theorem State.noteFrozen_stop (m : Nat) (w : Bool) (a : Nat) (cause : FreezeCause) (s : State) :
    (s.noteFrozen m w a cause).stop = s.stop := State.reportNow_stop ..
@[simp] theorem State.noteFrozen_flash (m : Nat) (w : Bool) (a : Nat) (cause : FreezeCause) (s : State) :
    (s.noteFrozen m w a cause).flash = s.flash := State.reportNow_flash ..
@[simp] theorem State.noteFrozen_keys (m : Nat) (w : Bool) (a : Nat) (cause : FreezeCause) (s : State) :
    (s.noteFrozen m w a cause).keys = s.keys := State.reportNow_keys ..
@[simp] theorem State.noteFrozen_rad (m : Nat) (w : Bool) (a : Nat) (cause : FreezeCause) (s : State) :
    (s.noteFrozen m w a cause).rad = s.rad := State.reportNow_rad ..
@[simp] theorem State.noteFrozen_out (m : Nat) (w : Bool) (a : Nat) (cause : FreezeCause) (s : State) :
    (s.noteFrozen m w a cause).out = s.out := State.reportNow_out ..
@[simp] theorem State.noteFrozen_pending (m : Nat) (w : Bool) (a : Nat) (cause : FreezeCause) (s : State) :
    (s.noteFrozen m w a cause).pending = s.pending := State.reportNow_pending ..
@[simp] theorem State.noteFrozen_claim (m : Nat) (w : Bool) (a : Nat) (cause : FreezeCause) (s : State) :
    (s.noteFrozen m w a cause).pair.claim = s.pair.claim := by
  simp [State.noteFrozen, State.breakHealth, State.isolate]

/-- A master that runs is isolated and recorded, and answered by Table 1-4 (R21, R22). -/
theorem State.freeze_eq {m : Nat} (w : Bool) (a : Nat) (cause : FreezeCause) {s : State} (hp : s.powered = true)
    (hf : s.tres.frozen.getLsbD m = false) : s.freeze m w a cause = (s.noteFrozen m w a cause).freezeResponse m := by
  simp only [State.freeze, hp, hf]
  rfl

/-- A frozen master stays so. -/
theorem State.freeze_of_frozen {m : Nat} (w : Bool) (a : Nat) (cause : FreezeCause) {s : State} (hf : s.tres.frozen.getLsbD m = true) :
    s.freeze m w a cause = s := by
  simp [State.freeze, hf]

/-- What the freezing of a core comes to while fewer than three cores and no DMA master are frozen (R22). -/
structure CoreFrozen (m : Nat) (s t : State) : Prop where
  tres : t.tres = (s.isolate m).tres
  sys : t.sys = (s.isolate m).sys
  clk : t.clk = (s.isolate m).clk
  claim : t.pair.claim = s.pair.claim
  flash : t.flash = s.flash
  keys : t.keys = s.keys
  rad : t.rad = s.rad
  out : t.out = s.out
  pending : t.pending = s.pending

/-- A core that freezes with few others is isolated, and its work goes back. -/
theorem State.freeze_core {m : Nat} (w : Bool) (a : Nat) (cause : FreezeCause) {s : State} (hp : s.powered = true) (hm : m < 8)
    (hf : s.tres.frozen.getLsbD m = false) (hdma : bits (s.isolate m).tres.frozen.toNat 9 4 = 0)
    (hcores : ones (s.isolate m).tres.frozen.toNat 0 8 < 3) : CoreFrozen m s (s.freeze m w a cause) := by
  rw [State.freeze_eq w a cause hp hf]
  have hwork : ((s.noteFrozen m w a cause).freezeResponse m).offWork = (s.noteFrozen m w a cause).offWork := by
    rw [State.freezeResponse, State.noteFrozen_tres, if_neg (by simp [hdma]), if_neg (by omega), if_pos hm, State.freezeCore_offWork]
  exact {
    tres := (congrArg State.tres hwork).trans (State.noteFrozen_tres ..)
    sys := (congrArg State.sys hwork).trans (State.noteFrozen_sys ..)
    clk := (congrArg State.clk hwork).trans (State.noteFrozen_clk ..)
    claim := (congrArg (·.pair.claim) hwork).trans (State.noteFrozen_claim ..)
    flash := (congrArg State.flash hwork).trans (State.noteFrozen_flash ..)
    keys := (congrArg State.keys hwork).trans (State.noteFrozen_keys ..)
    rad := (congrArg State.rad hwork).trans (State.noteFrozen_rad ..)
    out := (congrArg State.out hwork).trans (State.noteFrozen_out ..)
    pending := (congrArg State.pending hwork).trans (State.noteFrozen_pending ..) }

/-- The master isolated is frozen. -/
theorem State.isolate_frozen {m : Nat} (h : m < 13) (s : State) : (s.isolate m).tres.frozen.getLsbD m = true := by
  show (s.tres.frozen ||| BitVec.ofNat 13 (2 ^ m)).getLsbD m = true
  rw [BitVec.getLsbD_or, BitVec.getLsbD_ofNat]
  simp [h, Nat.testBit_two_pow_self]

/-- A field of a word that holds a bit of it is not 0. -/
theorem bits_ne_zero {v lo n i : Nat} (h : Nat.testBit v i = true) (hlo : lo ≤ i) (hhi : i < lo + n) : bits v lo n ≠ 0 := by
  intro h0
  have hbit : Nat.testBit (bits v lo n) (i - lo) = Nat.testBit v i := by
    rw [bits, Nat.testBit_mod_two_pow, Nat.testBit_div_two_pow]
    simp [show i - lo < n by omega, show i - lo + lo = i by omega]
  simp [h0, h] at hbit

/-- A DMA master that freezes at a lone lead makes it hold, degraded (R22, R23). -/
theorem State.freeze_dma {m : Nat} (w : Bool) (a : Nat) (cause : FreezeCause) {s : State} (h8 : 8 < m) (h13 : m < 13)
    (hmode : s.sys.mode = .lead) (hlone : s.paired = false) (hd : s.sys.degraded = false) (hs : s.sys.saving = false)
    (hc : bit s.cellSet causeDegraded = false) (hf : s.tres.frozen.getLsbD m = false) :
    HeldDegraded (s.noteFrozen m w a cause) (s.freeze m w a cause) := by
  have hdma : bits (s.isolate m).tres.frozen.toNat 9 4 ≠ 0 := bits_ne_zero (s.isolate_frozen h13) h8 h13
  rw [State.freeze_eq w a cause (by simp [State.powered, hmode]) hf, State.freezeResponse, State.noteFrozen_tres, if_pos hdma]
  have hlone' : (s.noteFrozen m w a cause).paired = false := by rw [← hlone]; simp [State.paired, State.unitRec]
  exact State.degrade_lead 0 0 (by rw [State.noteFrozen_sys]; exact hmode) hlone'
    (by rw [State.noteFrozen_sys]; exact hd) (by rw [State.noteFrozen_sys]; exact hs) (by simpa [State.cellSet] using hc)

/-- An access in a window that permits it is no violation (R20). -/
theorem State.inWindow_of_mem {m r a : Nat} {w : Bool} {s : State} {v : WorldWindow} (hv : v ∈ s.tres.windows) (hm : v.master = m)
    (hw : v.secure = w) (hr : bit v.perms r = true) (hlo : v.base ≤ a) (hhi : a < v.base + v.size) : s.inWindow m w r a = true := by
  simp only [State.inWindow, List.any_eq_true]
  exact ⟨v, hv, by simp [hm, hw, hr, hlo, hhi]⟩

/-- An access that no window of its master's world permits lies in none. -/
theorem State.inWindow_eq_false {m r a : Nat} {w : Bool} {s : State}
    (h : ∀ v ∈ s.tres.windows, v.master = m → v.secure = w → bit v.perms r = true → a < v.base ∨ v.base + v.size ≤ a) :
    s.inWindow m w r a = false := by
  simp only [State.inWindow, List.any_eq_false]
  intro v hv hin
  simp only [Bool.and_eq_true, decide_eq_true_eq, beq_iff_eq] at hin
  obtain ⟨⟨⟨hm, hw⟩, hr⟩, hlo, hhi⟩ := hin
  rcases h v hv hm hw hr with h | h <;> omega

/-- The master of a core has the world that its access names. -/
theorem worldOf_core {m : Nat} (w : Bool) (hm : m < 8) : worldOf m w = w := by simp [worldOf, hm]

theorem exec_bankOverstay (m : Fin 13) (w : Bool) (a : Nat) (s : State) : exec (.bankOverstay m w a) s = .next
    { (State.atLeast (s.tres.holdEnd m.val) { s with out := [] }).freeze m.val (worldOf m.val w) a .overstay with pending := s.pending } := rfl

/-- An access that is no violation, or that a frozen master makes, changes nothing (R20). -/
theorem exec_worldWindowViolation_of_none {m : Fin 13} {w : Bool} {r : Fin 3} {a : Nat} {s : State}
    (h : s.tres.frozen.getLsbD m.val = true ∨ s.inWindow m.val (worldOf m.val w) r.val a = true) :
    exec (.worldWindowViolation m w r a) s = .next { s with out := [] } := by
  have hin : State.inWindow m.val (worldOf m.val w) r.val a { s with out := [] } = s.inWindow m.val (worldOf m.val w) r.val a := rfl
  rcases h with h | h <;> simp [exec, execWorldWindowViolation, done, hin, h]

/-- A violation is answered with a read of 0, where it reads, and with the freezing of its master (R20). -/
theorem exec_worldWindowViolation {m : Fin 13} {w : Bool} {r : Fin 3} {a : Nat} {s : State} (hp : s.sys.mode ≠ .dormant)
    (hf : s.tres.frozen.getLsbD m.val = false) (hin : s.inWindow m.val (worldOf m.val w) r.val a = false) :
    exec (.worldWindowViolation m w r a) s = .next
      { (State.when (decide (r.val ≠ 1)) (State.send (.readEnd m.val 0)) { s with out := [] }).freeze m.val (worldOf m.val w) a .window with
        pending := s.pending } := by
  have hperformed : (!State.powered { s with out := [] } || s.tres.frozen.getLsbD m.val ||
      State.inWindow m.val (worldOf m.val w) r.val a { s with out := [] }) = false := by
    rw [show State.inWindow _ _ _ _ { s with out := [] } = false from hin, hf]
    simpa [State.powered] using hp
  unfold exec execWorldWindowViolation
  simp only [done, hperformed]
  rfl

/-- Settles O12: a core that overstays or strays is isolated and answered by the return of its work; a DMA master degrades the unit. -/
theorem mastersFreeze : Obligations.MastersFreeze := by
  unfold Obligations.MastersFreeze
  refine ⟨?overstay, ?violation, ?frozen, ?permitted, ?dma⟩
  case overstay =>
    intro s m w a hmode hm hf hdma hcores
    obtain ⟨htres, hsys, hclk, hclaim, hflash, hkeys, hrad, -, -⟩ :=
      State.freeze_core (s := State.atLeast (s.tres.holdEnd m.val) { s with out := [] }) (worldOf m.val w) a .overstay
        (by simpa [State.powered, State.atLeast] using hmode) hm hf hdma hcores
    exact ⟨_, exec_bankOverstay m w a s, htres, hsys, hclk, hclaim, hflash, hkeys, hrad, rfl⟩
  case violation =>
    intro s m w r a hmode hm hf hout hdma hcores
    have hexec := exec_worldWindowViolation hmode hf (State.inWindow_eq_false (by rwa [worldOf_core w hm]))
    have hsent : (State.when (decide (r.val ≠ 1)) (State.send (.readEnd m.val 0)) { s with out := [] }) =
        { s with out := if r.val ≠ 1 then [.readEnd m.val 0] else [] } := by
      by_cases h : r.val = 1 <;> simp [State.when, State.send, h]
    rw [hsent] at hexec
    obtain ⟨htres, hsys, hclk, hclaim, hflash, hkeys, hrad, hsends, -⟩ :=
      State.freeze_core (s := { s with out := if r.val ≠ 1 then [.readEnd m.val 0] else [] }) (worldOf m.val w) a .window
        (by simpa [State.powered] using hmode) hm hf hdma hcores
    exact ⟨_, hexec, htres, fun hr => by rw [hsends, if_pos hr]; rfl, hsys, hclk, hclaim, hflash, hkeys, hrad, rfl⟩
  case frozen =>
    intro s m w r a hf
    refine ⟨⟨_, exec_bankOverstay m w a s, ?_⟩, exec_worldWindowViolation_of_none (.inl hf)⟩
    rw [State.freeze_of_frozen _ _ _ (by exact hf)]
    rfl
  case permitted =>
    intro s m w r a v hm hv hvm hvw hr hlo hhi
    exact exec_worldWindowViolation_of_none (.inr (State.inWindow_of_mem hv hvm (by rw [hvw, worldOf_core w hm]) hr hlo hhi))
  case dma =>
    intro s m w a hmode hlone hd hs h8 hf hc
    obtain ⟨hmode, hdeg, hcause, hgo, htres, hpair, hflash, hkeys, -⟩ :=
      State.freeze_dma (s := State.atLeast (s.tres.holdEnd m.val) { s with out := [] }) (worldOf m.val w) a .overstay h8 m.isLt hmode hlone hd hs hc hf
    refine ⟨_, exec_bankOverstay m w a s, hmode, hdeg, ?_, hcause, ?_, hgo, ?_, ?_, rfl⟩
    · rw [htres, State.noteFrozen_tres]; exact State.isolate_frozen m.isLt _
    · rw [hpair, State.noteFrozen_claim]; rfl
    · rw [hflash, State.noteFrozen_flash]; rfl
    · rw [hkeys, State.noteFrozen_keys]; rfl

end Sys2Proof.Machine
end

section
/-! SUPPORT. ECC findings (R24, R25): what a scrubber's step, a correctable and an uncorrectable error change. -/

namespace Sys2Proof.Machine

/-- Without an injection armed, what is found is what the read meets. -/
theorem State.eccFinding_of_unarmed {s : State} (site : EccSite) (f : EccFinding) (a : Nat) (h : s.diag.eccArmed = none) :
    s.eccFinding site f a = f := by
  simp [State.eccFinding, h]

/-- The answer to a finding by its kind; an L1 instruction line is fetched again (Table 1-5). -/
def State.answerEcc (site : EccSite) (f : EccFinding) (a : Nat) (s : State) : State :=
  match f with
  | .clean => s
  | .correctable => if site.refetches then s else (s.eccCorrect site).injectSeen 0x01
  | .uncorrectable => if site.refetches then s else s.eccFail site a

/-- A scrubber's step changes the walks and the time (R24). -/
theorem State.scrub_eq (memory a : Nat) (s : State) :
    s.scrub memory a = { s with tres := (s.scrub memory a).tres, time := (s.scrub memory a).time } := by
  unfold State.scrub
  split <;> rfl

@[simp] theorem State.scrub_diag (memory a : Nat) (s : State) : (s.scrub memory a).diag = s.diag := by rw [State.scrub_eq]

/-- A read in a powered mode without an injection armed: the scrubber's step, then the answer to what is found. -/
theorem exec_scrubAccess {s : State} (scrubber : Bool) (site : EccSite) (f : EccFinding) (a : Nat) (hp : s.sys.mode ≠ .dormant)
    (h : s.diag.eccArmed = none) :
    exec (.scrubAccess scrubber site f a) s = .next
      { ((State.when scrubber (State.scrub site.memory a) { s with out := [] }).answerEcc site f a) with pending := s.pending } := by
  have harmed : (State.when scrubber (State.scrub site.memory a) { s with out := [] }).diag.eccArmed = none := by
    cases scrubber <;> simp [h]
  unfold exec execScrubAccess
  simp only [done, State.powered, hp, State.eccFinding_of_unarmed site f a harmed, ne_eq, not_false_eq_true, decide_true, Bool.not_true,
    Bool.false_eq_true, if_false, if_true]
  rfl

/-- In DORMANT nothing is read. -/
theorem exec_scrubAccess_of_dormant {s : State} (scrubber : Bool) (site : EccSite) (f : EccFinding) (a : Nat) (hp : s.sys.mode = .dormant) :
    exec (.scrubAccess scrubber site f a) s = .next { s with out := [] } := by
  simp [exec, execScrubAccess, done, State.powered, hp]

/-- A read other than the scrubber's changes nothing where its finding is not answered. -/
theorem exec_scrubAccess_of_unanswered {s : State} {site : EccSite} {f : EccFinding} (a : Nat) (h : s.diag.eccArmed = none)
    (hnone : f = .clean ∨ site.refetches = true) : exec (.scrubAccess false site f a) s = .next { s with out := [] } := by
  by_cases hp : s.sys.mode = .dormant
  · exact exec_scrubAccess_of_dormant false site f a hp
  · rw [exec_scrubAccess false site f a hp h]
    have hsame : ∀ t : State, t.answerEcc site f a = t := fun t => by
      rcases hnone with rfl | hr
      · rfl
      · cases f <;> simp [State.answerEcc, hr]
    rw [hsame, State.when_false]

/-- An uncorrectable error shown and recorded, with clean health broken (R25, R352). -/
def State.noteEcc (site : EccSite) (a : Nat) (s : State) : State :=
  (({ s with sys.events := s.sys.events ||| 8#32, pair.eccSeen := true }).reportNow 0x000E [(1, site.memory), (4, a)]).breakHealth

/-- Of it the recorder's part alone is not spelled out. -/
theorem State.noteEcc_eq (site : EccSite) (a : Nat) (s : State) :
    s.noteEcc site a = { s with
      sys.events := s.sys.events ||| 8#32
      pair := { s.pair with eccSeen := true, holdFrom := s.ns, brokenAt := s.ns, asked := none }
      rcd := (s.noteEcc site a).rcd, ao := (s.noteEcc site a).ao, diag := (s.noteEcc site a).diag } := by
  unfold State.noteEcc
  rw [State.reportNow_eq]
  rfl

/-- The sites whose uncorrectable words nobody in the unit answers: an L1 data line, and SRAM that no core reads; a DMA master gets a transfer
error (R25). -/
theorem State.eccResponse_quiet {site : EccSite} (a : Nat) (s : State)
    (h : site = .sram none ∨ (∃ c, site = .l1d c) ∨ (∃ m : Fin 13, 8 ≤ m.val ∧ site = .sram (some m))) :
    s.eccResponse site a = { s with out := (s.eccResponse site a).out } ∧
      (∀ m : Fin 13, 8 ≤ m.val → site = .sram (some m) → (s.eccResponse site a).out = s.out ++ [.transferError m.val a]) := by
  rcases h with rfl | ⟨c, rfl⟩ | ⟨m, hm, rfl⟩
  · exact ⟨rfl, nofun⟩
  · exact ⟨rfl, nofun⟩
  · have hsend : s.eccResponse (.sram (some m)) a = s.send (.transferError m.val a) := if_neg (by omega)
    rw [hsend]
    refine ⟨rfl, fun m' _ hm' => ?_⟩
    obtain rfl : m = m' := by simpa using hm'
    rfl

/-- A scrubber's step moves its walk of the memory on by the word (R24). -/
theorem State.scrub_walk {memory words period : Nat} (a : Nat) (s : State) (h : scrubPass memory = some (words, period)) :
    Tab.get {} (s.scrub memory a).tres.scrubs memory =
      { next := a / 8 % words + 1
        passes := if (Tab.get {} s.tres.scrubs memory).next ≤ a / 8 % words then (Tab.get {} s.tres.scrubs memory).passes
          else (Tab.get {} s.tres.scrubs memory).passes + 1 } := by
  unfold State.scrub
  simp only [h]
  exact Tab.get_set_same_of_ne (fun h => Nat.succ_ne_zero _ (congrArg Scrub.next h)) _ _

/-- A counter that saturates at `n` bits shows an event. -/
theorem sat_succ_ne_zero {n : Nat} (hn : 0 < n) (k : Nat) : sat n (k + 1) ≠ 0 := by
  have := Nat.one_lt_two_pow hn.ne'
  unfold sat; omega

/-- Settles O13: each finding by its kind and memory. -/
theorem eccFindings : Obligations.EccFindings := by
  unfold Obligations.EccFindings
  refine ⟨?clean, ?instruction, ?scrubbed, ?corrected, ?queue, ?recorded, ?degrading⟩
  case clean => exact fun s site a h => exec_scrubAccess_of_unanswered a h (.inl rfl)
  case instruction => exact fun s c f a h => exec_scrubAccess_of_unanswered a h (.inr rfl)
  case scrubbed =>
    intro s site a words period hp h hpass
    have hwalk := State.scrub_walk a { s with out := [] } hpass
    refine ⟨_, exec_scrubAccess true site .clean a hp h, congrArg Scrub.next hwalk, congrArg Scrub.passes hwalk, ?_⟩
    simp only [State.answerEcc, State.when_true]
    rw [State.scrub_eq]
  case corrected =>
    intro s m a hp h hactive
    rw [exec_scrubAccess false _ _ a hp h]
    simp [State.answerEcc, EccSite.refetches, State.eccCorrect, State.injectSeen, hactive, EccSite.memory]
  case queue =>
    intro s q k a hp h hactive
    refine ⟨_, exec_scrubAccess false _ _ a hp h, ?_⟩
    have hanswer : State.answerEcc (.queue q k) .correctable a { s with out := [] } = State.eccCorrect (.queue q k) { s with out := [] } := by
      simp [State.answerEcc, EccSite.refetches, State.eccCorrect, State.injectSeen, hactive]
    rw [State.when_false, hanswer]
    refine ⟨rfl, ?_, rfl⟩
    exact congrArg WaitStat.corrected (Tab.get_set_same_of_ne (fun h => sat_succ_ne_zero (by decide) _ (congrArg WaitStat.corrected h)) _ _)
  case recorded =>
    intro s site a hsite hp h
    refine ⟨_, exec_scrubAccess false _ _ a hp h, ?_⟩
    have hanswer : State.answerEcc site .uncorrectable a { s with out := [] } = (State.noteEcc site a { s with out := [] }).eccResponse site a := by
      rcases hsite with rfl | ⟨c, rfl⟩ | ⟨m, hm, rfl⟩ <;> rfl
    obtain ⟨hframe, hsends⟩ := State.eccResponse_quiet a (State.noteEcc site a { s with out := [] }) hsite
    rw [State.when_false, hanswer, hframe, State.noteEcc_eq]
    refine ⟨rfl, fun m hm hm' => ?_, rfl, rfl, rfl, rfl, rfl, rfl, rfl, rfl⟩
    rw [← State.noteEcc_eq]
    exact (hsends m hm hm').trans (by rw [State.noteEcc_eq]; rfl)
  case degrading =>
    intro s site a hsite hmode hlone hd hs h hc
    refine ⟨_, exec_scrubAccess false _ _ a (by simp [hmode]) h, ?_⟩
    have hanswer : State.answerEcc site .uncorrectable a { s with out := [] } = (State.noteEcc site a { s with out := [] }).degrade 1 0xFF := by
      rcases hsite with ⟨n, rfl⟩ | ⟨n, rfl⟩ | ⟨n, rfl⟩ <;> rfl
    have hnote := State.noteEcc_eq site a { s with out := [] }
    obtain ⟨hmode', hdeg, hcause, hgo, -, hpair, hflash, -, -⟩ := State.degrade_lead (s := State.noteEcc site a { s with out := [] }) 1 0xFF
      (by rw [hnote]; exact hmode) (by rw [hnote]; exact hlone) (by rw [hnote]; exact hd) (by rw [hnote]; exact hs) (by rw [hnote]; exact hc)
    rw [State.when_false, hanswer]
    refine ⟨hmode', hdeg, hcause, ?_, hgo, ?_, rfl⟩
    · exact (congrArg Pair.claim hpair).trans (by rw [hnote])
    · exact hflash.trans (by rw [hnote])

end Sys2Proof.Machine
end

section
/-! SUPPORT. Sequenced tables (R28): writing a shadow copy, committing it, and the exchange at the boundary. -/

namespace Sys2Proof.Machine

/-- A table set reads as set. -/
theorem State.table_set_same {n : Nat} (v : SeqTable) {s : State} (h : n < s.tables.length) :
    State.table n { s with tables := s.tables.set n v } = v := by
  simp [State.table, h]

/-- Every other table reads as before. -/
theorem State.table_set_other {n k : Nat} (v : SeqTable) (s : State) (h : k ≠ n) :
    State.table k { s with tables := s.tables.set n v } = s.table k := by
  simp [State.table, List.getElem?_set_ne h.symm]

/-- A table is read from the list of tables alone. -/
theorem State.table_congr {s t : State} (h : t.tables = s.tables) (n : Nat) : t.table n = s.table n := by rw [State.table, State.table, h]

/-- One whole entry written is read back. -/
theorem get_writeEntries_single {i : Nat} {o : List Octet} (t : Tab (List Octet)) (hi : i < 640) (ho : o.length = 8) :
    Tab.get [] (writeEntries [(i, o)] t) i = o := by
  have hpad : padTo 8 o = o := by simp [padTo, ho]
  have hne : o ≠ [] := by rintro rfl; simp at ho
  simp only [writeEntries, List.foldl_cons, List.foldl_nil, if_pos hi, hpad]
  exact Tab.get_set_same_of_ne hne i t

/-- What the writing of entries changes: the shadow copy of the one table, which for a Deck is the radio's (R28). -/
structure ShadowWritten (n : Nat) (e : List (Nat × List Octet)) (s t : State) : Prop where
  own : t.table n = { s.table n with shadow := if n < 2 then (s.table n).shadow else writeEntries e (s.table n).shadow }
  others : ∀ k, k ≠ n → t.table k = s.table k
  length : t.tables.length = s.tables.length
  deckA : t.rad.a = { s.rad.a with shadow := if n = 0 then writeEntries e s.rad.a.shadow else s.rad.a.shadow }
  deckB : t.rad.b = { s.rad.b with shadow := if n = 1 then writeEntries e s.rad.b.shadow else s.rad.b.shadow }
  frame : t = { s with tables := t.tables, rad := t.rad }

theorem State.writeShadow_spec {n : Nat} (e : List (Nat × List Octet)) {s : State} (h : n < s.tables.length) :
    ShadowWritten n e s (s.writeShadow n e) := by
  match n, h with
  | 0, _ => exact ⟨rfl, fun _ _ => rfl, rfl, rfl, rfl, rfl⟩
  | 1, _ => exact ⟨rfl, fun _ _ => rfl, rfl, rfl, rfl, rfl⟩
  | n + 2, h =>
    have hn : ¬ n + 2 < 2 := by omega
    exact {
      own := by rw [if_neg hn]; exact State.table_set_same _ h
      others := fun k hk => State.table_set_other _ s hk
      length := by simp [State.writeShadow]
      deckA := rfl
      deckB := rfl
      frame := rfl }

/-- The commit flag of a table is set, with its instant (R28). -/
def State.commitTable (n : Nat) (s : State) : State := { s with tables := s.tables.set n { s.table n with committed := some s.now } }

/-- The flag changes its table alone. -/
theorem State.when_commitTable {n : Nat} (c : Bool) {s : State} (h : n < s.tables.length) :
    (s.when c (State.commitTable n)).table n = { s.table n with committed := if c then some s.now else (s.table n).committed } ∧
    (∀ k, k ≠ n → (s.when c (State.commitTable n)).table k = s.table k) ∧
    s.when c (State.commitTable n) = { s with tables := (s.when c (State.commitTable n)).tables } := by
  cases c
  · exact ⟨rfl, fun _ _ => rfl, rfl⟩
  · exact ⟨State.table_set_same _ h, fun _ hk => State.table_set_other _ s hk, rfl⟩

theorem exec_tableCommit {s : State} {n : Fin 5} (e : List (Nat × List Octet)) (c : Bool) (hp : s.sys.mode ≠ .dormant)
    (h : (s.table n.val).committed = none) :
    exec (.tableCommit n e c) s = .next
      { (State.writeShadow n.val e { s with out := [] }).when c (State.commitTable n.val) with pending := s.pending } := by
  have hopen : (State.table n.val { s with out := [] }).committed = none := h
  simp only [exec, execTableCommit, done, State.powered, hopen, hp, ne_eq, not_false_eq_true, not_true_eq_false, decide_true, Bool.not_true,
    Bool.false_eq_true, if_false]
  rfl

theorem exec_tableCommit_of_committed {s : State} {n : Fin 5} (e : List (Nat × List Octet)) (c : Bool) (hp : s.sys.mode ≠ .dormant)
    (h : (s.table n.val).committed ≠ none) : exec (.tableCommit n e c) s = .next { s with out := [.tableError n.val] } := by
  have hopen : (State.table n.val { s with out := [] }).committed ≠ none := h
  simp [exec, execTableCommit, done, State.powered, hopen, hp, State.send]

/-- A boundary that fires changes the time unit alone (log 5). -/
theorem State.mark_eq (kind period : Nat) (s : State) : s.mark kind period = { s with time := (s.mark kind period).time } := rfl

/-- The boundary of a table comes (R28): the exchange follows where the flag was set long enough before. -/
theorem exec_tableExchange {s b : State} (n : Fin 5) (hp : s.sys.mode ≠ .dormant) (hr : s.time.running = true)
    (hb : b = State.mark (20 + n.val) (if n.val = 4 then 10 * perMs else perSec) { s with out := [] }) :
    ∃ T, b = { s with out := [], time := T } ∧ exec (.tableExchange n) s = .next { b.exchangeDue n.val with pending := s.pending } :=
  ⟨_, hb.trans (State.mark_eq ..), by simp [exec, execTableExchange, done, State.powered, hp, hr, hb]⟩

theorem State.exchangeDue_of_early {n : Nat} {s : State} (h : ∀ c, (s.table n).committed = some c → s.now < c + 50 * perUs) :
    s.exchangeDue n = s := by
  cases hc : (s.table n).committed with
  | none => simp [State.exchangeDue, hc]
  | some c =>
    have hlate : ¬ 50 * perUs + c ≤ s.now := by have := h c hc; omega
    simp [State.exchangeDue, hc, hlate]

theorem State.exchangeDue_of_due {n c : Nat} {s : State} (hc : (s.table n).committed = some c) (h : c + 50 * perUs ≤ s.now) :
    s.exchangeDue n = s.exchange n := by
  have hdue : 50 * perUs + c ≤ s.now := by omega
  simp [State.exchangeDue, hc, hdue]

/-- What an exchange does to the tables (R28). -/
structure Exchanged (n : Nat) (s t : State) : Prop where
  own : t.table n = { committed := none, exchanges := ((s.table n).exchanges + 1) % 65536, active := (s.table n).shadow
                      shadow := (s.table n).active }
  others : ∀ k, k ≠ n → t.table k = s.table k

theorem State.exchange_spec {n : Nat} {s : State} (h : n < s.tables.length) : Exchanged n s (s.exchange n) := by
  have htables : (s.exchange n).tables = s.tables.set n
      { committed := none, exchanges := ((s.table n).exchanges + 1) % 65536, active := (s.table n).shadow, shadow := (s.table n).active } := by
    unfold State.exchange
    dsimp only
    split <;> rfl
  exact {
    own := (State.table_congr htables n).trans (State.table_set_same _ h)
    others := fun k hk => (State.table_congr htables k).trans (State.table_set_other _ s hk) }

/-- The tables 2 and 3 have no other copies than those of the list (Table 1-7). -/
theorem State.exchange_eq {n : Nat} (h : n = 2 ∨ n = 3) (s : State) : s.exchange n = { s with tables := (s.exchange n).tables } := by
  rcases h with rfl | rfl <;> rfl

/-- Settles O14: an open copy takes the entries and its flag; at the boundary the copies change places when the flag is old enough. -/
theorem tablesExchangeAtBoundary : Obligations.TablesExchangeAtBoundary := by
  unfold Obligations.TablesExchangeAtBoundary
  refine ⟨fun s n e c hp h => exec_tableCommit_of_committed e c hp h, ?written, ?exchanged, ?deckA, ?early⟩
  case written =>
    intro s n e c hp hlen h
    have hn : n.val < s.tables.length := by omega
    obtain ⟨hown, hothers, hlength, hA, hB, hframe⟩ := State.writeShadow_spec (n := n.val) e (s := { s with out := [] }) hn
    obtain ⟨hflag, hothers', hframe'⟩ := State.when_commitTable c (hlength.symm ▸ hn)
    refine ⟨_, exec_tableCommit e c hp h, ?_⟩
    generalize State.writeShadow n.val e { s with out := [] } = u at *
    generalize u.when c (State.commitTable n.val) = w at *
    have hnow : u.now = s.now := by rw [hframe]; rfl
    have hrad : w.rad = u.rad := by rw [hframe']
    refine ⟨?flag, ?keptA, ?keptB, fun i o h0 he hi ho => ?entryA, fun i o h1 he hi ho => ?entryB, fun i o h2 he hi ho => ?entry, ?active,
      fun k hk => (hothers' k hk).trans (hothers k hk), ?frame⟩
    case flag =>
      refine (congrArg SeqTable.committed hflag).trans ?_
      rw [hnow, hown]
      exact congrArg (fun x => if c = true then some s.now else x) h
    case keptA => exact (congrArg (·.a.deck) hrad).trans (congrArg Radio.deck hA)
    case keptB => exact (congrArg (·.b.deck) hrad).trans (congrArg Radio.deck hB)
    case entryA =>
      refine (congrArg (fun r => Tab.get [] r.a.shadow i) hrad).trans ?_
      rw [hA, he]
      simp only [if_pos h0]
      exact get_writeEntries_single _ hi ho
    case entryB =>
      refine (congrArg (fun r => Tab.get [] r.b.shadow i) hrad).trans ?_
      rw [hB, he]
      simp only [if_pos h1]
      exact get_writeEntries_single _ hi ho
    case entry =>
      refine (congrArg (fun t => Tab.get [] t.shadow i) hflag).trans ?_
      rw [hown, he]
      simp only [if_neg (show ¬ n.val < 2 by omega)]
      exact get_writeEntries_single _ hi ho
    case active =>
      refine (congrArg SeqTable.active hflag).trans ?_
      rw [hown]
      rfl
    case frame => rw [hframe', hframe]
  case exchanged =>
    intro s b n c hn hp hr hlen hb hc hdue
    obtain ⟨T, rfl, hexec⟩ := exec_tableExchange (b := b) n hp hr (by rw [hb, if_neg (by omega)])
    rw [State.exchangeDue_of_due (s := { s with out := [], time := T }) hc hdue] at hexec
    obtain ⟨hown, hothers⟩ := State.exchange_spec (n := n.val) (s := { s with out := [], time := T }) (hlen.symm ▸ n.isLt)
    refine ⟨_, hexec, congrArg SeqTable.active hown, congrArg SeqTable.shadow hown, congrArg SeqTable.committed hown,
      congrArg SeqTable.exchanges hown, hothers, ?_, ?_⟩ <;> rw [State.exchange_eq hn]
  case deckA =>
    intro s b c hp hr hlen hb hc hdue
    obtain ⟨T, rfl, hexec⟩ := exec_tableExchange (b := b) 0 hp hr hb
    rw [State.exchangeDue_of_due (n := (0 : Fin 5).val) (s := { s with out := [], time := T }) hc hdue] at hexec
    obtain ⟨hown, -⟩ := State.exchange_spec (n := 0) (s := { s with out := [], time := T }) (hlen.symm ▸ (by decide : 0 < 5))
    exact ⟨_, hexec, rfl, rfl, rfl, congrArg SeqTable.committed hown, rfl, rfl, rfl⟩
  case early =>
    intro s b n hp hr hb h
    obtain ⟨T, rfl, hexec⟩ := exec_tableExchange n hp hr hb
    rw [State.exchangeDue_of_early h] at hexec
    exact hexec

end Sys2Proof.Machine
end

section
/-! SUPPORT. What reading workers, queues and flows gives after one was set; core work (R239, R249, R256). -/

namespace Sys2Proof.Machine

/-- Of a table whose values are all changed an entry that stays one reads as changed, whatever form the table is in. -/
theorem Tab.get_mapVals_of_ne {α : Type} [DecidableEq α] {d : α} {f : Nat → α → α} {i : Nat} :
    ∀ {t : Tab α}, Tab.get d t i ≠ d → f i (Tab.get d t i) ≠ d → Tab.get d (Tab.mapVals d f t) i = f i (Tab.get d t i)
  | [], h, _ => absurd rfl h
  | (k, v) :: t, h, hf => by
    by_cases hk : k = i
    · subst hk
      simp only [Tab.get, if_true] at hf ⊢
      rw [Tab.mapVals, if_neg hf, Tab.get, if_pos rfl]
    · simp only [Tab.get, if_neg hk] at h hf ⊢
      rw [← Tab.get_mapVals_of_ne h hf, Tab.mapVals]
      split_ifs
      · rfl
      · rw [Tab.get, if_neg hk]

theorem State.wk_setWk_same {v : Worker} (hv : v ≠ {}) (k : Nat) (s : State) : (s.setWk k v).wk k = v := Tab.get_set_same_of_ne hv k _
theorem State.wk_setWk_other {v : Worker} (hv : v ≠ {}) {k j : Nat} (hj : j ≠ k) (s : State) : (s.setWk k v).wk j = s.wk j :=
  Tab.get_set_other_of_ne hv hj _
theorem State.queue_setQueue_same {v : Queue} (hv : v ≠ {}) (q : Nat) (s : State) : (s.setQueue q v).queue q = v := Tab.get_set_same_of_ne hv q _
theorem State.queue_setQueue_other {v : Queue} (hv : v ≠ {}) {q j : Nat} (hj : j ≠ q) (s : State) : (s.setQueue q v).queue j = s.queue j :=
  Tab.get_set_other_of_ne hv hj _
theorem State.flow_setFlow_same {v : Flow} (hv : v ≠ {}) (f : Nat) (s : State) : (s.setFlow f v).flow f = v := Tab.get_set_same_of_ne hv f _
theorem State.flow_setFlow_other {v : Flow} (hv : v ≠ {}) {f j : Nat} (hj : j ≠ f) (s : State) : (s.setFlow f v).flow j = s.flow j :=
  Tab.get_set_other_of_ne hv hj _

/-- A worker that asks or has a task is not the table's unlisted one; nor is a queue that stores or has read something. -/
theorem Worker.ne_default_of_ask {w : Worker} (h : w.ask ≠ none) : w ≠ {} := fun e => h (by rw [e])
theorem Worker.ne_default_of_task {w : Worker} (h : w.task ≠ none) : w ≠ {} := fun e => h (by rw [e])
theorem Queue.ne_default_of_ring {v : Queue} (h : v.ring ≠ []) : v ≠ {} := fun e => h (by rw [e])
theorem Queue.ne_default_of_rd {v : Queue} (h : v.rd ≠ 0) : v ≠ {} := fun e => h (by rw [e])
theorem Flow.ne_default_of_last {v : Flow} (h : v.last ≠ none) : v ≠ {} := fun e => h (by rw [e])

/-- A core's ask as it stands while its queues are looked at (R249). -/
def State.asking (n m : Nat) (s : State) : State :=
  s.updWk (256 + n) (fun w => { w with ask := some (m * 2 ^ 28, tickOf s.now), lastMask := m * 2 ^ 28 })

theorem State.wk_asking (n m : Nat) (s : State) :
    (s.asking n m).wk (256 + n) = { s.wk (256 + n) with ask := some (m * 2 ^ 28, tickOf s.now), lastMask := m * 2 ^ 28 } :=
  State.wk_setWk_same (Worker.ne_default_of_ask (by simp)) _ _

theorem State.wk_asking_other {n k : Nat} (m : Nat) (hk : k ≠ 256 + n) (s : State) : (s.asking n m).wk k = s.wk k :=
  State.wk_setWk_other (Worker.ne_default_of_ask (by simp)) hk _

/-- A core that asks and gets nothing halts in its ask; one that gets a task goes on (R249). -/
theorem exec_coreAsk {s : State} {n : Fin 8} (m : BitVec 4) (hp : s.powered = true) (hf : s.tres.frozen.getLsbD n.val = false)
    (ht : (s.wk (256 + n.val)).task = none) {t : State} (hserve : (State.asking n.val m.toNat { s with out := [] }).serveCore n.val = t) :
    exec (.coreAsk n m) s = .next
      { (if (t.wk (256 + n.val)).ask.isSome then (t.busyOff (256 + n.val) (msOf t.now)).haltCore n.val else t) with pending := s.pending } := by
  have hgo : (!State.powered { s with out := [] } || s.tres.frozen.getLsbD n.val || (State.wk (256 + n.val) { s with out := [] }).task.isSome) =
      false := by
    rw [show State.powered { s with out := [] } = true from hp, hf,
      show (State.wk (256 + n.val) { s with out := [] }).task = none from ht]
    rfl
  simp only [exec, execCoreAsk, done, hgo, Bool.false_eq_true, if_false]
  subst hserve
  rfl

/-- A core queue that stores nothing offers nothing (R249). -/
theorem State.serveCore_of_empty {n : Nat} {s : State} (h : ∀ q, 28 ≤ q → q < 32 → (s.queue q).ring = []) : s.serveCore n = s := by
  have hnone : ∀ {f : Nat × Desc → Bool} {q : Nat}, 28 ≤ q → q < 32 →
      ((selectionOrder ((s.queue q).stored.take 64)).find? f).map (fun p => (q, p)) = none := by
    intro f q h1 h2
    simp [Queue.stored, h q h1 h2, enum, selectionOrder]
  unfold State.serveCore
  dsimp only
  split
  · rfl
  · next raw _ _ =>
    have hall : ∀ {f : Nat → Nat × Desc → Bool}, (([31, 30, 29, 28].filter (bit raw)).findSome? fun q =>
        ((selectionOrder ((s.queue q).stored.take 64)).find? (f q)).map (fun p => (q, p))) = none := by
      intro f
      refine List.findSome?_eq_none_iff.mpr fun q hq => ?_
      have hmem := List.mem_of_mem_filter hq
      simp only [List.mem_cons, List.not_mem_nil, or_false] at hmem
      exact hnone (by omega) (by omega)
    rw [hall]

/-- A worker whose tasks' slots are free once the read pointer of their queue has passed them (R240). -/
def Worker.pass (q rd : Nat) (w : Worker) : Worker :=
  { w with task := w.task.map (Service.pass q rd), retreat := w.retreat.map (Service.pass q rd) }

/-- The only descriptor of a queue taken from it: the read pointer moves on, and the slots it passes are free (R240). -/
def State.takeOnly (q : Nat) (s : State) : State :=
  let u := (s.setQueue q { s.queue q with ring := [none] }).setQueue q { s.queue q with ring := [], rd := (s.queue q).rd + 1 }
  { u with fleet.dsp.workers := Tab.mapVals {} (fun _ => Worker.pass q ((s.queue q).rd + 1)) s.fleet.dsp.workers }

theorem State.hole_of_single {q : Nat} {d : Desc} {s : State} (h : (s.queue q).ring = [some d]) : s.hole q 0 = s.takeOnly q := by
  have hq : (s.setQueue q { s.queue q with ring := [none] }).queue q = { s.queue q with ring := [none] } :=
    State.queue_setQueue_same (Queue.ne_default_of_ring (by simp)) q s
  have hone : (([none] : List (Option Desc)).takeWhile (fun d => decide (d = none))).length = 1 := by simp
  unfold State.hole
  dsimp only
  rw [h, List.set_cons_zero, State.passHoles, hq]
  dsimp only
  rw [hone, if_neg Nat.one_ne_zero]
  rfl

theorem State.queue_takeOnly (q : Nat) (s : State) : (s.takeOnly q).queue q = { s.queue q with ring := [], rd := (s.queue q).rd + 1 } :=
  State.queue_setQueue_same (Queue.ne_default_of_rd (by simp)) q _

theorem State.queue_takeOnly_other {q j : Nat} (hj : j ≠ q) (s : State) : (s.takeOnly q).queue j = s.queue j :=
  (State.queue_setQueue_other (Queue.ne_default_of_rd (by simp)) hj _).trans
    (State.queue_setQueue_other (Queue.ne_default_of_ring (by simp)) hj s)

/-- A worker in service keeps its task's descriptor and its ask while a read pointer moves. -/
theorem State.wk_takeOnly {q k : Nat} {v : Service} {s : State} (h : (s.wk k).task = some v) :
    ((s.takeOnly q).wk k).ask = (s.wk k).ask ∧ ((s.takeOnly q).wk k).task.map (·.desc) = some v.desc := by
  have hget : (s.takeOnly q).wk k = (s.wk k).pass q ((s.queue q).rd + 1) :=
    Tab.get_mapVals_of_ne (f := fun _ => Worker.pass q ((s.queue q).rd + 1)) (Worker.ne_default_of_task (w := s.wk k) (by simp [h]))
      (Worker.ne_default_of_task (w := (s.wk k).pass q ((s.queue q).rd + 1)) (by simp [Worker.pass, h]))
  have hdesc : (Service.pass q ((s.queue q).rd + 1) v).desc = v.desc := by
    unfold Service.pass
    split <;> rfl
  rw [hget, Worker.pass, h]
  exact ⟨rfl, congrArg some hdesc⟩

/-- A core takes the descriptor at the head of queue `q`, its task from then (R249, R256). -/
def State.takeTask (n q : Nat) (d : Desc) (s : State) : State :=
  (s.updWk (256 + n) (fun w => { w with
    ask := none, task := some { desc := { d with lastSession := 256 + n }, slot := some ((s.queue q).rd + 0), given := msOf s.now }
    progress := 0xFF })).takeOnly q

theorem State.takeOnly_eq (q : Nat) (s : State) : s.takeOnly q = { s with fleet.dsp := (s.takeOnly q).fleet.dsp } := rfl
theorem State.updWk_eq (k : Nat) (f : Worker → Worker) (s : State) : s.updWk k f = { s with fleet.dsp := (s.updWk k f).fleet.dsp } := rfl

theorem State.takeTask_eq (n q : Nat) (d : Desc) (s : State) : s.takeTask n q d = { s with fleet.dsp := (s.takeTask n q d).fleet.dsp } := by
  unfold State.takeTask
  have hgive := State.updWk_eq (256 + n) (fun w => { w with
    ask := none, task := some { desc := { d with lastSession := 256 + n }, slot := some ((s.queue q).rd + 0), given := msOf s.now }
    progress := 0xFF }) s
  generalize s.updWk (256 + n) _ = u at *
  have htake := State.takeOnly_eq q u
  generalize u.takeOnly q = v at *
  rw [htake, hgive]

/-- The core then has the task and no ask. -/
theorem State.wk_takeTask (n q : Nat) (d : Desc) (s : State) :
    ((s.takeTask n q d).wk (256 + n)).ask = none ∧
    ((s.takeTask n q d).wk (256 + n)).task.map (·.desc) = some { d with lastSession := 256 + n } := by
  unfold State.takeTask State.updWk
  have hwk := State.wk_setWk_same (v := { s.wk (256 + n) with
    ask := none, task := some { desc := { d with lastSession := 256 + n }, slot := some ((s.queue q).rd + 0), given := msOf s.now }
    progress := 0xFF }) (Worker.ne_default_of_task (by simp)) (256 + n) s
  have hkept := State.wk_takeOnly (q := q) (congrArg Worker.task hwk)
  rw [hwk] at hkept
  exact hkept

/-- That queue is empty then, and the others are as they were. -/
theorem State.queue_takeTask (n q : Nat) (d : Desc) (s : State) :
    (s.takeTask n q d).queue q = { s.queue q with ring := [], rd := (s.queue q).rd + 1 } := State.queue_takeOnly q _
theorem State.queue_takeTask_other {q j : Nat} (hj : j ≠ q) (n : Nat) (d : Desc) (s : State) : (s.takeTask n q d).queue j = s.queue j :=
  State.queue_takeOnly_other hj _

/-- The core's clock runs from the working frequency of its domain on (Table 1-6). -/
def State.startCore (n : Nat) (s : State) : State :=
  let u := if s.clk.cores.getLsbD n then s else s.wakeIn domCore (if s.clk.corePll then 40 else domStart domCore)
  { u with clk.cores := u.clk.cores ||| BitVec.ofNat 8 (2 ^ n), clk.corePll := true }

/-- The clock unit as the start of a core leaves it. -/
def State.coreClock (n : Nat) (s : State) : Domains :=
  { s.clk with
    cores := s.clk.cores ||| BitVec.ofNat 8 (2 ^ n), corePll := true
    readyAt := if s.clk.cores.getLsbD n then s.clk.readyAt
      else Tab.set 0 s.clk.readyAt domCore (s.ns + (if s.clk.corePll then 40 else domStart domCore)) }

theorem State.startCore_eq (n : Nat) (s : State) : s.startCore n = { s with clk := s.coreClock n } := by
  unfold State.startCore State.coreClock
  cases s.clk.cores.getLsbD n <;> rfl

theorem State.coreClock_congr {s t : State} (hclk : t.clk = s.clk) (htime : t.time = s.time) (n : Nat) : t.coreClock n = s.coreClock n := by
  unfold State.coreClock State.ns
  rw [hclk, htime]

/-- The core has the task, its gift counted, and its clock does not run yet. -/
def State.hand (n q : Nat) (d : Desc) (s : State) : State :=
  ((s.takeTask n q d).countGift (256 + n) q (d.waited (msOf s.now))).busyOn (256 + n) (msOf s.now)

/-- A gift counted changes the statistics alone. -/
theorem State.countGift_busyOn_eq (k q wait ms : Nat) (s : State) :
    (s.countGift k q wait).busyOn k ms = { s with freg := ((s.countGift k q wait).busyOn k ms).freg } := rfl

/-- So a core that takes a task changes the dispatcher and the statistics alone. -/
theorem State.hand_eq (n q : Nat) (d : Desc) (s : State) :
    s.hand n q d = { s with fleet.dsp := (s.takeTask n q d).fleet.dsp, freg := (s.hand n q d).freg } := by
  have htask := State.takeTask_eq n q d s
  have hgift := State.countGift_busyOn_eq (256 + n) q (d.waited (msOf s.now)) (msOf s.now) (s.takeTask n q d)
  rw [← State.hand] at hgift
  generalize (s.hand n q d) = u at *
  generalize s.takeTask n q d = v at *
  rw [hgift, htask]

/-- A core that asks for queue 28 is given its only descriptor, which names no flow and no other core. -/
theorem State.serveCore_single {n t : Nat} {d : Desc} {s : State} (hask : (s.wk (256 + n)).ask = some (1 * 2 ^ 28, t))
    (hq : (s.queue 28).ring = [some d]) (hflow : d.flow = 1023) (hbound : d.bound = 0xFF) :
    s.serveCore n = (s.hand n 28 d).startCore n := by
  have hfree : decide (d.flow = 1023) = true := decide_eq_true hflow
  have hopen : decide (d.bound = 0xFF ∨ d.bound = 256 + n) = true := decide_eq_true (.inl hbound)
  have hmask : [31, 30, 29, 28].filter (bit (1 * 2 ^ 28)) = [28] := by decide
  have horder : selectionOrder ((s.queue 28).stored.take 64) = [(0, d)] := by
    have hst : (s.queue 28).stored = [(0, d)] := by rw [Queue.stored, hq]; rfl
    rw [hst, selectionOrder]
    cases hb : bit d.flags 0 <;> simp [hb]
  have htake : (s.updWk (256 + n) (fun w => { w with
      ask := none, task := some { desc := { d with lastSession := 256 + n }, slot := some ((s.queue 28).rd + 0), given := msOf s.now }
      progress := 0xFF })).hole 28 0 = s.takeTask n 28 d := State.hole_of_single hq
  unfold State.serveCore
  simp only [hask, hmask, List.findSome?_cons, horder, List.find?_cons, hfree, hopen, Bool.true_or, Bool.true_and, Option.map_some]
  rw [htake]
  rfl

/-- Where no core waits in an ask none wakes. -/
theorem State.wakeCores_of_no_ask {s : State} (h : ∀ n, n < 8 → (s.wk (256 + n)).ask = none) (q : Nat) : s.wakeCores q = s := by
  have hl : (List.range 8).filter (fun n => (((s.wk (256 + n)).ask).map (fun a => bit a.1 q)).getD false) = [] :=
    List.filter_eq_nil_iff.mpr fun n hn => by simp [h n (List.mem_range.mp hn)]
  rw [State.wakeCores, hl]
  rfl

theorem exec_coreDescriptorArrive {s : State} {q : Fin 4} (b : List Octet) (hp : s.powered = true) (hc : s.credit (28 + q.val) ≠ 0)
    (hask : ∀ n, n < 8 → (s.wk (256 + n)).ask = none) :
    exec (.coreDescriptorArrive q b) s =
      .next (State.storeDesc { descOf (padTo 64 b) with queue := 28 + q.val } (msOf s.now) { s with out := [] }) := by
  have hp' : State.powered { s with out := [] } = true := hp
  have hc' : State.credit (28 + q.val) { s with out := [] } ≠ 0 := hc
  have hwake := State.wakeCores_of_no_ask
    (s := State.storeDesc { descOf (padTo 64 b) with queue := 28 + q.val } (msOf s.now) { s with out := [] }) hask (28 + q.val)
  simp only [exec, execCoreDescriptorArrive, done, hp', hc', Bool.not_true, Bool.false_eq_true, or_self, if_false]
  exact congrArg (fun t : State => Host.Outcome.next { t with pending := s.pending }) hwake

theorem exec_coreTaskComplete {s : State} {n : Fin 8} {v : Service} (h : (s.wk (256 + n.val)).task = some v) :
    exec (.coreTaskComplete n) s = .next (State.when (decide (v.desc.flow ≠ 1023))
      (fun u => u.setFlow v.desc.flow { s.flow v.desc.flow with last := some (256 + n.val) })
      (State.updWk (256 + n.val) (fun w => { w with task := none }) (State.whenReady domCore { s with out := [] }))) := by
  have h' : (State.wk (256 + n.val) { s with out := [] }).task = some v := h
  simp only [exec, execCoreTaskComplete, done, h']
  by_cases hf : v.desc.flow = 1023
  · rw [if_pos hf, decide_eq_false (not_not.mpr hf)]; rfl
  · rw [if_neg hf, decide_eq_true hf]; rfl

/-- Settles O35: what a core's ask, a stored descriptor and a completed task change. -/
theorem coreWork : Obligations.CoreWork := by
  unfold Obligations.CoreWork
  refine ⟨?halts, ?takes, ?stores, ?completes⟩
  case halts =>
    intro s n m hp hf ht hempty
    have hserve := State.serveCore_of_empty (n := n.val) (s := State.asking n.val m.toNat { s with out := [] }) hempty
    have hwk := State.wk_asking n.val m.toNat { s with out := [] }
    have hexec := exec_coreAsk m hp hf ht hserve
    rw [if_pos (by rw [hwk]; rfl)] at hexec
    exact ⟨_, hexec, hwk, fun k hk => State.wk_asking_other m.toNat hk { s with out := [] }, rfl, rfl⟩
  case takes =>
    intro s n d hp hf ht hq hflow hbound
    have hserve := State.serveCore_single (n := n.val) (s := State.asking n.val 1 { s with out := [] })
      (by rw [State.wk_asking]) hq hflow hbound
    rw [State.startCore_eq] at hserve
    have hhand := State.hand_eq n.val 28 d (State.asking n.val 1 { s with out := [] })
    have hqueue := State.queue_takeTask n.val 28 d (State.asking n.val 1 { s with out := [] })
    have hothers := fun q (hq : q ≠ 28) => State.queue_takeTask_other hq n.val d (State.asking n.val 1 { s with out := [] })
    obtain ⟨hask, htask⟩ := State.wk_takeTask n.val 28 d (State.asking n.val 1 { s with out := [] })
    have hexec := exec_coreAsk 1#4 hp hf ht hserve
    generalize State.hand n.val 28 d (State.asking n.val 1 { s with out := [] }) = u at *
    generalize State.takeTask n.val 28 d (State.asking n.val 1 { s with out := [] }) = v at *
    have hwk : u.wk (256 + n.val) = v.wk (256 + n.val) := by rw [hhand]; rfl
    have hq' : ∀ q, u.queue q = v.queue q := fun q => by rw [hhand]; rfl
    have hclk : u.coreClock n.val = State.coreClock n.val { s with out := [] } := by rw [hhand]; rfl
    have hnot : ¬ (State.wk (256 + n.val) { u with clk := u.coreClock n.val }).ask.isSome = true := by
      rw [show State.wk (256 + n.val) { u with clk := u.coreClock n.val } = u.wk (256 + n.val) from rfl, hwk, hask]
      exact Bool.false_ne_true
    rw [if_neg hnot] at hexec
    refine ⟨_, hexec, (congrArg Worker.ask hwk).trans hask, (congrArg (·.task.map (·.desc)) hwk).trans htask,
      congrArg Queue.ring ((hq' 28).trans hqueue), congrArg Queue.rd ((hq' 28).trans hqueue), fun q hq => (hq' q).trans (hothers q hq), hclk, ?_⟩
    rw [hhand]
    rfl
  case stores =>
    intro s q b hp hc hask
    have hcore : decide (28 + q.val < 28) = false := decide_eq_false (by omega)
    refine ⟨_, exec_coreDescriptorArrive b hp hc hask, ?_, ?_, ?_⟩ <;> simp only [State.storeDesc, hcore]
    · exact congrArg Queue.ring (State.queue_setQueue_same (Queue.ne_default_of_ring (by simp)) _ _)
    · exact fun k hk => State.queue_setQueue_other (Queue.ne_default_of_ring (by simp)) hk _
    · rfl
  case completes =>
    intro s n v hv hwf
    refine ⟨_, exec_coreTaskComplete hv, ?_⟩
    by_cases hflow : v.desc.flow = 1023
    · rw [decide_eq_false (not_not.mpr hflow)]
      exact ⟨Tab.get_set_same _ _ hwf, fun k hk => Tab.get_set_other _ hwf hk, fun h => absurd hflow h, fun _ _ => rfl, rfl, rfl, rfl⟩
    · rw [decide_eq_true hflow]
      exact ⟨Tab.get_set_same _ _ hwf, fun k hk => Tab.get_set_other _ hwf hk,
        fun _ => State.flow_setFlow_same (Flow.ne_default_of_last (by simp)) _ _,
        fun f hf => State.flow_setFlow_other (Flow.ne_default_of_last (by simp)) hf _, rfl, rfl, rfl⟩

end Sys2Proof.Machine
end

section
/-! SUPPORT. The radios' domains (R26, R27), entries served, and faults in an entry (R235). -/

namespace Sys2Proof.Machine

theorem State.radio_updRadio_same (i : Fin 2) (f : Radio → Radio) (s : State) : (s.updRadio i.val f).radio i.val = f (s.radio i.val) := by
  match i with
  | 0 => rfl
  | 1 => rfl

/-- The other radio stands. -/
theorem State.radio_updRadio_other (i : Fin 2) (f : Radio → Radio) (s : State) :
    (s.updRadio i.val f).radio (1 - i.val) = s.radio (1 - i.val) := by
  match i with
  | 0 => rfl
  | 1 => rfl

theorem State.updRadio_eq (i : Nat) (f : Radio → Radio) (s : State) :
    s.updRadio i f = { s with rad.a := (s.updRadio i f).rad.a, rad.b := (s.updRadio i f).rad.b } := by
  unfold State.updRadio
  split <;> rfl

/-- Time that runs on to an instant moves the counter alone. -/
theorem State.reach_eq (b : Nat) (s : State) : s.reach b = { s with time.frc := (s.reach b).time.frc } := rfl

theorem State.reach_out (b : Nat) (o : List Out) (s : State) :
    State.reach b { s with out := o } = { s with out := o, time.frc := (s.reach b).time.frc } := rfl

/-- What a radio's domain that starts or stops changes (Table 1-6). -/
structure RadioClocked (i : Fin 2) (on : Bool) (s t : State) : Prop where
  own : t.radio i.val = { s.radio i.val with awake := on }
  other : t.radio (1 - i.val) = s.radio (1 - i.val)
  clk : t.clk = { s.clk with
    radioA := if i.val = 0 then on else s.clk.radioA, radioB := if i.val = 0 then s.clk.radioB else on
    readyAt := if on then Tab.set 0 s.clk.readyAt (domRadioA + i.val) (s.ns + domStart (domRadioA + i.val)) else s.clk.readyAt }
  frame : t = { s with rad.a := t.rad.a, rad.b := t.rad.b, clk := t.clk }

theorem State.radioClock_spec (i : Fin 2) (on : Bool) (s : State) : RadioClocked i on s (s.radioClock i.val on) := by
  match i, on with
  | 0, false => exact ⟨rfl, rfl, rfl, rfl⟩
  | 1, false => exact ⟨rfl, rfl, rfl, rfl⟩
  | 0, true => exact ⟨rfl, rfl, rfl, rfl⟩
  | 1, true => exact ⟨rfl, rfl, rfl, rfl⟩

/-- The queue of waiting commands stays as it was. -/
theorem next_of_pending {t : State} {p : List Instr} (h : t.pending = p) :
    (.next { t with pending := p } : Host.Outcome State Fault Refusal) = .next t := by rw [← h]

/-- An empty Deck has no entry now and none next. -/
theorem State.entryAt_of_empty {i : Nat} {s : State} (h : (s.radio i).deck = []) (t : Nat) : s.entryAt i t = none := by
  rw [State.entryAt, h]
  rfl
theorem State.nextEntry_of_empty {i : Nat} {s : State} (h : (s.radio i).deck = []) (m : Nat) (o : Int) (p : DeckEntry → Bool) :
    s.nextEntry i m o p = none := by
  rw [State.nextEntry, h]
  rfl

theorem State.radioClock_pending (i : Fin 2) (on : Bool) (s : State) : (s.radioClock i.val on).pending = s.pending := by
  rw [(State.radioClock_spec i on s).frame]

theorem exec_radioWake {s : State} {i : Fin 2} {e : DeckEntry} {b : Nat} (hs : s.inService = true) (hsave : s.sys.saving = false)
    (hw : (s.radio i.val).awake = false) (hr : s.time.running = true)
    (hn : s.nextEntry i.val (entryMark i.val 9) (-((300 * perUs : Nat) : Int)) (DeckEntry.uses i.val) = some (e, b)) :
    ∃ F, F = (s.reach (b - 300 * perUs)).time.frc ∧
      exec (.radioWake i) s = .next (State.radioClock i.val true { s with out := [], time.frc := F }) := by
  refine ⟨_, rfl, ?_⟩
  have hn' : State.nextEntry i.val (entryMark i.val 9) (-((300 * perUs : Nat) : Int)) (DeckEntry.uses i.val) { s with out := [] } =
    some (e, b) := hn
  have hgo : (!State.inService { s with out := [] } || s.sys.saving || (State.radio i.val { s with out := [] }).awake || !s.time.running) =
      false := by
    rw [show State.inService { s with out := [] } = true from hs, show (State.radio i.val { s with out := [] }).awake = false from hw, hsave, hr]
    rfl
  simp only [exec, execRadioWake, done, hgo, hn', Bool.false_eq_true, if_false]
  rw [State.reach_out]
  generalize (s.reach (b - 300 * perUs)).time.frc = F
  exact next_of_pending (State.radioClock_pending ..)

theorem exec_radioSleep {s : State} {i : Fin 2} (hs : s.inService = true) (hw : (s.radio i.val).awake = true) (hr : s.time.running = true)
    (hd : (s.radio i.val).deck = []) : exec (.radioSleep i) s = .next (State.radioClock i.val false { s with out := [] }) := by
  have hgo : (!State.inService { s with out := [] } || !(State.radio i.val { s with out := [] }).awake || !s.time.running) = false := by
    rw [show State.inService { s with out := [] } = true from hs, show (State.radio i.val { s with out := [] }).awake = true from hw, hr]
    rfl
  have hd' : (State.radio i.val { s with out := [] }).deck = [] := hd
  have hat := State.entryAt_of_empty hd'
  have hn := State.nextEntry_of_empty hd'
  simp only [exec, execRadioSleep, done, hgo, hat, hn, Bool.false_eq_true, if_false]
  exact next_of_pending (State.radioClock_pending ..)

/-- An entry that is served and in which the radio listens sets its receiver (R207). -/
theorem State.serve_listen {s : State} {i : Fin 2} {kind : Nat} {e : DeckEntry} {b : Nat} (h : entryServed i.val kind 0 e b s) :
    State.serveEntry i.val kind 0 (fun e start s => s.listen i.val start (e.stop start)) s =
      State.updRadio i.val (fun r => { r with rx := e.stop b, rxFrom := b }) (s.serveAt (entryMark i.val kind) b) := by
  obtain ⟨hs, hr, hn, hfrom, hsynth, hpa, hw, hready⟩ := h
  have hwake : s.wakeFor i.val b = s := by rw [State.wakeFor, if_pos hw]
  have hgo : ¬ (b < (s.serveAt (entryMark i.val kind) b).rad.serveFrom ∨ (s.serveAt (entryMark i.val kind) b).radioReadyBy i.val b = false) := by
    rintro (hlt | hnot)
    · exact absurd hlt (Nat.not_lt.mpr hfrom)
    · exact absurd (hnot.symm.trans (hready : (s.serveAt (entryMark i.val kind) b).radioReadyBy i.val b = true)) Bool.false_ne_true
  have hinj : (s.serveAt (entryMark i.val kind) b).entryInjection i.val false = s.serveAt (entryMark i.val kind) b := by
    unfold State.entryInjection
    rw [if_neg (show ¬ (s.serveAt (entryMark i.val kind) b).diag.synthFault = some i.val from hsynth)]
    dsimp only
    rw [show (s.serveAt (entryMark i.val kind) b).diag.paFault = none from hpa]
  simp only [State.serveEntry, hs, hr, hn, Bool.not_true, Bool.false_eq_true, or_self, if_false, Int.add_zero, Int.toNat_natCast, hwake]
  rw [if_neg hgo, State.listen, hinj]

/-- What the service of an entry changes beside what the entry does. -/
theorem State.serveAt_eq (mark b : Nat) (s : State) :
    s.serveAt mark b = { s with time.frc := (s.reach b).time.frc, time.marks := Tab.set 0 s.time.marks mark (b + 1) } := rfl

theorem State.updRadio_served (i : Nat) (f : Radio → Radio) (F : BitVec 64) (M : Tab Nat) (s : State) :
    State.updRadio i f { s with time.frc := F, time.marks := M } =
      { s with rad.a := (s.updRadio i f).rad.a, rad.b := (s.updRadio i f).rad.b, time.frc := F, time.marks := M } := by
  unfold State.updRadio
  split <;> rfl

/-- What a listening entry changes. -/
structure Listens (i : Fin 2) (e : DeckEntry) (b : Nat) (s t : State) : Prop where
  own : t.radio i.val = { s.radio i.val with rx := e.stop b, rxFrom := b }
  other : t.radio (1 - i.val) = s.radio (1 - i.val)
  frc : t.time.frc = (s.reach b).time.frc
  frame : t = { s with rad.a := t.rad.a, rad.b := t.rad.b, time.frc := t.time.frc, time.marks := t.time.marks }

theorem State.listens (i : Fin 2) (mark : Nat) (e : DeckEntry) (b : Nat) (s : State) :
    Listens i e b s (State.updRadio i.val (fun r => { r with rx := e.stop b, rxFrom := b }) (s.serveAt mark b)) := by
  refine ⟨State.radio_updRadio_same .., State.radio_updRadio_other .., ?_, ?_⟩ <;> rw [State.serveAt_eq] <;>
    generalize (s.reach b).time.frc = F <;> rw [State.updRadio_served]

/-- The frame of a listening entry, whose command `c` does nothing but serve it. -/
theorem exec_listening {s : State} {i : Fin 2} {kind : Nat} {e : DeckEntry} {b : Nat} {c : Instr} (h : entryServed i.val kind 0 e b s)
    (hc : exec c s = .next { State.serveEntry i.val kind 0 (fun e start s => s.listen i.val start (e.stop start)) { s with out := [] } with
      pending := s.pending }) :
    ∃ t, exec c s = .next t ∧ Listens i e b { s with out := [] } t := by
  have hout : entryServed i.val kind 0 e b { s with out := [] } := h
  rw [State.serve_listen hout] at hc
  have hl := State.listens i (entryMark i.val kind) e b { s with out := [] }
  exact ⟨_, hc.trans (next_of_pending (by rw [hl.frame])), hl⟩

/-- What a fault in an entry changes beside the radio: its frame on air is cut, the rest of the entry is skipped, clean health breaks. -/
structure EntryFault (i : Fin 2) (r : Radio) (s t : State) : Prop where
  own : t.radio i.val = r
  other : t.radio (1 - i.val) = s.radio (1 - i.val)
  pair : t.pair = { s.pair with radioAt := some s.ns, holdFrom := s.ns, brokenAt := s.ns, asked := none }
  frame : t = { s with rad := t.rad, pair := t.pair, rcd := t.rcd, out := t.out }

/-- The frame on air is cut off where it has not ended. -/
def State.cutFrame (i : Nat) (s : State) : State :=
  match (s.radio i).onAir with
  | some (a, finish) => if s.now < finish then s.send (.air { a with cut := true }) else s
  | none => s

theorem State.cutFrame_eq (i : Nat) (s : State) : s.cutFrame i = { s with out := (s.cutFrame i).out } := by
  unfold State.cutFrame
  split
  · split <;> rfl
  · rfl

theorem State.cutFrame_now (i : Nat) (s : State) : (s.cutFrame i).now = s.now := by
  rw [State.cutFrame_eq]
  rfl

/-- The end of the entry that radio `i` is in, at which a fault ends; without one the fault is past. -/
def State.faultEnd (i : Nat) (s : State) : Nat := (s.entryAt i s.now).elim s.now (fun p => p.1.stop p.2)

/-- The kind of the entry that radio `i` is in, and its channel. -/
def State.faultKind (i : Nat) (s : State) : Nat := (s.entryAt i s.now).elim 0 (·.1.kind)
def State.faultChannel (i : Nat) (s : State) : Nat :=
  match s.entryAt i s.now with
  | some p => s.entryChannel i p.1 p.2
  | none => s.tickChannel i s.now

/-- A fault noted: when it came, and whether a beacon failed with it. -/
def State.noteFault (i kind : Nat) (s : State) : State :=
  { s with pair.radioAt := some s.ns, rad.txFail := s.rad.txFail || (decide (i = 0 ∧ kind = 1) && s.onAirAllowed) }

/-- A fault in an entry as both kinds of it are handled (R235): `f` marks the radio, bit `n` of its events is latched. -/
def State.entryFault (i n low : Nat) (f : Radio → Radio) (data : List (Nat × Int)) (s : State) : State :=
  (((((s.cutFrame i).updRadio i f).noteFault i (s.faultKind i)).radEvent i n).radReport i low data).breakHealth

theorem State.entryFault_spec (i : Fin 2) (n low : Nat) (f : Radio → Radio) (data : List (Nat × Int)) (s : State) :
    EntryFault i { f (s.radio i.val) with events := (f (s.radio i.val)).events ||| BitVec.ofNat 32 (2 ^ n) } s
      (s.entryFault i.val n low f data) := by
  have hcut := State.cutFrame_eq i.val s
  unfold State.entryFault State.radReport
  generalize s.cutFrame i.val = u at *
  rw [State.report_eq]
  generalize (State.report _ data _).rcd = R
  rw [hcut]
  match i with
  | 0 =>
    simp only [State.breakHealth, State.radEvent, State.noteFault, State.updRadio]
    exact ⟨rfl, rfl, rfl, rfl⟩
  | 1 =>
    simp only [State.breakHealth, State.radEvent, State.noteFault, State.updRadio]
    exact ⟨rfl, rfl, rfl, rfl⟩

/-- A synthesiser's loss of lock is such a fault, which keeps the radio out until the entry ends. -/
theorem State.pllUnlock_eq (i : Nat) (s : State) :
    s.pllUnlock i = s.entryFault i 7 0x06 (fun r => { r with onAir := none, dead := s.faultEnd i })
      [(1, s.faultKind i), (1, s.faultChannel i)] := by
  show s.entryFault i 7 0x06 (fun r => { r with onAir := none, dead := (s.entryAt i s.now).elim (s.cutFrame i).now (fun p => p.1.stop p.2) }) _ = _
  rw [State.cutFrame_now]
  rfl

/-- So is a trip of the PA's detector, which keeps the PA out. -/
theorem State.paTrip_eq (i d w : Nat) (s : State) :
    s.paTrip i d w = s.entryFault i 8 0x07 (fun r => { r with onAir := none, paDead := s.faultEnd i }) [(1, d), (2, w)] := by
  show s.entryFault i 8 0x07 (fun r => { r with onAir := none, paDead := (s.entryAt i s.now).elim (s.cutFrame i).now (fun p => p.1.stop p.2) }) _ = _
  rw [State.cutFrame_now]
  rfl

theorem State.faultEnd_out (i : Nat) (o : List Out) (s : State) : State.faultEnd i { s with out := o } = s.faultEnd i := rfl

theorem exec_pllUnlock {s : State} (i : Fin 2) (hs : s.inService = true) : ∃ t, exec (.pllUnlock i) s = .next t ∧
    EntryFault i { s.radio i.val with onAir := none, dead := s.faultEnd i.val, events := (s.radio i.val).events ||| 128#32 }
      { s with out := [] } t := by
  have hgo : (!State.inService { s with out := [] }) = false := congrArg not hs
  have hexec : exec (.pllUnlock i) s = .next { State.pllUnlock i.val { s with out := [] } with pending := s.pending } := by
    simp only [exec, execPllUnlock, done, hgo, Bool.false_eq_true, if_false]
  rw [State.pllUnlock_eq, State.faultEnd_out] at hexec
  have hfault := State.entryFault_spec i 7 0x06 (fun r => { r with onAir := none, dead := s.faultEnd i.val })
    [(1, State.faultKind i.val { s with out := [] }), (1, State.faultChannel i.val { s with out := [] })] { s with out := [] }
  generalize State.entryFault i.val 7 0x06 _ _ { s with out := [] } = t at hexec hfault
  exact ⟨t, hexec.trans (next_of_pending (by rw [hfault.frame])), hfault⟩

theorem exec_paFault {s : State} (i d : Fin 2) (w : BitVec 16) (hs : s.inService = true) : ∃ t, exec (.paFault i d w) s = .next t ∧
    EntryFault i { s.radio i.val with onAir := none, paDead := s.faultEnd i.val, events := (s.radio i.val).events ||| 256#32 }
      { s with out := [] } t := by
  have hgo : (!State.inService { s with out := [] }) = false := congrArg not hs
  have hexec : exec (.paFault i d w) s = .next { State.paTrip i.val d.val w.toNat { s with out := [] } with pending := s.pending } := by
    simp only [exec, execPaFault, done, hgo, Bool.false_eq_true, if_false]
  rw [State.paTrip_eq, State.faultEnd_out] at hexec
  have hfault := State.entryFault_spec i 8 0x07 (fun r => { r with onAir := none, paDead := s.faultEnd i.val }) [(1, d.val), (2, w.toNat)]
    { s with out := [] }
  generalize State.entryFault i.val 8 0x07 _ _ { s with out := [] } = t at hexec hfault
  exact ⟨t, hexec.trans (next_of_pending (by rw [hfault.frame])), hfault⟩

/-- Settles O29: the domains by what a radio's clock changes, the entries by what listening sets, the faults by the one shape both have. -/
theorem radioDomainsAndFaults : Obligations.RadioDomainsAndFaults := by
  unfold Obligations.RadioDomainsAndFaults
  refine ⟨?wake, ?sleep, ?assigned, ?contention, ?unlock, ?trip⟩
  case wake =>
    intro s i e b hs hsave hw hr hn
    obtain ⟨F, hF, hexec⟩ := exec_radioWake hs hsave hw hr hn
    obtain ⟨hown, hother, hclk, hframe⟩ := State.radioClock_spec i true { s with out := [], time.frc := F }
    generalize State.radioClock i.val true { s with out := [], time.frc := F } = t at hexec hown hother hclk hframe
    refine ⟨t, hexec, hown, hother, (congrArg (·.time.frc) hframe).trans hF, ?_, by rw [hframe]⟩
    have hns : t.ns = State.ns { s with out := [], time.frc := F } := by rw [hframe]; rfl
    rw [hclk, hns]
    by_cases h0 : i.val = 0
    · simp [h0]
    · simp [show i.val = 1 by omega]
  case sleep =>
    intro s i hs hw hr hd
    have hexec := exec_radioSleep hs hw hr hd
    obtain ⟨hown, hother, hclk, hframe⟩ := State.radioClock_spec i false { s with out := [] }
    generalize State.radioClock i.val false { s with out := [] } = t at *
    refine ⟨t, hexec, hown, hother, ?_, by rw [hframe]⟩
    rw [hclk]
    match i with
    | 0 => rfl
    | 1 => rfl
  case assigned =>
    intro s e b h
    obtain ⟨t, hexec, hown, hother, hfrc, hframe⟩ := exec_listening (i := 0) (c := .upAssignedEntry) h rfl
    have hb : t.rad.b = s.rad.b := hother
    exact ⟨t, hexec, hown, hfrc, by rw [hframe, hb]⟩
  case contention =>
    intro s i e b h
    obtain ⟨t, hexec, hown, hother, hfrc, hframe⟩ := exec_listening (c := .upContentionEntry i) h rfl
    exact ⟨t, hexec, hown, hother, hfrc, by rw [hframe]⟩
  case unlock =>
    intro s i hs
    obtain ⟨t, hexec, hown, hother, hpair, hframe⟩ := exec_pllUnlock i hs
    exact ⟨t, hexec, hown, hother, hpair, by rw [hframe]⟩
  case trip =>
    intro s i d w hs
    obtain ⟨t, hexec, hown, hother, hpair, hframe⟩ := exec_paFault i d w hs
    exact ⟨t, hexec, hown, hother, hpair, by rw [hframe]⟩

end Sys2Proof.Machine
end

section
/-! SUPPORT. The soft start of the boost (R441) where the table of loop objects is not in canonical form. -/

namespace Sys2Proof.Machine

/-- The boost waits after its first faults at a unit without an image, which knows no boost maximum; its table lists object 578, whose set-point
the soft start writes, twice. -/
def twiceListed : State :=
  { cfg := { image := none }, lum := { boost := .faultWait, faults := 0 }, loop.objects := [(578, {}), (578, { setpoint := 1 })] }

/-- The soft start then begins at the set-point 0, which is the unlisted object's: its first entry goes, and the second shows. -/
theorem exec_boostFaultWaitEnd_twiceListed :
    exec .boostFaultWaitEnd twiceListed = .next { State.softStart (State.atLeast 1000000000 { twiceListed with out := [] }) with
      pending := twiceListed.pending } := rfl

theorem setpoint_softStart_twiceListed :
    (State.obj { State.softStart (State.atLeast 1000000000 { twiceListed with out := [] }) with pending := twiceListed.pending } 578).setpoint = 1 := by
  decide

/-- Refutes O49: the end of FAULT_WAIT is stated for every table of loop objects, also for one that is not in canonical form. Where it lists object
578 twice and the boost maximum is 0, the set-point written equals the unlisted object's, its entry is not kept, and object 578 reads as the
second entry. -/
theorem not_zoneLighting : ¬ Obligations.ZoneLighting := by
  unfold Obligations.ZoneLighting
  rintro ⟨-, -, -, -, -, -, -, -, -, hwait, -⟩
  obtain ⟨t, hexec, -, hset, -⟩ := hwait twiceListed rfl (by decide)
  cases Host.Outcome.next.inj (exec_boostFaultWaitEnd_twiceListed.symm.trans hexec)
  exact absurd (setpoint_softStart_twiceListed.symm.trans hset) (by decide)

end Sys2Proof.Machine
end

section
/-! SUPPORT. What the stages of a tick and its publication leave alone: the frame of the shared fleet operations (Table 1-8). -/

namespace Sys2Proof.Machine

/-- Of a tick's results the part that no stage changes: its number and its commit flag. -/
def TickOut.frame (t : TickOut) : TickOut := { tick := t.tick, committed := t.committed }

@[simp] theorem TickOut.frame_with (t : TickOut) (profiles returns : List Nat) (guestOut : List (Nat × List Octet)) (news : List TickNews)
    (gifts : List Gift) (records : List (Nat × List (Nat × Int))) :
    TickOut.frame { t with profiles := profiles, returns := returns, guestOut := guestOut, news := news, gifts := gifts, records := records } =
      t.frame := by simp only [TickOut.frame]

/-- What changes no result's number and commit flag is not seen in them. -/
@[simp] theorem TickOut.frame_comp {f : TickOut → TickOut} (h : ∀ t, (f t).frame = t.frame) : TickOut.frame ∘ f = TickOut.frame := funext h

/-- The state without what a tick's stages and its publication work on. -/
def State.besideTick (s : State) : State :=
  { s with fleet := {}, freg := {}, rcd := {}, ao := {}, diag := {}, host := {}, guest := {}, inp := {}, stop := {}, meas := {}, mreg := {}
           rad := {}, lum := {}, tables := [], free := 0, out := [], tick := s.tick.map TickOut.frame }

/-- An update of those parts is not seen beside the tick. -/
@[simp] theorem State.besideTick_with (s : State) (fleet : Fleet) (freg : FleetRegs) (rcd : Recorder) (ao : AlwaysOn) (diag : Diag)
    (host : HostBridge) (guest : GuestLinks) (inp : Inputs) (stop : Fstop) (meas : Meas) (mreg : MeasRegs) (rad : Radios) (lum : Lum)
    (tables : List SeqTable) (free : Nat) (out : List Out) :
    State.besideTick { s with fleet := fleet, freg := freg, rcd := rcd, ao := ao, diag := diag, host := host, guest := guest, inp := inp, stop := stop
                              meas := meas, mreg := mreg, rad := rad, lum := lum, tables := tables, free := free, out := out } =
      s.besideTick := by
  simp only [State.besideTick]

/-- Nor is one of the tick's results that keeps its number and commit flag. -/
theorem State.besideTick_tick {s : State} {tick : Option TickOut} (fleet : Fleet) (h : tick.map TickOut.frame = s.tick.map TickOut.frame) :
    State.besideTick { s with fleet := fleet, tick := tick } = s.besideTick := by
  simp only [State.besideTick, h]

@[simp] theorem State.besideTick_mapTick (s : State) (fleet : Fleet) {f : TickOut → TickOut} (h : ∀ t, (f t).frame = t.frame) :
    State.besideTick { s with fleet := fleet, tick := s.tick.map f } = s.besideTick := by
  apply State.besideTick_tick
  rw [Option.map_map, TickOut.frame_comp h]

/-- What work in the fleet leaves alone is left alone beside the tick. -/
theorem State.besideTick_of_offWork {s t : State} (h : t.offWork = s.offWork) : t.besideTick = s.besideTick :=
  (congrArg State.besideTick h : t.offWork.besideTick = s.offWork.besideTick)

/-- What each element's effect leaves alone, the effect of the whole list leaves alone. -/
@[simp] theorem State.each_besideTick {α : Type} {f : α → State → State} (h : ∀ a s, (f a s).besideTick = s.besideTick) (l : List α) (s : State) :
    (s.each l f).besideTick = s.besideTick :=
  State.each_keeps (fun t => t.besideTick = s.besideTick) f (fun a t ht => (h a t).trans ht) l s rfl

@[simp] theorem State.when_besideTick {f : State → State} (h : ∀ s, (f s).besideTick = s.besideTick) (c : Bool) (s : State) :
    (s.when c f).besideTick = s.besideTick := by
  cases c
  · rfl
  · exact h s

@[simp] theorem State.besideTick_ite (c : Prop) [Decidable c] (s t : State) :
    State.besideTick (if c then s else t) = if c then s.besideTick else t.besideTick := apply_ite ..

@[simp] theorem State.report_besideTick (c : Nat) (d : List (Nat × Int)) (s : State) : (s.report c d).besideTick = s.besideTick :=
  State.besideTick_of_offWork (State.report_offWork c d s)
@[simp] theorem State.reportNow_besideTick (c : Nat) (d : List (Nat × Int)) (s : State) : (s.reportNow c d).besideTick = s.besideTick :=
  State.besideTick_of_offWork (State.reportNow_offWork c d s)
@[simp] theorem State.fleetEvent_besideTick (c : Nat) (s : State) : (s.fleetEvent c).besideTick = s.besideTick :=
  State.besideTick_of_offWork (State.fleetEvent_offWork c s)
@[simp] theorem State.send_besideTick (o : Out) (s : State) : (s.send o).besideTick = s.besideTick := by
  simp only [State.send, State.besideTick_with]
@[simp] theorem State.setRs_besideTick (n : Nat) (v : RadioSess) (s : State) : (s.setRs n v).besideTick = s.besideTick := by
  simp only [State.setRs, State.besideTick_with]
@[simp] theorem State.updRs_besideTick (n : Nat) (f : RadioSess → RadioSess) (s : State) : (s.updRs n f).besideTick = s.besideTick := by
  simp only [State.updRs, State.setRs, State.besideTick_with]
@[simp] theorem State.setXs_besideTick (n : Nat) (v : ArbSess) (s : State) : (s.setXs n v).besideTick = s.besideTick := by
  simp only [State.setXs, State.besideTick_with]
@[simp] theorem State.updXs_besideTick (n : Nat) (f : ArbSess → ArbSess) (s : State) : (s.updXs n f).besideTick = s.besideTick := by
  simp only [State.updXs, State.setXs, State.besideTick_with]
@[simp] theorem State.setPs_besideTick (n : Nat) (v : ProfSess) (s : State) : (s.setPs n v).besideTick = s.besideTick := by
  simp only [State.setPs, State.besideTick_with]
@[simp] theorem State.updPs_besideTick (n : Nat) (f : ProfSess → ProfSess) (s : State) : (s.updPs n f).besideTick = s.besideTick := by
  simp only [State.updPs, State.setPs, State.besideTick_with]
@[simp] theorem State.setWk_besideTick (n : Nat) (v : Worker) (s : State) : (s.setWk n v).besideTick = s.besideTick := by
  simp only [State.setWk, State.besideTick_with]
@[simp] theorem State.updWk_besideTick (n : Nat) (f : Worker → Worker) (s : State) : (s.updWk n f).besideTick = s.besideTick := by
  simp only [State.updWk, State.setWk, State.besideTick_with]
@[simp] theorem State.setFlow_besideTick (n : Nat) (v : Flow) (s : State) : (s.setFlow n v).besideTick = s.besideTick := by
  simp only [State.setFlow, State.besideTick_with]
@[simp] theorem State.setQueue_besideTick (n : Nat) (v : Queue) (s : State) : (s.setQueue n v).besideTick = s.besideTick := by
  simp only [State.setQueue, State.besideTick_with]
@[simp] theorem State.setNode_besideTick (n : Nat) (v : NodeState) (s : State) : (s.setNode n v).besideTick = s.besideTick := by
  simp only [State.setNode, State.besideTick_with]

@[simp] theorem State.tickReport_besideTick (c : Nat) (d : List (Nat × Int)) (s : State) : (s.tickReport c d).besideTick = s.besideTick := by
  unfold State.tickReport
  split
  case h_1 t h => exact State.besideTick_tick s.fleet (by rw [h]; rfl)
  case h_2 => simp

@[simp] theorem State.news_besideTick (n : TickNews) (s : State) : (s.news n).besideTick = s.besideTick := by
  unfold State.news
  split
  case h_1 t h => exact State.besideTick_tick s.fleet (by rw [h]; rfl)
  case h_2 => rfl

@[simp] theorem State.storeDesc_besideTick (d : Desc) (ms : Nat) (s : State) : (s.storeDesc d ms).besideTick = s.besideTick := by
  simp only [State.storeDesc, State.setQueue, State.besideTick_with]

@[simp] theorem State.passHoles_besideTick (q : Nat) (s : State) : (s.passHoles q).besideTick = s.besideTick := by
  unfold State.passHoles
  dsimp only
  split <;> rfl

@[simp] theorem State.hole_besideTick (q i : Nat) (s : State) : (s.hole q i).besideTick = s.besideTick := by
  simp [State.hole]

@[simp] theorem State.closeEmpty_besideTick (q : Nat) (s : State) : (s.closeEmpty q).besideTick = s.besideTick := by
  unfold State.closeEmpty
  split <;> simp

@[simp] theorem State.taskDone_besideTick (n ms : Nat) (s : State) : (s.taskDone n ms).besideTick = s.besideTick := by
  unfold State.taskDone
  dsimp only
  split
  · split <;> simp
  · simp
  · rfl

@[simp] theorem State.retire_besideTick (ms n : Nat) (r : Report) (s : State) : (s.retire ms n r).besideTick = s.besideTick := by
  unfold State.retire
  dsimp only
  split <;> simp

@[simp] theorem State.putBack_besideTick (v : Service) (progress : Nat) (s : State) : (s.putBack v progress).besideTick = s.besideTick := by
  unfold State.putBack
  dsimp only
  split <;> rfl

@[simp] theorem State.dropRetreats_besideTick (n : Nat) (s : State) : (s.dropRetreats n).besideTick = s.besideTick := by
  unfold State.dropRetreats
  simp only [State.updWk_besideTick, State.passHoles_besideTick]
  apply State.each_besideTick
  intro i u
  split
  · simp
  · rfl

@[simp] theorem State.returnWork_besideTick (n : Nat) (s : State) : (s.returnWork n).besideTick = s.besideTick := by
  unfold State.returnWork
  simp only [State.setWk_besideTick]
  split <;> simp

@[simp] theorem State.releaseFlows_besideTick (l : List (Nat × Flow)) (s : State) : (s.releaseFlows l).besideTick = s.besideTick := by
  apply State.each_besideTick
  intro p u
  split
  · simp
  · rfl

@[simp] theorem State.submit1_besideTick (host ms : Nat) (b : List Octet) (s : State) : (s.submit1 host ms b).2.besideTick = s.besideTick := by
  simp [State.submit1]

@[simp] theorem State.submitAll_besideTick (host ms : Nat) : ∀ (l : List (List Octet)) (s : State),
    (State.submitAll host ms l s).2.besideTick = s.besideTick
  | [], _ => rfl
  | b :: l, s => (State.submitAll_besideTick host ms l (s.submit1 host ms b).2).trans (State.submit1_besideTick host ms b s)

@[simp] theorem State.await_besideTick (f : ChpFrame) (kind tick : Nat) (o : List Octet) (s : State) :
    (s.await f kind tick o).besideTick = s.besideTick := by
  simp only [State.await, State.besideTick_with]

@[simp] theorem State.submissions_besideTick (ms tick : Nat) (s : State) : (s.submissions ms tick).besideTick = s.besideTick := by
  apply State.each_besideTick
  simp

@[simp] theorem State.fire_besideTick (ms a : Nat) (r : TriggerRec) (i : NodeItem) (s : State) : (s.fire ms a r i).besideTick = s.besideTick := by
  simp [State.fire]

@[simp] theorem State.rule1_besideTick (ms a : Nat) (l : List NodeItem) (r : TriggerRec) (s : State) :
    (s.rule1 ms a l r).besideTick = s.besideTick := by
  unfold State.rule1
  dsimp only
  split
  · rfl
  · split <;> simp

@[simp] theorem State.triggers_besideTick (ms : Nat) (s : State) : (s.triggers ms).besideTick = s.besideTick := by
  apply State.each_besideTick
  intro p u
  simp only [State.setNode_besideTick]
  exact State.each_besideTick (State.rule1_besideTick ms p.1 p.2.1) _ u

@[simp] theorem State.park_besideTick (tick n : Nat) (r : Report) (s : State) : (s.park tick n r).besideTick = s.besideTick := by
  simp [State.park]

@[simp] theorem State.giveRetreats_besideTick (ms : Nat) (s : State) : (s.giveRetreats ms).besideTick = s.besideTick := by
  apply State.each_besideTick
  intro d u
  dsimp only
  split <;> simp

@[simp] theorem State.give_besideTick (w ms q i : Nat) (d : Desc) (s : State) : (s.give w ms q i d).besideTick = s.besideTick := by
  simp [State.give]

@[simp] theorem State.serve_besideTick (ms w : Nat) (s : State) : (s.serve ms w).besideTick = s.besideTick := by
  unfold State.serve
  split
  · rfl
  · dsimp only
    split <;> simp

@[simp] theorem State.energyStage_besideTick (s : State) : s.energyStage.besideTick = s.besideTick := by
  unfold State.energyStage
  split <;> simp

/-- The dispatcher's stage stays within the fleet, its registers and the tick's results (R254). -/
@[simp] theorem State.dispatchStage_besideTick (tick ms : Nat) (s : State) : (s.dispatchStage tick ms).besideTick = s.besideTick := by
  simp [State.dispatchStage]

end Sys2Proof.Machine
end

section
/-! SUPPORT. What FSTOP's clears and the crossing arbiter's stage leave alone (R285). -/

namespace Sys2Proof.Machine

@[simp] theorem State.keepCause_besideTick (a b c : Nat) (s : State) : (s.keepCause a b c).besideTick = s.besideTick := by
  simp only [State.keepCause, State.besideTick_with]

@[simp] theorem State.dropGo_besideTick (n : Nat) (s : State) : (s.dropGo n).besideTick = s.besideTick := by
  rw [State.dropGo_eq]
  rfl

@[simp] theorem State.dropAll_besideTick (s : State) : s.dropAll.besideTick = s.besideTick :=
  State.each_besideTick State.dropGo_besideTick _ s

@[simp] theorem State.bumpSerial_besideTick (s : State) : s.bumpSerial.besideTick = s.besideTick := by
  simp [State.bumpSerial]

@[simp] theorem State.setCell_besideTick (c source : Nat) (s : State) : (s.setCell c source).besideTick = s.besideTick := by
  simp [State.setCell]

@[simp] theorem State.clearCell_besideTick (c : Nat) (host : Bool) (s : State) : (s.clearCell c host).besideTick = s.besideTick := by
  simp [State.clearCell]

@[simp] theorem State.setSess_besideTick (n c source : Nat) (s : State) : (s.setSess n c source).besideTick = s.besideTick := by
  simp [State.setSess]

@[simp] theorem State.clearSess_besideTick (n c : Nat) (host : Bool) (s : State) : (s.clearSess n c host).besideTick = s.besideTick := by
  simp [State.clearSess]

@[simp] theorem State.release_besideTick (o : HostOrder) (s : State) : (s.release o).besideTick = s.besideTick := by
  unfold State.release
  split
  · apply State.each_besideTick
    intro c u
    split <;> simp
  · apply State.each_besideTick
    intro c u
    split <;> simp

@[simp] theorem State.backbone_besideTick (kind : Nat) (body : List Octet) (s : State) : (s.backbone kind body).besideTick = s.besideTick := by
  simp [State.backbone]

@[simp] theorem State.guestRelease_besideTick (n x : Nat) (s : State) : (s.guestRelease n x).besideTick = s.besideTick := by
  simp [State.guestRelease]

@[simp] theorem State.endCircle_besideTick (n : Nat) (record : Bool) (t0 : Nat) (s : State) :
    (s.endCircle n record t0).besideTick = s.besideTick := by
  apply State.each_besideTick
  simp

@[simp] theorem State.lose_besideTick (n : Nat) (left : List Nat) (t0 : Nat) (s : State) : (s.lose n left t0).besideTick = s.besideTick := by
  simp [State.lose]

@[simp] theorem State.endNoEscape_besideTick (n : Option Nat) (s : State) : (s.endNoEscape n).besideTick = s.besideTick := by
  simp [State.endNoEscape]

@[simp] theorem State.forceSession_besideTick (n : Nat) (l : List Nat) (host t0 : Nat) (s : State) :
    (s.forceSession n l host t0).2.besideTick = s.besideTick := by
  unfold State.forceSession
  dsimp only
  split <;> simp

@[simp] theorem State.freeGuest_besideTick (g result : Nat) (s : State) : (s.freeGuest g result).besideTick = s.besideTick := by
  simp [State.freeGuest]

@[simp] theorem State.freeOrphan_besideTick (n : Nat) (l : List Nat) (s : State) : (s.freeOrphan n l).2.besideTick = s.besideTick := by
  unfold State.freeOrphan
  split <;> simp

@[simp] theorem State.forceOne_besideTick (t0 host : Nat) (acc : (List (Nat × Nat) × Nat) × State) (p : Nat × List Nat) :
    (State.forceOne t0 host acc p).2.besideTick = acc.2.besideTick := by
  unfold State.forceOne
  split_ifs <;> simp

@[simp] theorem State.forceAll_besideTick (t0 host : Nat) (l : List (Nat × List Nat)) (s : State) :
    (s.forceAll t0 host l).2.besideTick = s.besideTick := by
  unfold State.forceAll
  suffices h : ∀ acc, (l.foldl (State.forceOne t0 host) acc).2.besideTick = acc.2.besideTick from h (([], 0), s)
  induction l with
  | nil => exact fun _ => rfl
  | cons p l ih => exact fun acc => (ih _).trans (State.forceOne_besideTick t0 host acc p)

@[simp] theorem State.forceNote_besideTick (host : Nat) (l : List (Nat × Nat)) (s : State) : (s.forceNote host l).besideTick = s.besideTick := by
  simp [State.forceNote]

@[simp] theorem State.awaitNow_besideTick (f : ChpFrame) (tick : Nat) (s : State) : (s.awaitNow f tick).besideTick = s.besideTick := by
  simp only [State.awaitNow, State.besideTick_with]

@[simp] theorem State.force_besideTick (t0 tick : Nat) (o : HostOrder) (s : State) : (s.force t0 tick o).besideTick = s.besideTick := by
  unfold State.force
  dsimp only
  split <;> simp

@[simp] theorem State.orphan_besideTick (n identity : Nat) (s : State) : (s.orphan n identity).besideTick = s.besideTick := by
  simp [State.orphan]

@[simp] theorem State.seatCheck_besideTick (n x : Nat) (s : State) : (s.seatCheck n x).besideTick = s.besideTick := by
  simp [State.seatCheck]

@[simp] theorem State.seat_besideTick (n : Nat) (s : State) : (s.seat n).besideTick = s.besideTick := by
  simp [State.seat]

@[simp] theorem State.releaseBehind_besideTick (t0 n : Nat) (s : State) : (s.releaseBehind t0 n).besideTick = s.besideTick := by
  unfold State.releaseBehind
  split <;> simp

@[simp] theorem State.takeRoute_besideTick (n : Nat) (s : State) : (s.takeRoute n).besideTick = s.besideTick := by
  unfold State.takeRoute
  split
  · rfl
  · dsimp only
    split <;> simp

@[simp] theorem State.adopt_besideTick (n t0 : Nat) (q : Route) (s : State) : (s.adopt n t0 q).besideTick = s.besideTick := by
  simp [State.adopt]

@[simp] theorem State.routeStep_besideTick (t0 n : Nat) (s : State) : (s.routeStep t0 n).besideTick = s.besideTick := by
  unfold State.routeStep
  dsimp only
  split <;> simp

@[simp] theorem State.classChange_besideTick (n c : Nat) (s : State) : (s.classChange n c).besideTick = s.besideTick := by
  simp [State.classChange]

@[simp] theorem State.overstay_besideTick (t0 n : Nat) (s : State) : (s.overstay t0 n).besideTick = s.besideTick := by
  simp [State.overstay]

@[simp] theorem State.rollQuotas_besideTick (tick : Nat) (s : State) : (s.rollQuotas tick).besideTick = s.besideTick := by
  apply State.each_besideTick
  intro c u
  split <;> simp

@[simp] theorem State.grantGo_besideTick (n : Nat) : ∀ (l : List (Nat × Bool)) (got : List Nat) (s : State),
    (State.grantGo n l got s).2.besideTick = s.besideTick
  | [], _, _ => rfl
  | p :: l, got, s => by
    rw [State.grantGo]
    split
    · exact State.grantGo_besideTick n l got s
    · split
      · rfl
      · exact (State.grantGo_besideTick n l _ _).trans (State.updXs_besideTick ..)

@[simp] theorem State.spend_besideTick (c tick : Nat) (s : State) : (s.spend c tick).besideTick = s.besideTick := by
  simp [State.spend]

@[simp] theorem State.evaluate_besideTick (tick n : Nat) (s : State) : (s.evaluate tick n).besideTick = s.besideTick := by
  simp [State.evaluate]

@[simp] theorem State.guestAnswer_besideTick (t0 : Nat) (a : Nat × Nat × Nat) (s : State) : (s.guestAnswer t0 a).besideTick = s.besideTick := by
  unfold State.guestAnswer
  dsimp only
  split <;> simp

@[simp] theorem State.guestAsk_besideTick (t0 : Nat) (a : GuestAsk) (s : State) : (s.guestAsk t0 a).besideTick = s.besideTick := by
  unfold State.guestAsk
  dsimp only
  split
  · simp
  · split <;> simp

@[simp] theorem State.guestAsks_besideTick (t0 : Nat) (s : State) : (s.guestAsks t0).besideTick = s.besideTick := by
  simp [State.guestAsks]

@[simp] theorem State.guestFreed_besideTick (a : Nat × Nat × Nat) (s : State) : (s.guestFreed a).besideTick = s.besideTick := by
  unfold State.guestFreed
  split <;> simp

@[simp] theorem State.sendGuestAsks_besideTick (s : State) : s.sendGuestAsks.besideTick = s.besideTick := by
  apply State.each_besideTick
  intro n u
  dsimp only
  split <;> simp

@[simp] theorem State.cancelRetreats_besideTick (alive : List Nat) (t0 : Nat) (s : State) : (s.cancelRetreats alive t0).besideTick = s.besideTick := by
  apply State.each_besideTick
  simp

@[simp] theorem State.resolve_besideTick (t0 : Nat) (l : List Nat) (s : State) : (s.resolve t0 l).besideTick = s.besideTick := by
  unfold State.resolve
  dsimp only
  split <;> simp

@[simp] theorem State.deadlocks_besideTick (t0 : Nat) (s : State) : (s.deadlocks t0).besideTick = s.besideTick := by
  simp [State.deadlocks]

@[simp] theorem State.authSerials_besideTick (before s : State) : (State.authSerials before s).besideTick = s.besideTick := by
  simp [State.authSerials]

/-- The arbiter's stage stays within the fleet, the guests' links and the tick's results. -/
@[simp] theorem State.arbiterStage_besideTick (tick t0 : Nat) (alive : List Nat) (s : State) :
    (s.arbiterStage tick t0 alive).besideTick = s.besideTick := by
  simp [State.arbiterStage]

end Sys2Proof.Machine
end

section
/-! SUPPORT. What the profiler's stage, the snapshot and the publication of a tick leave alone (R316, R30, R31). -/

namespace Sys2Proof.Machine

@[simp] theorem State.setExpected_besideTick (n : Nat) (q : Profile) (e : Int) (s : State) : (s.setExpected n q e).besideTick = s.besideTick := by
  simp [State.setExpected]

@[simp] theorem State.publish_besideTick (n : Nat) (q : Profile) (e : Int) (s : State) : (s.publish n q e).besideTick = s.besideTick := by
  simp [State.publish]

@[simp] theorem State.publishStill_besideTick (n : Nat) (pos : Int) (ms : Nat) (s : State) :
    (s.publishStill n pos ms).besideTick = s.besideTick := by
  unfold State.publishStill
  split <;> simp

@[simp] theorem State.plan_besideTick (n ms : Nat) (resume : Bool) (s : State) : (s.plan n ms resume).besideTick = s.besideTick := by
  unfold State.plan
  dsimp only
  split
  · simp
  · split <;> simp

@[simp] theorem State.limitStep_besideTick (n ms : Nat) (s : State) : (s.limitStep n ms).2.besideTick = s.besideTick := by
  unfold State.limitStep
  dsimp only
  split_ifs <;> simp

@[simp] theorem State.profTransition_besideTick (n ms : Nat) (s : State) : (s.profTransition n ms).besideTick = s.besideTick := by
  unfold State.profTransition
  dsimp only
  split
  · rfl
  · simp
  · simp
  · split
    · simp
    · split <;> simp
  · split
    · split
      · split <;> simp
      · rfl
    · rfl
  · simp

@[simp] theorem State.profOpen_besideTick (n ms : Nat) (s : State) : (s.profOpen n ms).besideTick = s.besideTick := by
  simp [State.profOpen]

@[simp] theorem State.profHalted_besideTick (n : Nat) (gift : Bool) (auth : Option Int) (ms : Nat) (s : State) :
    (s.profHalted n gift auth ms).besideTick = s.besideTick := by
  simp [State.profHalted]

@[simp] theorem State.profResume_besideTick (n ms : Nat) (s : State) : (s.profResume n ms).besideTick = s.besideTick := by
  unfold State.profResume
  dsimp only
  split <;> simp

@[simp] theorem State.profPlan_besideTick (n ms : Nat) (s : State) : (s.profPlan n ms).besideTick = s.besideTick := by
  simp [State.profPlan]

@[simp] theorem State.profStage_besideTick (n : Nat) (before : ProfState) (gift limits : Bool) (ms : Nat) (s : State) :
    (s.profStage n before gift limits ms).besideTick = s.besideTick := by
  unfold State.profStage
  dsimp only
  split <;> simp

@[simp] theorem State.profSession_besideTick (ms : Nat) (gifted : List Nat) (n : Nat) (s : State) :
    (s.profSession ms gifted n).besideTick = s.besideTick := by
  simp [State.profSession]

@[simp] theorem State.profView_besideTick (ms n : Nat) (s : State) : (s.profView ms n).besideTick = s.besideTick := by
  simp [State.profView]

@[simp] theorem State.authCheck_besideTick (s : State) : s.authCheck.besideTick = s.besideTick := by
  unfold State.authCheck
  dsimp only
  rw [State.besideTick_with]
  apply State.each_besideTick
  intro n u
  split
  · simp
  · rfl

/-- The profiler's stage stays within the fleet, its registers and the tick's results. -/
@[simp] theorem State.profilerStage_besideTick (ms : Nat) (s : State) : (s.profilerStage ms).besideTick = s.besideTick := by
  simp [State.profilerStage, State.takeFree]

@[simp] theorem State.promoteValid_besideTick (t0 : Nat) (s : State) : (s.promoteValid t0).besideTick = s.besideTick := by
  unfold State.promoteValid
  split <;> simp

@[simp] theorem State.corrCheck_besideTick (t0 : Nat) (s : State) : (s.corrCheck t0).besideTick = s.besideTick := by
  simp [State.corrCheck]

@[simp] theorem State.takeReleases_besideTick (tick : Nat) (s : State) : (s.takeReleases tick).besideTick = s.besideTick := by
  apply State.each_besideTick
  intro o u
  dsimp only
  split <;> simp

@[simp] theorem State.selfClear_besideTick (s : State) : s.selfClear.besideTick = s.besideTick := by
  apply State.each_besideTick
  simp

@[simp] theorem State.clearGraph_besideTick (s : State) : s.clearGraph.besideTick = s.besideTick := by
  apply State.each_besideTick
  simp

@[simp] theorem State.cycleEnd_besideTick (s : State) : s.cycleEnd.besideTick = s.besideTick := by
  simp [State.cycleEnd]

@[simp] theorem State.busyOn_besideTick (k ms : Nat) (s : State) : (s.busyOn k ms).besideTick = s.besideTick := by
  simp [State.busyOn]

@[simp] theorem State.busyOff_besideTick (k ms : Nat) (s : State) : (s.busyOff k ms).besideTick = s.besideTick := by
  simp [State.busyOff]

@[simp] theorem State.countGift_besideTick (k q wait : Nat) (s : State) : (s.countGift k q wait).besideTick = s.besideTick := by
  simp [State.countGift]

@[simp] theorem State.countNews_besideTick (n : TickNews) (s : State) : (s.countNews n).besideTick = s.besideTick := by
  cases n <;> simp [State.countNews]

@[simp] theorem State.syncBusy_besideTick (ms : Nat) (s : State) : (s.syncBusy ms).besideTick = s.besideTick := by
  simp [State.syncBusy]

@[simp] theorem State.returnGo_besideTick (n : Nat) (s : State) : (s.returnGo n).besideTick = s.besideTick := by
  simp [State.returnGo]

@[simp] theorem State.queueFrame_besideTick (u : Unicast) (s : State) : (s.queueFrame u).besideTick = s.besideTick := by
  simp [State.queueFrame]

@[simp] theorem State.queueProfile_besideTick (tick n : Nat) (s : State) : (s.queueProfile tick n).besideTick = s.besideTick := by
  unfold State.queueProfile
  split <;> simp

@[simp] theorem State.sendReply_besideTick (f : ChpFrame) (kind result : Nat) (body : List Octet) (mac : Option (BitVec 128)) (s : State) :
    (s.sendReply f kind result body mac).besideTick = s.besideTick := by
  simp [State.sendReply]

@[simp] theorem State.updHs_besideTick (k : Nat) (f : HostSess → HostSess) (s : State) : (s.updHs k f).besideTick = s.besideTick := by
  simp [State.updHs]

@[simp] theorem State.finish_besideTick (f : ChpFrame) (kind result : Nat) (body : List Octet) (s : State) :
    (s.finish f kind result body).besideTick = s.besideTick := by
  unfold State.finish
  split
  · simp
  · split <;> simp

@[simp] theorem State.refuse_besideTick (f : ChpFrame) (kind code : Nat) (s : State) : (s.refuse f kind code).besideTick = s.besideTick := by
  simp [State.refuse]

@[simp] theorem State.replies_besideTick (tick : Nat) (mirrored : Bool) (s : State) : (s.replies tick mirrored).besideTick = s.besideTick := by
  simp [State.replies]

@[simp] theorem State.lightingPublish_besideTick (s : State) : s.lightingPublish.besideTick = s.besideTick := by
  simp [State.lightingPublish]

@[simp] theorem State.towerExpire_besideTick (s : State) : s.towerExpire.besideTick = s.besideTick := by
  unfold State.towerExpire
  split <;> simp

@[simp] theorem State.towerPublish_besideTick (s : State) : s.towerPublish.besideTick = s.besideTick := by
  simp [State.towerPublish]

@[simp] theorem State.viaduct_besideTick (kind : Nat) (content : List Octet) (s : State) : (s.viaduct kind content).besideTick = s.besideTick := by
  simp [State.viaduct]

@[simp] theorem State.epochPast_besideTick (s : State) : s.epochPast.besideTick = s.besideTick := by
  unfold State.epochPast
  split <;> simp

end Sys2Proof.Machine
end

section
/-! SUPPORT. A tick's opening, its stages, its commit and its publication as wholes (R30–R32). -/

namespace Sys2Proof.Machine

/-- What a tick's stages keep, also where the mode changes with them: what status reads see, the claim, flash, keys, and the tick itself. -/
structure TickKept (s t : State) : Prop where
  pub : t.pub = s.pub
  claim : t.pair.claim = s.pair.claim
  flash : t.flash = s.flash
  keys : t.keys = s.keys
  pending : t.pending = s.pending
  tick : t.tick.map TickOut.frame = s.tick.map TickOut.frame

theorem TickKept.trans {s t u : State} (h : TickKept s t) (g : TickKept t u) : TickKept s u where
  pub := g.pub.trans h.pub
  claim := g.claim.trans h.claim
  flash := g.flash.trans h.flash
  keys := g.keys.trans h.keys
  pending := g.pending.trans h.pending
  tick := g.tick.trans h.tick

theorem TickKept.of_besideTick {s t : State} (h : t.besideTick = s.besideTick) : TickKept s t where
  pub := (congrArg State.pub h :)
  claim := (congrArg (·.pair.claim) h :)
  flash := (congrArg State.flash h :)
  keys := (congrArg State.keys h :)
  pending := (congrArg State.pending h :)
  tick := (congrArg State.tick h :)

theorem State.tickKept_setMode (m : Mode) (trigger : Nat) (s : State) : TickKept s (s.setMode m trigger) := by
  constructor <;> simp

theorem State.tickKept_cancelStep (s : State) : TickKept s s.cancelStep := by
  unfold State.cancelStep
  split
  · constructor <;> simp
  · constructor <;> rfl

/-- A unit that is or has been in HOLD enters LEAD without losing a tick in progress (R36, R187, R405). -/
theorem State.tickKept_toMode_lead {s : State} (trigger : Nat) (h : s.sys.mode = .hold) : TickKept s (s.toMode .lead trigger) := by
  refine (State.tickKept_setMode .lead trigger s).trans ((State.tickKept_cancelStep _).trans ?_)
  simp only [State.toMode, h, State.when, reduceCtorEq, or_true, true_or, decide_true, decide_false, Bool.false_and, if_true, if_false,
    Bool.false_eq_true, ne_eq, not_false_eq_true, and_true]
  split
  · constructor <;> rfl
  · constructor <;> rfl

theorem State.tickKept_holdOrLead (s : State) : TickKept s s.holdOrLead := by
  unfold State.holdOrLead
  split_ifs with hlead hhold
  · rw [State.toMode_hold 7 (by rw [hlead.1]; decide)]
    exact State.tickKept_setMode ..
  · exact State.tickKept_toMode_lead 6 hhold.1
  · constructor <;> rfl

/-- The snapshot of tick `tick` before the mode follows the cell set. -/
def State.takeSnapshot (tick : Nat) (s : State) : State :=
  let s := { s with tick := some { tick := tick } }
  let s := if tick % 100 = 0 then s.cycleEnd else s
  ((s.corrCheck (10 * perMs * tick)).takeReleases tick).selfClear

/-- The stages that follow, up to the tick's end. -/
def State.runStages (tick : Nat) (s : State) : State :=
  let alive := s.tasks
  let go := s.openSessions.filter (fun n => s.goCond n && !goBit s.fleet.go n)
  let s := { s with tick := s.tick.map (fun (t : TickOut) => { t with returns := go }) }
  let s := s.dispatchStage tick (10 * tick)
  let s := s.arbiterStage tick (10 * perMs * tick) alive
  (s.profilerStage (10 * tick)).authCheck.clearGraph

theorem State.runTick_eq (tick : Nat) (s : State) : s.runTick tick =
    { (s.takeSnapshot tick).holdOrLead.runStages tick with inp := {}, fleet.mode := ((s.takeSnapshot tick).holdOrLead.runStages tick).sys.mode } := by
  simp only [State.runTick, State.takeSnapshot, State.runStages]

theorem State.takeSnapshot_besideTick (tick : Nat) (s : State) :
    (s.takeSnapshot tick).besideTick = State.besideTick { s with tick := some { tick := tick } } := by
  simp [State.takeSnapshot]

theorem State.runStages_besideTick (tick : Nat) (s : State) : (s.runStages tick).besideTick = s.besideTick := by
  simp [State.runStages]

/-- A tick that runs takes its inputs, and it keeps what no stage works on (R30, R31). -/
theorem State.tickKept_runTick (tick : Nat) (s : State) : TickKept { s with tick := some { tick := tick } } (s.runTick tick) := by
  rw [State.runTick_eq]
  refine (TickKept.of_besideTick (State.takeSnapshot_besideTick tick s)).trans ((State.tickKept_holdOrLead _).trans (TickKept.of_besideTick ?_))
  rw [State.besideTick_with, State.runStages_besideTick]

theorem State.runTick_inp (tick : Nat) (s : State) : (s.runTick tick).inp = {} := by rw [State.runTick_eq]
theorem State.runTick_mode (tick : Nat) (s : State) : (s.runTick tick).fleet.mode = (s.runTick tick).sys.mode := by rw [State.runTick_eq]

/-- A state follows by what an epoch sends: of the measurement engine and of what was sent alone it may differ. -/
def EpochSends (s t : State) : Prop := t = { s with meas := t.meas, out := t.out }

theorem EpochSends.of_with (s : State) (meas : Meas) (out : List Out) : EpochSends s { s with meas := meas, out := out } := rfl

theorem EpochSends.trans {s t u : State} (h : EpochSends s t) (g : EpochSends t u) : EpochSends s u := by
  unfold EpochSends at *
  rw [g, h]

theorem State.epochSends_each {α : Type} (l : List α) (f : α → Out) (s : State) : EpochSends s (s.each l (fun a t => t.send (f a))) :=
  State.each_keeps (EpochSends s) _ (fun a t h => h.trans (EpochSends.of_with t t.meas (t.out ++ [f a]))) l s rfl

theorem State.epochSends_viaduct (kind : Nat) (content : List Octet) (s : State) : EpochSends s (s.viaduct kind content) := by
  unfold State.viaduct
  split <;> rfl

/-- What an epoch still has to send changes nothing else (Table 6-2). -/
theorem State.epochSends_epochPast (s : State) : EpochSends s s.epochPast := by
  unfold State.epochPast
  split
  · rfl
  · next j _ =>
    have hframe : EpochSends s (if j.since + 2000000 ≤ s.ns ∧ j.frame ≠ [] then
        ({ s with meas.job := some { j with frame := [] } }).viaduct 0x04 j.frame else s) := by
      split
      · exact (EpochSends.of_with s _ s.out).trans (State.epochSends_viaduct ..)
      · rfl
    dsimp only
    generalize (if j.since + 2000000 ≤ s.ns ∧ j.frame ≠ [] then
      ({ s with meas.job := some { j with frame := [] } }).viaduct 0x04 j.frame else s) = u at hframe ⊢
    split
    · refine hframe.trans (EpochSends.trans ?_ (State.epochSends_each ..))
      exact (EpochSends.of_with u _ u.out).trans (State.epochSends_each ..)
    · exact hframe

theorem State.commitTick_of_none {s : State} (h : s.tick = none) : s.commitTick = s := by
  rw [State.commitTick, h]

theorem State.publishLate_of_none {s : State} (h : s.tick = none) : s.publishLate = s := by
  rw [State.publishLate, State.commitTick_of_none h, h]

theorem State.commitTick_of_committed {s : State} {o : TickOut} (h : s.tick = some o) (hc : o.committed = true) : s.commitTick = s := by
  rw [State.commitTick, h]
  simp [hc]

/-- What follows where a tick opens: a lead that no save runs in runs the tick, and every other unit none (R30). -/
def State.openTick (s : State) : State :=
  if s.epochPast.isLead && !s.epochPast.sys.saving then s.epochPast.runMissedAll.runTick (tickOf s.epochPast.now) else s.epochPast

theorem State.mark_out (kind period : Nat) (o : List Out) (s : State) :
    ∃ T, State.mark kind period { s with out := o } = { s with out := o, time := T } := ⟨_, State.mark_eq ..⟩

theorem exec_arbitrationTick {s : State} (hs : s.inService = true) (hr : s.time.running = true) (ht : s.tick = none) :
    ∃ T, State.mark 1 (10 * perMs) { s with out := [] } = { s with out := [], time := T } ∧
      exec .arbitrationTick s = .next { State.openTick { s with out := [], time := T } with pending := s.pending } := by
  obtain ⟨T, hT⟩ := State.mark_out 1 (10 * perMs) [] s
  refine ⟨T, hT, ?_⟩
  have hgo : (!State.inService { s with out := [] } || !s.time.running) = false := by
    rw [show State.inService { s with out := [] } = true from hs, hr]
    rfl
  simp only [exec, execArbitrationTick, done, hgo, State.publishLate_of_none (s := { s with out := [] }) ht, Bool.false_eq_true, if_false]
  rw [markTick, hT, State.openTick]

/-- What the commit of a tick keeps; a delta that it sends is owed then (R32). -/
structure Committed (o : TickOut) (s t : State) : Prop where
  sys : t.sys = s.sys
  pub : t.pub = s.pub
  fleet : t.fleet = s.fleet
  flash : t.flash = s.flash
  keys : t.keys = s.keys
  pending : t.pending = s.pending
  mirrored : t.pair.mirrored = s.pair.mirrored
  late : t.pair.cntDeltaLate = s.pair.cntDeltaLate
  owed : s.pair.deltaDue = true → t.pair.deltaDue = true
  tick : t.tick = some { o with committed := true }

theorem State.sendResync_committed {o : TickOut} {s t : State} (k : Nat) (h : Committed o s t) : Committed o s (t.sendResync k) := by
  unfold State.sendResync
  split
  · exact ⟨h.sys, h.pub, h.fleet, h.flash, h.keys, h.pending, h.mirrored, h.late, h.owed, h.tick⟩
  · exact h

/-- The commit of tick results `o` at the instant `c`. -/
def State.commitAt (c : Nat) (o : TickOut) (s : State) : State :=
  let s := { s.reach c with tick := some { o with committed := true } }
  if s.sendsDelta then
    let s := { s with pair.sentTick := o.tick, pair.deltaDue := true }
    (s.send (.delta ⟨o.tick, true, true, s.fleet, o.news, s.kreg.switch⟩)).sendResync o.tick
  else s

theorem State.commitTick_of_open {s : State} {o : TickOut} (h : s.tick = some o) (hc : o.committed = false) :
    s.commitTick = s.commitAt (10 * perMs * o.tick + 7 * perMs) o := by
  simp only [State.commitTick, State.commitAt, h, hc, Bool.false_eq_true, if_false]

theorem State.commitAt_committed (c : Nat) (o : TickOut) (s : State) : Committed o s (s.commitAt c o) := by
  unfold State.commitAt
  rw [State.reach_eq]
  generalize (s.reach c).time.frc = F
  dsimp only
  split
  · exact State.sendResync_committed _ ⟨rfl, rfl, rfl, rfl, rfl, rfl, rfl, rfl, fun _ => rfl, rfl⟩
  · exact ⟨rfl, rfl, rfl, rfl, rfl, rfl, rfl, rfl, id, rfl⟩

theorem State.commitTick_committed {s : State} {o : TickOut} (h : s.tick = some o) : Committed o s s.commitTick := by
  by_cases hc : o.committed = true
  · rw [State.commitTick_of_committed h hc]
    exact ⟨rfl, rfl, rfl, rfl, rfl, rfl, rfl, rfl, id, by rw [h, ← hc]⟩
  · rw [State.commitTick_of_open h (Bool.eq_false_of_not_eq_true hc)]
    exact State.commitAt_committed ..

theorem Committed.of_epochSends {o : TickOut} {s t u : State} (h : Committed o s t) (g : EpochSends t u) : Committed o s u := by
  unfold EpochSends at g
  rw [g]
  exact ⟨h.sys, h.pub, h.fleet, h.flash, h.keys, h.pending, h.mirrored, h.late, h.owed, h.tick⟩

/-- What the publication of tick `k` comes to: the committed state is what status reads see from then (R31, R32). -/
structure TickPublished (k : Nat) (s t : State) : Prop where
  tick : t.tick = none
  number : t.pub.tick = k % 2 ^ 32
  dsp : t.pub.dsp = s.fleet.dsp
  xarb : t.pub.xarb = s.fleet.xarb
  prof : t.pub.prof = s.fleet.prof
  pair : t.pair = s.pair
  sys : t.sys = s.sys
  flash : t.flash = s.flash
  keys : t.keys = s.keys
  pending : t.pending = s.pending

theorem TickPublished.of_besideTick {k : Nat} {s t u : State} (h : TickPublished k s t) (g : u.besideTick = t.besideTick) :
    TickPublished k s u where
  tick := Option.map_eq_none_iff.mp ((congrArg State.tick g : u.tick.map TickOut.frame = t.tick.map TickOut.frame).trans
    (show t.tick.map TickOut.frame = none by rw [h.tick]; rfl))
  number := (congrArg (·.pub.tick) g :).trans h.number
  dsp := (congrArg (·.pub.dsp) g :).trans h.dsp
  xarb := (congrArg (·.pub.xarb) g :).trans h.xarb
  prof := (congrArg (·.pub.prof) g :).trans h.prof
  pair := (congrArg State.pair g :).trans h.pair
  sys := (congrArg State.sys g :).trans h.sys
  flash := (congrArg State.flash g :).trans h.flash
  keys := (congrArg State.keys g :).trans h.keys
  pending := (congrArg State.pending g :).trans h.pending

/-- The committed state of the tick results `o` put where status reads see it, with the map of the authorities that changed. -/
def State.showTick (o : TickOut) (s : State) : State :=
  { s with
    tick := none
    pub := { dsp := s.fleet.dsp, xarb := s.fleet.xarb, prof := s.fleet.prof
             covered := (s.openSessions.flatMap (fun n => s.covered n)).eraseDups, tick := o.tick % 2 ^ 32 }
    rad.changeMap := (s.openSessions.filter (fun n => decide ((s.xs n).serial ≠ (Tab.get {} s.pub.xarb.sessions n).serial))).foldl
      (fun m n => setBit m (n % 64)) s.rad.changeMap }

/-- What a publication does further stays beside the tick. -/
theorem State.publishTick_besideTick {s : State} {o : TickOut} (mirrored : Bool) (h : s.tick = some o) :
    (s.publishTick mirrored).besideTick = (s.showTick o).besideTick := by
  rw [State.publishTick, h]
  simp [State.showTick]

theorem State.publishTick_published {s : State} {o : TickOut} (mirrored : Bool) (h : s.tick = some o) :
    TickPublished o.tick s (s.publishTick mirrored) :=
  TickPublished.of_besideTick (t := s.showTick o) ⟨rfl, rfl, rfl, rfl, rfl, rfl, rfl, rfl, rfl, rfl⟩ (State.publishTick_besideTick mirrored h)

theorem Committed.reach {o : TickOut} {s t : State} (h : Committed o s t) (c : Nat) : Committed o s (t.reach c) :=
  ⟨h.sys, h.pub, h.fleet, h.flash, h.keys, h.pending, h.mirrored, h.late, h.owed, h.tick⟩

/-- The deadline of a tick in progress: it is committed where it was not, its instant is reached, and it is published late (R32). -/
theorem exec_publishDeadline {s : State} {o : TickOut} (h : s.tick = some o) :
    ∃ u, Committed o { s with out := [] } u ∧ exec .publishDeadline s = .next { u.publishLate with pending := s.pending } := by
  have hcommit := ((State.commitTick_committed (s := { s with out := [] }) h).reach (10 * perMs * o.tick + 8 * perMs)).of_epochSends
    (State.epochSends_epochPast _)
  refine ⟨_, hcommit, ?_⟩
  simp only [exec, execPublishDeadline, done, h]

/-- The standby that owes a tick is counted late and no longer mirrored (R32). -/
def State.owedLate (s : State) : State :=
  ({ s with pair.deltaDue := false, pair.resyncBlocks := 0, pair.cntDeltaLate := incr s.pair.cntDeltaLate }).notMirrored 0

theorem State.publishLate_owed {o : TickOut} {s u : State} (h : Committed o s u) (hd : s.pair.deltaDue = true) :
    u.publishLate = u.owedLate.publishTick false := by
  rw [State.publishLate, State.commitTick_of_committed h.tick rfl]
  dsimp only
  split
  · next hnone => exact absurd (h.tick.symm.trans hnone) (by simp)
  · rw [if_pos (h.owed hd)]
    rfl

/-- What that changes of the pair, and what it keeps for the publication. -/
structure OwedLate (s t : State) : Prop where
  sys : t.sys = s.sys
  fleet : t.fleet = s.fleet
  flash : t.flash = s.flash
  keys : t.keys = s.keys
  pending : t.pending = s.pending
  tick : t.tick = s.tick
  mirrored : t.pair.mirrored = false
  deltaDue : t.pair.deltaDue = false
  late : t.pair.cntDeltaLate = s.pair.cntDeltaLate + 1#32

theorem State.owedLate_spec {s : State} (h : s.pair.mirrored = true) : OwedLate s s.owedLate := by
  unfold State.owedLate State.notMirrored
  simp only [h, Bool.not_true, Bool.false_eq_true, if_false]
  rw [State.report_eq]
  exact ⟨rfl, rfl, rfl, rfl, rfl, rfl, rfl, rfl, rfl⟩

/-- Settles O15: a tick's opening by what the epoch sends, its run by what each stage keeps, its publication by the commit before it. -/
theorem tickStages : Obligations.TickStages := by
  unfold Obligations.TickStages
  refine ⟨?standby, ?lead, ?deadline, ?undecided⟩
  case standby =>
    intro s b hm hr ht hb
    obtain ⟨T, hT, hexec⟩ := exec_arbitrationTick (by rw [State.inService, hm]) hr ht
    obtain rfl := hb.trans hT
    have hsends := State.epochSends_epochPast { s with out := [], time := T }
    rw [hexec, State.openTick]
    generalize State.epochPast { s with out := [], time := T } = u at hsends ⊢
    have hlead : u.isLead = false := by
      rw [hsends]
      simp [State.isLead, hm]
    rw [hlead, Bool.false_and, if_neg Bool.false_ne_true]
    exact next_of_pending (by rw [hsends])
  case lead =>
    intro s hlead hr hsave ht hun
    have hs : s.inService = true := by
      unfold State.isLead at hlead
      unfold State.inService
      split at hlead <;> simp_all
    obtain ⟨T, -, hexec⟩ := exec_arbitrationTick hs hr ht
    have hsends := State.epochSends_epochPast { s with out := [], time := T }
    rw [State.openTick] at hexec
    generalize State.epochPast { s with out := [], time := T } = u at hsends hexec
    have hgo : (u.isLead && !u.sys.saving) = true := by
      rw [show u.isLead = s.isLead by rw [hsends]; rfl, show u.sys = s.sys by rw [hsends], hlead, hsave]
      rfl
    have hmissed : u.runMissedAll = u := by
      rw [State.runMissedAll, show u.pair.unapplied = false by rw [hsends]; exact hun]
      rfl
    rw [if_pos hgo, hmissed] at hexec
    have hkept := State.tickKept_runTick (tickOf u.now) u
    have hinp := State.runTick_inp (tickOf u.now) u
    have hmode := State.runTick_mode (tickOf u.now) u
    generalize State.runTick (tickOf u.now) u = t at hexec hkept hinp hmode
    refine ⟨_, hexec, hinp, hmode, hkept.pub.trans ?_, hkept.claim.trans ?_, ?_, hkept.flash.trans ?_, hkept.keys.trans ?_, rfl⟩
    · rw [hsends]
    · rw [hsends]
    · have htick := congrArg (Option.map TickOut.committed) hkept.tick
      rw [Option.map_map, Option.map_map] at htick
      exact htick
    · rw [hsends]
    · rw [hsends]
  case deadline =>
    intro s o ht hd hm
    obtain ⟨u, hu, hexec⟩ := exec_publishDeadline ht
    rw [State.publishLate_owed hu hd] at hexec
    have hlate := State.owedLate_spec (hu.mirrored.trans hm)
    have hpub := State.publishTick_published false (hlate.tick.trans hu.tick)
    generalize State.publishTick false u.owedLate = t at hexec hpub
    refine ⟨_, hexec, hpub.tick, hpub.number, hpub.dsp.trans ?_, hpub.xarb.trans ?_, hpub.prof.trans ?_, (congrArg _ hpub.pair).trans hlate.mirrored,
      (congrArg _ hpub.pair).trans hlate.deltaDue, (congrArg _ hpub.pair).trans (hlate.late.trans ?_), ?_, ?_, ?_, rfl⟩
    · rw [hlate.fleet, hu.fleet]
    · rw [hlate.fleet, hu.fleet]
    · rw [hlate.fleet, hu.fleet]
    · rw [hu.late]
    · rw [hpub.sys, hlate.sys, hu.sys]
    · rw [hpub.flash, hlate.flash, hu.flash]
    · rw [hpub.keys, hlate.keys, hu.keys]
  case undecided =>
    intro s ht
    simp only [exec, execPublishDeadline, done, ht]

end Sys2Proof.Machine
end

section
/-! SUPPORT. What leaves the SYS unit, or its mode, alone (R35): one lemma for each operation of the model that a command is made of. -/

namespace Sys2Proof.Machine

theorem State.sys_of_besideTick {s t : State} (h : t.besideTick = s.besideTick) : t.sys = s.sys := (congrArg State.sys h :)

@[simp] theorem State.sys_ite (c : Prop) [Decidable c] (s t : State) : (if c then s else t).sys = if c then s.sys else t.sys := apply_ite ..
@[simp] theorem Sys.mode_ite (c : Prop) [Decidable c] (a b : Sys) : (if c then a else b).mode = if c then a.mode else b.mode := apply_ite ..

@[simp] theorem State.each_sys {α : Type} {f : α → State → State} (h : ∀ a s, (f a s).sys = s.sys) (l : List α) (s : State) :
    (s.each l f).sys = s.sys :=
  State.each_keeps (fun t => t.sys = s.sys) f (fun a t ht => (h a t).trans ht) l s rfl

@[simp] theorem State.each_mode {α : Type} {f : α → State → State} (h : ∀ a s, (f a s).sys.mode = s.sys.mode) (l : List α) (s : State) :
    (s.each l f).sys.mode = s.sys.mode :=
  State.each_keeps (fun t => t.sys.mode = s.sys.mode) f (fun a t ht => (h a t).trans ht) l s rfl

@[simp] theorem State.when_sys {f : State → State} (h : ∀ s, (f s).sys = s.sys) (c : Bool) (s : State) : (s.when c f).sys = s.sys := by
  cases c
  · rfl
  · exact h s

@[simp] theorem State.when_mode {f : State → State} (h : ∀ s, (f s).sys.mode = s.sys.mode) (c : Bool) (s : State) :
    (s.when c f).sys.mode = s.sys.mode := by
  cases c
  · rfl
  · exact h s

/-! ### The clocks -/

@[simp] theorem State.reach_sys (target : Nat) (s : State) : (s.reach target).sys = s.sys := by rfl
@[simp] theorem State.atLeast_sys (ns : Nat) (s : State) : (s.atLeast ns).sys = s.sys := by rfl
@[simp] theorem State.markOfs_sys (kind period : Nat) (ofs : Int) (s : State) : (s.markOfs kind period ofs).sys = s.sys := by rfl
@[simp] theorem State.mark_sys (kind period : Nat) (s : State) : (s.mark kind period).sys = s.sys := State.markOfs_sys kind period 0 s
@[simp] theorem State.rearm_sys (amount : Int) (s : State) : (s.rearm amount).sys = s.sys := by rfl

/-! ### Shared operations -/

@[simp] theorem State.wakeIn_sys (d ns : Nat) (s : State) : (s.wakeIn d ns).sys = s.sys := by rfl
@[simp] theorem State.wake_sys (d : Nat) (s : State) : (s.wake d).sys = s.sys := by rfl
@[simp] theorem State.whenReady_sys (d : Nat) (s : State) : (s.whenReady d).sys = s.sys := by rfl


@[simp] theorem State.takeFree_sys (s : State) : s.takeFree.2.sys = s.sys := by rfl
@[simp] theorem State.store1_sys (e : Entry) (cls : Nat) (s : State) : (s.store1 e cls).sys = s.sys := by
  unfold State.store1
  dsimp only
  split <;> simp
@[simp] theorem State.storeDirect_sys (code : Nat) (data : List (Nat × Int)) (cls : Nat) (s : State) :
    (s.storeDirect code data cls).sys = s.sys := by
  simp [State.storeDirect]
@[simp] theorem State.writeN_sys (n : Nat) (s : State) : (s.writeN n).sys = s.sys := by rw [State.writeN_eq]
@[simp] theorem State.injectSeen_sys (detector : Nat) (s : State) : (s.injectSeen detector).sys = s.sys := by
  unfold State.injectSeen
  split <;> simp
@[simp] theorem State.viaduct_sys (kind : Nat) (content : List Octet) (s : State) : (s.viaduct kind content).sys = s.sys :=
  State.sys_of_besideTick (State.viaduct_besideTick ..)
@[simp] theorem State.epochPast_sys (s : State) : s.epochPast.sys = s.sys :=
  State.sys_of_besideTick (State.epochPast_besideTick ..)
@[simp] theorem State.promoteValid_sys (t0 : Nat) (s : State) : (s.promoteValid t0).sys = s.sys :=
  State.sys_of_besideTick (State.promoteValid_besideTick ..)

/-! ### The fleet -/

@[simp] theorem State.updRs_sys (n : Nat) (f : RadioSess → RadioSess) (s : State) : (s.updRs n f).sys = s.sys :=
  State.sys_of_besideTick (State.updRs_besideTick ..)
@[simp] theorem State.updXs_sys (n : Nat) (f : ArbSess → ArbSess) (s : State) : (s.updXs n f).sys = s.sys :=
  State.sys_of_besideTick (State.updXs_besideTick ..)
@[simp] theorem State.updPs_sys (n : Nat) (f : ProfSess → ProfSess) (s : State) : (s.updPs n f).sys = s.sys :=
  State.sys_of_besideTick (State.updPs_besideTick ..)
@[simp] theorem State.updWk_sys (k : Nat) (f : Worker → Worker) (s : State) : (s.updWk k f).sys = s.sys :=
  State.sys_of_besideTick (State.updWk_besideTick ..)
@[simp] theorem State.fleetEvent_sys (code : Nat) (s : State) : (s.fleetEvent code).sys = s.sys :=
  State.sys_of_besideTick (State.fleetEvent_besideTick ..)
@[simp] theorem State.fleetReport_sys (code : Nat) (data : List (Nat × Int)) (s : State) : (s.fleetReport code data).sys = s.sys := by
  simp [State.fleetReport]
@[simp] theorem State.backbone_sys (kind : Nat) (body : List Octet) (s : State) : (s.backbone kind body).sys = s.sys :=
  State.sys_of_besideTick (State.backbone_besideTick ..)

/-! ### Stopping -/

@[simp] theorem State.dropGo_sys (n : Nat) (s : State) : (s.dropGo n).sys = s.sys :=
  State.sys_of_besideTick (State.dropGo_besideTick ..)
@[simp] theorem State.keepCause_sys (scope target c : Nat) (s : State) : (s.keepCause scope target c).sys = s.sys :=
  State.sys_of_besideTick (State.keepCause_besideTick ..)
@[simp] theorem State.setCell_sys (c source : Nat) (s : State) : (s.setCell c source).sys = s.sys :=
  State.sys_of_besideTick (State.setCell_besideTick ..)
@[simp] theorem State.clearCell_sys (c : Nat) (host : Bool) (s : State) : (s.clearCell c host).sys = s.sys :=
  State.sys_of_besideTick (State.clearCell_besideTick ..)
@[simp] theorem State.setSess_sys (n c source : Nat) (s : State) : (s.setSess n c source).sys = s.sys :=
  State.sys_of_besideTick (State.setSess_besideTick ..)
@[simp] theorem State.checkInputs_sys (s : State) : s.checkInputs.sys = s.sys := by
  simp [State.checkInputs]
@[simp] theorem State.compare_sys (s : State) : s.compare.sys = s.sys := by rfl
@[simp] theorem State.carried_sys (times : List Nat) (first : Nat) (s : State) : (s.carried times first).sys = s.sys := by
  unfold State.carried
  split <;> simp
@[simp] theorem State.takeStops_sys (all : Bool) (listed : List Nat) (s : State) : (s.takeStops all listed).2.sys = s.sys := by rfl

/-! ### Gaps of the beacon -/

@[simp] theorem State.closeGap_sys (s : State) : s.closeGap.sys = s.sys := by
  unfold State.closeGap
  split <;> simp
@[simp] theorem State.breakHealth_sys (s : State) : s.breakHealth.sys = s.sys := by rfl

/-! ### The recorder -/

@[simp] theorem State.reportLost_sys (s : State) : s.reportLost.sys = s.sys := by
  simp [State.reportLost]
@[simp] theorem State.reportOverwrite_sys (waiting : Nat) (s : State) : (s.reportOverwrite waiting).sys = s.sys := by
  unfold State.reportOverwrite
  split
  · rfl
  · exact State.reportNow_sys ..
@[simp] theorem State.flush_sys (s : State) : s.flush.sys = s.sys := by
  simp [State.flush]
@[simp] theorem State.archiveGo_sys : ∀ (k : Nat) (faults : List Bool) (todo : List Record) (s : State),
    (State.archiveGo k faults todo s).sys = s.sys
  | 0, _, _, _ => rfl
  | k + 1, faults, todo, s => by
    unfold State.archiveGo
    split
    · rfl
    · refine (State.archiveGo_sys k _ _ _).trans ?_
      dsimp only
      split
      · exact State.reportNow_sys ..
      · rfl
@[simp] theorem State.startArchive_sys (s : State) : s.startArchive.sys = s.sys := by
  simp [State.startArchive]
@[simp] theorem State.writeRdSel_sys (v : Nat) (s : State) : (s.writeRdSel v).sys = s.sys := by
  unfold State.writeRdSel
  dsimp only
  (repeat' split) <;> simp

/-! ### Modes -/

@[simp] theorem State.extend_mode (n : Nat) (item : List Octet) (s : State) : (s.extend n item).sys.mode = s.sys.mode := by rfl
@[simp] theorem State.updRadio_sys (i : Nat) (f : Radio → Radio) (s : State) : (s.updRadio i f).sys = s.sys := by
  simp [State.updRadio]
@[simp] theorem State.notMirrored_sys (cause : Nat) (s : State) : (s.notMirrored cause).sys = s.sys := by
  simp [State.notMirrored]
@[simp] theorem State.diagClose_sys (cause : Nat) (s : State) : (s.diagClose cause).sys = s.sys := by
  simp [State.diagClose]
@[simp] theorem State.diagStart_sys (s : State) : s.diagStart.sys = s.sys := by
  simp [State.diagStart]
@[simp] theorem State.cancelStep_sys (s : State) : s.cancelStep.sys = s.sys := by
  unfold State.cancelStep
  split <;> simp
@[simp] theorem State.closeHost_sys (k cause : Nat) (s : State) : (s.closeHost k cause).sys = s.sys := by
  simp [State.closeHost]
@[simp] theorem State.lockStart_mode (s : State) : s.lockStart.sys.mode = s.sys.mode := by rfl
@[simp] theorem State.crcDrop_sys (s : State) : s.crcDrop.sys = s.sys := by rfl
@[simp] theorem State.viaFrame_sys {dropped f : State → State} (hd : ∀ s, (dropped s).sys = s.sys) (h : ∀ s, (f s).sys = s.sys) (kind : Nat)
    (s : State) : (s.viaFrame kind dropped f).sys = s.sys := by
  unfold State.viaFrame
  dsimp only
  split_ifs <;> simp [hd, h, State.crcDrop]

/-! ### The Lake -/

@[simp] theorem State.lakeEvent_sys (n : Nat) (s : State) : (s.lakeEvent n).sys = s.sys := by rfl
@[simp] theorem State.antSense_sys (current voltage : Nat) (s : State) : (s.antSense current voltage).sys = s.sys := by
  simp [State.antSense]
@[simp] theorem State.setAnt_sys (a : AntState) (s : State) : (s.setAnt a).sys = s.sys := by rfl
@[simp] theorem State.antRestore_sys (s : State) : s.antRestore.sys = s.sys := by
  simp [State.antRestore]
@[simp] theorem State.antSupply_sys (supply : Nat) (s : State) : (s.antSupply supply).sys = s.sys := by
  simp [State.antSupply]
@[simp] theorem State.antImageRead_sys (supply : Nat) (s : State) : (s.antImageRead supply).sys = s.sys := by
  simp [State.antImageRead]
@[simp] theorem State.antPassive_sys (s : State) : s.antPassive.sys = s.sys := by rfl
@[simp] theorem State.antRetry_sys (s : State) : s.antRetry.sys = s.sys := by
  simp [State.antRetry]
@[simp] theorem State.updBand_sys (b : Nat) (f : Band → Band) (s : State) : (s.updBand b f).sys = s.sys := by rfl
@[simp] theorem State.interfEvent_sys (raised : Bool) (b flagNo : Nat) (s : State) : (s.interfEvent raised b flagNo).sys = s.sys := by
  simp [State.interfEvent]
@[simp] theorem State.wideEval_sys (b : Nat) (s : State) : (s.wideEval b).sys = s.sys := by
  simp [State.wideEval]
@[simp] theorem State.gnssRuns_sys {f : State → State} (h : ∀ s, (f s).sys = s.sys) (s : State) : (s.gnssRuns f).sys = s.sys := by
  unfold State.gnssRuns
  split
  · exact h s
  · rfl
@[simp] theorem State.updNotch_sys (b n : Nat) (f : Notch → Notch) (s : State) : (s.updNotch b n f).sys = s.sys := by rfl
@[simp] theorem State.notchChange_sys (b : Nat) (s : State) : (s.notchChange b).sys = s.sys := by rfl
@[simp] theorem State.releaseNotch_sys (b n : Nat) (s : State) : (s.releaseNotch b n).sys = s.sys := by
  unfold State.releaseNotch
  split <;> simp
@[simp] theorem State.closeNotches_sys (b : Nat) (s : State) : (s.closeNotches b).sys = s.sys := by
  apply State.each_sys
  intro m u
  dsimp only
  split
  · exact State.releaseNotch_sys ..
  · rfl
@[simp] theorem State.followLine_sys (b n : Nat) (offset : Int) (depth : Nat) (v : Notch) (s : State) :
    (s.followLine b n offset depth v).sys = s.sys := by
  simp [State.followLine]
@[simp] theorem State.assignNotch_sys (b : Nat) (lines : List (Nat × Int)) (line : Nat × Int) (s : State) :
    (s.assignNotch b lines line).sys = s.sys := by
  unfold State.assignNotch
  dsimp only
  (repeat' split) <;> simp
@[simp] theorem State.ageNotch_sys (b n : Nat) (lines : List (Nat × Int)) (s : State) : (s.ageNotch b n lines).sys = s.sys := by
  unfold State.ageNotch
  split <;> simp
@[simp] theorem State.lineFlags_sys (b lines : Nat) (s : State) : (s.lineFlags b lines).sys = s.sys := by
  simp [State.lineFlags]
@[simp] theorem State.monitorBand_sys (b : Nat) (power : List Int) (s : State) : (s.monitorBand b power).sys = s.sys := by
  simp [State.monitorBand]
@[simp] theorem State.monitorDue_sys (b : Nat) (s : State) : (s.monitorDue b).sys = s.sys := by
  simp only [State.monitorDue, State.markOfs_sys]
@[simp] theorem State.endSearch_sys (n outcome : Nat) (s : State) : (s.endSearch n outcome).sys = s.sys := by rfl
@[simp] theorem State.takeOne_sys (s : State) : s.takeOne.sys = s.sys := by
  unfold State.takeOne
  split <;> simp
@[simp] theorem State.takeRequests_sys (s : State) : s.takeRequests.sys = s.sys := by
  simp [State.takeRequests]
@[simp] theorem State.lakeUp_sys (s : State) : s.lakeUp.sys = s.sys := by
  simp [State.lakeUp]
@[simp] theorem State.wakeLake_sys (s : State) : s.wakeLake.sys = s.sys := by
  simp [State.wakeLake]
@[simp] theorem State.submitSearch_sys (q : SearchReq) (s : State) : (s.submitSearch q).2.sys = s.sys := by
  unfold State.submitSearch
  split <;> simp
@[simp] theorem State.offerChannel_sys (s : State) : s.offerChannel.sys = s.sys := by
  unfold State.offerChannel
  (repeat' split) <;> simp
@[simp] theorem State.cancelSlot_sys (n : Nat) (s : State) : (s.cancelSlot n).sys = s.sys := by
  unfold State.cancelSlot
  split <;> simp
@[simp] theorem State.cancelWhere_sys (p : SearchReq → Bool) (s : State) : (s.cancelWhere p).sys = s.sys := by
  simp [State.cancelWhere]
@[simp] theorem State.cancelForSave_sys (s : State) : s.cancelForSave.sys = s.sys := by
  simp [State.cancelForSave]
@[simp] theorem State.keepAided_sys (q : SearchReq) (s : State) : (s.keepAided q).sys = s.sys := by
  unfold State.keepAided
  (repeat' split) <;> simp
@[simp] theorem State.jamLow_sys (s : State) : s.jamLow.sys = s.sys := by
  simp [State.jamLow]
@[simp] theorem State.jamEval_sys (s : State) : s.jamEval.sys = s.sys := by
  simp [State.jamEval]
@[simp] theorem State.pulseEval_sys (s : State) : s.pulseEval.sys = s.sys := by
  simp [State.pulseEval]
@[simp] theorem State.countBlanked_sys (carry n pulses : Nat) (s : State) : (s.countBlanked carry n pulses).sys = s.sys := by
  simp [State.countBlanked]
@[simp] theorem State.writeSpecSel_sys (v : Nat) (s : State) : (s.writeSpecSel v).sys = s.sys := by
  simp [State.writeSpecSel]
@[simp] theorem State.autoAid_sys (c : Nat) (s : State) : (s.autoAid c).sys = s.sys := by
  simp [State.autoAid]

/-! ### The loop engine -/

@[simp] theorem State.loopLoad_sys (kind : Nat) (s : State) : (s.loopLoad kind).sys = s.sys := by rfl
@[simp] theorem State.loopSecond_sys (s : State) : s.loopSecond.sys = s.sys := by rfl
@[simp] theorem State.applyOutput_sys (o : Nat) (u : Int) (fell : Bool) (s : State) : (s.applyOutput o u fell).sys = s.sys := by
  unfold State.applyOutput
  split <;> simp
@[simp] theorem State.objEvents_sys (o : Nat) (before after : LoopObj) (s : State) : (s.objEvents o before after).sys = s.sys := by
  simp [State.objEvents]
@[simp] theorem State.startJob_sys (o t cost : Nat) (lane1 : Bool) (s : State) : (s.startJob o t cost lane1).sys = s.sys := by
  simp [State.startJob]
@[simp] theorem State.runJobs_sys : ∀ (n t : Nat) (s : State), (s.runJobs n t).sys = s.sys
  | 0, _, _ => rfl
  | n + 1, t, s => by
    unfold State.runJobs
    split
    · rfl
    · dsimp only
      split_ifs
      all_goals first | rfl | exact (State.runJobs_sys n t _).trans (State.startJob_sys ..)
@[simp] theorem State.engineNow_sys (s : State) : s.engineNow.sys = s.sys := State.runJobs_sys ..
@[simp] theorem State.schedule_sys (o : Nat) (s : State) : (s.schedule o).sys = s.sys := by
  simp [State.schedule]
@[simp] theorem State.compute_sys (o : Nat) (sample : Int) (s : State) : (s.compute o sample).sys = s.sys := by
  unfold State.compute
  (repeat' split) <;> simp
@[simp] theorem State.applyLate_sys (o : Nat) (s : State) : (s.applyLate o).sys = s.sys := by
  unfold State.applyLate
  split <;> simp
@[simp] theorem State.applyDue_sys (o : Nat) (fell : Bool) (s : State) : (s.applyDue o fell).sys = s.sys := by
  unfold State.applyDue
  dsimp only
  split <;> simp
@[simp] theorem State.objBoundary_sys (o : Nat) (s : State) : (s.objBoundary o).sys = s.sys := by
  simp [State.objBoundary]

/-! ### Time -/

@[simp] theorem State.timeEvent_sys (n : Nat) (s : State) : (s.timeEvent n).sys = s.sys := by rfl
@[simp] theorem State.refreshAligned_sys (s : State) : s.refreshAligned.sys = s.sys := by rfl
@[simp] theorem State.moveTime_sys (amount : Int) (uncertainty : Nat) (s : State) : (s.moveTime amount uncertainty).sys = s.sys := by
  unfold State.moveTime
  dsimp only
  split <;> simp
@[simp] theorem State.renewAnchor_sys (s : State) : s.renewAnchor.sys = s.sys := by rfl
@[simp] theorem State.setPort_sys (m : Nat) (v : PtpPort) (s : State) : (s.setPort m v).sys = s.sys := by rfl
@[simp] theorem State.setSource_sys (n : Nat) (s : State) : (s.setSource n).sys = s.sys := by
  simp [State.setSource]
@[simp] theorem State.servoLock_sys (s : State) : s.servoLock.sys = s.sys := by
  unfold State.servoLock
  dsimp only
  split <;> simp
@[simp] theorem State.servoJump_sys (source : Nat) (o : Int) (discard : Bool) (s : State) : (s.servoJump source o discard).sys = s.sys := by
  simp [State.servoJump]
@[simp] theorem State.initialCondition_sys (weekKnown : Bool) (source : Nat) (o : Int) (s : State) :
    (s.initialCondition weekKnown source o).sys = s.sys := by
  simp [State.initialCondition]
@[simp] theorem State.servoOffset_sys (weekKnown : Bool) (source : Nat) (o : Int) (s : State) :
    (s.servoOffset weekKnown source o).sys = s.sys := by
  unfold State.servoOffset
  dsimp only
  split <;> simp
@[simp] theorem State.servoMissing_sys (s : State) : s.servoMissing.sys = s.sys := by
  unfold State.servoMissing
  dsimp only
  split <;> simp
@[simp] theorem State.initialSet_sys (s : State) : s.initialSet.sys = s.sys := by
  unfold State.initialSet
  split <;> simp
@[simp] theorem State.pairTime_sys (o : SecondOffsets) (s : State) : (s.pairTime o).sys = s.sys := by
  unfold State.pairTime
  split
  · rfl
  · extract_lets old time u time' v
    have hu : u.sys = s.sys := by
      unfold u
      split
      · rfl
      · split <;> rfl
    have hv : v.sys = s.sys := by
      unfold v
      split <;> exact hu
    split
    · exact hv
    · dsimp only
      split_ifs <;> simp [hv]
@[simp] theorem State.ptpSend_sys (m kind : Nat) (octets : List Octet) (s : State) : (s.ptpSend m kind octets).sys = s.sys := by rfl
@[simp] theorem State.portState_sys (m : Nat) (st : PtpState) (s : State) : (s.portState m st).sys = s.sys := by
  simp [State.portState]
@[simp] theorem State.portSecond_sys (m : Nat) (s : State) : (s.portSecond m).sys = s.sys := by
  unfold State.portSecond
  dsimp only
  split <;> simp
@[simp] theorem State.takeLeap_sys (o : SecondOffsets) (s : State) : (s.takeLeap o).sys = s.sys := by
  unfold State.takeLeap
  cases o.leap <;> rfl
@[simp] theorem State.popEvt_sys (v : Nat) (s : State) : (s.popEvt v).sys = s.sys := by rfl
@[simp] theorem State.takeStamp_sys (m kind sequence : Nat) (s : State) : (s.takeStamp m kind sequence).2.sys = s.sys := by
  unfold State.takeStamp
  dsimp only
  split <;> simp
@[simp] theorem State.slaveRx_sys (m : Nat) (g : PtpMsg) (s : State) : (s.slaveRx m g).sys = s.sys := by
  unfold State.slaveRx
  dsimp only
  (repeat' split) <;> simp
@[simp] theorem State.masterRx_sys (m : Nat) (g : PtpMsg) (s : State) : (s.masterRx m g).sys = s.sys := by
  unfold State.masterRx
  split <;> simp
@[simp] theorem State.queueStamp_sys (m kind : Nat) (s : State) : (s.queueStamp m kind).sys = s.sys := by
  simp [State.queueStamp]
@[simp] theorem State.followUp_sys (m n : Nat) (s : State) : (s.followUp m n).sys = s.sys := by
  unfold State.followUp
  dsimp only
  split <;> simp

/-! ### The host protocol -/

@[simp] theorem State.sendReply_sys (f : ChpFrame) (kind result : Nat) (body : List Octet) (mac : Option (BitVec 128)) (s : State) :
    (s.sendReply f kind result body mac).sys = s.sys :=
  State.sys_of_besideTick (State.sendReply_besideTick ..)
@[simp] theorem State.sessReply_sys (k : Nat) (f : ChpFrame) (kind result : Nat) (body : List Octet) (s : State) :
    (s.sessReply k f kind result body).sys = s.sys := by
  simp [State.sessReply]
@[simp] theorem State.finish_sys (f : ChpFrame) (kind result : Nat) (body : List Octet) (s : State) :
    (s.finish f kind result body).sys = s.sys :=
  State.sys_of_besideTick (State.finish_besideTick ..)
@[simp] theorem State.refuse_sys (f : ChpFrame) (kind code : Nat) (s : State) : (s.refuse f kind code).sys = s.sys :=
  State.sys_of_besideTick (State.refuse_besideTick ..)
@[simp] theorem State.noRight_sys (h kind : Nat) (s : State) : (s.noRight h kind).sys = s.sys := by
  simp [State.noRight]
@[simp] theorem State.takeFrame_sys (f : ChpFrame) (s : State) : (s.takeFrame f).sys = s.sys := by
  simp [State.takeFrame]
@[simp] theorem State.discardFrame_sys (f : ChpFrame) (s : State) : (s.discardFrame f).sys = s.sys := by
  simp [State.discardFrame]
@[simp] theorem State.passed_sys (k : Option Nat) (s : State) : (s.passed k).sys = s.sys := by
  unfold State.passed
  split <;> simp
theorem State.chpRun_of {P : Sys → Prop} {run : Nat → State → State} {s : State} (h0 : P s.sys) (h : ∀ n u, u.sys = s.sys → P (run n u).sys)
    (kind : Nat) (right : Option Nat) (lead : Bool) (f : ChpFrame) (k : Nat) : P (s.chpRun kind right lead f run k).sys := by
  unfold State.chpRun
  dsimp only
  split_ifs
  · simpa using h0
  · simpa using h0
  · simpa using h0
  · exact h _ _ (by simp)
@[simp] theorem State.chpReplay_sys (kind : Nat) (f : ChpFrame) (k : Nat) (s : State) : (s.chpReplay kind f k).sys = s.sys := by
  simp [State.chpReplay]
theorem State.chpAuthed_of {P : Sys → Prop} {run : Nat → State → State} {s : State} (h0 : P s.sys) (h : ∀ n u, u.sys = s.sys → P (run n u).sys)
    (kind : Nat) (right : Option Nat) (lead : Bool) (f : ChpFrame) (k : Nat) : P (s.chpAuthed kind right lead f run k).sys := by
  unfold State.chpAuthed
  split
  · simpa using h0
  · split_ifs
    · exact h0
    · simpa using h0
    · simpa using h0
    · exact State.chpRun_of h0 h ..
theorem State.chpSession_of {P : Sys → Prop} {run : Nat → State → State} {s : State} (h0 : P s.sys) (h : ∀ n u, u.sys = s.sys → P (run n u).sys)
    (kind : Nat) (right : Option Nat) (lead : Bool) (f : ChpFrame) (k : Nat) : P (s.chpSession kind right lead f run k).sys := by
  unfold State.chpSession
  split_ifs
  · simpa using h0
  · simpa using h0
  · exact State.chpAuthed_of h0 h ..
theorem State.chpAnon_of {P : Sys → Prop} {run : Nat → State → State} {s : State} (h0 : P s.sys) (h : ∀ n u, u.sys = s.sys → P (run n u).sys)
    (kind : Nat) (lead anon : Bool) (f : ChpFrame) : P (s.chpAnon kind lead anon f run).sys := by
  unfold State.chpAnon
  split_ifs
  · simpa using h0
  · simpa using h0
  · simpa using h0
  · exact h _ _ (by simp)
/-- What holds of SYS where a message's effect runs or does not run holds after the checks of R473. -/
theorem State.chpTaken_of {P : Sys → Prop} {run : Nat → State → State} {s : State} (h0 : P s.sys) (h : ∀ n u, u.sys = s.sys → P (run n u).sys)
    (kind : Nat) (right : Option Nat) (lead anon ok : Bool) (f : ChpFrame) : P (s.chpTaken kind right lead anon ok f run).sys := by
  have ht : (s.takeFrame f).sys = s.sys := State.takeFrame_sys f s
  have h0' : P (s.takeFrame f).sys := by rwa [ht]
  have h' : ∀ n u, u.sys = (s.takeFrame f).sys → P (run n u).sys := fun n u hu => h n u (hu.trans ht)
  unfold State.chpTaken
  dsimp only
  split_ifs
  · simpa using h0
  · exact State.chpAnon_of h0' h' ..
  · split
    · simpa using h0
    · exact State.chpSession_of h0' h' ..

@[simp] theorem State.chpTaken_sys {run : Nat → State → State} (h : ∀ n s, (run n s).sys = s.sys) (kind : Nat) (right : Option Nat)
    (lead anon ok : Bool) (f : ChpFrame) (s : State) : (s.chpTaken kind right lead anon ok f run).sys = s.sys :=
  State.chpTaken_of (P := (· = s.sys)) rfl (fun n u hu => (h n u).trans hu) ..
theorem State.chp_of {P : Sys → Prop} {run : Nat → State → State} {s : State} (h0 : P s.sys) (h : ∀ n u, u.sys = s.sys → P (run n u).sys)
    (kind : Nat) (right : Option Nat) (lead anon ok : Bool) (f : ChpFrame) : P (s.chp kind right lead anon ok f run).sys := by
  unfold State.chp
  split
  · exact State.chpTaken_of h0 h ..
  · simpa using h0

@[simp] theorem State.chp_sys {run : Nat → State → State} (h : ∀ n s, (run n s).sys = s.sys) (kind : Nat) (right : Option Nat)
    (lead anon ok : Bool) (f : ChpFrame) (s : State) : (s.chp kind right lead anon ok f run).sys = s.sys :=
  State.chp_of (P := (· = s.sys)) rfl (fun n u hu => (h n u).trans hu) ..

@[simp] theorem State.chp_mode {run : Nat → State → State} (h : ∀ n s, (run n s).sys.mode = s.sys.mode) (kind : Nat) (right : Option Nat)
    (lead anon ok : Bool) (f : ChpFrame) (s : State) : (s.chp kind right lead anon ok f run).sys.mode = s.sys.mode :=
  State.chp_of (P := (·.mode = s.sys.mode)) rfl (fun n u hu => (h n u).trans (congrArg Sys.mode hu)) ..
@[simp] theorem State.authFailed_sys (h : Nat) (src : ChpSource) (s : State) : (s.authFailed h src).sys = s.sys := by
  simp [State.authFailed]
@[simp] theorem State.closeOthers_sys (k : Option Nat) (s : State) : (s.closeOthers k).sys = s.sys := by
  simp [State.closeOthers]
@[simp] theorem State.spiTake_sys (b : List Octet) (s : State) : (s.spiTake b).sys = s.sys := by
  unfold State.spiTake
  split <;> simp

/-! ### Work -/

@[simp] theorem State.closeEmpty_sys (q : Nat) (s : State) : (s.closeEmpty q).sys = s.sys :=
  State.sys_of_besideTick (State.closeEmpty_besideTick ..)
@[simp] theorem State.storeDesc_sys (d : Desc) (ms : Nat) (s : State) : (s.storeDesc d ms).sys = s.sys :=
  State.sys_of_besideTick (State.storeDesc_besideTick ..)
@[simp] theorem State.hole_sys (q i : Nat) (s : State) : (s.hole q i).sys = s.sys :=
  State.sys_of_besideTick (State.hole_besideTick ..)
@[simp] theorem State.putBack_sys (t : Service) (progress : Nat) (s : State) : (s.putBack t progress).sys = s.sys :=
  State.sys_of_besideTick (State.putBack_besideTick ..)
@[simp] theorem State.putHead_sys (t : Service) (progress : Nat) (s : State) : (s.putHead t progress).sys = s.sys := by
  unfold State.putHead
  split <;> simp
@[simp] theorem State.submit1_sys (host ms : Nat) (b : List Octet) (s : State) : (s.submit1 host ms b).2.sys = s.sys :=
  State.sys_of_besideTick (State.submit1_besideTick ..)
@[simp] theorem State.await_sys (f : ChpFrame) (kind : Nat) (tick : Nat) (outcome : List Octet) (s : State) :
    (s.await f kind tick outcome).sys = s.sys :=
  State.sys_of_besideTick (State.await_besideTick ..)
@[simp] theorem State.dispatchStage_sys (tick ms : Nat) (s : State) : (s.dispatchStage tick ms).sys = s.sys :=
  State.sys_of_besideTick (State.dispatchStage_besideTick ..)

/-! ### The cores -/

@[simp] theorem State.busyOn_sys (k ms : Nat) (s : State) : (s.busyOn k ms).sys = s.sys :=
  State.sys_of_besideTick (State.busyOn_besideTick ..)
@[simp] theorem State.busyOff_sys (k ms : Nat) (s : State) : (s.busyOff k ms).sys = s.sys :=
  State.sys_of_besideTick (State.busyOff_besideTick ..)
@[simp] theorem State.countGift_sys (k q wait : Nat) (s : State) : (s.countGift k q wait).sys = s.sys :=
  State.sys_of_besideTick (State.countGift_besideTick ..)
@[simp] theorem State.returnCore_sys (k cause : Nat) (s : State) : (s.returnCore k cause).sys = s.sys := by
  unfold State.returnCore
  dsimp only
  split <;> simp
@[simp] theorem State.freezeCore_sys (n : Nat) (s : State) : (s.freezeCore n).sys = s.sys := by
  simp [State.freezeCore]
@[simp] theorem State.serveCore_sys (n : Nat) (s : State) : (s.serveCore n).sys = s.sys := by
  unfold State.serveCore
  dsimp only
  (repeat' split) <;> simp
@[simp] theorem State.haltCore_sys (n : Nat) (s : State) : (s.haltCore n).sys = s.sys := by rfl
@[simp] theorem State.wakeCore_sys (acc : Bool × State) (n : Nat) : (State.wakeCore acc n).2.sys = acc.2.sys := by
  unfold State.wakeCore
  split <;> simp
@[simp] theorem State.wakeCores_sys (q : Nat) (s : State) : (s.wakeCores q).sys = s.sys := by
  unfold State.wakeCores
  suffices h : ∀ (l : List Nat) acc, (l.foldl State.wakeCore acc).2.sys = acc.2.sys from h _ (false, s)
  intro l
  induction l with
  | nil => exact fun _ => rfl
  | cons n l ih => exact fun acc => (ih _).trans (State.wakeCore_sys acc n)
@[simp] theorem State.discardDesc_sys (q i : Nat) (known : Bool) (s : State) : (s.discardDesc q i known).sys = s.sys := by
  unfold State.discardDesc
  split <;> simp
@[simp] theorem State.withdraw_sys (g : Gift) (s : State) : (s.withdraw g).sys = s.sys := by
  unfold State.withdraw
  dsimp only
  split <;> simp
@[simp] theorem State.flushQueue_sys (q : Nat) (s : State) : (s.flushQueue q).sys = s.sys := by
  simp [State.flushQueue]
@[simp] theorem State.writeFlush_sys (v : Nat) (s : State) : (s.writeFlush v).sys = s.sys := by
  simp [State.writeFlush]
@[simp] theorem State.clearWaits_sys (s : State) : s.clearWaits.sys = s.sys := by rfl
@[simp] theorem State.writePeekSel_sys (v : Nat) (s : State) : (s.writePeekSel v).sys = s.sys := by
  unfold State.writePeekSel
  dsimp only
  (repeat' split) <;> simp

/-! ### Tracking -/

@[simp] theorem State.trkEvent_sys (n : Nat) (s : State) : (s.trkEvent n).sys = s.sys := by rfl
@[simp] theorem State.slip_sys (c detector : Nat) (s : State) : (s.slip c detector).sys = s.sys := by
  simp [State.slip]
@[simp] theorem State.halfSlip_sys (c detector : Nat) (s : State) : (s.halfSlip c detector).sys = s.sys := by
  simp [State.halfSlip]
@[simp] theorem State.freeChan_sys (c : Nat) (s : State) : (s.freeChan c).sys = s.sys := by
  simp [State.freeChan]
@[simp] theorem State.submitReacq_sys (q : SearchReq) (deadline : Nat) (s : State) : (s.submitReacq q deadline).sys = s.sys := by
  simp [State.submitReacq]
@[simp] theorem State.reacquire_sys (c : Nat) (ch : Channel) (s : State) : (s.reacquire c ch).sys = s.sys := by
  simp [State.reacquire]
@[simp] theorem State.dropChan_sys (c cause : Nat) (s : State) : (s.dropChan c cause).sys = s.sys := by
  simp [State.dropChan]
@[simp] theorem State.releaseDisabled_sys (s : State) : s.releaseDisabled.sys = s.sys := by
  simp [State.releaseDisabled]
@[simp] theorem State.chanEcc_sys (c address : Nat) (s : State) : (s.chanEcc c address).sys = s.sys := by
  simp [State.chanEcc]
@[simp] theorem State.writeChCfg_sys (c v : Nat) (s : State) : (s.writeChCfg c v).2.sys = s.sys := by
  unfold State.writeChCfg
  dsimp only
  split <;> simp
@[simp] theorem State.evalMultipath_sys (c : Nat) (s : State) : (s.evalMultipath c).sys = s.sys := by
  simp [State.evalMultipath]
@[simp] theorem State.channelSynced_sys (c periods : Nat) (s : State) : (s.channelSynced c periods).sys = s.sys := by rfl
@[simp] theorem State.channelLocked_sys (c : Nat) (s : State) : (s.channelLocked c).sys = s.sys := by
  simp [State.channelLocked]
@[simp] theorem State.coast_sys (c : Nat) (s : State) : (s.coast c).sys = s.sys := by
  simp [State.coast]
@[simp] theorem State.chanLocks_sys (c : Nat) (s : State) : (s.chanLocks c).sys = s.sys := by
  simp [State.chanLocks]
@[simp] theorem State.chanTransition_sys (c : Nat) (s : State) : (s.chanTransition c).sys = s.sys := by
  unfold State.chanTransition
  dsimp only
  (repeat' split) <;> simp
@[simp] theorem State.symbol_sys (c : Nat) (positive : Bool) (magnitude : Nat) (s : State) :
    (s.symbol c positive magnitude).sys = s.sys := by rfl

/-! ### The Trestle -/

@[simp] theorem State.scrub_sys (memory address : Nat) (s : State) : (s.scrub memory address).sys = s.sys := by
  unfold State.scrub
  split <;> simp
@[simp] theorem State.eccCorrect_mode (site : EccSite) (s : State) : (s.eccCorrect site).sys.mode = s.sys.mode := by
  unfold State.eccCorrect
  split <;> simp

/-! ### Keys -/

@[simp] theorem State.deriveClass_sys (k : Nat) (s : State) : (s.deriveClass k).sys = s.sys := by rfl
@[simp] theorem State.commitCounter_sys (m : KeyMsg) (s : State) : (s.commitCounter m).sys = s.sys := by
  simp [State.commitCounter]
@[simp] theorem State.keyEffect_sys (m : KeyMsg) (p : List Octet) (s : State) : (s.keyEffect m p).sys = s.sys := by
  unfold State.keyEffect
  (repeat' split) <;> simp
@[simp] theorem State.keyReply_sys (f : ChpFrame) (code : Nat) (s : State) : (s.keyReply f code).sys = s.sys := by
  simp [State.keyReply]
@[simp] theorem State.keyLast_sys (b : List Octet) (code : Nat) (s : State) : (s.keyLast b code).sys = s.sys := by rfl
@[simp] theorem State.keySaving_sys (f : ChpFrame) (s : State) : (s.keySaving f).sys = s.sys := by
  simp [State.keySaving]
@[simp] theorem State.zeroStore_sys (s : State) : s.zeroStore.sys = s.sys := by rfl
@[simp] theorem State.applySwitch_sys (e at_ : Nat) (s : State) : (s.applySwitch e at_).sys = s.sys := by
  simp [State.applySwitch]
@[simp] theorem State.endPrevious_sys (s : State) : s.endPrevious.sys = s.sys := by rfl

/-! ### Deadlock -/

@[simp] theorem State.arbiterStage_sys (tick t0 : Nat) (alive : List Nat) (s : State) : (s.arbiterStage tick t0 alive).sys = s.sys :=
  State.sys_of_besideTick (State.arbiterStage_besideTick ..)

/-! ### The profiler -/

@[simp] theorem State.authCheck_sys (s : State) : s.authCheck.sys = s.sys :=
  State.sys_of_besideTick (State.authCheck_besideTick ..)
@[simp] theorem State.profilerStage_sys (ms : Nat) (s : State) : (s.profilerStage ms).sys = s.sys :=
  State.sys_of_besideTick (State.profilerStage_besideTick ..)
@[simp] theorem State.resolveCand_sys (n : Nat) (r : Report) (s : State) : (s.resolveCand n r).sys = s.sys := by
  unfold State.resolveCand
  dsimp only
  split <;> simp
@[simp] theorem State.resolveRef_sys (n : Nat) (r : Report) (s : State) : (s.resolveRef n r).sys = s.sys := by
  unfold State.resolveRef
  dsimp only
  (repeat' split) <;> simp
@[simp] theorem State.setEnvelope_sys (n : Nat) (planned pos : Int) (s : State) : (s.setEnvelope n planned pos).sys = s.sys := by
  simp [State.setEnvelope]
@[simp] theorem State.superviseAt_sys (n : Nat) (r : Report) (s : State) : (s.superviseAt n r).sys = s.sys := by
  unfold State.superviseAt
  split <;> simp
@[simp] theorem State.supervise_sys (n : Nat) (r : Report) (s : State) : (s.supervise n r).sys = s.sys := by
  simp [State.supervise]

/-! ### Lighting -/

@[simp] theorem State.lightingPublish_sys (s : State) : s.lightingPublish.sys = s.sys :=
  State.sys_of_besideTick (State.lightingPublish_besideTick ..)
@[simp] theorem State.evalString_sys (n sink current : Nat) (r : StringRec) (s : State) : (s.evalString n sink current r).sys = s.sys := by
  simp [State.evalString]
@[simp] theorem State.softStart_sys (s : State) : s.softStart.sys = s.sys := by rfl
@[simp] theorem State.writeLumCtl_sys (v : Nat) (s : State) : (s.writeLumCtl v).sys = s.sys := by
  simp [State.writeLumCtl]
@[simp] theorem State.lumStart_sys (s : State) : s.lumStart.sys = s.sys := by
  simp [State.lumStart]
@[simp] theorem State.lumOff_sys (s : State) : s.lumOff.sys = s.sys := by rfl
@[simp] theorem State.queueFrame_sys (u : Unicast) (s : State) : (s.queueFrame u).sys = s.sys :=
  State.sys_of_besideTick (State.queueFrame_besideTick ..)
@[simp] theorem State.towerExpire_sys (s : State) : s.towerExpire.sys = s.sys :=
  State.sys_of_besideTick (State.towerExpire_besideTick ..)

/-! ### The tick -/

@[simp] theorem State.queueProfile_sys (tick n : Nat) (s : State) : (s.queueProfile tick n).sys = s.sys :=
  State.sys_of_besideTick (State.queueProfile_besideTick ..)
@[simp] theorem State.corrCheck_sys (t0 : Nat) (s : State) : (s.corrCheck t0).sys = s.sys :=
  State.sys_of_besideTick (State.corrCheck_besideTick ..)
@[simp] theorem State.selfClear_sys (s : State) : s.selfClear.sys = s.sys :=
  State.sys_of_besideTick (State.selfClear_besideTick ..)
@[simp] theorem State.clearGraph_sys (s : State) : s.clearGraph.sys = s.sys :=
  State.sys_of_besideTick (State.clearGraph_besideTick ..)
@[simp] theorem State.takeReleases_sys (tick : Nat) (s : State) : (s.takeReleases tick).sys = s.sys :=
  State.sys_of_besideTick (State.takeReleases_besideTick ..)
@[simp] theorem State.countNews_sys (n : TickNews) (s : State) : (s.countNews n).sys = s.sys :=
  State.sys_of_besideTick (State.countNews_besideTick ..)
@[simp] theorem State.syncBusy_sys (ms : Nat) (s : State) : (s.syncBusy ms).sys = s.sys :=
  State.sys_of_besideTick (State.syncBusy_besideTick ..)
@[simp] theorem State.publishTick_sys (mirrored : Bool) (s : State) : (s.publishTick mirrored).sys = s.sys := by
  cases h : s.tick with
  | none => rw [State.publishTick, h]
  | some o => exact (State.sys_of_besideTick (State.publishTick_besideTick mirrored h)).trans rfl
@[simp] theorem State.sendResync_sys (k : Nat) (s : State) : (s.sendResync k).sys = s.sys := by
  simp [State.sendResync]
@[simp] theorem State.commitTick_sys (s : State) : s.commitTick.sys = s.sys := by
  cases h : s.tick with
  | none => rw [State.commitTick_of_none h]
  | some o => exact (State.commitTick_committed h).sys
@[simp] theorem State.commitPast_sys (s : State) : s.commitPast.sys = s.sys := by
  unfold State.commitPast
  split <;> simp
@[simp] theorem State.publishLate_sys (s : State) : s.publishLate.sys = s.sys := by
  unfold State.publishLate
  dsimp only
  split
  · exact State.commitTick_sys s
  · rw [State.publishTick_sys]
    split
    · exact (State.notMirrored_sys ..).trans (State.commitTick_sys s)
    · exact State.commitTick_sys s
@[simp] theorem State.cycleEnd_sys (s : State) : s.cycleEnd.sys = s.sys :=
  State.sys_of_besideTick (State.cycleEnd_besideTick ..)
@[simp] theorem State.freeCeiling_sys (k : Nat) (s : State) : (s.freeCeiling k).sys = s.sys := by
  unfold State.freeCeiling
  dsimp only
  split <;> simp
@[simp] theorem State.becomeMirrored_sys (s : State) : s.becomeMirrored.sys = s.sys := by
  simp [State.becomeMirrored]
@[simp] theorem State.writeShadow_sys (n : Nat) (entries : List (Nat × List Octet)) (s : State) :
    (s.writeShadow n entries).sys = s.sys := by
  unfold State.writeShadow
  split <;> simp
@[simp] theorem State.exchange_sys (n : Nat) (s : State) : (s.exchange n).sys = s.sys := by
  unfold State.exchange
  split <;> simp
@[simp] theorem State.exchangeDue_sys (n : Nat) (s : State) : (s.exchangeDue n).sys = s.sys := by
  simp [State.exchangeDue]
@[simp] theorem State.writeClassSet_sys (v : Nat) (s : State) : (s.writeClassSet v).2.sys = s.sys := by
  unfold State.writeClassSet
  dsimp only
  split <;> simp

/-! ### Guests -/

@[simp] theorem State.backboneIn_sys {run : State → State} (h : ∀ s, (run s).sys = s.sys) (kind n : Nat) (f : ChpFrame) (s : State) :
    (s.backboneIn kind n f run).sys = s.sys := by
  unfold State.backboneIn
  split
  · rfl
  · dsimp only
    split
    · simp
    · exact h _
@[simp] theorem State.guestRequestIn_sys (f : ChpFrame) (s : State) : (s.guestRequestIn f).sys = s.sys := by
  simp [State.guestRequestIn]
@[simp] theorem State.guestAnswerIn_sys (f : ChpFrame) (s : State) : (s.guestAnswerIn f).sys = s.sys := by
  simp [State.guestAnswerIn]
@[simp] theorem State.guestReleaseIn_sys (f : ChpFrame) (s : State) : (s.guestReleaseIn f).sys = s.sys := by
  simp [State.guestReleaseIn]
@[simp] theorem State.resendReleases_sys (s : State) : s.resendReleases.sys = s.sys := by
  simp [State.resendReleases]

/-! ### The radios -/

@[simp] theorem State.radEvent_sys (i n : Nat) (s : State) : (s.radEvent i n).sys = s.sys := by
  simp [State.radEvent]
@[simp] theorem State.radReport_sys (i low : Nat) (data : List (Nat × Int)) (s : State) : (s.radReport i low data).sys = s.sys := by
  simp [State.radReport]
@[simp] theorem State.airAllowed_sys (i ch kind t len : Nat) (s : State) : (s.airAllowed i ch kind t len).2.sys = s.sys := by
  unfold State.airAllowed
  dsimp only
  (repeat' split) <;> simp
@[simp] theorem State.useAir_sys (i ch t len : Nat) (s : State) : (s.useAir i ch t len).sys = s.sys := by
  unfold State.useAir
  split <;> simp
@[simp] theorem State.setSendKey_sys (k : Nat) (v : SendKey) (s : State) : (s.setSendKey k v).sys = s.sys := by rfl
@[simp] theorem State.raiseCeiling_sys (k : Nat) (s : State) : (s.raiseCeiling k).sys = s.sys := by
  simp [State.raiseCeiling]
@[simp] theorem State.takeCounter_sys (i k : Nat) (s : State) : (s.takeCounter i k).2.sys = s.sys := by
  unfold State.takeCounter
  dsimp only
  split <;> simp
@[simp] theorem State.onAir_sys (i : Nat) (a : AirFrame) (finish : Nat) (s : State) : (s.onAir i a finish).sys = s.sys := by
  simp [State.onAir]
@[simp] theorem State.serveAt_sys (mark t : Nat) (s : State) : (s.serveAt mark t).sys = s.sys := by rfl
@[simp] theorem State.radioClock_sys (i : Nat) (on : Bool) (s : State) : (s.radioClock i on).sys = s.sys := by
  simp [State.radioClock]
@[simp] theorem State.wakeFor_sys (i start : Nat) (s : State) : (s.wakeFor i start).sys = s.sys := by
  simp [State.wakeFor]
@[simp] theorem State.serveEntry_sys {f : DeckEntry → Nat → State → State} (h : ∀ e t s, (f e t s).sys = s.sys) (i kind : Nat) (ofs : Int)
    (s : State) : (s.serveEntry i kind ofs f).sys = s.sys := by
  unfold State.serveEntry
  split
  · rfl
  · split
    · dsimp only
      split <;> simp [h]
    · rfl
@[simp] theorem State.pllUnlock_sys (i : Nat) (s : State) : (s.pllUnlock i).sys = s.sys := by
  unfold State.pllUnlock
  split <;> simp
@[simp] theorem State.paTrip_sys (i detector power : Nat) (s : State) : (s.paTrip i detector power).sys = s.sys := by
  unfold State.paTrip
  split <;> simp
@[simp] theorem State.entryInjection_sys (i : Nat) (sends : Bool) (s : State) : (s.entryInjection i sends).sys = s.sys := by
  unfold State.entryInjection
  dsimp only
  split <;> simp
@[simp] theorem State.broadcastNow_sys (i ch ns finish : Nat) (f : AirFrame) (s : State) :
    (s.broadcastNow i ch ns finish f).2.sys = s.sys := by
  unfold State.broadcastNow
  dsimp only
  split <;> simp
@[simp] theorem State.broadcast_sys (i ch kind : Nat) (payload : List Octet) (start stop : Nat) (s : State) :
    (s.broadcast i ch kind payload start stop).2.sys = s.sys := by
  unfold State.broadcast
  dsimp only
  split_ifs <;> simp
@[simp] theorem State.sendBeacon_sys (ch entry start stop : Nat) (s : State) : (s.sendBeacon ch entry start stop).sys = s.sys := by
  unfold State.sendBeacon
  dsimp only
  split <;> simp
@[simp] theorem State.towerSettled_sys (a : Nat) (s : State) : (s.towerSettled a).sys = s.sys := by rfl
@[simp] theorem State.sessionClosed_sys (n : Nat) (s : State) : (s.sessionClosed n).sys = s.sys := by
  simp [State.sessionClosed]
@[simp] theorem State.giveUp_sys (u : Unicast) (s : State) : (s.giveUp u).sys = s.sys := by
  unfold State.giveUp
  dsimp only
  split <;> simp
@[simp] theorem State.pruneUnicast_sys (i : Nat) (s : State) : (s.pruneUnicast i).sys = s.sys := by
  simp [State.pruneUnicast]
@[simp] theorem State.putUnicast_sys (u v : Unicast) (s : State) : (s.putUnicast u v).sys = s.sys := by rfl
@[simp] theorem State.takeDsn_sys (i : Nat) (u : Unicast) (s : State) : (s.takeDsn i u).2.sys = s.sys := by
  unfold State.takeDsn
  split <;> simp
@[simp] theorem State.transmitNow_sys (i ch : Nat) (u sent : Unicast) (start finish k ctr q : Nat) (s : State) :
    (s.transmitNow i ch u sent start finish k ctr q).sys = s.sys := by
  simp [State.transmitNow]
@[simp] theorem State.transmit_sys (i ch : Nat) (u : Unicast) (start : Nat) (s : State) : (s.transmit i ch u start).sys = s.sys := by
  unfold State.transmit
  dsimp only
  (repeat' split) <;> simp
@[simp] theorem State.sendSync_sys (e : DeckEntry) (ch start : Nat) (s : State) : (s.sendSync e ch start).2.sys = s.sys := by
  simp [State.sendSync]
@[simp] theorem State.sendCommit_sys (e : DeckEntry) (ch start t : Nat) (s : State) : (s.sendCommit e ch start t).sys = s.sys := by
  unfold State.sendCommit
  split <;> simp
@[simp] theorem State.openBroadcast_sys (e : DeckEntry) (start : Nat) (s : State) : (s.openBroadcast e start).sys = s.sys := by
  simp [State.openBroadcast]
@[simp] theorem State.downNext_sys (i t : Nat) (p : DeckEntry × Nat) (u : Unicast) (s : State) : (s.downNext i t p u).sys = s.sys := by
  simp [State.downNext]
@[simp] theorem State.downFirst_sys (i : Nat) (e : DeckEntry) (start : Nat) (s : State) : (s.downFirst i e start).sys = s.sys := by
  unfold State.downFirst
  dsimp only
  split <;> simp
@[simp] theorem State.downOpen_sys (i : Nat) (e : DeckEntry) (start : Nat) (s : State) : (s.downOpen i e start).sys = s.sys := by
  simp [State.downOpen]
@[simp] theorem State.listen_sys (i start stop : Nat) (s : State) : (s.listen i start stop).sys = s.sys := by
  simp [State.listen]

/-! ### Measurement -/

@[simp] theorem State.measEvent_sys (n : Nat) (s : State) : (s.measEvent n).sys = s.sys := by rfl
@[simp] theorem State.noteCauses_sys (os : List Obs) (s : State) : (s.noteCauses os).sys = s.sys := by
  simp [State.noteCauses]
@[simp] theorem State.noteClock_sys (clock : Option Int) (s : State) : (s.noteClock clock).sys = s.sys := by rfl
@[simp] theorem State.stationChecks_sys (sky : EpochIn) (os : List Obs) (s : State) : (s.stationChecks sky os).sys = s.sys := by rfl
@[simp] theorem State.integSecond_sys (s : State) : s.integSecond.sys = s.sys := by
  simp [State.integSecond]
@[simp] theorem State.beginSurvey_sys (check : Bool) (source : Nat) (ref : Int × Int × Int) (s : State) :
    (s.beginSurvey check source ref).sys = s.sys := by
  simp [State.beginSurvey]
@[simp] theorem State.surveyAtStart_sys (s : State) : s.surveyAtStart.sys = s.sys := by
  unfold State.surveyAtStart
  split <;> simp
@[simp] theorem State.surveyAfterAlarm_sys (s : State) : s.surveyAfterAlarm.sys = s.sys := by
  simp [State.surveyAfterAlarm]
@[simp] theorem State.airDrop_sys (n : Nat) (s : State) : (s.airDrop n).sys = s.sys := by
  simp [State.airDrop]
@[simp] theorem State.airRoute_sys (t period : Nat) (ms : List RtcmMsg) (s : State) : (s.airRoute t period ms).sys = s.sys := by
  simp [State.airRoute]
@[simp] theorem State.updJob_sys (f : EpochJob → EpochJob) (s : State) : (s.updJob f).sys = s.sys := by rfl
@[simp] theorem State.uartRoute_sys (u : Nat) (ms : List RtcmMsg) (s : State) : (s.uartRoute u ms).sys = s.sys := by
  simp [State.uartRoute]
@[simp] theorem State.udpRoute_sys (ms : List RtcmMsg) (s : State) : (s.udpRoute ms).sys = s.sys := by
  simp [State.udpRoute]
@[simp] theorem State.corrections_sys (t : Nat) (os : List Obs) (s : State) : (s.corrections t os).sys = s.sys := by
  simp [State.corrections]
@[simp] theorem State.latchFlags_sys (s : State) : s.latchFlags.sys = s.sys := by rfl
@[simp] theorem State.latchHalves_sys (s : State) : s.latchHalves.sys = s.sys := by rfl
@[simp] theorem State.takeSlots_sys (sky : EpochIn) (s : State) : (s.takeSlots sky).sys = s.sys := by
  simp [State.takeSlots]
@[simp] theorem State.formEpoch_sys (t : Nat) (sky : EpochIn) (s : State) : (s.formEpoch t sky).1.sys = s.sys := by
  simp [State.formEpoch]

/-! ### Alignment -/

@[simp] theorem State.auditHold_sys (n cause : Nat) (s : State) : (s.auditHold n cause).sys = s.sys := by
  simp [State.auditHold]
@[simp] theorem State.auditPass_sys (n : Nat) (s : State) : (s.auditPass n).sys = s.sys := by
  simp [State.auditPass]
@[simp] theorem State.auditFail_sys (n : Nat) (b : Baseline) (s : State) : (s.auditFail n b).sys = s.sys := by
  simp [State.auditFail]
@[simp] theorem State.auditOther_sys (n result : Nat) (s : State) : (s.auditOther n result).sys = s.sys := by rfl
@[simp] theorem State.judgeAudit_sys (n : Nat) (sats : List SatState) (v : AuditSnap) (e : Option RingEntry) (s : State) :
    (s.judgeAudit n sats v e).sys = s.sys := by
  unfold State.judgeAudit
  split <;> simp
@[simp] theorem State.alignSecond_sys (lead own : List Obs) (s : State) : (s.alignSecond lead own).sys = s.sys := by
  simp [State.alignSecond]
@[simp] theorem State.freezeAlign_sys (s : State) : s.freezeAlign.sys = s.sys := by
  simp [State.freezeAlign]

/-! ### The image -/

@[simp] theorem State.configWrite_sys (f : ChpFrame) (s : State) : (s.configWrite f).sys = s.sys := by
  simp [State.configWrite]
@[simp] theorem State.noteSlot_sys (slot code detail : Nat) (s : State) : (s.noteSlot slot code detail).sys = s.sys := by
  simp [State.noteSlot]

/-! ### Metering -/

@[simp] theorem State.writeCal_sys (c half v : Nat) (s : State) : (s.writeCal c half v).2.sys = s.sys := by
  unfold State.writeCal
  dsimp only
  split_ifs <;> simp
@[simp] theorem State.applyCal_sys (s : State) : s.applyCal.sys = s.sys := by
  simp [State.applyCal]
@[simp] theorem State.meterChannel_sys (xs : List Int) (c : Nat) (s : State) : (s.meterChannel xs c).sys = s.sys := by rfl
@[simp] theorem State.meterSamples_sys (blocks : List BlockIn) (s : State) :
    (s.meterSamples blocks).sys = s.sys := State.each_sys (fun _ _ => State.meterChannel_sys ..) _ _
@[simp] theorem State.meterPoint_sys (r : PointRec) (s : State) : (s.meterPoint r).sys = s.sys := by rfl
@[simp] theorem State.meterAll_sys (blocks : List BlockIn) (s : State) : (s.meterAll blocks).sys = s.sys := by
  simp [State.meterAll]
@[simp] theorem State.feederSecond_sys (f : Nat) (s : State) : (s.feederSecond f).sys = s.sys := by
  unfold State.feederSecond
  dsimp only
  (repeat' split) <;> simp
@[simp] theorem State.pointSecond_sys (sats : Nat) (from_ : Nat) (r : PointRec) (s : State) : (s.pointSecond sats from_ r).sys = s.sys := by
  simp [State.pointSecond]
@[simp] theorem State.energySecond_sys (s : State) : s.energySecond.sys = s.sys := by
  unfold State.energySecond
  split <;> simp
@[simp] theorem State.runsSecond_sys (sats : Nat) (s : State) : (s.runsSecond sats).sys = s.sys := by
  simp [State.runsSecond]
@[simp] theorem State.endSecond_sys (s : State) : s.endSecond.sys = s.sys := by rfl
@[simp] theorem State.latchSnapshot_sys (s : State) : s.latchSnapshot.sys = s.sys := by
  simp [State.latchSnapshot]
@[simp] theorem State.metStart_sys (s : State) : s.metStart.sys = s.sys := by
  unfold State.metStart
  split <;> simp
@[simp] theorem State.metFreeze_sys (blocks : List BlockIn) (s : State) : (s.metFreeze blocks).sys = s.sys := by
  simp [State.metFreeze]

/-! ### Registers -/

@[simp] theorem inRange_sys {f : State → State} (h : ∀ s, (f s).sys = s.sys) (ok : Bool) (s : State) : (inRange ok f s).2.sys = s.sys := by
  unfold inRange
  split
  · exact h s
  · rfl
@[simp] theorem taken_sys (s : State) : (taken s).2.sys = s.sys := by rfl
@[simp] theorem readOnly_sys (lk : Bool) (s : State) : (readOnly lk s).2.sys = s.sys := by
  unfold readOnly
  split <;> simp

/-! ### Registers of the sky -/

@[simp] theorem writeSys_mode (off v : Nat) (s : State) : (writeSys off v s).2.sys.mode = s.sys.mode := by
  unfold writeSys
  split <;> simp
@[simp] theorem applyLake_sys (off v : Nat) (s : State) : (applyLake off v s).sys = s.sys := by
  unfold applyLake
  split <;> simp
@[simp] theorem writeLake_sys (off v : Nat) (s : State) : (writeLake off v s).2.sys = s.sys := by
  unfold writeLake
  split <;> simp
@[simp] theorem applyTrk_sys (off v : Nat) (s : State) : (applyTrk off v s).sys = s.sys := by
  unfold applyTrk
  split <;> simp
@[simp] theorem writeTrk_sys (off v : Nat) (s : State) : (writeTrk off v s).2.sys = s.sys := by
  unfold writeTrk
  (repeat' split) <;> simp
@[simp] theorem writeLoop_sys (off v : Nat) (s : State) : (writeLoop off v s).2.sys = s.sys := by
  unfold writeLoop
  split <;> simp

/-! ### Registers of the fleet -/

@[simp] theorem writeDsp_sys (off v : Nat) (s : State) : (writeDsp off v s).2.sys = s.sys := by
  unfold writeDsp
  (repeat' split) <;> simp
@[simp] theorem writeXarb_sys (off v : Nat) (s : State) : (writeXarb off v s).2.sys = s.sys := by
  unfold writeXarb
  (repeat' split) <;> simp
@[simp] theorem applyProf_sys (off v : Nat) (s : State) : (applyProf off v s).sys = s.sys := by
  simp [applyProf]
@[simp] theorem writeProf_sys (off v : Nat) (s : State) : (writeProf off v s).2.sys = s.sys := by
  unfold writeProf
  split <;> simp
@[simp] theorem writeFstop_sys (off v : Nat) (s : State) : (writeFstop off v s).2.sys = s.sys := by
  unfold writeFstop
  split <;> simp

/-! ### The uplink -/

@[simp] theorem State.setDup_sys (i : Nat) (f : RxFrame) (d : DupState) (s : State) : (s.setDup i f d).sys = s.sys := by
  unfold State.setDup
  split <;> simp
@[simp] theorem State.heardFrom_sys (n : Nat) (rssi : Int) (s : State) : (s.heardFrom n rssi).sys = s.sys := by
  simp [State.heardFrom]
@[simp] theorem State.acknowledge_sys (i : Nat) (f : RxFrame) (s : State) : (s.acknowledge i f).sys = s.sys := by
  simp [State.acknowledge]
@[simp] theorem State.acceptFrame_sys (i : Nat) (f : RxFrame) (s : State) : (s.acceptFrame i f).sys = s.sys := by
  unfold State.acceptFrame
  split <;> simp
@[simp] theorem State.receive_sys (i : Nat) (f : RxFrame) (s : State) : (s.receive i f).sys = s.sys := by
  unfold State.receive
  (repeat' split) <;> simp
@[simp] theorem State.takeDelivered_sys {f : Delivered → State → State} (h : ∀ d s, (f d s).sys = s.sys) (pick : Delivered → Bool) (s : State) :
    (s.takeDelivered pick f).sys = s.sys := by
  unfold State.takeDelivered
  split
  · exact h ..
  · rfl
@[simp] theorem State.takeReport_sys (n : Nat) (r : Report) (s : State) : (s.takeReport n r).sys = s.sys := by
  simp [State.takeReport]
@[simp] theorem State.takeRoutePart_sys (n : Nat) (b : List Octet) (s : State) : (s.takeRoutePart n b).sys = s.sys := by
  simp [State.takeRoutePart]
@[simp] theorem State.takeAudit_sys (n : Nat) (b : List Octet) (s : State) : (s.takeAudit n b).sys = s.sys := by
  simp [State.takeAudit]
@[simp] theorem State.joinAccept_sys (identity result session cls : Nat) (s : State) :
    (s.joinAccept identity result session cls).sys = s.sys := by rfl
@[simp] theorem State.takeJoin_sys (identity : Nat) (d : Delivered) (s : State) : (s.takeJoin identity d).sys = s.sys := by
  unfold State.takeJoin
  dsimp only
  (repeat' split) <;> simp
@[simp] theorem State.profileAcked_sys (n : Nat) (u : Unicast) (s : State) : (s.profileAcked n u).sys = s.sys := by
  unfold State.profileAcked
  split <;> simp
@[simp] theorem State.regard_sys (a contact : Nat) (s : State) : (s.regard a contact).sys = s.sys := by rfl
@[simp] theorem State.takeNodeReport_sys (a : Nat) (d : Delivered) (s : State) : (s.takeNodeReport a d).sys = s.sys := by
  unfold State.takeNodeReport
  dsimp only
  split <;> simp

/-! ### Registers of the radios -/

@[simp] theorem applyRad_sys (v : Nat) (s : State) : (applyRad v s).sys = s.sys := by rfl
@[simp] theorem writeRad_sys (i off v : Nat) (s : State) : (writeRad i off v s).2.sys = s.sys := by
  unfold writeRad
  split <;> simp

/-! ### Registers of time -/

@[simp] theorem applyMeas_sys (off v : Nat) (s : State) : (applyMeas off v s).sys = s.sys := by
  unfold applyMeas
  split <;> simp
@[simp] theorem writeMeas_sys (off v : Nat) (s : State) : (writeMeas off v s).2.sys = s.sys := by
  unfold writeMeas
  split <;> simp
@[simp] theorem applyTime_sys (v : Nat) (s : State) : (applyTime v s).sys = s.sys := by rfl
@[simp] theorem State.updPps_sys (n : Nat) (f : Pps → Pps) (s : State) : (s.updPps n f).sys = s.sys := by rfl
@[simp] theorem writeTime_sys (off v : Nat) (s : State) : (writeTime off v s).2.sys = s.sys := by
  unfold writeTime
  split <;> simp

/-! ### The pair -/

@[simp] theorem State.peerLines_sys (b : Heartbeat) (s : State) : (s.peerLines b).sys = s.sys := by rfl
@[simp] theorem State.sendPairWide_sys (s : State) : s.sendPairWide.sys = s.sys := by
  simp [State.sendPairWide]
@[simp] theorem State.exchangeTime_sys (b : Heartbeat) (received : Nat) (s : State) : (s.exchangeTime b received).sys = s.sys := by
  unfold State.exchangeTime
  split <;> simp
@[simp] theorem State.takeBeat_sys (b : Heartbeat) (received : Nat) (s : State) : (s.takeBeat b received).sys = s.sys := by
  simp [State.takeBeat]
@[simp] theorem State.viaductDown_sys (s : State) : s.viaductDown.sys = s.sys := by
  simp [State.viaductDown]
@[simp] theorem State.missBeat_sys (s : State) : s.missBeat.sys = s.sys := by rfl
@[simp] theorem State.sendConfig_sys (s : State) : s.sendConfig.sys = s.sys := by
  unfold State.sendConfig
  split <;> simp
@[simp] theorem State.adoptFleet_sys (f : Fleet) (s : State) : (s.adoptFleet f).sys = s.sys := by rfl
@[simp] theorem State.loseDelta_sys (cause : Nat) (s : State) : (s.loseDelta cause).sys = s.sys := by
  simp [State.loseDelta]
@[simp] theorem State.applyTick_sys (d : TickDelta) (s : State) : (s.applyTick d).sys = s.sys := by
  simp [State.applyTick]
@[simp] theorem State.recordMismatch_sys (protocol : Nat) (s : State) : (s.recordMismatch protocol).sys = s.sys := by
  simp [State.recordMismatch]
@[simp] theorem State.adoptClass_sys (s : State) : s.adoptClass.sys = s.sys := by
  unfold State.adoptClass
  split <;> simp

/-! ### The takeover -/

@[simp] theorem State.takeHeard_sys (s : State) : s.takeHeard.sys = s.sys := by
  simp [State.takeHeard]
@[simp] theorem State.graphChanged_sys (spans : List Nat) (s : State) : (s.graphChanged spans).sys = s.sys := by
  simp [State.graphChanged]
@[simp] theorem State.ownDeck_sys (i : Nat) (s : State) : (s.ownDeck i).sys = s.sys := by
  unfold State.ownDeck
  split <;> simp
@[simp] theorem State.applyChange_sys (c : CfgChange) (s : State) : (s.applyChange c).sys = s.sys := by
  unfold State.applyChange
  split <;> simp
@[simp] theorem State.applyChanges_sys (s : State) : s.applyChanges.sys = s.sys := by
  simp [State.applyChanges]
@[simp] theorem State.resumeCorr_sys (t : TakeIn) (s : State) : (s.resumeCorr t).sys = s.sys := by rfl
@[simp] theorem State.takeOutputs_sys (t : TakeIn) (s : State) : (s.takeOutputs t).sys = s.sys := by rfl
@[simp] theorem State.takePair_sys (s : State) : s.takePair.sys = s.sys := by rfl
@[simp] theorem State.takeRecord_sys (kind tick ready duration : Nat) (s : State) :
    (s.takeRecord kind tick ready duration).sys = s.sys := by
  simp [State.takeRecord]
@[simp] theorem State.forestalled_mode (s : State) : s.forestalled.sys.mode = s.sys.mode := by rfl
@[simp] theorem State.missWindow_sys (s : State) : s.missWindow.sys = s.sys := by rfl
@[simp] theorem State.heardLead_sys (s : State) : s.heardLead.sys = s.sys := by rfl
@[simp] theorem State.markLate_sys (start : Nat) (s : State) : (s.markLate start).sys = s.sys := by rfl
@[simp] theorem State.forceClr_sys (s : State) : s.forceClr.sys = s.sys := by rfl
@[simp] theorem State.ask_sys (s : State) : s.ask.sys = s.sys := by
  simp [State.ask]
@[simp] theorem State.hostHandover_sys (s : State) : s.hostHandover.sys = s.sys := by
  simp [State.hostHandover]

/-! ### The update -/

@[simp] theorem State.updEvent_sys (n : Nat) (s : State) : (s.updEvent n).sys = s.sys := by rfl
@[simp] theorem State.journal_sys (f : Journal → Journal) (s : State) : (s.journal f).sys = s.sys := by rfl
@[simp] theorem State.updMessage_sys {run : State → State} (h : ∀ s, (run s).sys = s.sys) (kind size : Nat) (ok : Bool) (f : ChpFrame) (s : State) :
    (s.updMessage kind size ok f run).sys = s.sys := by
  unfold State.updMessage
  dsimp only
  split <;> simp [h]
@[simp] theorem State.updBegin_sys (f : ChpFrame) (s : State) : (s.updBegin f).sys = s.sys := by
  unfold State.updBegin
  dsimp only
  split_ifs <;> exact (State.finish_sys ..).trans (by simp only [State.report_sys])
@[simp] theorem State.blockWritten_sys (off : Nat) (data : List Octet) (s : State) : (s.blockWritten off data).sys = s.sys := by
  unfold State.blockWritten
  dsimp only
  split
  · exact (State.report_sys ..).trans (State.updEvent_sys ..)
  · rfl
@[simp] theorem State.updBlock_sys (f : ChpFrame) (failures : Nat) (s : State) : (s.updBlock f failures).sys = s.sys := by
  simp [State.updBlock]
@[simp] theorem State.updVerify_sys (f : ChpFrame) (s : State) : (s.updVerify f).sys = s.sys := by
  simp [State.updVerify]
@[simp] theorem State.updCancel_sys (s : State) : s.updCancel.sys = s.sys := by
  simp [State.updCancel]

/-! ### START -/

@[simp] theorem State.burnLife_sys (s : State) : s.burnLife.sys = s.sys := by
  unfold State.burnLife
  split <;> simp
@[simp] theorem State.measureRom_mode (s : State) : s.measureRom.sys.mode = s.sys.mode := by rfl
@[simp] theorem State.changeLife_mode (s : State) : s.changeLife.sys.mode = s.sys.mode := by
  simp [State.changeLife]
@[simp] theorem State.restrict_mode (why : Nat) (s : State) : (s.restrict why).sys.mode = s.sys.mode := by rfl
@[simp] theorem State.makeKeystone_mode (s : State) : s.makeKeystone.sys.mode = s.sys.mode := by
  simp [State.makeKeystone]
@[simp] theorem State.startFuse_mode (s : State) : s.startFuse.sys.mode = s.sys.mode := by
  simp [State.startFuse]
@[simp] theorem State.useHeader_mode (h : List Octet × BootFlash) (s : State) : (s.useHeader h).sys.mode = s.sys.mode := by rfl
@[simp] theorem State.startHeader_mode (s : State) : s.startHeader.sys.mode = s.sys.mode := by
  unfold State.startHeader
  split <;> simp
@[simp] theorem State.copyPart_mode (src dst start n : Nat) (i : StartIn) (s : State) :
    (s.copyPart src dst start n i).2.sys.mode = s.sys.mode := by
  unfold State.copyPart
  split
  · rfl
  · split
    · exact congrArg Sys.mode (State.report_sys ..)
    · rfl
@[simp] theorem State.activated_sys (step start : Nat) (i : StartIn) (s : State) : (s.activated step start i).sys = s.sys := by
  simp [State.activated]
@[simp] theorem State.revertStep_mode (start : Nat) (i : StartIn) (s : State) : (s.revertStep start i).sys.mode = s.sys.mode := by
  have h := State.copyPart_mode 1 0 start (s.partSectors 1) i { s with sys.startExtra := s.sys.startExtra + 4 * (s.partSectors 1 - start) }
  unfold State.revertStep
  dsimp only
  split
  case h_1 t ht => rw [ht] at h; simpa using h
  case h_2 t ht => rw [ht] at h; split <;> exact h
@[simp] theorem State.trialStart_mode (i : StartIn) (s : State) : (s.trialStart i).sys.mode = s.sys.mode := by
  simp [State.trialStart]
@[simp] theorem State.stepTwo_mode (start : Nat) (i : StartIn) (s : State) : (s.stepTwo start i).sys.mode = s.sys.mode := by
  have h := State.copyPart_mode 2 0 start (ceilDiv s.upd.journal.length 65536) i
    { s with sys.startExtra := s.sys.startExtra + 4 * (ceilDiv s.upd.journal.length 65536 - start) }
  unfold State.stepTwo
  dsimp only
  split
  case h_1 t ht => rw [ht] at h; simpa using h
  case h_2 t ht => rw [ht] at h; split <;> exact h
@[simp] theorem State.stepOne_mode (start : Nat) (i : StartIn) (s : State) : (s.stepOne start i).sys.mode = s.sys.mode := by
  have h := State.copyPart_mode 0 1 start (s.partSectors 0) i { s with sys.startExtra := s.sys.startExtra + 4 * (s.partSectors 0 - start) }
  unfold State.stepOne
  dsimp only
  split
  case h_1 t ht => rw [ht] at h; simpa using h
  case h_2 t ht => rw [ht] at h; exact h
@[simp] theorem State.activate_mode (i : StartIn) (s : State) : (s.activate i).sys.mode = s.sys.mode := by
  simp [State.activate]
@[simp] theorem State.readJournal_sys (s : State) : s.readJournal.sys = s.sys := by rfl
@[simp] theorem State.actJournal_mode (i : StartIn) (s : State) : (s.actJournal i).sys.mode = s.sys.mode := by
  unfold State.actJournal
  split <;> simp
@[simp] theorem State.startJournal_mode (i : StartIn) (s : State) : (s.startJournal i).sys.mode = s.sys.mode := by
  simp [State.startJournal]
@[simp] theorem State.startVerify_mode (i : StartIn) (s : State) : (s.startVerify i).sys.mode = s.sys.mode := by
  unfold State.startVerify
  dsimp only
  split
  · rfl
  · split
    · rfl
    · split
      · exact (State.revertStep_mode ..).trans (by simp)
      · exact congrArg Sys.mode (State.report_sys ..) |>.trans (by simp)
@[simp] theorem State.startWindows_mode (s : State) : s.startWindows.sys.mode = s.sys.mode := by rfl
@[simp] theorem State.restoreCounters_mode (i : StartIn) (s : State) : (s.restoreCounters i).sys.mode = s.sys.mode := by
  simp [State.restoreCounters]
@[simp] theorem State.restoreRecords_sys (known : Option Nat) (s : State) : (s.restoreRecords known).sys = s.sys := by
  unfold State.restoreRecords
  split <;> simp
@[simp] theorem State.dropAppended_sys (i : StartIn) (s : State) : (s.dropAppended i).sys = s.sys := by
  simp [State.dropAppended]
@[simp] theorem State.restoreDrops_mode (i : StartIn) (s : State) : (s.restoreDrops i).sys.mode = s.sys.mode := by
  simp [State.restoreDrops]
@[simp] theorem State.restoreShown_mode (i : StartIn) (s : State) : (s.restoreShown i).sys.mode = s.sys.mode := by
  simp [State.restoreShown]
@[simp] theorem State.startRestore_mode (i : StartIn) (s : State) : (s.startRestore i).sys.mode = s.sys.mode := by
  simp [State.startRestore]
@[simp] theorem State.cfgOutcome_mode (code : Nat) (data : List (Nat × Int)) (s : State) :
    (s.cfgOutcome code data).sys.mode = s.sys.mode := by
  simp [State.cfgOutcome]
@[simp] theorem State.useSlot_mode (s : State) : s.useSlot.sys.mode = s.sys.mode := by
  unfold State.useSlot
  dsimp only
  (repeat' split) <;> simp
@[simp] theorem State.selectConfig_mode (selectorBad : Bool) (s : State) : (s.selectConfig selectorBad).sys.mode = s.sys.mode := by
  unfold State.selectConfig
  dsimp only
  (repeat' split) <;> simp
@[simp] theorem State.applyImage_mode (i : StartIn) (m : Image) (s : State) : (s.applyImage i m).sys.mode = s.sys.mode := by
  have hw : ∀ (l : List Nat) (u : State), (l.foldl (fun s m => s.wake (domEth0 + m)) u).sys = u.sys := fun l => by
    induction l with
    | nil => exact fun _ => rfl
    | cons m l ih => exact fun u => ih _
  unfold State.applyImage
  dsimp only
  split
  · split <;> simp [hw]
  · simp [hw]
@[simp] theorem State.startConfig_mode (i : StartIn) (s : State) : (s.startConfig i).sys.mode = s.sys.mode := by
  unfold State.startConfig
  dsimp only
  split <;> simp
@[simp] theorem State.dropKey_sys (n : Nat) (s : State) : (s.dropKey n).sys = s.sys := by
  simp [State.dropKey]
@[simp] theorem State.incomplete_sys (s : State) : s.incomplete.sys = s.sys := by
  unfold State.incomplete
  split <;> simp
@[simp] theorem State.tellTamper_sys (s : State) : s.tellTamper.sys = s.sys := by
  unfold State.tellTamper
  split <;> simp
@[simp] theorem State.startKeys_mode (i : StartIn) (s : State) : (s.startKeys i).sys.mode = s.sys.mode := by
  simp [State.startKeys]
@[simp] theorem State.holdMismatch_mode (s : State) : s.holdMismatch.sys.mode = s.sys.mode := by
  simp [State.holdMismatch]
@[simp] theorem State.meetPartner_sys (i : StartIn) (s : State) : (s.meetPartner i).sys = s.sys := by rfl
@[simp] theorem State.startComplete_sys (i : StartIn) (s : State) : (s.startComplete i).sys = s.sys := by
  simp [State.startComplete]

/-! ### Power -/

@[simp] theorem State.saveRecords_sys (s : State) : s.saveRecords.sys = s.sys := by
  simp [State.saveRecords]
@[simp] theorem State.answerSaving_sys (s : State) : s.answerSaving.sys = s.sys := by
  simp [State.answerSaving]
@[simp] theorem State.stopEngines_sys (s : State) : s.stopEngines.sys = s.sys := by
  simp [State.stopEngines]
@[simp] theorem State.saveAir_sys (t0 : Nat) (s : State) : (s.saveAir t0).sys = s.sys := by
  simp [State.saveAir]
@[simp] theorem State.abandonEpoch_sys (s : State) : s.abandonEpoch.sys = s.sys := by
  unfold State.abandonEpoch
  split <;> simp
@[simp] theorem State.beginSave_mode (blocks : List BlockIn) (s : State) : (s.beginSave blocks).sys.mode = s.sys.mode := by
  simp [State.beginSave]
@[simp] theorem State.saveCursor_mode (s : State) : s.saveCursor.sys.mode = s.sys.mode := by rfl
@[simp] theorem State.saveCommit_mode (s : State) : s.saveCommit.sys.mode = s.sys.mode := by rfl

/-! ### Diagnostics -/

@[simp] theorem State.writeDiagSel_sys (v : Nat) (s : State) : (s.writeDiagSel v).sys = s.sys := by rfl
@[simp] theorem State.writeDiagArg_sys (v : Nat) (s : State) : (s.writeDiagArg v).sys = s.sys := by rfl
@[simp] theorem State.injectResult_sys (i : Injection) (s : State) : (s.injectResult i).sys = s.sys := by
  simp [State.injectResult]

/-! ### Hosts -/

@[simp] theorem State.awaitRefusal_sys (f : ChpFrame) (kind code : Nat) (s : State) : (s.awaitRefusal f kind code).sys = s.sys := by rfl

/-! ### Registers of the pair -/

@[simp] theorem writePair_sys (off v : Nat) (s : State) : (writePair off v s).2.sys = s.sys := by
  unfold writePair
  (repeat' split) <;> simp
@[simp] theorem writeKey_sys (off v : Nat) (s : State) : (writeKey off v s).2.sys = s.sys := by
  unfold writeKey
  split <;> simp

/-! ### Registers of the unit -/

@[simp] theorem writeMet_sys (off v : Nat) (s : State) : (writeMet off v s).2.sys = s.sys := by
  unfold writeMet
  (repeat' split) <;> simp
@[simp] theorem writeLum_sys (off v : Nat) (s : State) : (writeLum off v s).2.sys = s.sys := by
  unfold writeLum
  split <;> simp
@[simp] theorem State.writeRecCtl_sys (v : Nat) (s : State) : (s.writeRecCtl v).sys = s.sys := by
  simp [State.writeRecCtl]
@[simp] theorem writeRec_sys (off v : Nat) (s : State) : (writeRec off v s).2.sys = s.sys := by
  unfold writeRec
  split <;> simp
@[simp] theorem writeHost_sys (w : Writer) (off v : Nat) (s : State) : (writeHost w off v s).2.sys = s.sys := by
  unfold writeHost
  split <;> simp

/-! ### Status -/

@[simp] theorem State.latchWords_sys (block base n : Nat) (s : State) : (s.latchWords block base n).sys = s.sys := by rfl
@[simp] theorem State.readWord_sys (a : Nat) (s : State) : (s.readWord a).2.sys = s.sys := by
  unfold State.readWord
  (repeat' split) <;> simp
@[simp] theorem State.readWords_sys : ∀ (l : List Nat) (s : State), (State.readWords l s).2.sys = s.sys
  | [], _ => rfl
  | a :: l, s => (State.readWords_sys l _).trans (State.readWord_sys a s)
@[simp] theorem State.statusRead_sys (f : ChpFrame) (as : List Nat) (s : State) : (s.statusRead f as).sys = s.sys := by
  unfold State.statusRead
  dsimp only
  split <;> simp
@[simp] theorem applyReg_sys (block off v : Nat) (s : State) : (applyReg block off v s).sys = s.sys := by
  unfold applyReg
  split <;> simp
@[simp] theorem State.deferReg_sys (a v : Nat) (s : State) : (s.deferReg a v).sys = s.sys := by
  simp [State.deferReg]

end Sys2Proof.Machine
end

section
/-! SUPPORT. The commands that keep the mode (R35). -/

namespace Sys2Proof.Machine

/-- The mode that a command leaves. -/
def modeAfter : Host.Outcome State Fault Refusal → Option Mode
  | .next t => some t.sys.mode
  | .fault _ | .refused _ => none

@[simp] theorem modeAfter_done (f : State → State) (s : State) : modeAfter (done f s) = some (f { s with out := [] }).sys.mode := rfl
@[simp] theorem modeAfter_ite (c : Prop) [Decidable c] (a b : Host.Outcome State Fault Refusal) :
    modeAfter (if c then a else b) = if c then modeAfter a else modeAfter b := apply_ite ..

/-! ### Stopping -/

@[simp] theorem execStopInput_mode (input : Fin 2) (high : Bool) (s : State) :
    modeAfter (execStopInput input high s) = some s.sys.mode := by
  simp [execStopInput]
@[simp] theorem execDiscrepancy_mode (s : State) : modeAfter (execDiscrepancy s) = some s.sys.mode := by
  simp only [execDiscrepancy, modeAfter_done]
  split <;> simp

/-! ### The recorder -/

@[simp] theorem execEventIntake_mode (code : BitVec 16) (data : List Octet) (s : State) :
    modeAfter (execEventIntake code data s) = some s.sys.mode := by
  simp [execEventIntake]
@[simp] theorem execRecordStore_mode (s : State) : modeAfter (execRecordStore s) = some s.sys.mode := by
  simp [execRecordStore]
@[simp] theorem execTokenRefill_mode (code : BitVec 16) (s : State) : modeAfter (execTokenRefill code s) = some s.sys.mode := by
  simp [execTokenRefill]
@[simp] theorem execFlush_mode (s : State) : modeAfter (execFlush s) = some s.sys.mode := by
  simp [execFlush]
@[simp] theorem execRecFlushCmd_mode (s : State) : modeAfter (execRecFlushCmd s) = some s.sys.mode := by
  simp [execRecFlushCmd]
@[simp] theorem execArchive_mode (pageFaults : List Bool) (pages : Option Nat) (s : State) :
    modeAfter (execArchive pageFaults pages s) = some s.sys.mode := by
  simp [execArchive]
@[simp] theorem execRecArchiveCmd_mode (s : State) : modeAfter (execRecArchiveCmd s) = some s.sys.mode := by
  simp [execRecArchiveCmd]
@[simp] theorem execArchiveHourly_mode (s : State) : modeAfter (execArchiveHourly s) = some s.sys.mode := by
  simp [execArchiveHourly]
@[simp] theorem execRecReadLatch_mode (value : Word) (s : State) : modeAfter (execRecReadLatch value s) = some s.sys.mode := by
  simp [execRecReadLatch]

/-! ### The Lake -/

@[simp] theorem execAntOpen_mode (current : BitVec 8) (voltage : BitVec 12) (s : State) :
    modeAfter (execAntOpen current voltage s) = some s.sys.mode := by
  simp [execAntOpen]
@[simp] theorem execAntOpenRestored_mode (current : BitVec 8) (voltage : BitVec 12) (s : State) :
    modeAfter (execAntOpenRestored current voltage s) = some s.sys.mode := by
  simp [execAntOpenRestored]
@[simp] theorem execAntShort_mode (current : BitVec 8) (voltage : BitVec 12) (s : State) :
    modeAfter (execAntShort current voltage s) = some s.sys.mode := by
  simp [execAntShort]
@[simp] theorem execAntShortWaitEnd_mode (current : BitVec 8) (voltage : BitVec 12) (s : State) :
    modeAfter (execAntShortWaitEnd current voltage s) = some s.sys.mode := by
  simp [execAntShortWaitEnd]
@[simp] theorem execAntShortCountReset_mode (s : State) : modeAfter (execAntShortCountReset s) = some s.sys.mode := by
  simp [execAntShortCountReset]
@[simp] theorem execAntSupplyFault_mode (current : BitVec 8) (voltage : BitVec 12) (supply : Nat) (s : State) :
    modeAfter (execAntSupplyFault current voltage supply s) = some s.sys.mode := by
  simp [execAntSupplyFault]
@[simp] theorem execAntSupplyRestored_mode (current : BitVec 8) (voltage : BitVec 12) (supply : Nat) (s : State) :
    modeAfter (execAntSupplyRestored current voltage supply s) = some s.sys.mode := by
  simp [execAntSupplyRestored]
@[simp] theorem execAntRetry_mode (s : State) : modeAfter (execAntRetry s) = some s.sys.mode := by
  simp [execAntRetry]
@[simp] theorem execVddIo33Loss_mode (s : State) : modeAfter (execVddIo33Loss s) = some s.sys.mode := by
  rfl
@[simp] theorem execAgcReferenceUpdate_mode (band : Fin 3) (need : Int) (full : BitVec 8) (blanking : Bool) (s : State) :
    modeAfter (execAgcReferenceUpdate band need full blanking s) = some s.sys.mode := by
  simp [execAgcReferenceUpdate]
@[simp] theorem execNotchEngaged_mode (band : Fin 3) (notch : Fin 4) (offset : Int) (depth : BitVec 6) (s : State) :
    modeAfter (execNotchEngaged band notch offset depth s) = some s.sys.mode := by
  simp [execNotchEngaged]
@[simp] theorem execSpectrumMonitorRun_mode (band : Fin 3) (power : List Int) (s : State) :
    modeAfter (execSpectrumMonitorRun band power s) = some s.sys.mode := by
  simp [execSpectrumMonitorRun]
@[simp] theorem execSearchRequest_mode (request : List Octet) (defaults : Bool) (s : State) :
    modeAfter (execSearchRequest request defaults s) = some s.sys.mode := by
  simp [execSearchRequest]
@[simp] theorem execSearchRecordDone_mode (slot : Fin 96) (parityError : Option Nat) (doppler : Int) (ratio : Nat) (s : State) :
    modeAfter (execSearchRecordDone slot parityError doppler ratio s) = some s.sys.mode := by
  simp only [execSearchRecordDone, modeAfter_done]
  (repeat' split) <;> simp
@[simp] theorem execSearchDone_mode (slot : Fin 96) (s : State) : modeAfter (execSearchDone slot s) = some s.sys.mode := by
  simp [execSearchDone]
@[simp] theorem execVerifyDone_mode (slot : Fin 96) (ratio cn0 codePhase : Nat) (doppler : Int) (s : State) :
    modeAfter (execVerifyDone slot ratio cn0 codePhase doppler s) = some s.sys.mode := by
  simp only [execVerifyDone, modeAfter_done]
  (repeat' split) <;> simp
@[simp] theorem execNoChannel_mode (slot : Fin 96) (s : State) : modeAfter (execNoChannel slot s) = some s.sys.mode := by
  simp [execNoChannel]
@[simp] theorem execSearchCancel_mode (tag : BitVec 16) (s : State) : modeAfter (execSearchCancel tag s) = some s.sys.mode := by
  simp [execSearchCancel]
@[simp] theorem execLakeDomainStop_mode (s : State) : modeAfter (execLakeDomainStop s) = some s.sys.mode := by
  simp [execLakeDomainStop]
@[simp] theorem execBlankEval_mode (hits : List (Nat × Nat)) (s : State) : modeAfter (execBlankEval hits s) = some s.sys.mode := by
  unfold execBlankEval
  rw [modeAfter_done, State.gnssRuns_sys]
  intro u
  generalize 64000 = n
  simp
@[simp] theorem execSpecLatch_mode (value : Word) (s : State) : modeAfter (execSpecLatch value s) = some s.sys.mode := by
  simp [execSpecLatch]
@[simp] theorem execAidRequeue_mode (s : State) : modeAfter (execAidRequeue s) = some s.sys.mode := by
  simp [execAidRequeue]

/-! ### The loop engine -/

@[simp] theorem execLoopPeriodBoundary_mode (object : Fin 580) (sample : Int) (s : State) :
    modeAfter (execLoopPeriodBoundary object sample s) = some s.sys.mode := by
  simp [execLoopPeriodBoundary]
@[simp] theorem execFixedPhaseApply_mode (object : Fin 580) (s : State) : modeAfter (execFixedPhaseApply object s) = some s.sys.mode := by
  simp only [execFixedPhaseApply, modeAfter_done]
  split <;> simp

/-! ### Time -/

@[simp] theorem execAnchorUpdate_mode (offsets : SecondOffsets) (s : State) : modeAfter (execAnchorUpdate offsets s) = some s.sys.mode := by
  simp only [execAnchorUpdate, modeAfter_done]
  (repeat' split) <;> simp
@[simp] theorem execStepApply_mode (s : State) : modeAfter (execStepApply s) = some s.sys.mode := by
  simp only [execStepApply, modeAfter_done]
  split <;> simp
@[simp] theorem execPpsEdge_mode (output : Fin 2) (s : State) : modeAfter (execPpsEdge output s) = some s.sys.mode := by
  simp [execPpsEdge]
@[simp] theorem execEvtCapture_mode (input : Fin 8) (rising : Bool) (quarter : Fin 4) (s : State) :
    modeAfter (execEvtCapture input rising quarter s) = some s.sys.mode := by
  simp [execEvtCapture]
@[simp] theorem execEvtPop_mode (value : Word) (s : State) : modeAfter (execEvtPop value s) = some s.sys.mode := by
  rfl
@[simp] theorem execPtpMessageRx_mode (mac : Fin 2) (message : PtpMsg) (s : State) :
    modeAfter (execPtpMessageRx mac message s) = some s.sys.mode := by
  simp [execPtpMessageRx]
@[simp] theorem execPtpTx_mode (mac : Fin 2) (follow : Option Nat) (s : State) : modeAfter (execPtpTx mac follow s) = some s.sys.mode := by
  unfold execPtpTx
  split <;> simp
@[simp] theorem execTxtsStale_mode (mac : Fin 2) (s : State) : modeAfter (execTxtsStale mac s) = some s.sys.mode := by
  rfl
@[simp] theorem execPtpAnnounceReceiptTimeout_mode (mac : Fin 2) (s : State) :
    modeAfter (execPtpAnnounceReceiptTimeout mac s) = some s.sys.mode := by
  simp only [execPtpAnnounceReceiptTimeout, modeAfter_done]
  split <;> simp

/-! ### The host protocol -/

@[simp] theorem execOpen_mode (frame : ChpFrame) (s : State) : modeAfter (execOpen frame s) = some s.sys.mode := by
  simp only [execOpen, modeAfter_done]
  rw [State.chp_sys]
  intro h u
  split_ifs
  · simp
  · split <;> simp
@[simp] theorem execAuth_mode (frame : ChpFrame) (s : State) : modeAfter (execAuth frame s) = some s.sys.mode := by
  simp only [execAuth, modeAfter_done]
  (repeat' split) <;> simp
@[simp] theorem execClose_mode (frame : ChpFrame) (s : State) : modeAfter (execClose frame s) = some s.sys.mode := by
  simp only [execClose, modeAfter_done]
  rw [State.chp_sys]
  intro h u
  split <;> simp
@[simp] theorem execAuthPendingTimeout_mode (slot : Fin 8) (s : State) : modeAfter (execAuthPendingTimeout slot s) = some s.sys.mode := by
  simp [execAuthPendingTimeout]
@[simp] theorem execSessionIdleTimeout_mode (slot : Fin 8) (s : State) : modeAfter (execSessionIdleTimeout slot s) = some s.sys.mode := by
  simp [execSessionIdleTimeout]
@[simp] theorem execLockoutEnd_mode (host : Fin 16) (s : State) : modeAfter (execLockoutEnd host s) = some s.sys.mode := by
  simp [execLockoutEnd]
@[simp] theorem execCloseOthers_mode (writer : Fin 8) (s : State) : modeAfter (execCloseOthers writer s) = some s.sys.mode := by
  simp [execCloseOthers]
@[simp] theorem execReassemblyTimeout_mode (s : State) : modeAfter (execReassemblyTimeout s) = some s.sys.mode := by
  simp [execReassemblyTimeout]
@[simp] theorem execSpiWriteFrame_mode (quad : Bool) (length : BitVec 16) (octets : List Octet) (s : State) :
    modeAfter (execSpiWriteFrame quad length octets s) = some s.sys.mode := by
  simp [execSpiWriteFrame]
@[simp] theorem execSpiReadReply_mode (clocked : BitVec 16) (s : State) : modeAfter (execSpiReadReply clocked s) = some s.sys.mode := by
  simp only [execSpiReadReply, modeAfter_done]
  (repeat' split) <;> simp
@[simp] theorem execSpiReadStatus_mode (s : State) : modeAfter (execSpiReadStatus s) = some s.sys.mode := by
  simp [execSpiReadStatus]
@[simp] theorem execLinkChanged_mode (mac : Fin 2) (up : Bool) (speed : Fin 3) (s : State) :
    modeAfter (execLinkChanged mac up speed s) = some s.sys.mode := by
  simp [execLinkChanged]

/-! ### The cores -/

@[simp] theorem execCoreAsk_mode (core : Fin 8) (mask : BitVec 4) (s : State) : modeAfter (execCoreAsk core mask s) = some s.sys.mode := by
  simp [execCoreAsk]
@[simp] theorem execCoreDescriptorArrive_mode (queue : Fin 4) (descriptor : List Octet) (s : State) :
    modeAfter (execCoreDescriptorArrive queue descriptor s) = some s.sys.mode := by
  simp [execCoreDescriptorArrive]
@[simp] theorem execCoreTaskComplete_mode (core : Fin 8) (s : State) : modeAfter (execCoreTaskComplete core s) = some s.sys.mode := by
  simp only [execCoreTaskComplete, modeAfter_done]
  split <;> simp
@[simp] theorem execDspFlush_mode (value : Word) (s : State) : modeAfter (execDspFlush value s) = some s.sys.mode := by
  simp [execDspFlush]
@[simp] theorem execDspStatClr_mode (s : State) : modeAfter (execDspStatClr s) = some s.sys.mode := by
  simp [execDspStatClr]
@[simp] theorem execPeekLatch_mode (queue : Fin 32) (index : Fin 4096) (bad : Option Bool) (s : State) :
    modeAfter (execPeekLatch queue index bad s) = some s.sys.mode := by
  simp only [execPeekLatch, modeAfter_done]
  (repeat' split) <;> simp

/-! ### Tracking -/

@[simp] theorem execHandoverAccepted_mode (slot : Fin 96) (s : State) : modeAfter (execHandoverAccepted slot s) = some s.sys.mode := by
  simp only [execHandoverAccepted, modeAfter_done]
  split <;> simp
@[simp] theorem execFllTimeEnd_mode (c : Fin 288) (s : State) : modeAfter (execFllTimeEnd c s) = some s.sys.mode := by
  simp [execFllTimeEnd]
@[simp] theorem execPullinFailed_mode (c : Fin 288) (s : State) : modeAfter (execPullinFailed c s) = some s.sys.mode := by
  simp [execPullinFailed]
@[simp] theorem execChDropped_mode (c : Fin 288) (s : State) : modeAfter (execChDropped c s) = some s.sys.mode := by
  simp [execChDropped]
@[simp] theorem execReacqRequeue_mode (s : State) : modeAfter (execReacqRequeue s) = some s.sys.mode := by
  simp [execReacqRequeue]
@[simp] theorem execPolarityReport_mode (c : Fin 288) (inverted : Bool) (s : State) :
    modeAfter (execPolarityReport c inverted s) = some s.sys.mode := by
  simp only [execPolarityReport, modeAfter_done]
  (repeat' split) <;> simp
@[simp] theorem execTrkChCfgWrite_mode (c : Fin 288) (value : Word) (s : State) :
    modeAfter (execTrkChCfgWrite c value s) = some s.sys.mode := by
  simp [execTrkChCfgWrite]
@[simp] theorem execCoherentIntervalEnd_mode (c : Fin 288) (samples : List Sample) (symbol : Option (Bool × Nat)) (s : State) :
    modeAfter (execCoherentIntervalEnd c samples symbol s) = some s.sys.mode := by
  unfold execCoherentIntervalEnd
  split <;> simp

/-! ### The Trestle -/

@[simp] theorem execTrestleWindow_mode (cycles : List BankCycle) (s : State) :
    modeAfter (execTrestleWindow cycles s) = some s.sys.mode := by
  simp [execTrestleWindow]

/-! ### Keys -/

@[simp] theorem execVbatLow_mode (vbat : Nat) (s : State) : modeAfter (execVbatLow vbat s) = some s.sys.mode := by
  simp [execVbatLow]
@[simp] theorem execEpochSwitchApply_mode (s : State) : modeAfter (execEpochSwitchApply s) = some s.sys.mode := by
  simp only [execEpochSwitchApply, modeAfter_done]
  split <;> simp
@[simp] theorem execPreviousEpochClear_mode (s : State) : modeAfter (execPreviousEpochClear s) = some s.sys.mode := by
  simp only [execPreviousEpochClear, modeAfter_done]
  split <;> simp
@[simp] theorem execManufacturingMessage_mode (retire : Bool) (s : State) :
    modeAfter (execManufacturingMessage retire s) = some s.sys.mode := by
  simp [execManufacturingMessage]

/-! ### Lighting -/

@[simp] theorem execLumBasePeriod_mode (string : Fin 24) (sink current : Nat) (s : State) :
    modeAfter (execLumBasePeriod string sink current s) = some s.sys.mode := by
  simp only [execLumBasePeriod, modeAfter_done]
  split
  · rfl
  · split_ifs <;> simp
@[simp] theorem execDiagPulse_mode (string : Fin 24) (s : State) : modeAfter (execDiagPulse string s) = some s.sys.mode := by
  simp only [execDiagPulse, modeAfter_done]
  split <;> simp
@[simp] theorem execBoostHeadroomPeriod_mode (sinks : List (Fin 24 × Nat × Nat)) (output : Nat) (s : State) :
    modeAfter (execBoostHeadroomPeriod sinks output s) = some s.sys.mode := by
  have hset : ∀ n v (u : State), (u.setLstr n v).sys = u.sys := fun _ _ _ => rfl
  simp only [execBoostHeadroomPeriod, modeAfter_done]
  split
  · rfl
  · split
    · simp [hset, -State.setLstr_sys]
    · split_ifs <;> simp [hset, -State.setLstr_sys]
@[simp] theorem execBstCsTrip_mode (s : State) : modeAfter (execBstCsTrip s) = some s.sys.mode := by
  simp [execBstCsTrip]
@[simp] theorem execBoostFault_mode (excess : Bool) (output : Nat) (s : State) :
    modeAfter (execBoostFault excess output s) = some s.sys.mode := by
  simp only [execBoostFault, modeAfter_done]
  split <;> simp
@[simp] theorem execBoostFaultWaitEnd_mode (s : State) : modeAfter (execBoostFaultWaitEnd s) = some s.sys.mode := by
  simp only [execBoostFaultWaitEnd, modeAfter_done]
  split <;> simp
@[simp] theorem execBoostRun_mode (output : Nat) (s : State) : modeAfter (execBoostRun output s) = some s.sys.mode := by
  simp only [execBoostRun, modeAfter_done]
  split <;> simp
@[simp] theorem execBoostFaultCountReset_mode (s : State) : modeAfter (execBoostFaultCountReset s) = some s.sys.mode := by
  simp only [execBoostFaultCountReset, modeAfter_done]
  split <;> simp
@[simp] theorem execBoostRetry_mode (s : State) : modeAfter (execBoostRetry s) = some s.sys.mode := by
  simp [execBoostRetry]
@[simp] theorem execStringRetry_mode (s : State) : modeAfter (execStringRetry s) = some s.sys.mode := by
  simp [execStringRetry]
@[simp] theorem execLumTest_mode (s : State) : modeAfter (execLumTest s) = some s.sys.mode := by
  simp [execLumTest]
@[simp] theorem execAdjTestDue_mode (s : State) : modeAfter (execAdjTestDue s) = some s.sys.mode := by
  simp [execAdjTestDue]
@[simp] theorem execAdjTest_mode (phaseA phaseB : List Nat) (s : State) : modeAfter (execAdjTest phaseA phaseB s) = some s.sys.mode := by
  simp [execAdjTest]

/-! ### The tick -/

@[simp] theorem execPublishDeadline_mode (s : State) : modeAfter (execPublishDeadline s) = some s.sys.mode := by
  simp only [execPublishDeadline, modeAfter_done]
  split <;> simp
@[simp] theorem execDeltaAck_mode (tick : Nat) (digestOk : Bool) (ceiling : Bool) (s : State) :
    modeAfter (execDeltaAck tick digestOk ceiling s) = some s.sys.mode := by
  simp only [execDeltaAck, modeAfter_done]
  rw [State.viaFrame_sys (dropped := id) (fun _ => rfl)]
  intro u
  split
  · split <;> simp
  · split_ifs <;> simp
@[simp] theorem execTableCommit_mode (table : Fin 5) (entries : List (Nat × List Octet)) (commit : Bool) (s : State) :
    modeAfter (execTableCommit table entries commit s) = some s.sys.mode := by
  simp [execTableCommit]
@[simp] theorem execTableExchange_mode (table : Fin 5) (s : State) : modeAfter (execTableExchange table s) = some s.sys.mode := by
  simp [execTableExchange]
@[simp] theorem execXarbClassSet_mode (session : Fin 256) (cls : Fin 4) (s : State) :
    modeAfter (execXarbClassSet session cls s) = some s.sys.mode := by
  simp [execXarbClassSet]
@[simp] theorem execXarbAlarmClr_mode (s : State) : modeAfter (execXarbAlarmClr s) = some s.sys.mode := by
  simp [execXarbAlarmClr]

/-! ### Guests -/

@[simp] theorem execGuestRequest_mode (frame : ChpFrame) (s : State) : modeAfter (execGuestRequest frame s) = some s.sys.mode := by
  simp [execGuestRequest]
@[simp] theorem execGuestAnswer_mode (frame : ChpFrame) (s : State) : modeAfter (execGuestAnswer frame s) = some s.sys.mode := by
  simp [execGuestAnswer]
@[simp] theorem execGuestRelease_mode (frame : ChpFrame) (s : State) : modeAfter (execGuestRelease frame s) = some s.sys.mode := by
  simp [execGuestRelease]
@[simp] theorem execGuestReleaseResend_mode (s : State) : modeAfter (execGuestReleaseResend s) = some s.sys.mode := by
  simp [execGuestReleaseResend]
@[simp] theorem execBackboneAlive_mode (received : Option ChpFrame) (s : State) :
    modeAfter (execBackboneAlive received s) = some s.sys.mode := by
  unfold execBackboneAlive
  split <;> simp
@[simp] theorem execGuestLost_mode (cell : Fin 64) (s : State) : modeAfter (execGuestLost cell s) = some s.sys.mode := by
  simp [execGuestLost]
@[simp] theorem execBackboneRejected_mode (kind : Fin 4) (frame : ChpFrame) (s : State) :
    modeAfter (execBackboneRejected kind frame s) = some s.sys.mode := by
  unfold execBackboneRejected
  split <;> simp

/-! ### The radios -/

@[simp] theorem execBeaconEntry_mode (s : State) : modeAfter (execBeaconEntry s) = some s.sys.mode := by
  simp only [execBeaconEntry, modeAfter_done]
  split <;> simp
@[simp] theorem execStopEntry_mode (s : State) : modeAfter (execStopEntry s) = some s.sys.mode := by
  simp [execStopEntry]
@[simp] theorem execCorrEntry_mode (s : State) : modeAfter (execCorrEntry s) = some s.sys.mode := by
  simp [execCorrEntry]
@[simp] theorem execDownEntry_mode (radio : Fin 2) (s : State) : modeAfter (execDownEntry radio s) = some s.sys.mode := by
  simp only [execDownEntry, modeAfter_done]
  split <;> simp
@[simp] theorem execUpAssignedEntry_mode (s : State) : modeAfter (execUpAssignedEntry s) = some s.sys.mode := by
  simp [execUpAssignedEntry]
@[simp] theorem execUpContentionEntry_mode (radio : Fin 2) (s : State) : modeAfter (execUpContentionEntry radio s) = some s.sys.mode := by
  simp [execUpContentionEntry]
@[simp] theorem execRadioWake_mode (radio : Fin 2) (s : State) : modeAfter (execRadioWake radio s) = some s.sys.mode := by
  simp only [execRadioWake, modeAfter_done]
  (repeat' split) <;> simp
@[simp] theorem execRadioSleep_mode (radio : Fin 2) (s : State) : modeAfter (execRadioSleep radio s) = some s.sys.mode := by
  simp only [execRadioSleep, modeAfter_done]
  (repeat' split) <;> simp
@[simp] theorem execPllUnlock_mode (radio : Fin 2) (s : State) : modeAfter (execPllUnlock radio s) = some s.sys.mode := by
  simp [execPllUnlock]
@[simp] theorem execPaFault_mode (radio detector : Fin 2) (power : BitVec 16) (s : State) :
    modeAfter (execPaFault radio detector power s) = some s.sys.mode := by
  simp [execPaFault]
@[simp] theorem execCeilingAckTimeout_mode (s : State) : modeAfter (execCeilingAckTimeout s) = some s.sys.mode := by
  simp only [execCeilingAckTimeout, modeAfter_done]
  split <;> simp

/-! ### Alignment -/

@[simp] theorem execAuditEvaluate_mode (session : Fin 256) (sats : List SatState) (s : State) :
    modeAfter (execAuditEvaluate session sats s) = some s.sys.mode := by
  simp only [execAuditEvaluate, modeAfter_done]
  split <;> simp
@[simp] theorem execAuditOverdue_mode (session : Fin 256) (s : State) : modeAfter (execAuditOverdue session s) = some s.sys.mode := by
  simp [execAuditOverdue]
@[simp] theorem execAuditSnapshotDiscard_mode (session : Fin 256) (s : State) :
    modeAfter (execAuditSnapshotDiscard session s) = some s.sys.mode := by
  simp only [execAuditSnapshotDiscard, modeAfter_done]
  split <;> simp
@[simp] theorem execEpochFrame_mode (frame : EpochFrame) (s : State) : modeAfter (execEpochFrame frame s) = some s.sys.mode := by
  simp only [execEpochFrame, modeAfter_done]
  rw [State.viaFrame_sys (dropped := id) (fun _ => rfl)]
  intro u
  split
  · rfl
  · split <;> simp

/-! ### The image -/

@[simp] theorem execConfigWrite_mode (frame : ChpFrame) (s : State) : modeAfter (execConfigWrite frame s) = some s.sys.mode := by
  simp [execConfigWrite]
@[simp] theorem execConfigCommit_mode (frame : ChpFrame) (s : State) : modeAfter (execConfigCommit frame s) = some s.sys.mode := by
  simp only [execConfigCommit, modeAfter_done]
  rw [State.chp_sys]
  intro h u
  split <;> simp

/-! ### Metering -/

@[simp] theorem execCalWrite_mode (channel : Fin 38) (half : Fin 2) (value : Word) (s : State) :
    modeAfter (execCalWrite channel half value s) = some s.sys.mode := by
  simp [execCalWrite]
@[simp] theorem execMeterBlock_mode (blocks : List BlockIn) (s : State) : modeAfter (execMeterBlock blocks s) = some s.sys.mode := by
  simp [execMeterBlock]
@[simp] theorem execMeterSecond_mode (s : State) : modeAfter (execMeterSecond s) = some s.sys.mode := by
  simp [execMeterSecond]
@[simp] theorem execMeterCheckpoint_mode (failure : Option (BitVec 8)) (s : State) :
    modeAfter (execMeterCheckpoint failure s) = some s.sys.mode := by
  unfold execMeterCheckpoint
  split <;> simp
@[simp] theorem execBitstreamFault_mode (pair : Fin 8) (s : State) : modeAfter (execBitstreamFault pair s) = some s.sys.mode := by
  simp [execBitstreamFault]
@[simp] theorem execBitstreamRecovered_mode (pair : Fin 8) (s : State) : modeAfter (execBitstreamRecovered pair s) = some s.sys.mode := by
  simp [execBitstreamRecovered]
@[simp] theorem execSnapshotLatch_mode (s : State) : modeAfter (execSnapshotLatch s) = some s.sys.mode := by
  simp [execSnapshotLatch]

/-! ### The uplink -/

@[simp] theorem execFrameReceived_mode (radio : Fin 2) (frame : RxFrame) (s : State) :
    modeAfter (execFrameReceived radio frame s) = some s.sys.mode := by
  simp [execFrameReceived]
@[simp] theorem execReport_mode (s : State) : modeAfter (execReport s) = some s.sys.mode := by
  simp [execReport]
@[simp] theorem execAsk_mode (s : State) : modeAfter (execAsk s) = some s.sys.mode := by
  simp [execAsk]
@[simp] theorem execRoute_mode (s : State) : modeAfter (execRoute s) = some s.sys.mode := by
  simp [execRoute]
@[simp] theorem execAudit_mode (s : State) : modeAfter (execAudit s) = some s.sys.mode := by
  simp [execAudit]
@[simp] theorem execJoin_mode (s : State) : modeAfter (execJoin s) = some s.sys.mode := by
  simp only [execJoin, modeAfter_done]
  rw [State.takeDelivered_sys]
  intro d u
  split <;> simp
@[simp] theorem execAckReceived_mode (radio : Fin 2) (seq : BitVec 8) (s : State) :
    modeAfter (execAckReceived radio seq s) = some s.sys.mode := by
  simp only [execAckReceived, modeAfter_done]
  (repeat' split) <;> simp
@[simp] theorem execSessionSilent_mode (session : Fin 256) (s : State) : modeAfter (execSessionSilent session s) = some s.sys.mode := by
  simp [execSessionSilent]
@[simp] theorem execNodeReport_mode (s : State) : modeAfter (execNodeReport s) = some s.sys.mode := by
  simp [execNodeReport]
@[simp] theorem execNodeContactMissed_mode (node : BitVec 12) (s : State) : modeAfter (execNodeContactMissed node s) = some s.sys.mode := by
  simp [execNodeContactMissed]
@[simp] theorem execNodeDataSend_mode (s : State) : modeAfter (execNodeDataSend s) = some s.sys.mode := by
  simp only [execNodeDataSend, modeAfter_done]
  (repeat' split) <;> simp

/-! ### The pair -/

@[simp] theorem execHealthRefresh_mode (s : State) : modeAfter (execHealthRefresh s) = some s.sys.mode := by
  simp [execHealthRefresh]
@[simp] theorem execHeartbeatSend_mode (s : State) : modeAfter (execHeartbeatSend s) = some s.sys.mode := by
  simp [execHeartbeatSend]
@[simp] theorem execHeartbeatKeepaliveExpiry_mode (s : State) : modeAfter (execHeartbeatKeepaliveExpiry s) = some s.sys.mode := by
  simp [execHeartbeatKeepaliveExpiry]
@[simp] theorem execHeartbeatReceived_mode (beat : Heartbeat) (crcOk : Bool) (received : Nat) (s : State) :
    modeAfter (execHeartbeatReceived beat crcOk received s) = some s.sys.mode := by
  simp [execHeartbeatReceived]
@[simp] theorem execHeartbeatMissed_mode (s : State) : modeAfter (execHeartbeatMissed s) = some s.sys.mode := by
  simp [execHeartbeatMissed]
@[simp] theorem execViaductLinkDown_mode (lanes : Fin 4) (s : State) : modeAfter (execViaductLinkDown lanes s) = some s.sys.mode := by
  simp [execViaductLinkDown]
@[simp] theorem execViaductLinkUp_mode (training : Nat) (s : State) : modeAfter (execViaductLinkUp training s) = some s.sys.mode := by
  simp [execViaductLinkUp]
@[simp] theorem execTickDelta_mode (delta : TickDelta) (s : State) : modeAfter (execTickDelta delta s) = some s.sys.mode := by
  simp [execTickDelta]
@[simp] theorem execResync_mode (tick : Nat) (image : Option Fleet) (s : State) :
    modeAfter (execResync tick image s) = some s.sys.mode := by
  unfold execResync
  split <;> simp
@[simp] theorem execCeiling_mode (key ceiling : Nat) (s : State) : modeAfter (execCeiling key ceiling s) = some s.sys.mode := by
  simp [execCeiling]
@[simp] theorem execRegisterFrame_mode (address : Nat) (value : Word) (second : Nat) (s : State) :
    modeAfter (execRegisterFrame address value second s) = some s.sys.mode := by
  simp [execRegisterFrame]
@[simp] theorem execConfigFrame_mode (partner : Image) (checks : List Nat) (s : State) :
    modeAfter (execConfigFrame partner checks s) = some s.sys.mode := by
  simp [execConfigFrame]

/-! ### The takeover -/

@[simp] theorem execForceOutAssert_mode (s : State) : modeAfter (execForceOutAssert s) = some s.sys.mode := by
  simp [execForceOutAssert]
@[simp] theorem execForceClr_mode (s : State) : modeAfter (execForceClr s) = some s.sys.mode := by
  simp [execForceClr]
@[simp] theorem execHandoverRequest_mode (s : State) : modeAfter (execHandoverRequest s) = some s.sys.mode := by
  simp [execHandoverRequest]
@[simp] theorem execHandoverRetry_mode (s : State) : modeAfter (execHandoverRetry s) = some s.sys.mode := by
  simp only [execHandoverRetry, modeAfter_done]
  split <;> simp
@[simp] theorem execPairCtlHandover_mode (s : State) : modeAfter (execPairCtlHandover s) = some s.sys.mode := by
  simp [execPairCtlHandover]
@[simp] theorem execHandoverGrant_mode (tick : Nat) (s : State) : modeAfter (execHandoverGrant tick s) = some s.sys.mode := by
  simp only [execHandoverGrant, modeAfter_done]
  (repeat' split) <;> simp
@[simp] theorem execHandoverRefused_mode (reason : Fin 3) (s : State) : modeAfter (execHandoverRefused reason s) = some s.sys.mode := by
  simp only [execHandoverRefused, modeAfter_done]
  (repeat' split) <;> simp

/-! ### The update -/

@[simp] theorem execUpdateBegin_mode (frame : ChpFrame) (s : State) : modeAfter (execUpdateBegin frame s) = some s.sys.mode := by
  simp [execUpdateBegin]
@[simp] theorem execUpdateBlock_mode (frame : ChpFrame) (failures : Fin 3) (s : State) :
    modeAfter (execUpdateBlock frame failures s) = some s.sys.mode := by
  simp [execUpdateBlock]
@[simp] theorem execUpdateQuery_mode (frame : ChpFrame) (s : State) : modeAfter (execUpdateQuery frame s) = some s.sys.mode := by
  simp [execUpdateQuery]
@[simp] theorem execUpdateVerify_mode (frame : ChpFrame) (s : State) : modeAfter (execUpdateVerify frame s) = some s.sys.mode := by
  simp [execUpdateVerify]
@[simp] theorem execVerifyComplete_mode (s : State) : modeAfter (execVerifyComplete s) = some s.sys.mode := by
  simp only [execVerifyComplete, modeAfter_done]
  (repeat' split) <;> simp
@[simp] theorem execVerifyRestart_mode (s : State) : modeAfter (execVerifyRestart s) = some s.sys.mode := by
  simp [execVerifyRestart]
@[simp] theorem execTrialConfirm_mode (s : State) : modeAfter (execTrialConfirm s) = some s.sys.mode := by
  simp [execTrialConfirm]
@[simp] theorem execUpdCancel_mode (s : State) : modeAfter (execUpdCancel s) = some s.sys.mode := by
  simp [execUpdCancel]

/-! ### START -/

@[simp] theorem execDegradedSuccessionReset_mode (s : State) : modeAfter (execDegradedSuccessionReset s) = some s.sys.mode := by
  simp only [execDegradedSuccessionReset, modeAfter_done]
  split <;> simp

/-! ### Power -/

@[simp] theorem execResetNReleased_mode (pairSel : Bool) (s : State) : modeAfter (execResetNReleased pairSel s) = some s.sys.mode := by
  simp [execResetNReleased]
@[simp] theorem execPowerFailDetect_mode (blocks : List BlockIn) (s : State) :
    modeAfter (execPowerFailDetect blocks s) = some s.sys.mode := by
  simp [execPowerFailDetect]
@[simp] theorem execOptimeTick_mode (s : State) : modeAfter (execOptimeTick s) = some s.sys.mode := by
  simp [execOptimeTick]
@[simp] theorem execCounterCheckpoint_mode (s : State) : modeAfter (execCounterCheckpoint s) = some s.sys.mode := by
  simp [execCounterCheckpoint]
@[simp] theorem execVbatApplied_mode (s : State) : modeAfter (execVbatApplied s) = some s.sys.mode := by
  simp [execVbatApplied]
@[simp] theorem execTempHigh_mode (temperature : Int) (s : State) : modeAfter (execTempHigh temperature s) = some s.sys.mode := by
  simp [execTempHigh]

/-! ### Diagnostics -/

@[simp] theorem execDiagOpen_mode (frame : ChpFrame) (s : State) : modeAfter (execDiagOpen frame s) = some s.sys.mode := by
  simp only [execDiagOpen, modeAfter_done]
  rw [State.chp_mode]
  intro h u
  split_ifs <;> simp [State.refuse]
@[simp] theorem execDiagClose_mode (frame : ChpFrame) (s : State) : modeAfter (execDiagClose frame s) = some s.sys.mode := by
  simp [execDiagClose]
@[simp] theorem execDiagIdleTimeout_mode (s : State) : modeAfter (execDiagIdleTimeout s) = some s.sys.mode := by
  simp [execDiagIdleTimeout]
@[simp] theorem execInjectResult_mode (s : State) : modeAfter (execInjectResult s) = some s.sys.mode := by
  simp only [execInjectResult, modeAfter_done]
  split <;> simp
@[simp] theorem execInjectionDurationEnd_mode (s : State) : modeAfter (execInjectionDurationEnd s) = some s.sys.mode := by
  simp only [execInjectionDurationEnd, modeAfter_done]
  split <;> simp

/-! ### Hosts -/

@[simp] theorem execStop_mode (frame : ChpFrame) (s : State) : modeAfter (execStop frame s) = some s.sys.mode := by
  simp [execStop]
@[simp] theorem execRelease_mode (frame : ChpFrame) (s : State) : modeAfter (execRelease frame s) = some s.sys.mode := by
  simp [execRelease]
@[simp] theorem execRobotClose_mode (frame : ChpFrame) (s : State) : modeAfter (execRobotClose frame s) = some s.sys.mode := by
  simp [execRobotClose]
@[simp] theorem execForceRelease_mode (frame : ChpFrame) (s : State) : modeAfter (execForceRelease frame s) = some s.sys.mode := by
  simp [execForceRelease]
@[simp] theorem execTaskSubmit_mode (frame : ChpFrame) (s : State) : modeAfter (execTaskSubmit frame s) = some s.sys.mode := by
  simp [execTaskSubmit]
@[simp] theorem execNodeSend_mode (frame : ChpFrame) (s : State) : modeAfter (execNodeSend frame s) = some s.sys.mode := by
  simp [execNodeSend]
@[simp] theorem execNodeLast_mode (frame : ChpFrame) (s : State) : modeAfter (execNodeLast frame s) = some s.sys.mode := by
  simp only [execNodeLast, modeAfter_done]
  rw [State.chp_sys]
  intro h u
  split <;> simp
@[simp] theorem execTimeStep_mode (frame : ChpFrame) (s : State) : modeAfter (execTimeStep frame s) = some s.sys.mode := by
  simp [execTimeStep]

/-! ### Status -/

@[simp] theorem execStatusRead_mode (frame : ChpFrame) (s : State) : modeAfter (execStatusRead frame s) = some s.sys.mode := by
  simp [execStatusRead]
@[simp] theorem execPairWideRegApply_mode (s : State) : modeAfter (execPairWideRegApply s) = some s.sys.mode := by
  simp [execPairWideRegApply]

end Sys2Proof.Machine
end

section
/-! SUPPORT. Steady changes of the mode (Table 2-2): a restart, and the change between LEAD and HOLD. -/

namespace Sys2Proof.Machine

/-- The mode stays, falls back to START, or moves between LEAD and HOLD. -/
def Steady (a b : Mode) : Prop := b = a ∨ b = .start ∨ ((a = .lead ∨ a = .hold) ∧ (b = .lead ∨ b = .hold))

theorem Steady.of_eq {a b : Mode} (h : b = a) : Steady a b := .inl h
theorem Steady.of_start {a b : Mode} (h : b = .start) : Steady a b := .inr (.inl h)
theorem Steady.refl (a : Mode) : Steady a a := .of_eq rfl

theorem Steady.trans {a b c : Mode} (h : Steady a b) (g : Steady b c) : Steady a c := by
  rcases g with rfl | rfl | ⟨hb, hc⟩
  · exact h
  · exact .of_start rfl
  · rcases h with rfl | rfl | ⟨ha, -⟩
    · exact .inr (.inr ⟨hb, hc⟩)
    · simp at hb
    · exact .inr (.inr ⟨ha, hc⟩)

/-- Table 2-2 has every steady change. -/
theorem Steady.transitionOk {a b : Mode} (h : Steady a b) : transitionOk a b = true := by
  rcases h with rfl | rfl | ⟨ha, hb⟩
  · cases b <;> rfl
  · cases a <;> rfl
  · rcases ha with rfl | rfl <;> rfl

theorem Steady.ite {a : Mode} {c : Prop} [Decidable c] {t u : State} (ht : Steady a t.sys.mode) (hu : Steady a u.sys.mode) :
    Steady a (if c then t else u).sys.mode := by
  split
  · exact ht
  · exact hu

/-- What a steady effect comes to after one that keeps the mode. -/
theorem Steady.after {f : State → State} (h : ∀ u, Steady u.sys.mode (f u).sys.mode) {s t : State} (ht : t.sys.mode = s.sys.mode) :
    Steady s.sys.mode (f t).sys.mode := ht ▸ h t

/-- What each element's effect does to the mode steadily, the effect of the whole list does. -/
theorem State.each_steady {α : Type} {f : α → State → State} (h : ∀ a s, Steady s.sys.mode (f a s).sys.mode) (l : List α) (s : State) :
    Steady s.sys.mode (s.each l f).sys.mode :=
  State.each_keeps (fun t => Steady s.sys.mode t.sys.mode) f (fun a t ht => ht.trans (h a t)) l s (.refl _)

@[simp] theorem State.toMode_mode (m : Mode) (trigger : Nat) (s : State) : (s.toMode m trigger).sys.mode = m := by
  simp [State.toMode]

@[simp] theorem State.restart_mode (cause : Nat) (s : State) : (s.restart cause).sys.mode = .start := by simp [State.restart]

theorem State.degradedRestart_steady (s : State) : Steady s.sys.mode s.degradedRestart.sys.mode := by
  unfold State.degradedRestart
  split_ifs with h hm
  · exact .of_start (State.restart_mode ..)
  · exact .of_eq (by simp)
  · exact .of_start (by simp)

/-- A unit that becomes degraded keeps its mode, restarts, or goes from LEAD to HOLD (R23, R39). -/
theorem State.degrade_steady (cause row : Nat) (s : State) : Steady s.sys.mode (s.degrade cause row).sys.mode := by
  unfold State.degrade
  split
  · exact .refl _
  · dsimp only
    generalize hu : State.reportNow 0x000D _ _ = u
    obtain rfl : s.noteDegraded cause row = u := hu
    rw [← State.noteDegraded_mode cause row s]
    generalize s.noteDegraded cause row = u
    split
    · exact .refl _
    · split
      case h_1 | h_2 => exact u.degradedRestart_steady
      case h_3 hm | h_4 hm | h_5 hm =>
        split
        · exact u.degradedRestart_steady
        · simp [hm, Steady]
      case h_6 => exact .refl _

theorem State.freezeResponse_steady (m : Nat) (s : State) : Steady s.sys.mode (s.freezeResponse m).sys.mode := by
  unfold State.freezeResponse
  split_ifs
  · exact State.degrade_steady ..
  · exact State.degrade_steady ..
  · exact .of_eq (by simp)
  · exact .refl _

/-- Freezing a master changes the mode only as becoming degraded does (R21, R23). -/
theorem State.freeze_steady (m : Nat) (secure : Bool) (address : Nat) (cause : FreezeCause) (s : State) :
    Steady s.sys.mode (s.freeze m secure address cause).sys.mode := by
  unfold State.freeze
  split
  · exact .refl _
  · exact Steady.after (State.freezeResponse_steady m) (by simp)

theorem State.eccResponse_steady (site : EccSite) (address : Nat) (s : State) : Steady s.sys.mode (s.eccResponse site address).sys.mode := by
  unfold State.eccResponse
  split
  case h_3 | h_4 | h_5 => exact State.degrade_steady ..
  case h_7 => exact .of_eq (by split <;> simp)
  all_goals exact .of_eq (by simp)

theorem State.eccFail_steady (site : EccSite) (address : Nat) (s : State) : Steady s.sys.mode (s.eccFail site address).sys.mode := by
  unfold State.eccFail
  dsimp only
  exact Steady.after (State.eccResponse_steady site address) (by rw [State.breakHealth_sys, State.reportNow_sys])

theorem State.refFault_steady (deviation : Int) (s : State) : Steady s.sys.mode (s.refFault deviation).sys.mode := by
  unfold State.refFault
  dsimp only
  exact Steady.after (State.degrade_steady 3 0xFF) (by rw [State.breakHealth_sys, State.reportNow_sys])

theorem State.judgeBeacon_steady (start : Nat) (s : State) : Steady s.sys.mode (s.judgeBeacon start).sys.mode := by
  unfold State.judgeBeacon
  dsimp only
  split
  · exact Steady.after (State.degrade_steady 5 0xFF) rfl
  · exact .refl _

theorem State.tamper_steady (sources : BitVec 9) (s : State) : Steady s.sys.mode (s.tamper sources).sys.mode := by
  unfold State.tamper
  dsimp only
  refine .ite (.of_eq rfl) (.ite (.after (State.degrade_steady 4 0xFF) ?_) (.of_eq ?_))
  all_goals rw [State.setCell_sys, State.breakHealth_sys, State.reportNow_sys]; rfl

theorem State.revertTrial_steady (outcome : Nat) (s : State) : Steady s.sys.mode (s.revertTrial outcome).sys.mode := by
  unfold State.revertTrial
  exact .of_start (State.restart_mode ..)

theorem State.keyUpdate_steady (f : ChpFrame) (s : State) : Steady s.sys.mode (s.keyUpdate f).sys.mode := by
  unfold State.keyUpdate
  split
  · refine .of_eq ?_
    dsimp only
    (repeat' split) <;> simp
  · dsimp only
    split
    · exact .of_start (State.restart_mode ..)
    · exact .of_eq (by simp)

theorem State.keyRow_steady (k : Nat) (f : ChpFrame) (s : State) : Steady s.sys.mode (s.keyRow k f).sys.mode := by
  unfold State.keyRow
  split
  · dsimp only
    split
    · exact .of_eq (by simp)
    · exact State.chp_of (P := fun y => Steady s.sys.mode y.mode) (.refl _) (fun n u hu => hu ▸ u.keyUpdate_steady f) ..
  · exact .refl _

/-- What an injection does changes the mode only as what it imitates does (Table 17-6). -/
theorem State.injectAct_steady (d t a : Nat) (secure : Bool) (address : Nat) (s : State) :
    Steady s.sys.mode (s.injectAct d t a secure address).sys.mode := by
  unfold State.injectAct
  split
  case h_1 => split <;> exact .refl _
  case h_2 | h_3 => exact State.freeze_steady ..
  case h_5 => exact State.refFault_steady ..
  case h_7 => exact State.tamper_steady ..
  all_goals exact .refl _

theorem State.inject_steady (secure : Bool) (address : Nat) (s : State) : Steady s.sys.mode (s.inject secure address).sys.mode := by
  unfold State.inject
  dsimp only
  split
  · exact .of_eq (by simp)
  · exact Steady.after (State.injectAct_steady _ _ _ secure address) (by simp)

theorem State.writeDiagCtl_steady (v : Nat) (secure : Bool) (address : Nat) (s : State) :
    Steady s.sys.mode (s.writeDiagCtl v secure address).sys.mode := by
  have h := State.inject_steady secure address { s with diag.lastWrite := s.ns }
  unfold State.writeDiagCtl
  dsimp only
  split_ifs <;> simp [h, Steady.refl]

/-! Register writes of a STATUS_WRITE. -/

theorem writeUpd_steady (w : Writer) (off v : Nat) (s : State) : Steady s.sys.mode (writeUpd w off v s).2.sys.mode := by
  unfold writeUpd
  split
  case h_1 => exact .refl _
  case h_2 =>
    split
    · exact .refl _
    · dsimp only [taken]
      refine .ite (.after (State.revertTrial_steady 4) ?_) (.of_eq ?_)
      all_goals split <;> simp
  case h_3 => exact .of_eq (by simp)

theorem writeDiag_steady (w : Writer) (off v : Nat) (s : State) : Steady s.sys.mode (writeDiag w off v s).2.sys.mode := by
  unfold writeDiag
  split
  case h_4 =>
    split
    · exact .refl _
    · dsimp only [taken]
      split
      · exact Steady.after (State.writeDiagCtl_steady v _ _) rfl
      · exact State.writeDiagCtl_steady ..
  case h_2 | h_3 => split <;> exact .of_eq (by simp)
  all_goals exact .of_eq (by simp)

theorem writeOwn_steady (w : Writer) (block off v : Nat) (s : State) : Steady s.sys.mode (writeOwn w block off v s).2.sys.mode := by
  unfold writeOwn
  split
  case h_14 => exact writeUpd_steady ..
  case h_19 => exact writeDiag_steady ..
  all_goals exact .of_eq (by simp)

theorem State.writeReg_steady (w : Writer) (a v : Nat) (s : State) : Steady s.sys.mode (s.writeReg w a v).2.sys.mode := by
  unfold State.writeReg
  split_ifs
  · exact .refl _
  · exact .refl _
  · exact .of_eq (by simp)
  · exact .refl _
  · exact writeOwn_steady ..

theorem State.writeGo_steady (f : ChpFrame) : ∀ (i : Nat) (l : List (Nat × Nat)) (s : State),
    Steady s.sys.mode (State.writeGo f i l s).2.sys.mode
  | _, [], _ => .refl _
  | i, (a, v) :: l, s => by
    unfold State.writeGo
    split
    · exact .refl _
    · dsimp only
      split
      · exact (State.writeReg_steady ..).trans (State.writeGo_steady f (i + 1) l _)
      · exact State.writeReg_steady ..

/-! One arbitration tick. -/

theorem State.holdOrLead_steady (s : State) : Steady s.sys.mode s.holdOrLead.sys.mode := by
  unfold State.holdOrLead
  split_ifs with hlead hhold
  · simp [hlead.1, Steady]
  · simp [hhold.1, Steady]
  · exact .refl _

@[simp] theorem State.takeSnapshot_sys (tick : Nat) (s : State) : (s.takeSnapshot tick).sys = s.sys :=
  (State.sys_of_besideTick (State.takeSnapshot_besideTick tick s)).trans rfl

@[simp] theorem State.runStages_sys (tick : Nat) (s : State) : (s.runStages tick).sys = s.sys :=
  State.sys_of_besideTick (State.runStages_besideTick tick s)

/-- A tick moves the mode between LEAD and HOLD only (R328). -/
theorem State.runTick_steady (tick : Nat) (s : State) : Steady s.sys.mode (s.runTick tick).sys.mode := by
  rw [State.runTick_eq]
  dsimp only
  rw [State.runStages_sys, ← State.takeSnapshot_sys tick s]
  exact State.holdOrLead_steady _

theorem State.runMissed_steady (tick : Nat) (s : State) : Steady s.sys.mode (s.runMissed tick).sys.mode := by
  unfold State.runMissed
  dsimp only
  rw [State.publishTick_sys, State.commitTick_sys]
  exact Steady.after (State.runTick_steady tick) rfl

theorem State.runMissedAll_steady (s : State) : Steady s.sys.mode s.runMissedAll.sys.mode := by
  have hall : ∀ (l : List Nat) (u : State),
      Steady u.sys.mode (l.foldl (fun s i => State.runMissed (s.pair.ackTick + 1 + i) s) u).sys.mode := by
    intro l
    induction l with
    | nil => exact fun u => .refl _
    | cons i l ih =>
      intro u
      rw [List.foldl_cons]
      exact (State.runMissed_steady _ u).trans (ih _)
  unfold State.runMissedAll
  split
  · exact Steady.after (hall _) rfl
  · exact .refl _

theorem State.openTick_steady (s : State) : Steady s.sys.mode s.openTick.sys.mode := by
  unfold State.openTick
  rw [← State.epochPast_sys s]
  split
  · exact (State.runMissedAll_steady _).trans (State.runTick_steady ..)
  · exact .refl _

end Sys2Proof.Machine
end

section
/-! SUPPORT. The commands whose change of the mode Table 2-2 admits (R35, R36). -/

namespace Sys2Proof.Machine

/-- The command answers a next state whose mode Table 2-2 admits. -/
def Admitted (s : State) (o : Host.Outcome State Fault Refusal) : Prop := ∃ m, modeAfter o = some m ∧ transitionOk s.sys.mode m = true

theorem Admitted.of_done {f : State → State} {s : State} (h : transitionOk s.sys.mode (f { s with out := [] }).sys.mode = true) :
    Admitted s (done f s) := ⟨_, modeAfter_done f s, h⟩

/-- So does a steady effect. -/
theorem Admitted.of_steady {f : State → State} (h : ∀ u, Steady u.sys.mode (f u).sys.mode) (s : State) : Admitted s (done f s) :=
  .of_done (h { s with out := [] }).transitionOk

theorem Admitted.of_mode {s : State} {o : Host.Outcome State Fault Refusal} (h : modeAfter o = some s.sys.mode) : Admitted s o :=
  ⟨_, h, (Steady.refl _).transitionOk⟩

/-! Restarts, frozen masters, memory errors, tamper, trials, ticks: steady. -/

theorem State.resetLow_steady (s : State) : Steady s.sys.mode s.resetLow.sys.mode := by
  unfold State.resetLow
  dsimp only
  exact .ite (.refl _) (.ite (.refl _) (.of_start (State.enterStart_mode ..)))

theorem execPowerOn_admitted (p : Bool) (s : State) : Admitted s (execPowerOn p s) :=
  .of_steady (fun _ => .ite (.refl _) (.of_start (State.enterStart_mode ..))) s

theorem execStartTimeout_admitted (s : State) : Admitted s (execStartTimeout s) :=
  .of_steady (fun u => .ite (.refl _) (.of_start (by simp))) s

theorem execFirmwareWatchdog_admitted (s : State) : Admitted s (execFirmwareWatchdog s) :=
  .of_steady (fun _ => .ite (.of_start (State.enterStart_mode ..)) (.refl _)) s

theorem execSaveEnd_admitted (s : State) : Admitted s (execSaveEnd s) :=
  .of_steady (fun u => .ite (.refl _) (by
    cases hd : u.sys.resetDue
    · exact .of_eq (by simp)
    · exact .of_start (State.enterStart_mode ..))) s

theorem execPowerRestored_admitted (s : State) : Admitted s (execPowerRestored s) := by
  apply Admitted.of_steady
  intro u
  dsimp only
  refine .ite (.refl _) (.ite (.ite ?_ ?_) ?_)
  all_goals exact .of_start (State.enterStart_mode ..)

theorem execBankOverstay_admitted (m : Fin 13) (w : Bool) (a : Nat) (s : State) : Admitted s (execBankOverstay m w a s) := by
  apply Admitted.of_steady
  intro u
  exact .after (t := u.atLeast (u.tres.holdEnd m.val)) (State.freeze_steady m.val (worldOf m.val w) a .overstay) rfl

theorem execWorldWindowViolation_admitted (m : Fin 13) (w : Bool) (r : Fin 3) (a : Nat) (s : State) :
    Admitted s (execWorldWindowViolation m w r a s) := by
  apply Admitted.of_steady
  intro u
  refine .ite (.refl _) (.after (State.freeze_steady m.val (worldOf m.val w) a .window) ?_)
  rw [State.when_sys (State.send_sys _)]

theorem execScrubAccess_admitted (scrubber : Bool) (site : EccSite) (finding : EccFinding) (address : Nat) (s : State) :
    Admitted s (execScrubAccess scrubber site finding address s) := by
  apply Admitted.of_steady
  intro u
  refine .ite (.refl _) ?_
  dsimp only
  split
  · exact .of_eq (by simp)
  · exact .ite (.of_eq (by simp)) (.of_eq (by simp))
  · exact .ite (.of_eq (by simp)) (.after (State.eccFail_steady site address) (by simp))

theorem execArbitrationTick_admitted (s : State) : Admitted s (execArbitrationTick s) := by
  apply Admitted.of_steady
  intro u
  have hm : (u.publishLate.mark markTick (10 * perMs)).sys.mode = u.sys.mode := by rw [State.mark_sys, State.publishLate_sys]
  dsimp only
  generalize u.publishLate.mark markTick (10 * perMs) = v at hm ⊢
  exact .ite (.refl _) (.after (t := v) State.openTick_steady hm)

theorem execRefFault_admitted (d : Int) (s : State) : Admitted s (execRefFault d s) :=
  .of_steady (fun _ => .ite (State.refFault_steady ..) (.refl _)) s

theorem execBeaconStartTimeout_admitted (s : State) : Admitted s (execBeaconStartTimeout s) := by
  apply Admitted.of_steady
  intro u
  dsimp only
  refine .ite (.refl _) ?_
  split
  · refine .after (State.judgeBeacon_steady _) ?_
    rw [State.reach_sys]
  · exact .refl _

theorem execClaimConflict_admitted (s : State) : Admitted s (execClaimConflict s) := by
  apply Admitted.of_steady
  intro u
  refine .ite (.refl _) ?_
  dsimp only
  exact .ite (.after State.degradedRestart_steady (by simp)) (.of_eq (by simp))

theorem execForceInAsserted_admitted (s : State) : Admitted s (execForceInAsserted s) := by
  apply Admitted.of_steady
  intro u
  dsimp only
  refine .ite (.refl _) (.ite (.of_eq (by simp)) (.ite (.refl _) ?_))
  exact .ite (.of_eq (by simp)) (.after State.degradedRestart_steady (by simp))

theorem execCryptoJob_admitted (m : Fin 13) (w : Bool) (k : Fin 67) (op : Fin 5) (s : State) : Admitted s (execCryptoJob m w k op s) := by
  apply Admitted.of_steady
  intro u
  refine .ite (.refl _) ?_
  dsimp only
  exact .ite (.of_eq (by simp)) (.after (State.freeze_steady _ _ 0 .window) (by simp))

theorem execTamper_admitted (sources : BitVec 9) (s : State) : Admitted s (execTamper sources s) := by
  apply Admitted.of_steady
  intro u
  dsimp only
  exact .ite (.refl _) (State.tamper_steady ..)

theorem execTrialExpired_admitted (s : State) : Admitted s (execTrialExpired s) := by
  apply Admitted.of_steady
  intro u
  dsimp only
  exact .ite (.refl _) (.ite (.of_eq rfl) (.after (State.revertTrial_steady 2) rfl))

theorem execUpdRevert_admitted (s : State) : Admitted s (execUpdRevert s) :=
  .of_steady (fun _ => .ite (State.revertTrial_steady ..) (.refl _)) s

theorem execDiagInject_admitted (k : Fin 8) (w : Bool) (a : Nat) (s : State) : Admitted s (execDiagInject k w a s) :=
  .of_steady (fun _ => .ite (.refl _) (State.writeDiagCtl_steady ..)) s

theorem execDiagCancel_admitted (k : Fin 8) (s : State) : Admitted s (execDiagCancel k s) :=
  .of_steady (fun _ => .ite (State.writeDiagCtl_steady ..) (.refl _)) s

theorem execStatusWrite_admitted (f : ChpFrame) (s : State) : Admitted s (execStatusWrite f s) := by
  apply Admitted.of_steady
  intro u
  refine State.chp_of (P := fun y => Steady u.sys.mode y.mode) (.refl _) (fun n v hv => ?_) ..
  dsimp only
  rw [State.finish_sys, ← hv]
  exact State.writeGo_steady ..

theorem execRestart_admitted (f : ChpFrame) (s : State) : Admitted s (execRestart f s) := by
  apply Admitted.of_steady
  intro u
  exact State.chp_of (P := fun y => Steady u.sys.mode y.mode) (.refl _) (fun n v _ => .of_start (State.restart_mode ..)) ..

/-! VDD_CORE below its level: DORMANT. -/

theorem transitionOk_dormant (a : Mode) : transitionOk a .dormant = true := by cases a <;> rfl
theorem transitionOk_start (a : Mode) : transitionOk a .start = true := by cases a <;> rfl

theorem execVddCorePor_admitted (areas : Fin 8) (s : State) : Admitted s (execVddCorePor areas s) := by
  apply Admitted.of_done
  dsimp only
  split
  · exact (Steady.refl _).transitionOk
  · exact transitionOk_dormant _

theorem transitionOk_refl (a : Mode) : transitionOk a a = true := (Steady.refl a).transitionOk

/-- A unit out of DORMANT may enter every mode but LEAD. -/
theorem transitionOk_of_ne {a b : Mode} (ha : a ≠ .dormant) (hb : b ≠ .lead) : transitionOk a b = true := by
  cases a <;> simp_all [transitionOk]

theorem transitionOk_ite {a : Mode} {c : Prop} [Decidable c] {t u : State} (ht : c → transitionOk a t.sys.mode = true)
    (hu : ¬ c → transitionOk a u.sys.mode = true) : transitionOk a (if c then t else u).sys.mode = true := by
  split
  · exact ht ‹_›
  · exact hu ‹_›

@[simp] theorem State.powered_iff (s : State) : s.powered = true ↔ s.sys.mode ≠ .dormant := decide_eq_true_iff

/-- What an effect does to a powered unit, it does after one that keeps the mode. -/
theorem transitionOk_after {f : State → State} (h : ∀ u, u.sys.mode ≠ .dormant → transitionOk u.sys.mode (f u).sys.mode = true) {s t : State}
    (ht : t.sys.mode = s.sys.mode) (hs : s.sys.mode ≠ .dormant) : transitionOk s.sys.mode (f t).sys.mode = true := by
  rw [← ht] at hs ⊢
  exact h t hs

theorem State.mode_ne_dormant_of_isLead {s : State} (h : s.isLead = true) : s.sys.mode ≠ .dormant := by
  intro hm
  simp [State.isLead, hm] at h

theorem execResetNAsserted_admitted (s : State) : Admitted s (execResetNAsserted s) :=
  .of_steady (fun u => u.resetLow_steady) s

theorem execRailMonitorTrip_admitted (s : State) : Admitted s (execRailMonitorTrip s) :=
  .of_steady (fun u => u.resetLow_steady) s

theorem keyRow_admitted (k : Nat) (f : ChpFrame) (s : State) : Admitted s (done (State.keyRow k f) s) :=
  .of_steady (fun u => u.keyRow_steady k f) s

/-! The claim: its mode changes (Table 2-2, R42). -/

theorem State.serveStart_mode (s : State) : s.serveStart.sys.mode = .survey ∨ s.serveStart.sys.mode = .hold := by
  unfold State.serveStart
  split
  · exact .inl (by simp)
  · exact .inr (by simp)

/-- A powered unit that asserts CLAIM_OUT serves from SURVEY or HOLD; only one in SHADOW can come to LEAD (R42, R346). -/
theorem State.assertClaim_admitted (t : TakeIn) {s : State} (hs : s.sys.mode ≠ .dormant) :
    transitionOk s.sys.mode (s.assertClaim t).sys.mode = true := by
  unfold State.assertClaim
  split_ifs with hk hm
  · rcases State.serveStart_mode { s with pair.claim := true, pair.seeking := 0, pair.decided := none } with h | h <;>
      exact transitionOk_of_ne hs (by simp [h])
  · rw [hm]
    rfl
  · exact transitionOk_refl _

theorem State.decideClaim_admitted (t : TakeIn) {a : Mode} {s : State} (ha : s.sys.mode = a) :
    transitionOk a (s.decideClaim t).sys.mode = true := by
  subst ha
  unfold State.decideClaim
  split_ifs with hg hp
  · exact transitionOk_refl _
  · simp [transitionOk_refl]
  have hs : s.sys.mode ≠ .dormant := by simp_all
  dsimp only
  refine transitionOk_ite (fun _ => by simp [transitionOk_refl]) (fun _ => ?_)
  exact transitionOk_after (f := State.assertClaim t) (fun u hu => State.assertClaim_admitted t hu) (by simp) hs

@[simp] theorem State.enterShadow_mode (s : State) : s.enterShadow.sys.mode = .shadow := by simp [State.enterShadow]

theorem State.decide42_admitted {s : State} (hs : s.sys.mode ≠ .dormant) : transitionOk s.sys.mode s.decide42.sys.mode = true := by
  unfold State.decide42
  dsimp only
  split_ifs
  · exact transitionOk_of_ne hs (by simp)
  · simp [transitionOk_refl]
  · exact transitionOk_refl _
  · simp [transitionOk_refl]
  · exact State.decideClaim_admitted _ rfl

theorem execViaductWaitRetry_admitted (p : Option Image) (cs : List Nat) (v : Nat) (s : State) :
    Admitted s (execViaductWaitRetry p cs v s) := by
  apply Admitted.of_done
  generalize hs : ({ s with out := [] } : State) = u
  obtain hm : u.sys.mode = s.sys.mode := by rw [← hs]
  rw [← hm]
  dsimp only
  split_ifs with hg hp hv hv
  · exact transitionOk_refl _
  all_goals have hu : u.sys.mode ≠ .dormant := fun h => by simp [h] at hg
  · exact transitionOk_after (f := State.decide42) (fun _ => State.decide42_admitted) rfl hu
  · exact transitionOk_refl _
  · exact State.decide42_admitted hu
  · exact transitionOk_refl _

theorem execPairMismatchRecheck_admitted (p : Option Image) (cs : List Nat) (v : Nat) (s : State) :
    Admitted s (execPairMismatchRecheck p cs v s) := by
  apply Admitted.of_done
  refine transitionOk_ite (fun _ => transitionOk_refl _) (fun hg => ?_)
  refine transitionOk_ite (fun _ => ?_) (fun _ => transitionOk_refl _)
  exact transitionOk_of_ne (fun h => by simp [h] at hg) (by simp)

theorem execClaimDecision_admitted (t : TakeIn) (s : State) : Admitted s (execClaimDecision t s) :=
  .of_done (State.decideClaim_admitted t rfl)

theorem execClaimBRecheck_admitted (r : Bool) (t : TakeIn) (s : State) : Admitted s (execClaimBRecheck r t s) := by
  apply Admitted.of_done
  dsimp only
  split
  · split_ifs with hg
    · exact transitionOk_refl _
    · exact transitionOk_after (f := State.assertClaim t) (fun _ => State.assertClaim_admitted t) (by simp) (by simp_all)
    · simp [transitionOk_refl]
  · exact transitionOk_refl _

theorem State.loseLead_admitted (k : Nat) (t : TakeIn) {a : Mode} {s : State} (ha : s.sys.mode = a) :
    transitionOk a (s.loseLead k t).sys.mode = true :=
  State.decideClaim_admitted t ha

theorem State.handOver_mode (tick : Nat) (s : State) : (s.handOver tick).sys.mode = .shadow := by simp [State.handOver]

theorem execSwapInstant_admitted (t : TakeIn) (s : State) : Admitted s (execSwapInstant t s) := by
  apply Admitted.of_done
  dsimp only
  split
  · rename_i tick at_ _
    refine transitionOk_ite (fun _ => transitionOk_refl _) (fun _ => ?_)
    generalize hu : ({ s with out := [] } : State).reach at_ = u
    obtain hm : u.sys.mode = s.sys.mode := by rw [← hu, State.reach_sys]
    rw [← hm]
    split_ifs with hl
    · exact transitionOk_of_ne (State.mode_ne_dormant_of_isLead hl) (by simp [State.handOver_mode])
    · exact State.loseLead_admitted _ t rfl
    · exact transitionOk_refl _
  · exact transitionOk_refl _

theorem execClaimInReleased_admitted (t : TakeIn) (s : State) : Admitted s (execClaimInReleased t s) := by
  apply Admitted.of_done
  refine transitionOk_ite (fun _ => transitionOk_refl _) (fun _ => ?_)
  refine transitionOk_ite (fun _ => State.loseLead_admitted _ t rfl) (fun _ => ?_)
  exact transitionOk_ite (fun _ => by rw [State.recordMismatch_sys]; exact transitionOk_refl _) (fun _ => transitionOk_refl _)

theorem execBeaconWatch_admitted (heard : Bool) (r : Option Nat) (t : TakeIn) (s : State) : Admitted s (execBeaconWatch heard r t s) := by
  apply Admitted.of_done
  dsimp only
  split
  · exact transitionOk_refl _
  rename_i hg
  have hm : s.sys.mode = .shadow := by simp_all
  rw [hm]
  rfl

/-! START: its steps keep the mode; its end leaves START for SURVEY, HOLD or SHADOW at most. -/

/-- What is steady leaves a unit in START there. -/
theorem Steady.start {a b : Mode} (ha : a = .start) (h : Steady a b) : b = .start := by
  rcases h with rfl | rfl | ⟨h | h, -⟩ <;> simp_all

theorem State.startTests_mode (i : StartIn) {s : State} (hs : s.sys.mode = .start) : (s.startTests i).sys.mode = .start := by
  unfold State.startTests
  dsimp only
  split
  · simpa using hs
  · refine Steady.start ?_ (State.degrade_steady 2 0xFF _)
    simpa using hs

theorem State.endTampered_admitted {s : State} (hs : s.sys.mode ≠ .dormant) : transitionOk s.sys.mode s.endTampered.sys.mode = true := by
  unfold State.endTampered
  dsimp only
  split_ifs
  · exact transitionOk_of_ne hs (by simp)
  · exact State.decideClaim_admitted _ (by simp)
/-- The last step of START ends in START, SURVEY, HOLD or SHADOW. -/
theorem State.startEnd_admitted (i : StartIn) {s : State} (hs : s.sys.mode = .start) : transitionOk .start (s.startEnd i).sys.mode = true := by
  have hw : ((s.atLeast (s.sys.startT0 + 1000000 * i.duration)).whenReady domGnss).sys.mode = .start := by simpa using hs
  unfold State.startEnd
  generalize (s.atLeast (s.sys.startT0 + 1000000 * i.duration)).whenReady domGnss = u at hw ⊢
  refine transitionOk_ite (fun _ => ?_) (fun _ => ?_)
  · simp only [State.startComplete_sys, hw]
    rfl
  generalize hv : State.lumStart _ = v
  have hm : v.sys.mode = .start := by simpa [← hv] using hw
  have hd : v.sys.mode ≠ .dormant := by simp [hm]
  rw [← hm]
  refine transitionOk_ite (fun _ => ?_) (fun _ => transitionOk_ite (fun _ => ?_) (fun _ => ?_))
  · exact transitionOk_after (f := State.endTampered) (fun _ => State.endTampered_admitted) (by simp) hd
  · simpa using State.decide42_admitted hd
  · exact transitionOk_after (f := State.decide42) (fun _ => State.decide42_admitted) (by simp) hd

theorem State.runStep_mode {i : StartIn} {k : Nat} {f : State → State} {s : State} (hf : ∀ u, u.sys.mode = .start → (f u).sys.mode = .start)
    (hs : s.sys.mode = .start) : (s.runStep i k f).sys.mode = .start := by
  unfold State.runStep
  split
  · exact hs
  · exact hf _ hs

theorem State.runStart_admitted (i : StartIn) {s : State} (hs : s.sys.mode = .start) : transitionOk .start (s.runStart i).sys.mode = true := by
  unfold State.runStart
  generalize hu : State.runStep i 10 _ _ = u
  have hm : u.sys.mode = .start := by
    rw [← hu]
    refine State.runStep_mode (fun _ => State.startTests_mode i) ?_
    iterate 8 refine State.runStep_mode (fun _ h => by simpa using h) ?_
    exact State.runStep_mode (fun _ h => h) (State.runStep_mode (fun _ h => h) hs)
  unfold State.runStep
  refine transitionOk_ite (fun _ => ?_) (fun _ => State.startEnd_admitted i hm)
  rw [hm]
  rfl

theorem execStart_admitted (i : StartIn) (s : State) : Admitted s (execStart i s) := by
  apply Admitted.of_done
  refine transitionOk_ite (fun hg => ?_) (fun _ => transitionOk_refl _)
  obtain ⟨hm, -⟩ := hg
  change s.sys.mode = .start at hm
  rw [hm]
  exact State.runStart_admitted i hm

theorem State.settle_mode (source : Nat) (p : Int × Int × Int) (h v : Nat) (keep : Bool) (s : State) :
    (s.settle source p h v keep).sys.mode = .hold := by
  simp [State.settle]

theorem State.judgeCheck_mode (mean : Int × Int × Int) (s : State) :
    (s.judgeCheck mean).sys.mode = .hold ∨ (s.judgeCheck mean).sys.mode = s.sys.mode := by
  unfold State.judgeCheck
  dsimp only
  split
  · exact .inl (State.settle_mode ..)
  · exact .inr (by simp)

/-- A survey that ends leaves SURVEY for HOLD (Table 2-2). -/
theorem State.surveySecond_mode (p : Int × Int × Int) (s : State) :
    (s.surveySecond p).sys.mode = .hold ∨ (s.surveySecond p).sys.mode = s.sys.mode := by
  unfold State.surveySecond
  extract_lets v n sum blk full blocks mean spread k v2 m u d
  clear_value spread mean
  split
  · split
    · exact State.judgeCheck_mode mean u
    · exact .inr rfl
  · split
    · exact .inl (State.settle_mode ..)
    · exact .inr rfl

theorem State.fixSecond_admitted (p : Option (Int × Int × Int)) {a : Mode} {s : State} (ha : s.sys.mode = a) :
    transitionOk a (s.fixSecond p).sys.mode = true := by
  unfold State.fixSecond
  split
  · rw [ha]; exact transitionOk_refl _
  subst ha
  cases hm : s.sys.mode
  case survey =>
    cases p with
    | none => dsimp only; rw [hm]; rfl
    | some x =>
      refine transitionOk_ite (fun _ => by rw [hm]; rfl) (fun _ => ?_)
      rcases s.surveySecond_mode x with h | h
      · rw [h]; rfl
      · rw [h, hm]; rfl
  case lead => rfl
  case hold => rfl
  all_goals
    dsimp only
    rw [hm]
    rfl

theorem execEpochLatch_admitted (sky : EpochIn) (s : State) : Admitted s (execEpochLatch sky s) := by
  apply Admitted.of_done
  generalize hu : ({ s with out := [] } : State) = u
  have hm : u.sys.mode = s.sys.mode := by rw [← hu]
  rw [← hm]
  refine transitionOk_ite (fun _ => transitionOk_refl _) (fun _ => ?_)
  refine transitionOk_ite (fun _ => State.fixSecond_admitted _ ?_) (fun _ => ?_)
  · simp
  · simp [transitionOk_refl]

/-- Every command changes the mode by a transition of Table 2-2 at most: the commands named here can change it, each other keeps it. -/
theorem exec_admitted (c : Instr) (s : State) : Admitted s (exec c s) := by
  cases c with
  | powerOn pairSel => exact execPowerOn_admitted pairSel s
  | resetNAsserted => exact execResetNAsserted_admitted s
  | vddCorePor areas => exact execVddCorePor_admitted areas s
  | railMonitorTrip => exact execRailMonitorTrip_admitted s
  | start input => exact execStart_admitted input s
  | startTimeout => exact execStartTimeout_admitted s
  | firmwareWatchdog => exact execFirmwareWatchdog_admitted s
  | viaductWaitRetry partner checks protocol => exact execViaductWaitRetry_admitted partner checks protocol s
  | pairMismatchRecheck partner checks protocol => exact execPairMismatchRecheck_admitted partner checks protocol s
  | saveEnd => exact execSaveEnd_admitted s
  | powerRestored => exact execPowerRestored_admitted s
  | bankOverstay master secure address => exact execBankOverstay_admitted master secure address s
  | worldWindowViolation master secure access address => exact execWorldWindowViolation_admitted master secure access address s
  | scrubAccess scrubber site finding address => exact execScrubAccess_admitted scrubber site finding address s
  | arbitrationTick => exact execArbitrationTick_admitted s
  | epochLatch sky => exact execEpochLatch_admitted sky s
  | refFault deviation => exact execRefFault_admitted deviation s
  | beaconStartTimeout => exact execBeaconStartTimeout_admitted s
  | claimDecision take => exact execClaimDecision_admitted take s
  | claimBRecheck released take => exact execClaimBRecheck_admitted released take s
  | claimConflict => exact execClaimConflict_admitted s
  | forceInAsserted => exact execForceInAsserted_admitted s
  | swapInstant take => exact execSwapInstant_admitted take s
  | claimInReleased take => exact execClaimInReleased_admitted take s
  | beaconWatch heard released take => exact execBeaconWatch_admitted heard released take s
  | cryptoJob master secure key op => exact execCryptoJob_admitted master secure key op s
  | keyUpdateAuthority frame => exact keyRow_admitted _ frame s
  | keyUpdateWrite frame => exact keyRow_admitted _ frame s
  | keyUpdateErase frame => exact keyRow_admitted _ frame s
  | keyUpdateEpochSwitch frame => exact keyRow_admitted _ frame s
  | keyUpdateConfigKey frame => exact keyRow_admitted _ frame s
  | keyUpdateConfigRevoke frame => exact keyRow_admitted _ frame s
  | keyUpdateLifecycle frame => exact keyRow_admitted _ frame s
  | keyUpdateFloor frame => exact keyRow_admitted _ frame s
  | tamper sources => exact execTamper_admitted sources s
  | trialExpired => exact execTrialExpired_admitted s
  | updRevert => exact execUpdRevert_admitted s
  | diagInject writer secure address => exact execDiagInject_admitted writer secure address s
  | diagCancel writer => exact execDiagCancel_admitted writer s
  | statusWrite frame => exact execStatusWrite_admitted frame s
  | restart frame => exact execRestart_admitted frame s
  | _ => exact Admitted.of_mode (by simp [exec])

@[simp] theorem State.idle_mode (s : State) : s.idle.sys.mode = s.sys.mode := by
  unfold State.idle
  split
  · rfl
  all_goals split <;> rfl

/-- Settles O10: every command's effect on the mode is one of Table 2-2, and an idle step keeps the mode. -/
theorem modesFollowTheTable : Obligations.ModesFollowTheTable := by
  unfold Obligations.ModesFollowTheTable
  intro s t h
  unfold step at h
  split at h
  · obtain rfl := Host.Outcome.next.inj h
    simp [transitionOk_refl]
  · obtain ⟨m, hm, ht⟩ := exec_admitted _ _
    rw [h] at hm
    cases hm
    exact ht

end Sys2Proof.Machine
end

section
/-! SUPPORT. The first event of an entry to START (R44, R453), and the restarts of Table 2-5. -/

namespace Sys2Proof.Machine

/-- Nothing goes before a first entry of block 0 in the FIFO (R453). -/
theorem head?_joinFifo {a : Entry} {fifo : List Entry} (e : Entry) (ha : a.code.toNat / 256 = 0) (h : fifo.head? = some a) :
    (joinFifo e fifo).head? = some a := by
  obtain ⟨l, rfl⟩ := List.head?_eq_some_iff.mp h
  have hn : entriesAfter e (a :: l) ≤ l.length := by
    unfold entriesAfter
    rw [List.reverse_cons, List.takeWhile_append]
    split
    · simp [ha]
    · exact (List.takeWhile_prefix _).length_le.trans (by simp)
  obtain ⟨k, hk⟩ : ∃ k, (a :: l).length - entriesAfter e (a :: l) = k + 1 := ⟨l.length - entriesAfter e (a :: l), by simp; omega⟩
  rw [joinFifo, hk]
  rfl

theorem State.intake_head? {a : Entry} {s : State} (code : Nat) (data : List Octet) (ha : a.code.toNat / 256 = 0)
    (h : s.rcd.fifo.head? = some a) : (s.intake code data).rcd.fifo.head? = some a := by
  unfold State.intake
  split
  · exact h
  dsimp only
  split
  · exact h
  split
  · exact h
  · exact head?_joinFifo _ ha h

theorem ofNat_sbits (n v : Nat) : BitVec.ofNat n (sbits n v) = BitVec.ofNat n v := by
  apply BitVec.eq_of_toNat_eq
  have hv : ((v : Int) % ((2 ^ n : Nat) : Int)).toNat = v % 2 ^ n := by
    rw [← Int.natCast_emod, Int.toNat_natCast]
  rw [sbits, hv, BitVec.toNat_ofNat, BitVec.toNat_ofNat, Nat.mod_mod]

/-- A new START's MODE_CHANGE is the first event of its recorder. -/
theorem State.setMode_start_head? (trigger : Nat) {s : State} (h : s.rcd = {}) :
    (s.setMode .start trigger).rcd.fifo.head?.map (fun (e : Entry) => (e.code, e.data.take 3)) =
      some (0x0001#16, [BitVec.ofNat 8 s.sys.mode.code, 1#8, BitVec.ofNat 8 trigger]) := by
  simp [State.setMode, State.report, State.intake, h, State.powered, Tab.get, joinFifo, entriesAfter, State.entry, itemOctets, padTo, leBytes,
    ofNat_sbits]
  rfl

theorem State.each_report_head? {α : Type} {a : Entry} (code : Nat) (data : α → List (Nat × Int)) (l : List α) {s : State}
    (ha : a.code.toNat / 256 = 0) (h : s.rcd.fifo.head? = some a) :
    (s.each l (fun x s => s.report code (data x))).rcd.fifo.head? = some a :=
  State.each_keeps (fun t => t.rcd.fifo.head? = some a) _ (fun _ _ ht => State.intake_head? _ _ ha ht) l s h

/-- An entry to START: the first event waiting is MODE_CHANGE with the old mode, the code of START and the trigger (R44). -/
theorem State.enterStart_head? (c trigger : Nat) (s : State) :
    (s.enterStart c trigger).rcd.fifo.head?.map (fun (e : Entry) => (e.code, e.data.take 3)) =
      some (0x0001#16, [BitVec.ofNat 8 s.sys.mode.code, 1#8, BitVec.ofNat 8 trigger]) := by
  simp only [State.enterStart]
  generalize hs : (if (s.diag.active.elim true Injection.outlives) = true then s else s.cancelInjection) = u
  have hu : u.sys = s.sys := by
    rw [← hs]
    split
    · rfl
    · exact State.cancelInjection_sys s
  generalize hm : State.setMode .start trigger _ = m
  have hhead : m.rcd.fifo.head?.map (fun (e : Entry) => (e.code, e.data.take 3)) =
      some (0x0001#16, [BitVec.ofNat 8 s.sys.mode.code, 1#8, BitVec.ofNat 8 trigger]) := by
    rw [← hm, State.setMode_start_head? trigger rfl]
    simp [State.fresh, hu]
  obtain ⟨e, he, hcode⟩ := Option.map_eq_some_iff.mp hhead
  have hblock : e.code.toNat / 256 = 0 := by
    rw [(Prod.mk.inj hcode).1]
    rfl
  have hlast := State.each_report_head? 0x1102 (fun (h : Nat) => [(1, (h : Int)), (1, 3)])
    ((s.host.sessions.filter (fun (h : HostSess) => h.inUse && h.authed)).map (·.host)) hblock
    (State.each_report_head? 0x0507 (fun (t : TimeStep) => [(4, ssat 32 t.amount), (1, Mode.start.code)])
      (if s.isLead then s.time.step.toList else []) hblock he)
  split
  · rw [State.report, State.intake_head? _ _ hblock hlast]
    exact congrArg some hcode
  · rw [hlast]
    exact congrArg some hcode

/-- A restart of Table 2-5: it is counted and recorded, and the claim is released. -/
theorem restarted_enterStart {cause : Nat} (trigger : Nat) (s : State) (hc : cause ≠ 1) :
    restarted cause trigger s (s.enterStart cause trigger) := by
  refine ⟨?_, ?_, ?_, ?_, ?_, ?_, ⟨?_, ?_, ?_, ?_, ?_, ?_, ?_, ?_, ?_⟩, State.enterStart_head? ..⟩ <;> simp [hc]

end Sys2Proof.Machine
end

section
/-! SUPPORT. RESET_N, POWER_ON and the return of the supplies (R44, R49, R51). -/

namespace Sys2Proof.Machine

/-- What a command answers, where its effect is known and leaves the queue. -/
theorem done_eq_next {f : State → State} {s t : State} (h : f { s with out := [] } = t) (hp : t.pending = s.pending) : done f s = .next t := by
  subst h
  exact next_of_pending hp

theorem State.resetLow_of_saveEnded {s : State} (hm : s.sys.mode ≠ .dormant) (hs : s.sys.saving = false ∨ s.sys.saveEnded = true) :
    s.resetLow = ({ s with sys.resetHeld := true } : State).enterStart 2 12 := by
  unfold State.resetLow
  dsimp only
  rw [if_neg (by simpa [State.powered] using hm), if_neg (by rcases hs with h | h <;> simp [h])]

theorem State.resetLow_of_saving {s : State} (hm : s.sys.mode ≠ .dormant) (hs : s.sys.saving = true) (he : s.sys.saveEnded = false) :
    s.resetLow = { s with sys.resetHeld := true, sys.resetDue := true } := by
  unfold State.resetLow
  dsimp only
  rw [if_neg (by simpa [State.powered] using hm), if_pos (by simp [hs, he])]

/-- RESET_N or a rail monitor outside a save restarts the unit and holds it (R44). -/
theorem done_resetLow_restarted {s : State} (hm : s.sys.mode ≠ .dormant) (hs : s.sys.saving = false ∨ s.sys.saveEnded = true) :
    ∃ t, done State.resetLow s = .next t ∧ restarted 2 12 s t ∧ t.sys.resetHeld = true ∧ t.sys.succession = 0 :=
  ⟨_, done_eq_next (State.resetLow_of_saveEnded (s := { s with out := [] }) hm hs) (by simp),
    restarted_enterStart 12 ({ s with out := [], sys.resetHeld := true } : State) (by decide), by simp, by simp⟩

/-- During a save they only wait (R49). -/
theorem done_resetLow_of_saving {s : State} (hm : s.sys.mode ≠ .dormant) (hs : s.sys.saving = true) (he : s.sys.saveEnded = false) :
    done State.resetLow s = .next { s with out := [], sys.resetHeld := true, sys.resetDue := true } :=
  done_eq_next (State.resetLow_of_saving (s := { s with out := [] }) hm hs he) rfl

theorem exec_firmwareWatchdog {s : State} (hm : s.sys.mode ≠ .dormant) (hs : s.sys.saving = false) (hr : s.sys.resetHeld = false)
    (hc : s.clk.cores ≠ 0#8) : ∃ t, exec .firmwareWatchdog s = .next t ∧ restarted 6 12 s t :=
  ⟨_, done_eq_next (if_pos (by simp [State.powered, hm, hs, hr, hc])) (by simp),
    restarted_enterStart 12 ({ s with out := [] } : State) (by decide)⟩

theorem exec_powerRestored {s : State} (hs : s.sys.saving = true) (he : s.sys.saveEnded = true) (hr : s.sys.resetHeld = false)
    (hd : s.sys.degradedInSave = false) :
    ∃ t, exec .powerRestored s = .next t ∧ restarted 8 12 s t ∧ t.sys.saving = false := by
  refine ⟨({ s with out := [], sys.vsenseOk := true } : State).enterStart 8 12, ?_,
    restarted_enterStart 12 ({ s with out := [], sys.vsenseOk := true } : State) (by decide), by simp⟩
  simp only [exec, execPowerRestored]
  refine done_eq_next ?_ (by simp)
  dsimp only
  rw [if_neg (by simp [hs, he, hr]), if_neg (by simp [hd])]

/-- A new START of the watchdog (R39). -/
def State.startAgain (s : State) : State :=
  ({ (s.atLeast (s.sys.startT0 + 1000000000 * (5 + s.sys.startExtra))).enterStart 5 4 with diag.stallStep := none }).reportNow 0x0003
    [(1, s.sys.startStep)]

theorem exec_startTimeout {s : State} (hm : s.sys.mode = .start) (hw : s.sys.watchdog = true) (hk : s.sys.startStep < 12)
    (hr : s.sys.resetHeld = false) (hs : s.sys.saving = false) :
    exec .startTimeout s = .next ({ s with out := [] } : State).startAgain := by
  simp only [exec, execStartTimeout]
  refine done_eq_next ?_ (by simp [State.startAgain, State.atLeast])
  rw [if_neg (by simp [hm, hw, hr, hs]; omega)]
  rfl

/-- Its cause, its count, and what it keeps (R39, R54). -/
theorem State.startAgain_spec (s : State) :
    s.startAgain.sys.mode = .start ∧ s.startAgain.sys.cause = 5 ∧ s.startAgain.sys.startStep = 0 ∧ s.startAgain.pair.claim = false ∧
    s.startAgain.ao.restarts = min (s.ao.restarts + 1) 0xFFFF ∧ s.startAgain.ao.pwrcyc = s.ao.pwrcyc ∧ s.startAgain.diag.stallStep = none ∧
    keptByStart s s.startAgain := by
  unfold State.startAgain
  rw [State.reportNow_eq]
  refine ⟨?_, ?_, ?_, ?_, ?_, ?_, rfl, ?_, ?_, ?_, ?_, ?_, ?_, ?_, ?_, ?_⟩ <;> simp [State.atLeast]

theorem exec_powerOn {s : State} (p : Bool) (hm : s.sys.mode = .dormant) :
    exec (.powerOn p) s = .next (({ s with out := [], time := {}, sys.pairSel := p, sys.resetHeld := false, sys.vsenseOk := true, clk := {} } :
      State).enterStart 1 0) := by
  simp only [exec, execPowerOn]
  refine done_eq_next ?_ (by simp)
  rw [if_neg (by simp [hm])]

theorem exec_resetNReleased {s : State} (p : Bool) (hr : s.sys.resetHeld = true) (hm : s.sys.mode = .start) (hk : s.sys.startStep = 0)
    (hs : s.sys.saving = false) :
    exec (.resetNReleased p) s = .next { s with out := [], sys.resetHeld := false, sys.pairSel := p, sys.startT0 := s.ns } := by
  simp only [exec, execResetNReleased]
  refine done_eq_next ?_ rfl
  dsimp only
  rw [if_neg (by simp [hr]), if_pos ⟨hm, hk, hs⟩]
  rfl

/-! VDD_CORE below its level (R35, R52). -/

/-- The areas that a save cut short has completed, and what follows for the records. -/
def State.porSaved (areas : Nat) (s : State) : SavedAreas :=
  if s.sys.saving && !s.sys.saveEnded then { s.saved with valid := 2 ^ areas - 1 } else s.saved

/-- VDD_CORE below its level, once the records of a sixth area are in the MRAM ring: what lives without VDD_CORE stays. -/
def State.unpower (areas : Nat) (s : State) : State :=
  let u := { s.releaseClaim.fresh with
    saved := s.porSaved areas, time := {}, clk := {}, diag := {}
    pair := { forceIn := s.pair.forceIn, peerClaim := s.pair.peerClaim, peerFree := if s.pair.peerClaim then none else some 0 } }
  { u with sys.mode := .dormant, sys.succession := 0, sys.degradedInSave := false, sys.vsenseOk := false, ao.vbatLow := false, kreg.vbatRun := false }

theorem exec_vddCorePor {s : State} (areas : Fin 8) {b : Bool} (hm : s.sys.mode ≠ .dormant)
    (hb : (s.sys.saving && !s.sys.saveEnded && decide (6 ≤ areas.val)) = b) :
    exec (.vddCorePor areas) s = .next { (({ s with out := [] } : State).when b State.saveRecords).unpower areas.val with
      pending := s.pending } := by
  subst hb
  simp only [exec, execVddCorePor, done_next]
  rw [if_neg (by simp [State.powered, hm])]
  rfl

/-- What DORMANT keeps of a unit that was powered. -/
theorem State.unpower_spec (areas : Nat) (s : State) :
    (s.unpower areas).sys.mode = .dormant ∧ (s.unpower areas).pair.claim = false ∧ (s.unpower areas).rcd = {} ∧ (s.unpower areas).clk = {} ∧
    (s.unpower areas).ao = { s.ao with vbatLow := false } ∧ (s.unpower areas).flash = s.flash ∧ (s.unpower areas).store = s.store ∧
    (s.unpower areas).keys = s.keys ∧ (s.unpower areas).mets = s.mets ∧ (s.unpower areas).kept = s.kept ∧ (s.unpower areas).upd = s.upd ∧
    (s.unpower areas).saved = s.porSaved areas := by
  refine ⟨rfl, rfl, rfl, rfl, ?_, ?_, ?_, ?_, ?_, ?_, ?_, rfl⟩ <;> simp [State.unpower, State.fresh]

/-- With nothing in the FIFO and no lost run, area 6 of a save appends the records not flushed and nothing more (Table 2-7). -/
theorem State.saveRecords_of_empty {s : State} (hf : s.rcd.fifo = []) (hl : s.rcd.lostRun = 0)
    (hw : s.store.unarchived + s.rcd.unflushed ≤ 32768) :
    s.saveRecords = { s with
      store.ring := (s.rcd.buffer.take s.rcd.unflushed ++ s.store.ring).take 32768
      store.flushed := s.store.flushed + s.rcd.unflushed
      store.unarchived := s.store.unarchived + s.rcd.unflushed
      rcd.unflushed := 0, rcd.flushDue := false, rcd.flushing := false
      rcd.cntFlushes := incr s.rcd.cntFlushes
      saved.appended := s.rcd.unflushed } := by
  have hd : s.drain = s := by simp [State.drain, hf, State.writeN]
  unfold State.saveRecords State.flush
  simp only [hd]
  simp [State.reportOverwrite, State.reportLost, hw, hl]

end Sys2Proof.Machine
end

section
/-! SUPPORT. The end of a save, frames that a save does not take, the always-on counters (R47, R49, R54, R55). -/

namespace Sys2Proof.Machine

@[simp] theorem State.reportOverwrite_pending (waiting : Nat) (s : State) : (s.reportOverwrite waiting).pending = s.pending := by
  unfold State.reportOverwrite
  split
  · rfl
  · exact State.reportNow_pending ..

@[simp] theorem State.storeDirect_pending (code : Nat) (data : List (Nat × Int)) (cls : Nat) (s : State) :
    (s.storeDirect code data cls).pending = s.pending := by rw [State.storeDirect_eq]

@[simp] theorem State.reportLost_pending (s : State) : s.reportLost.pending = s.pending := by
  unfold State.reportLost
  split <;> simp

@[simp] theorem State.flush_pending (s : State) : s.flush.pending = s.pending := by simp [State.flush]

@[simp] theorem State.saveRecords_pending (s : State) : s.saveRecords.pending = s.pending := by simp [State.saveRecords]

theorem exec_saveEnd {s : State} (hs : s.sys.saving = true) (he : s.sys.saveEnded = false) :
    exec .saveEnd s = .next (({ s with out := [] } : State).saveRecords.saveCommit.when s.sys.resetDue (fun s => s.enterStart 2 12)) := by
  have hp : (({ s with out := [] } : State).saveRecords.saveCommit.when s.sys.resetDue (fun s => s.enterStart 2 12)).pending = s.pending := by
    cases s.sys.resetDue
    · exact State.saveRecords_pending _
    · exact (State.enterStart_pending ..).trans (State.saveRecords_pending _)
  simp only [exec, execSaveEnd]
  exact done_eq_next (if_neg (by simp [hs, he])) hp

/-- A save takes no frame of a host (R49). -/
theorem State.chp_of_saving {s : State} (hs : s.sys.saving = true) (kind : Nat) (right : Option Nat) (lead anon ok : Bool) (f : ChpFrame)
    (run : Nat → State → State) : s.chp kind right lead anon ok f run = s := by
  simp [State.chp, State.carries, State.discardFrame, hs]

/-- Settles O8: RESET_N waits in a save, its end acts on it, and a save takes no RESTART. -/
theorem saveOutranksReset : Obligations.SaveOutranksReset := by
  unfold Obligations.SaveOutranksReset
  refine ⟨?waits, ?acts, ?restart⟩
  case waits => exact fun s hm hs he => done_resetLow_of_saving hm hs he
  case acts =>
    intro s hs he hd
    rw [exec_saveEnd hs he, hd, State.when_true]
    exact ⟨_, rfl, by simp, by simp, by simp [State.saveCommit], by simp, (State.enterStart_pending ..).trans (State.saveRecords_pending _)⟩
  case restart => exact fun s f hs => done_eq_next (State.chp_of_saving (s := { s with out := [] }) hs ..) rfl

/-- A checkpoint (R55) is at a later time; it changes the copy and the counters accepted last. -/
theorem exec_counterCheckpoint {s : State} (hm : s.sys.mode ≠ .dormant) (hs : s.sys.saving = false) (hr : s.sys.restored = true)
    (ht : s.time.running = true) :
    ∃ T, exec .counterCheckpoint s = .next { s with
      out := [], time := T, saved.copy := (s.ao.optime, s.ao.pwrcyc, s.ao.restarts), rad.lastCounter := s.fleet.counters } := by
  have hmark := State.mark_eq 26 (10 * perSec) { s with out := [] }
  generalize hv : ({ s with out := [] } : State).mark 26 (10 * perSec) = v at hmark
  refine ⟨v.time, ?_⟩
  simp only [exec, execCounterCheckpoint]
  refine done_eq_next ?_ rfl
  rw [if_neg (by simp [State.powered, hm, hs, hr, ht]), hv, hmark]

theorem exec_degradedSuccessionReset {s : State} {n : Nat} (hn : s.sys.serviceSince = some n) (hi : s.inService = true)
    (hd : s.sys.degraded = false) (hs : s.sys.saving = false) :
    ∃ T, exec .degradedSuccessionReset s = .next { s with out := [], time := T, sys.succession := 0 } := by
  have hlate : ({ s with out := [] } : State).atLeast (60000000000 + n) =
      { s with out := [], time := (({ s with out := [] } : State).atLeast (60000000000 + n)).time } := rfl
  generalize hv : ({ s with out := [] } : State).atLeast (60000000000 + n) = v at hlate
  refine ⟨v.time, ?_⟩
  simp only [exec, execDegradedSuccessionReset]
  refine done_eq_next ?_ rfl
  dsimp only
  split
  case h_1 t ht =>
    obtain rfl := Option.some.inj (hn.symm.trans ht)
    rw [if_pos (by rw [hd, hs]; simpa [State.inService] using hi), hv, hlate]
  case h_2 hnone => exact absurd (hn.symm.trans hnone) (by simp)

/-- Settles O6: the second, the checkpoint, VBAT and the succession. -/
theorem alwaysOnCounters : Obligations.AlwaysOnCounters := by
  unfold Obligations.AlwaysOnCounters
  refine ⟨?second, ?checkpoint, ?vbat, ?succession⟩
  case second =>
    intro s hm
    simp only [exec, execOptimeTick]
    exact done_eq_next (if_pos (by simp [State.powered, hm])) rfl
  case checkpoint =>
    intro s hm hs hr ht
    obtain ⟨T, h⟩ := exec_counterCheckpoint hm hs hr ht
    exact ⟨_, h, rfl, rfl, rfl⟩
  case vbat =>
    intro s hm
    simp only [exec, execVbatApplied]
    exact done_eq_next (if_neg (by simp [State.powered, hm])) rfl
  case succession =>
    intro s n hn hi hd hs
    obtain ⟨T, h⟩ := exec_degradedSuccessionReset hn hi hd hs
    exact ⟨_, h, rfl, rfl⟩

end Sys2Proof.Machine
end

section
/-! SUPPORT. The entries to START as wholes (Table 2-5). -/

namespace Sys2Proof.Machine

/-- Settles O4: POWER_ON, the restarts of Table 2-5, the START watchdog, RESET_N and VDD_CORE. -/
theorem entriesToStart : Obligations.EntriesToStart := by
  unfold Obligations.EntriesToStart
  refine ⟨?powerOn, fun s => done_resetLow_restarted, fun s => done_resetLow_restarted, fun s => exec_firmwareWatchdog,
    fun s _ => exec_powerRestored, ?startTimeout, ?waits, fun s p => exec_resetNReleased p, ?por, ?porRecords⟩
  case powerOn =>
    intro s p hm
    refine ⟨_, exec_powerOn p hm, ?_, ?_, ?_, ?_, ?_, ?_, ?_, ?_, ?_, ?_, ?_, ?_, ?_, ?_, ?_, ?_, ?_⟩ <;> simp
  case startTimeout => exact fun s hm hw hk hr hs => ⟨_, exec_startTimeout hm hw hk hr hs, State.startAgain_spec { s with out := [] }⟩
  case waits => exact fun s hm hs he => ⟨done_resetLow_of_saving hm hs he, done_resetLow_of_saving hm hs he⟩
  case por =>
    intro s areas hm hs
    have hgo : (s.sys.saving && !s.sys.saveEnded && decide (6 ≤ areas.val)) = false := by
      rcases hs with h | h | h
      · simp [h]
      · simp [h]
      · simp [Nat.not_le.mpr h]
    have hexec := exec_vddCorePor areas hm hgo
    rw [State.when_false] at hexec
    generalize hu : ({ s with out := [] } : State) = u at hexec
    obtain ⟨hmode, hclaim, hrcd, hclk, hao, hflash, hstore, hkeys, hmets, hkept, hupd, hsaved⟩ := State.unpower_spec areas.val u
    generalize u.unpower areas.val = t at *
    subst hu
    refine ⟨_, hexec, hmode, hclaim, hrcd, hclk, hao, hflash, hstore, hkeys, hmets, hkept, hupd, rfl, hsaved.trans ?_⟩
    simp [State.porSaved]
  case porRecords =>
    intro s areas hm hs he ha hf hl hw
    have hgo : (s.sys.saving && !s.sys.saveEnded && decide (6 ≤ areas.val)) = true := by simp [hs, he, ha]
    have hrec := State.saveRecords_of_empty (s := { s with out := [] }) hf hl hw
    have hexec := exec_vddCorePor areas hm hgo
    rw [State.when_true] at hexec
    generalize ({ s with out := [] } : State).saveRecords = u at hexec hrec
    obtain ⟨hmode, hclaim, hrcd, hclk, hao, hflash, hstore, hkeys, hmets, hkept, hupd, hsaved⟩ := State.unpower_spec areas.val u
    generalize u.unpower areas.val = t at *
    subst hrec
    refine ⟨_, hexec, hmode, hclaim, hrcd, hclk, congrArg RecStore.ring hstore, congrArg RecStore.flushed hstore, hao, hflash, hkeys, hmets,
      hkept, hupd, rfl, hsaved.trans ?_⟩
    simp [State.porSaved, hs, he]

end Sys2Proof.Machine
end

section
/-! SUPPORT. A save's beginning (R45, R46): what each of its parts changes, and the state that it leaves. -/

namespace Sys2Proof.Machine

/-! The parts of the save's beginning. -/

theorem State.abandonEpoch_eq (s : State) : s.abandonEpoch = { s with meas := s.abandonEpoch.meas } := by
  unfold State.abandonEpoch
  split
  · rfl
  · split <;> rfl

@[simp] theorem State.abandonEpoch_job (s : State) : s.abandonEpoch.meas.job = none := by
  unfold State.abandonEpoch
  split
  · assumption
  · split <;> rfl

theorem State.meterSamples_eq (blocks : List BlockIn) (s : State) : s.meterSamples blocks = { s with met := (s.meterSamples blocks).met } :=
  State.each_keeps (fun t => t = { s with met := t.met }) _ (fun c t ht => by rw [ht]; rfl) _ _ rfl

theorem State.meterAll_eq (blocks : List BlockIn) (s : State) : s.meterAll blocks = { s with met := (s.meterAll blocks).met } := by
  refine State.each_keeps (fun t => t = { s with met := t.met }) _ (fun c t ht => ?_) _ _ (State.meterSamples_eq blocks s)
  rw [ht]
  rfl

theorem State.metFreeze_eq (blocks : List BlockIn) (s : State) : s.metFreeze blocks = { s with met := (s.metFreeze blocks).met } := by
  unfold State.metFreeze
  split
  · rw [State.meterAll_eq]
  · rfl

theorem State.sendReply_eq (f : ChpFrame) (kind result : Nat) (body : List Octet) (mac : Option (BitVec 128)) (s : State) :
    s.sendReply f kind result body mac = { s with host := (s.sendReply f kind result body mac).host, out := (s.sendReply f kind result body mac).out } := by
  unfold State.sendReply
  split <;> rfl

theorem State.finish_eq (f : ChpFrame) (kind result : Nat) (body : List Octet) (s : State) :
    s.finish f kind result body = { s with host := (s.finish f kind result body).host, out := (s.finish f kind result body).out } := by
  unfold State.finish
  split
  · exact State.sendReply_eq ..
  · split
    · rfl
    · exact State.sendReply_eq ..

theorem State.answerSaving_eq (s : State) :
    s.answerSaving = { s with host := s.answerSaving.host, out := s.answerSaving.out, inp := {}, ureg := s.answerSaving.ureg } := by
  unfold State.answerSaving
  have hreply := State.each_keeps (fun t => t = { s with host := t.host, out := t.out })
    (fun (p : ChpFrame × Nat) s => s.sendReply p.1 p.2 0x0A [] none) (fun p t ht => by rw [State.sendReply_eq, ht])
  have hheld := State.each_keeps (fun t => t = { s with host := t.host, out := t.out })
    (fun (p : ChpFrame × Nat) s => s.finish p.1 p.2 0x0A []) (fun p t ht => by rw [State.finish_eq, ht]) s.unanswered s rfl
  have h := hreply (s.host.spiRx.map spiFrame) _ hheld
  dsimp only
  rw [h]

/-! The search slots that a save leaves (R109). -/

theorem LakeSlot.ne_reset_of_outcome {v : LakeSlot} (h : v.outcome ≠ 0) : v ≠ LakeSlot.reset := fun hv => h (by rw [hv]; rfl)

/-- A slot whose search ended is idle; no other slot changes. -/
theorem State.endSearch_slot_idle {outcome : Nat} (ho : outcome ≠ 0) (a n : Nat) {s : State} (h : n = a ∨ (s.slot n).state = .idle) :
    ((s.endSearch a outcome).slot n).state = .idle := by
  have hv : ({ s.slot a with state := .idle, outcome := outcome, channel := none } : LakeSlot) ≠ LakeSlot.reset :=
    LakeSlot.ne_reset_of_outcome ho
  by_cases hn : n = a
  · subst hn
    exact congrArg LakeSlot.state (Tab.get_set_same_of_ne hv n s.lake.slots)
  · refine (congrArg LakeSlot.state (Tab.get_set_other_of_ne hv hn s.lake.slots)).trans ?_
    exact h.resolve_left hn

theorem State.each_endSearch_idle {outcome : Nat} (ho : outcome ≠ 0) (n : Nat) :
    ∀ (l : List Nat) (s : State), n ∈ l ∨ (s.slot n).state = .idle →
      ((s.each l (fun a s => s.endSearch a outcome)).slot n).state = .idle
  | [], _, h => h.resolve_left (by simp)
  | a :: l, s, h => by
    refine State.each_endSearch_idle ho n l (s.endSearch a outcome) ?_
    rcases h with h | h
    · rcases List.mem_cons.mp h with rfl | h
      · exact .inr (State.endSearch_slot_idle ho n n (.inl rfl))
      · exact .inl h
    · exact .inr (State.endSearch_slot_idle ho a n (.inr h))

theorem State.cancelForSave_idle {n : Nat} (hn : n < 96) (s : State) : (s.cancelForSave.slot n).state = .idle := by
  refine State.each_endSearch_idle (by decide) n _ s ?_
  by_cases h : (s.slot n).state = .idle
  · exact .inr h
  · exact .inl (by simp [hn, h])

theorem State.cancelForSave_eq (s : State) :
    s.cancelForSave = { s with lake := { s.cancelForSave.lake with fifo := [], requeue := [] }, lcnt := s.cancelForSave.lcnt } := by
  have h := State.each_keeps (fun t => t = { s with lake := t.lake, lcnt := t.lcnt }) (fun n s => s.endSearch n 6)
    (fun n t ht => by rw [ht]; rfl) ((List.range 96).filter (fun n => decide ((s.slot n).state ≠ .idle))) s rfl
  unfold State.cancelForSave
  dsimp only
  rw [h]

/-- The claim goes with the air (R46). -/
theorem State.saveAir_eq (t0 : Nat) (s : State) :
    s.saveAir t0 = { s with
      clk := (s.saveAir t0).clk, out := (s.saveAir t0).out, time.frc := (s.saveAir t0).time.frc
      rad := { (s.saveAir t0).rad with a.awake := false, b.awake := false }
      pair := { s.pair with claim := false, decided := none, swapDue := false } } := by
  unfold State.saveAir
  dsimp only
  rw [State.releaseClaim_eq]
  rfl

/-- What the engines' stop and the claim's release leave of a unit in a save. -/
structure SaveStopped (s t : State) : Prop where
  sys : t.sys = s.sys
  saved : t.saved = s.saved
  flash : t.flash = s.flash
  store : t.store = s.store
  keys : t.keys = s.keys
  kept : t.kept = s.kept
  pending : t.pending = s.pending
  meas : t.meas = s.meas
  claim : t.pair.claim = false
  slots : ∀ n, n < 96 → (t.slot n).state = .idle
  fifo : t.lake.fifo = []
  requeue : t.lake.requeue = []
  channels : t.trk.channels = []
  jobs : t.loop.jobs = []
  tick : t.tick = none
  radioA : t.rad.a.awake = false
  radioB : t.rad.b.awake = false
  running : t.time.running = false

theorem State.stopEngines_stopped (t0 : Nat) (s : State) : SaveStopped s (s.stopEngines.saveAir t0) := by
  have hidle := fun n hn => State.cancelForSave_idle (n := n) hn s.lumOff
  have heq := State.cancelForSave_eq s.lumOff
  rw [State.saveAir_eq]
  unfold State.stopEngines
  generalize s.lumOff.cancelForSave = u at hidle heq ⊢
  have hlake := congrArg State.lake heq
  exact ⟨(congrArg State.sys heq :), (congrArg State.saved heq :), (congrArg State.flash heq :), (congrArg State.store heq :), (congrArg State.keys heq :),
    (congrArg State.kept heq :), (congrArg State.pending heq :), (congrArg State.meas heq :), rfl, hidle, (congrArg Lake.fifo hlake :),
    (congrArg Lake.requeue hlake :), rfl, rfl, rfl, rfl, rfl, rfl⟩

/-! The tick that a power-fail detection finds (R31). -/

theorem State.reach_of_le {c : Nat} {s : State} (h : c ≤ s.now) : s.reach c = s := by
  simp [State.reach, h]

theorem State.commitAt_eq {c : Nat} (o : TickOut) {s : State} (h : c ≤ s.now) :
    s.commitAt c o = { s with tick := (s.commitAt c o).tick, pair := (s.commitAt c o).pair, out := (s.commitAt c o).out } := by
  unfold State.commitAt State.sendResync
  rw [State.reach_of_le h]
  dsimp only
  split
  · split <;> rfl
  · rfl

/-- A tick whose commit instant has passed is committed at no later time; what a commit leaves alone. -/
theorem State.commitPast_eq (s : State) :
    s.commitPast = { s with tick := s.commitPast.tick, pair := s.commitPast.pair, out := s.commitPast.out } := by
  unfold State.commitPast
  split
  · rfl
  next o ho =>
    split
    next hpast =>
      cases hc : o.committed
      · rw [State.commitTick_of_open ho hc, State.commitAt_eq o hpast]
      · rw [State.commitTick_of_committed ho hc]
    · rfl

/-- A save begun: what it keeps of the unit, and what area 1 of it says. -/
structure SaveBegun (s t : State) : Prop where
  saving : t.sys.saving = true
  saveSeq : t.sys.saveSeq = (s.sys.saveSeq + 1) % 65536
  mode : t.sys.mode = s.sys.mode
  valid : t.saved.valid = 0
  seq : t.saved.seq = (s.sys.saveSeq + 1) % 65536
  code : t.saved.mode = s.sys.mode.code
  time : t.saved.time = s.now
  flash : t.flash = s.flash
  store : t.store = s.store
  keys : t.keys = s.keys
  kept : t.kept = s.kept
  pending : t.pending = s.pending
  job : t.meas.job = none

/-- The state in which the areas of a save are taken, with the engines still running. -/
def State.saveTaken (blocks : List BlockIn) (s : State) : State :=
  let u := (({ s.abandonEpoch with sys.saveSeq := (s.abandonEpoch.sys.saveSeq + 1) % 65536, sys.saveT0 := s.ns } : State).metFreeze blocks).answerSaving
  { u with sys.saving := true, saved := u.saveAreas s.now, mets.area := u.metCopy }

theorem State.beginSave_eq (blocks : List BlockIn) (s : State) : s.beginSave blocks = (s.saveTaken blocks).stopEngines.saveAir s.ns := rfl

theorem State.saveTaken_begun (blocks : List BlockIn) (s : State) : SaveBegun s (s.saveTaken blocks) := by
  unfold State.saveTaken
  rw [State.answerSaving_eq, State.metFreeze_eq, State.abandonEpoch_eq]
  exact ⟨rfl, rfl, rfl, rfl, rfl, rfl, rfl, rfl, rfl, rfl, rfl, rfl, State.abandonEpoch_job s⟩

theorem SaveStopped.begun {s u t : State} (h : SaveStopped u t) (hu : SaveBegun s u) : SaveBegun s t where
  saving := h.sys ▸ hu.saving
  saveSeq := h.sys ▸ hu.saveSeq
  mode := h.sys ▸ hu.mode
  valid := h.saved ▸ hu.valid
  seq := h.saved ▸ hu.seq
  code := h.saved ▸ hu.code
  time := h.saved ▸ hu.time
  flash := h.flash.trans hu.flash
  store := h.store.trans hu.store
  keys := h.keys.trans hu.keys
  kept := h.kept.trans hu.kept
  pending := h.pending.trans hu.pending
  job := h.meas ▸ hu.job

/-- A power-fail detection that begins a save (R45): a tick due is committed first. -/
theorem exec_powerFailDetect {s : State} (blocks : List BlockIn) (hm : s.sys.mode ≠ .dormant) (hs : s.sys.saving = false)
    (hr : s.sys.resetHeld = false) (hrest : s.sys.mode = .start → s.sys.restored = true) :
    exec (.powerFailDetect blocks) s =
      .next { (({ s with out := [], sys.vsenseOk := false } : State).commitPast.beginSave blocks) with pending := s.pending } := by
  simp only [exec, execPowerFailDetect, done_next]
  rw [if_neg (by simp [State.powered, hm, hs, hr]), if_neg (fun h => by simp [hrest h.1] at h)]

theorem SaveBegun.commitPast {s t : State} (h : SaveBegun s.commitPast t) : SaveBegun s t := by
  rw [State.commitPast_eq] at h
  exact ⟨h.saving, h.saveSeq, h.mode, h.valid, h.seq, h.code, h.time, h.flash, h.store, h.keys, h.kept, h.pending, h.job⟩

/-- Settles O5: the detection stops the engines with the areas taken, SAVE_END commits them. -/
theorem saveRuns : Obligations.SaveRuns := by
  unfold Obligations.SaveRuns
  refine ⟨?begins, ?ends⟩
  case begins =>
    intro s blocks hm hs hr hrest
    have hexec := exec_powerFailDetect blocks hm hs hr hrest
    rw [State.beginSave_eq] at hexec
    generalize hv : ({ s with out := [], sys.vsenseOk := false } : State) = v at hexec
    have hstop := State.stopEngines_stopped v.commitPast.ns (v.commitPast.saveTaken blocks)
    have hbegun := (hstop.begun (State.saveTaken_begun blocks _)).commitPast
    generalize (v.commitPast.saveTaken blocks).stopEngines.saveAir v.commitPast.ns = t at hexec hstop hbegun
    subst hv
    exact ⟨_, hexec, hbegun.saving, hbegun.saveSeq, hbegun.mode, hstop.claim, hstop.slots, hstop.fifo, hstop.requeue, hstop.channels,
      hstop.jobs, hbegun.job, hstop.tick, hstop.radioA, hstop.radioB, hstop.running, hbegun.valid, hbegun.seq.trans hbegun.saveSeq.symm,
      hbegun.code, hbegun.time, hbegun.flash, hbegun.store, hbegun.keys, hbegun.kept, rfl⟩
  case ends =>
    intro s hs he hd hf hl hw
    have hexec := exec_saveEnd hs he
    have hrec := State.saveRecords_of_empty (s := { s with out := [] }) hf hl hw
    rw [hd, State.when_false] at hexec
    generalize ({ s with out := [] } : State).saveRecords = u at hexec hrec
    subst hrec
    exact ⟨_, hexec, rfl, rfl, rfl, rfl, rfl, rfl, rfl, rfl, rfl, rfl, rfl, rfl, rfl, rfl⟩

end Sys2Proof.Machine
end

section
/-! SUPPORT. DISCREPANCY where the cause is set already (R321). -/

namespace Sys2Proof.Machine

/-- A lead whose DISCREPANCY is set takes the inputs' difference no further. -/
theorem exec_discrepancy_of_set {s : State} (hl : s.isLead = true)
    (hc : bit s.cellSet causeDiscrepancy = true) : exec .discrepancy s = .next { s with out := [] } := by
  simp only [exec, execDiscrepancy]
  refine done_eq_next ?_ rfl
  dsimp only
  split
  · exact if_pos (by rw [Bool.or_eq_true, Bool.and_eq_true]; exact .inr ⟨hl, hc⟩)
  · rfl

/-- Refutes O38: at a lead that holds DISCREPANCY already and no event of FSTOP, inputs that still differ set no event
and need no time. -/
theorem not_stopCauses : ¬ Obligations.StopCauses := by
  unfold Obligations.StopCauses
  rintro ⟨-, -, -, -, -, -, -, hdiscrepancy⟩
  let s : State := { sys.mode := .lead, pair.claim := true, fleet.cell := 2, stop.differ := some 0 }
  have hexec : exec .discrepancy s = .next { s with out := [] } := exec_discrepancy_of_set rfl (by decide)
  obtain ⟨t, ht, -, -, hevents, -⟩ := hdiscrepancy s 0 rfl rfl
  obtain rfl := Host.Outcome.next.inj (hexec.symm.trans ht)
  exact absurd hevents (by decide)

end Sys2Proof.Machine
end

section
/-! SUPPORT. What setting a cell cause and entering HOLD leave alone (R36, R321). -/

namespace Sys2Proof.Machine

/-- The states differ at most in the fleet's tables, FSTOP, the orders that wait, the recorder and DIAG. -/
def BesideStops (s t : State) : Prop :=
  ∃ fleet stop inp rcd diag, t = { s with fleet := fleet, stop := stop, inp := inp, rcd := rcd, diag := diag }

theorem BesideStops.refl (s : State) : BesideStops s s := ⟨_, _, _, _, _, rfl⟩

theorem BesideStops.trans {s t u : State} (h : BesideStops s t) (g : BesideStops t u) : BesideStops s u := by
  obtain ⟨_, _, _, _, _, rfl⟩ := h
  obtain ⟨_, _, _, _, _, rfl⟩ := g
  exact ⟨_, _, _, _, _, rfl⟩

theorem BesideStops.ite {s t u : State} {c : Prop} [Decidable c] (ht : BesideStops s t) (hu : BesideStops s u) :
    BesideStops s (if c then t else u) := by
  split
  · exact ht
  · exact hu

theorem BesideStops.when {f : State → State} (h : ∀ s, BesideStops s (f s)) {b : Bool} {s : State} : BesideStops s (s.when b f) := by
  cases b
  · exact .refl s
  · exact h s

theorem State.report_besideStops (code : Nat) (data : List (Nat × Int)) (s : State) : BesideStops s (s.report code data) :=
  ⟨_, _, _, _, _, State.report_eq code data s⟩

/-- Setting a cell cause touches nothing else (R321, R322, R488). -/
theorem State.setCell_besideStops (c source : Nat) (s : State) : BesideStops s (s.setCell c source) := by
  unfold State.setCell
  refine .ite (.refl s) (.trans ?_ (State.report_besideStops ..))
  have hdrop : ∀ u, BesideStops s u → BesideStops s (if u.sys.mode = .shadow then u else u.bumpSerial.dropAll) := by
    intro u hu
    refine .ite hu (hu.trans ?_)
    rw [(State.dropAll_keeps _).1, State.bumpSerial_eq]
    exact ⟨_, _, _, _, _, rfl⟩
  apply hdrop
  dsimp only
  split <;> exact ⟨_, _, _, _, _, rfl⟩

theorem State.checkInputs_besideStops (s : State) : BesideStops s s.checkInputs := .ite (State.setCell_besideStops ..) (.refl s)

theorem State.cancelInjection_besideStops (s : State) : BesideStops s s.cancelInjection := ⟨_, _, _, _, _, State.cancelInjection_eq s⟩

theorem State.diagClose_besideStops (cause : Nat) (s : State) : BesideStops s (s.diagClose cause) :=
  .ite ((State.cancelInjection_besideStops s).trans (.trans ⟨_, _, _, _, _, rfl⟩ (State.report_besideStops ..))) (.refl s)

/-- Entering HOLD changes the mode and touches nothing else but those parts (R36, R461). -/
theorem State.toMode_hold_besideStops (trigger : Nat) (s : State) :
    BesideStops { s with sys := (s.toMode .hold trigger).sys } (s.toMode .hold trigger) := by
  have hclose : BesideStops (s.setMode .hold trigger) (s.toMode .hold trigger) := by
    unfold State.toMode
    simp only [reduceCtorEq, or_self, decide_false, State.when_false, and_false, if_false]
    exact .when (State.diagClose_besideStops 2)
  obtain ⟨_, _, _, _, _, h⟩ := hclose
  rw [h, State.setMode_eq]
  exact ⟨_, _, _, _, _, rfl⟩

theorem bit_or (a b n : Nat) : bit (a ||| b) n = (bit a n || bit b n) := Nat.testBit_or ..

theorem bit_setBit_of_bit {m n : Nat} (k : Nat) (h : bit m n = true) : bit (setBit m k) n = true := by
  rw [setBit, bit_or, h, Bool.true_or]

/-- A cell cause set stays set when another is set. -/
theorem State.setCell_cellSet_mono {b : Nat} (c source : Nat) {s : State} (h : bit s.cellSet b = true) :
    bit (s.setCell c source).cellSet b = true := by
  have hb : bit s.fleet.cell b = true ∨ bit s.stop.own b = true := by simpa [State.cellSet, bit_or] using h
  unfold State.setCell State.keepCause
  split
  · exact h
  · rw [State.cellSet, State.report_fleet, State.report_stop, bit_or, Bool.or_eq_true]
    dsimp only
    by_cases hc : c = causeTamper
    · simp only [hc, if_true]
      split
      · exact hb.imp_right (bit_setBit_of_bit _)
      · simpa using hb.imp_right (bit_setBit_of_bit _)
    · simp only [hc, if_false]
      split
      · exact hb.imp_left (bit_setBit_of_bit _)
      · simpa using hb.imp_left (bit_setBit_of_bit _)

theorem State.checkInputs_cellSet_mono {b : Nat} {s : State} (h : bit s.cellSet b = true) : bit s.checkInputs.cellSet b = true := by
  unfold State.checkInputs
  split
  · exact State.setCell_cellSet_mono _ _ h
  · exact h

/-- A cell cause that a unit out of SHADOW sets is set. -/
theorem State.setCell_cause {c : Nat} (source : Nat) {s : State} (hc : c ≠ causeTamper) (hm : s.sys.mode ≠ .shadow) :
    bit (s.setCell c source).cellSet c = true := by
  cases h : bit s.cellSet c
  · exact (State.setCell_stops source hc hm h).cause
  · exact State.setCell_cellSet_mono c source h

/-- A unit that claims at the end of START where the image orders no survey: HOLD with CORR_AGE, and the claim (R37, R42). -/
structure ClaimHeld (s t : State) : Prop where
  mode : t.sys.mode = .hold
  cause : bit t.cellSet causeCorrAge = true
  beside : BesideStops { s with sys := t.sys, pair := { s.pair with claim := true, seeking := 0, decided := none } } t

theorem State.assertClaim_held (k : TakeIn) {s : State} (hk : s.pair.seeking = 6) (hb : s.baseMode ≠ 1) : ClaimHeld s (s.assertClaim k) := by
  unfold State.assertClaim State.serveStart
  rw [if_pos hk, if_neg (fun h => hb h.1)]
  refine ⟨by simp, State.checkInputs_cellSet_mono (State.setCell_cause 0 (by decide) (by simp)), ?_⟩
  generalize hv : ({ s with pair.claim := true, pair.seeking := 0, pair.decided := none } : State) = v
  have hmode := State.toMode_hold_besideStops 2 v
  rw [State.checkInputs_sys, State.setCell_sys]
  subst hv
  exact (hmode.trans (State.setCell_besideStops ..)).trans (State.checkInputs_besideStops _)

end Sys2Proof.Machine
end

section
/-! SUPPORT. The decision to claim and the entry to SHADOW (R42, R43). -/

namespace Sys2Proof.Machine

/-- The unit that decides to claim, once CLAIM_IN has been released for 2 µs: it notes the instant and ends an injection. -/
def State.deciding (s : State) : State :=
  let u := s.atLeast (s.pair.peerFree.getD s.ns + 2000)
  { u.cancelInjection with pair.decided := some u.ns }

theorem State.deciding_eq (s : State) :
    s.deciding = { s with time.frc := (s.atLeast (s.pair.peerFree.getD s.ns + 2000)).time.frc
                          pair.decided := some (s.atLeast (s.pair.peerFree.getD s.ns + 2000)).ns, diag := s.deciding.diag, stop := s.deciding.stop } := by
  obtain ⟨diag, stop, h⟩ : ∃ diag stop, (s.atLeast (s.pair.peerFree.getD s.ns + 2000)).cancelInjection =
      { s.atLeast (s.pair.peerFree.getD s.ns + 2000) with diag := diag, stop := stop } := ⟨_, _, State.cancelInjection_eq _⟩
  unfold State.deciding
  dsimp only
  rw [h]
  rfl

theorem State.cancelInjection_stop (s : State) : s.cancelInjection.stop = { s.stop with differ := s.cancelInjection.stop.differ } := by
  unfold State.cancelInjection
  split <;> rfl

/-- Nothing prevents the claim: unit B samples again, every other unit claims 1 µs later (R42). -/
theorem State.decideClaim_free (k : TakeIn) {s : State} (hk : s.pair.seeking ≠ 0) (hc : s.pair.claim = false) (hd : s.pair.decided = none)
    (hf : s.pair.forceIn = false) (hs : s.sys.saving = false) (hp : s.powered = true) (ht : bit s.stop.own causeTamper = false)
    (hi : s.pair.peerClaim = false) :
    s.decideClaim k = if s.unitNo = 2 then s.deciding else (s.deciding.atLeast (s.deciding.ns + 1000)).assertClaim k := by
  have hunit : s.deciding.unitNo = s.unitNo := by
    rw [State.deciding_eq]
    rfl
  unfold State.decideClaim
  rw [if_neg (by simp [hk, hc, hd, hf, hs, hp, ht]), if_neg (by simp [hi]), ← hunit]
  rfl

/-! The entry to SHADOW (R36, R42). -/

/-- What an entry to SHADOW and the classes of the pair leave alone. -/
structure BesideShadow (s t : State) : Prop where
  claim : t.pair.claim = s.pair.claim
  partner : t.cfg.partner = s.cfg.partner
  lake : t.lake = s.lake
  trk : t.trk = s.trk
  kept : keptByClaim s t

theorem BesideShadow.trans {s t u : State} (h : BesideShadow s t) (g : BesideShadow t u) : BesideShadow s u := by
  obtain ⟨hflash, hkeys, hmets, hupd, hsaved, hoptime, hpending⟩ := h.kept
  obtain ⟨gflash, gkeys, gmets, gupd, gsaved, goptime, gpending⟩ := g.kept
  exact ⟨g.claim.trans h.claim, g.partner.trans h.partner, g.lake.trans h.lake, g.trk.trans h.trk,
    gflash.trans hflash, gkeys.trans hkeys, gmets.trans hmets, gupd.trans hupd, gsaved.trans hsaved, goptime.trans hoptime,
    gpending.trans hpending⟩

theorem State.toMode_shadow_beside (trigger : Nat) (s : State) : BesideShadow s (s.toMode .shadow trigger) := by
  unfold State.toMode
  simp only [reduceCtorEq, or_self, decide_false, State.when_false, ne_eq, not_true_eq_false, and_false, Bool.false_and, if_false, if_true]
  split <;> refine ⟨?_, ?_, ?_, ?_, ?_, ?_, ?_, ?_, ?_, ?_, ?_⟩ <;> simp

@[simp] theorem State.toMode_shadow_mirrored (trigger : Nat) (s : State) : (s.toMode .shadow trigger).pair.mirrored = false := rfl

theorem State.setMode_shadow_sys (trigger : Nat) (s : State) :
    (s.setMode .shadow trigger).sys = { s.sys with
      mode := .shadow, events := s.sys.events ||| 1#32, serviceSince := if s.inService then s.sys.serviceSince else some s.ns } := by
  simp [State.setMode]

theorem State.toMode_shadow_sys (trigger : Nat) (s : State) : (s.toMode .shadow trigger).sys = (s.setMode .shadow trigger).sys := by
  simp [State.toMode]

theorem State.adoptClass_beside (s : State) : BesideShadow s s.adoptClass := by
  unfold State.adoptClass
  split
  · dsimp only
    split <;> refine ⟨?_, ?_, ?_, ?_, ?_, ?_, ?_, ?_, ?_, ?_, ?_⟩ <;> simp
  · exact ⟨rfl, rfl, rfl, rfl, rfl, rfl, rfl, rfl, rfl, rfl, rfl⟩

@[simp] theorem State.adoptClass_mirrored (s : State) : s.adoptClass.pair.mirrored = s.pair.mirrored := by
  unfold State.adoptClass
  split
  · dsimp only
    split <;> simp
  · rfl

/-- A unit that accepts its lead: SHADOW, no longer held or waiting, and not mirrored yet (R42, R43). -/
structure Shadowed (s t : State) : Prop where
  mode : t.sys.mode = .shadow
  waits : t.sys.waitViaduct = false
  mismatch : t.sys.mismatch = false
  restricted : t.sys.restricted = 0
  mirrored : t.pair.mirrored = false
  beside : BesideShadow s t

theorem State.enterShadow_shadowed (s : State) : Shadowed s s.enterShadow := by
  unfold State.enterShadow
  dsimp only
  generalize hv : ({ s with sys.restricted := 0, sys.mismatch := false, sys.waitViaduct := false } : State) = v
  obtain ⟨hr, hm, hw, hset⟩ : v.sys.restricted = 0 ∧ v.sys.mismatch = false ∧ v.sys.waitViaduct = false ∧ BesideShadow s v := by
    subst hv
    exact ⟨rfl, rfl, rfl, rfl, rfl, rfl, rfl, rfl, rfl, rfl, rfl, rfl, rfl, rfl⟩
  have hsys := (State.adoptClass_sys (v.toMode .shadow 3)).trans ((State.toMode_shadow_sys 3 v).trans (State.setMode_shadow_sys 3 v))
  exact ⟨by rw [hsys], by rw [hsys, ← hw], by rw [hsys, ← hm], by rw [hsys, ← hr], State.adoptClass_mirrored _,
    hset.trans ((State.toMode_shadow_beside 3 v).trans (State.adoptClass_beside _))⟩

end Sys2Proof.Machine
end

section
/-! SUPPORT. The claim's decisions as wholes (R42, R43). -/

namespace Sys2Proof.Machine

/-- A claim held in HOLD keeps what no claim touches. -/
theorem ClaimHeld.kept {s t : State} (h : ClaimHeld s t) : t.pair = { s.pair with claim := true, seeking := 0, decided := none } ∧
    t.lake = s.lake ∧ t.trk = s.trk ∧ t.rad = s.rad ∧ keptByClaim s t := by
  obtain ⟨_, _, _, _, _, heq⟩ := h.beside
  rw [heq]
  exact ⟨rfl, rfl, rfl, rfl, rfl, rfl, rfl, rfl, rfl, rfl, rfl⟩

/-- What the decision itself and the time it takes leave alone, the claim after it does. -/
theorem ClaimHeld.of_before {s u t : State} (h : ClaimHeld u t) (hl : u.lake = s.lake) (ht : u.trk = s.trk) (hr : u.rad = s.rad)
    (hu : keptByClaim s u) : t.pair.claim = true ∧ t.pair.seeking = 0 ∧ t.pair.decided = none ∧ t.sys.mode = .hold ∧
      bit t.cellSet causeCorrAge = true ∧ t.lake = s.lake ∧ t.trk = s.trk ∧ t.rad = s.rad ∧ keptByClaim s t := by
  obtain ⟨hpair, hlake, htrk, hrad, hflash, hkeys, hmets, hupd, hsaved, hoptime, hpending⟩ := h.kept
  obtain ⟨uflash, ukeys, umets, uupd, usaved, uoptime, upending⟩ := hu
  exact ⟨by rw [hpair], by rw [hpair], by rw [hpair], h.mode, h.cause, hlake.trans hl, htrk.trans ht, hrad.trans hr, hflash.trans uflash,
    hkeys.trans ukeys, hmets.trans umets, hupd.trans uupd, hsaved.trans usaved, hoptime.trans uoptime, hpending.trans upending⟩

/-- The unit with what a trained Viaduct has told it of its partner (R42, R43). -/
def State.toldOf (p : Image) (l : List Nat) (v : Nat) (s : State) : State :=
  { s with out := [], cfg.partner := some p, pair.checks := l, pair.peer := s.pair.peer % 2 ^ 24 + 2 ^ 24 * (v % 256) }

theorem exec_viaductWaitRetry {s : State} (p : Image) (l : List Nat) (v : Nat) (hm : s.sys.mode = .start) (hw : s.sys.waitViaduct = true)
    (hs : s.sys.saving = false) (hv : s.pair.viaUp = true) :
    exec (.viaductWaitRetry (some p) l v) s = .next { (s.toldOf p l v).decide42 with pending := s.pending } := by
  simp only [exec, execViaductWaitRetry, done_next]
  rw [if_neg (by simp [hm, hw, hs]), if_pos (by simp [hv]), if_pos (by simp [hv])]
  rfl

/-- A unit whose lead is known decides by whether it accepts it (R42, R43). -/
theorem State.decide42_of_lead {s : State} (hp : s.paired = true) (hc : s.pair.peerClaim = true) (hv : s.pair.viaUp = true)
    (hi : s.cfg.partner.isSome = true) : s.decide42 = if s.accepts then s.enterShadow else s.holdMismatch := by
  unfold State.decide42
  rw [if_pos (by simp [hp, hc]), if_pos (by simp [hv, hi])]

theorem State.holdMismatch_eq (s : State) :
    s.holdMismatch = { s with sys.restricted := 6, sys.mismatch := true, sys.waitViaduct := false, rcd := s.holdMismatch.rcd } :=
  State.report_eq _ _ { s with sys.restricted := 6, sys.mismatch := true, sys.waitViaduct := false }

theorem exec_pairMismatchRecheck {s : State} (p : Image) (l : List Nat) (v : Nat) (hm : s.sys.mode = .start) (hw : s.sys.mismatch = true)
    (hs : s.sys.saving = false) (hv : s.pair.viaUp = true) :
    exec (.pairMismatchRecheck (some p) l v) s =
      .next { (if s.pair.peerClaim && (s.toldOf p l v).accepts then (s.toldOf p l v).enterShadow else s.toldOf p l v) with pending := s.pending } := by
  simp only [exec, execPairMismatchRecheck, done_next]
  rw [if_neg (by simp [hm, hw, hs, hv])]
  rfl

theorem BesideShadow.told {s t : State} {p : Image} {l : List Nat} {v : Nat} (h : BesideShadow (s.toldOf p l v) t) :
    t.pair.claim = s.pair.claim ∧ t.cfg.partner = some p ∧ t.lake = s.lake ∧ t.trk = s.trk ∧ keptByClaim s t :=
  ⟨h.claim, h.partner, h.lake, h.trk, h.kept⟩

theorem State.deciding_stop (s : State) : s.deciding.stop = { s.stop with differ := s.deciding.stop.differ } :=
  State.cancelInjection_stop (s.atLeast (s.pair.peerFree.getD s.ns + 2000))

theorem exec_claimDecision_free (k : TakeIn) {s : State} (hk : s.pair.seeking ≠ 0) (hc : s.pair.claim = false) (hd : s.pair.decided = none)
    (hf : s.pair.forceIn = false) (hs : s.sys.saving = false) (hp : s.powered = true) (ht : bit s.stop.own causeTamper = false)
    (hi : s.pair.peerClaim = false) :
    exec (.claimDecision k) s = .next { (if s.unitNo = 2 then ({ s with out := [] } : State).deciding
      else (({ s with out := [] } : State).deciding.atLeast (({ s with out := [] } : State).deciding.ns + 1000)).assertClaim k) with
      pending := s.pending } := by
  simp only [exec, execClaimDecision, done_next]
  rw [State.decideClaim_free k (s := { s with out := [] }) hk hc hd hf hs hp ht hi]
  rfl

/-- CLAIM_IN seen at the second sample (R42). -/
theorem exec_claimBRecheck_seen {s : State} {d : Nat} (k : TakeIn) (hd : s.pair.decided = some d) (hc : s.pair.claim = false)
    (hs : s.sys.saving = false) (hp : s.powered = true) :
    exec (.claimBRecheck false k) s = .next { s with
      out := [], time.frc := (s.atLeast (d + 10000)).time.frc, pair.peerClaim := true, pair.peerFree := none, pair.decided := none
      pair.seeking := 0, sys.waitViaduct := s.sys.waitViaduct || decide (s.pair.seeking = 6) } := by
  simp only [exec, execClaimBRecheck]
  refine done_eq_next ?_ rfl
  dsimp only
  split
  case h_1 t ht =>
    obtain rfl := Option.some.inj (hd.symm.trans ht)
    rw [if_neg (by simpa [hc, hs] using hp), if_neg (by simp)]
    rfl
  case h_2 hnone => exact absurd (hd.symm.trans hnone) (by simp)

theorem exec_claimBRecheck_released {s : State} {d : Nat} (k : TakeIn) (hd : s.pair.decided = some d) (hc : s.pair.claim = false)
    (hs : s.sys.saving = false) (hp : s.powered = true) (hf : s.pair.forceIn = false) :
    exec (.claimBRecheck true k) s = .next { (({ s with out := [] } : State).atLeast (d + 10000)).assertClaim k with pending := s.pending } := by
  simp only [exec, execClaimBRecheck, done_next]
  split
  case h_1 t ht =>
    obtain rfl := Option.some.inj (hd.symm.trans ht)
    rw [if_neg (by simpa [hc, hs] using hp), if_pos (by simpa [State.atLeast] using hf)]
  case h_2 hnone => exact absurd (hd.symm.trans hnone) (by simp)

/-- Settles O40: the decision where nothing prevents the claim, the second sample, and the entry to SHADOW with what the Viaduct told. -/
theorem claimDecided : Obligations.ClaimDecided := by
  unfold Obligations.ClaimDecided
  refine ⟨?unitB, ?claims, fun s k d => exec_claimBRecheck_seen k, ?released, ?accepted, ?refused, ?recheckAccepted, ?recheckRefused⟩
  case unitB =>
    intro s k hk hc hd hf hs hp ht hi hu
    have hexec := exec_claimDecision_free k hk hc hd hf hs hp ht hi
    rw [if_pos hu, State.deciding_eq, State.deciding_stop] at hexec
    exact ⟨_, hexec, rfl, rfl, rfl⟩
  case claims =>
    intro s k hk hc hd hf hs hp ht hi hu hb
    have hexec := exec_claimDecision_free k (by simp [hk]) hc hd hf hs hp ht hi
    rw [if_neg hu] at hexec
    have hheld := State.assertClaim_held k (s := ({ s with out := [] } : State).deciding.atLeast (({ s with out := [] } : State).deciding.ns + 1000))
      (by rw [State.deciding_eq]; exact hk) (by rw [State.deciding_eq]; exact hb)
    generalize State.assertClaim k _ = t at hheld hexec
    rw [State.deciding_eq] at hheld
    have hkept := hheld.of_before (s := s) rfl rfl rfl ⟨rfl, rfl, rfl, rfl, rfl, rfl, rfl⟩
    obtain ⟨hclaim, hseek, hdec, hmode, hcause, hlake, htrk, hrad, hflash, hkeys, hmets, hupd, hsaved, hoptime, -⟩ := hkept
    exact ⟨_, hexec, hclaim, hseek, hdec, hmode, hcause, hlake, htrk, hrad, hflash, hkeys, hmets, hupd, hsaved, hoptime, rfl⟩
  case released =>
    intro s k d hd hc hs hp hk hf hb
    have hheld := State.assertClaim_held k (s := ({ s with out := [] } : State).atLeast (d + 10000)) hk hb
    have hexec := exec_claimBRecheck_released k hd hc hs hp hf
    generalize State.assertClaim k _ = t at hheld hexec
    have hkept := hheld.of_before (s := s) rfl rfl rfl ⟨rfl, rfl, rfl, rfl, rfl, rfl, rfl⟩
    obtain ⟨hclaim, hseek, hdec, hmode, hcause, hlake, htrk, hrad, hflash, hkeys, hmets, hupd, hsaved, hoptime, -⟩ := hkept
    exact ⟨_, hexec, hclaim, hseek, hdec, hmode, hcause, hlake, htrk, hrad, hflash, hkeys, hmets, hupd, hsaved, hoptime, rfl⟩
  case accepted =>
    intro s p l v hm hw hs hv hp hc ha
    have hacc : (s.toldOf p l v).accepts = true := ha
    have hexec := exec_viaductWaitRetry p l v hm hw hs hv
    rw [State.decide42_of_lead (s := s.toldOf p l v) hp hc hv rfl, if_pos hacc] at hexec
    have hshadow := State.enterShadow_shadowed (s.toldOf p l v)
    generalize State.enterShadow _ = t at hexec hshadow
    obtain ⟨hclaim, hpartner, hlake, htrk, hflash, hkeys, hmets, hupd, hsaved, hoptime, -⟩ := hshadow.beside.told
    exact ⟨_, hexec, hshadow.mode, hshadow.waits, hshadow.restricted, hclaim, hshadow.mirrored, hpartner, hlake, htrk, hflash, hkeys, hmets,
      hupd, hsaved, hoptime, rfl⟩
  case refused =>
    intro s p l v hm hw hs hv hp hc ha
    have hacc : (s.toldOf p l v).accepts = false := ha
    have hexec := exec_viaductWaitRetry p l v hm hw hs hv
    rw [State.decide42_of_lead (s := s.toldOf p l v) hp hc hv rfl, if_neg (by simp [hacc]), State.holdMismatch_eq] at hexec
    exact ⟨_, hexec, rfl, rfl, rfl, rfl⟩
  case recheckAccepted =>
    intro s p l v hm hw hv hs hc ha
    have hacc : (s.toldOf p l v).accepts = true := ha
    have hexec := exec_pairMismatchRecheck p l v hm hw hs hv
    rw [if_pos (by simp [hc, hacc])] at hexec
    have hshadow := State.enterShadow_shadowed (s.toldOf p l v)
    generalize State.enterShadow _ = t at hexec hshadow
    obtain ⟨hclaim, -, hlake, htrk, hflash, hkeys, hmets, hupd, hsaved, hoptime, -⟩ := hshadow.beside.told
    exact ⟨_, hexec, hshadow.mode, hshadow.mismatch, hshadow.restricted, hclaim, hshadow.mirrored, hlake, htrk, hflash, hkeys, hmets,
      hupd, hsaved, hoptime, rfl⟩
  case recheckRefused =>
    intro s p l v hm hw hv hs ha
    have hacc : (s.toldOf p l v).accepts = false := ha
    have hexec := exec_pairMismatchRecheck p l v hm hw hs hv
    rw [if_neg (by simp [hacc])] at hexec
    exact hexec

end Sys2Proof.Machine
end

section
/-! SUPPORT. What the steps of START show (Table 2-3): the fields that its statement speaks of, and what each step does to them. -/

namespace Sys2Proof.Machine

/-- What a START shows of the unit while it runs. -/
structure StartView where
  mode : Mode
  step : Nat
  restricted : Nat
  restored : Bool
  watchdog : Bool
  pairSel : Bool
  claim : Bool
  system : Bool
  cores : BitVec 8
  locked : Bool
  running : Bool
  stall : Option Nat
  valid : Nat
  pending : List Instr
  flash : Memory
  fuse : Fuse
  fallback : Bool
  selected : Nat
  cfgPending : Option Nat
  image : Option Image
  active : Nat

def State.startView (s : State) : StartView where
  mode := s.sys.mode
  step := s.sys.startStep
  restricted := s.sys.restricted
  restored := s.sys.restored
  watchdog := s.sys.watchdog
  pairSel := s.sys.pairSel
  claim := s.pair.claim
  system := s.clk.system
  cores := s.clk.cores
  locked := s.tres.locked
  running := s.time.running
  stall := s.diag.stallStep
  valid := s.saved.valid
  pending := s.pending
  flash := s.flash
  fuse := s.keys.fuse
  fallback := s.ureg.bootFallback
  selected := s.cfg.selected
  cfgPending := s.cfg.pending
  image := s.cfg.image
  active := s.cfg.active

/-! Records, measurements, keys derived: nothing of it changes. -/

@[simp] theorem State.startView_ite (c : Prop) [Decidable c] (s t : State) :
    (if c then s else t).startView = if c then s.startView else t.startView := apply_ite ..

@[simp] theorem State.report_startView (code : Nat) (data : List (Nat × Int)) (s : State) : (s.report code data).startView = s.startView := by
  rw [State.report_eq]
  rfl

theorem State.drain_startView (s : State) : s.drain.startView = s.startView := by
  rw [State.drain_eq]
  rfl

@[simp] theorem State.storeDirect_startView (code : Nat) (data : List (Nat × Int)) (cls : Nat) (s : State) :
    (s.storeDirect code data cls).startView = s.startView := by
  rw [State.storeDirect_eq]
  rfl

@[simp] theorem State.reportNow_startView (code : Nat) (data : List (Nat × Int)) (s : State) : (s.reportNow code data).startView = s.startView := by
  rw [State.reportNow_eq]
  rfl

theorem State.each_startView {α : Type} {f : α → State → State} (h : ∀ a s, (f a s).startView = s.startView) (l : List α) (s : State) :
    (s.each l f).startView = s.startView :=
  State.each_keeps (fun t => t.startView = s.startView) f (fun a t ht => (h a t).trans ht) l s rfl

@[simp] theorem State.extend_startView (n : Nat) (item : List Octet) (s : State) : (s.extend n item).startView = s.startView := rfl
@[simp] theorem State.measureRom_startView (s : State) : s.measureRom.startView = s.startView := rfl
@[simp] theorem State.deriveClass_startView (k : Nat) (s : State) : (s.deriveClass k).startView = s.startView := rfl
@[simp] theorem State.updEvent_startView (n : Nat) (s : State) : (s.updEvent n).startView = s.startView := rfl
@[simp] theorem State.noteSlot_startView (slot code detail : Nat) (s : State) : (s.noteSlot slot code detail).startView = s.startView := by
  unfold State.noteSlot
  split <;> rfl

/-! Step 2: the fuse bank. -/

theorem State.burnLife_startView (s : State) : ∃ fuse, s.burnLife.startView = { s.startView with fuse := fuse } := by
  refine ⟨s.burnLife.keys.fuse, ?_⟩
  unfold State.burnLife
  split
  · rfl
  · dsimp only
    rw [State.report_startView, State.report_keys]
    split <;> split <;> rfl

theorem State.changeLife_startView (s : State) : ∃ fuse, s.changeLife.startView = { s.startView with fuse := fuse } :=
  State.burnLife_startView s

/-- A step that ends START there shows restricted service. -/
def StartView.stopped (v : StartView) (why : Nat) : StartView := { v with restricted := why, step := 13 }

theorem State.makeKeystone_startView (s : State) : ∃ fuse, s.makeKeystone.startView = { s.startView with fuse := fuse } ∨
    s.makeKeystone.startView = StartView.stopped { s.startView with fuse := fuse } 4 := by
  unfold State.makeKeystone
  split
  · exact ⟨_, .inl rfl⟩
  · split
    · refine ⟨s.keys.fuse, .inr ?_⟩
      rw [State.report_eq]
      rfl
    · exact ⟨_, .inl (State.report_startView ..)⟩

/-- The fuse step leaves the life-cycle state as it is to be, or ends START where the unit is RETIRED or its Keystone has failed. -/
theorem State.startFuse_startView (s : State) : ∃ fuse, s.startFuse.startView = { s.startView with fuse := fuse } ∨
    ∃ why, why ≠ 0 ∧ s.startFuse.startView = StartView.stopped { s.startView with fuse := fuse } why := by
  have hchange : ∃ fuse, (s.when s.keys.pendingLc.isSome State.changeLife).measureRom.startView = { s.startView with fuse := fuse } := by
    cases s.keys.pendingLc.isSome
    · exact ⟨s.keys.fuse, rfl⟩
    · exact State.changeLife_startView s
  obtain ⟨fuse, hfuse⟩ := hchange
  unfold State.startFuse
  dsimp only
  generalize (s.when s.keys.pendingLc.isSome State.changeLife).measureRom = u at hfuse ⊢
  split
  · refine ⟨fuse, .inr ⟨5, by decide, ?_⟩⟩
    rw [← hfuse]
    rfl
  · rw [State.deriveClass_startView]
    obtain ⟨fuse', h | h⟩ := u.makeKeystone_startView
    · exact ⟨fuse', .inl (h.trans (by rw [hfuse]))⟩
    · exact ⟨fuse', .inr ⟨4, by decide, h.trans (by rw [hfuse])⟩⟩

/-- In FIELD with no transition pending the fuse step changes nothing. -/
theorem State.startFuse_field {s : State} (hl : s.life = .field) (hp : s.keys.pendingLc = none) : s.startFuse = s.measureRom.deriveClass 0 := by
  have hlife : s.measureRom.life = .field := hl
  unfold State.startFuse State.makeKeystone
  simp [hp, hlife]

/-! Steps 3 and 4: the boot header, and a journal that is IDLE. -/

@[simp] theorem State.startHeader_startView (s : State) : s.startHeader.startView = s.startView := by
  unfold State.startHeader
  split <;> rfl

theorem State.startJournal_idle {i : StartIn} {s : State} (h : (s.flash.journalLast.getD {}).state = 0) : s.startJournal i = s.readJournal := by
  have hstate : s.readJournal.upd.journal.state = 0 := h
  unfold State.startJournal State.actJournal
  rw [hstate]
  rfl

/-! Step 5: the firmware is verified. -/

/-- The views differ at most in the flash and in the partition that boots. -/
def StartView.Reflashed (v w : StartView) : Prop := ∃ flash fallback, w = { v with flash := flash, fallback := fallback }

theorem StartView.Reflashed.trans {v w x : StartView} (h : v.Reflashed w) (g : w.Reflashed x) : v.Reflashed x := by
  obtain ⟨_, _, rfl⟩ := h
  obtain ⟨_, _, rfl⟩ := g
  exact ⟨_, _, rfl⟩

theorem State.journal_reflashed (f : Journal → Journal) (s : State) : s.startView.Reflashed (s.journal f).startView := ⟨_, _, rfl⟩

theorem State.copyPart_reflashed {i : StartIn} (src dst start n : Nat) (hi : i.copyCut = none) (s : State) :
    s.startView.Reflashed (s.copyPart src dst start n i).2.startView := by
  unfold State.copyPart
  simp only [hi, Option.filter_none]
  split
  · exact ⟨_, _, State.report_startView ..⟩
  · exact ⟨_, _, rfl⟩

theorem State.revertStep_reflashed {i : StartIn} (start : Nat) (hi : i.copyCut = none) (s : State) :
    s.startView.Reflashed (s.revertStep start i).startView := by
  unfold State.revertStep
  dsimp only
  generalize hv : ({ s with sys.startExtra := s.sys.startExtra + 4 * (s.partSectors 1 - start) } : State) = v
  have hcopy := State.copyPart_reflashed 1 0 start (s.partSectors 1) hi v
  have hview : v.startView = s.startView := by
    rw [← hv]
    rfl
  rw [hview] at hcopy
  split
  next u hu =>
    rw [hu] at hcopy
    have hjournal := State.journal_reflashed (fun j => { j with state := 0, starts := 0 }) (u.activated 3 start i)
    rw [show (u.activated 3 start i).startView = u.startView from State.report_startView ..] at hjournal
    generalize State.journal _ (u.activated 3 start i) = w at hjournal ⊢
    exact hcopy.trans (hjournal.trans ⟨_, _, State.report_startView ..⟩)
  next u hu =>
    rw [hu] at hcopy
    refine hcopy.trans ?_
    split
    · exact ⟨_, _, rfl⟩
    · exact ⟨_, _, rfl⟩

/-- Firmware that does not verify outside a trial is restored, or START ends in the boot ROM. -/
theorem State.startVerify_startView {i : StartIn} {s : State} (hi : i.copyCut = none) (hj : s.upd.journal.state = 0) :
    s.startView.Reflashed (s.startVerify i).startView ∨ (s.startVerify i).startView = s.startView.stopped 2 := by
  unfold State.startVerify
  dsimp only
  split
  · exact .inl ⟨_, _, rfl⟩
  rw [if_neg (by simp [hj])]
  split
  · refine .inl (.trans ?_ (State.revertStep_reflashed 0 hi _))
    exact .trans ⟨_, _, State.report_startView 0x0D0A [(1, s.fwOutcome s.bootBase)] (s.updEvent 3)⟩ (State.journal_reflashed ..)
  · refine .inr ?_
    rw [State.report_eq]
    rfl

theorem State.startVerify_of_verified (i : StartIn) {s : State} (h : s.fwOutcome s.bootBase = 0) : s.startVerify i = s := if_pos h

/-! Steps 6 and 7: the world windows and the MRAM restore. -/

theorem State.startWindows_startView (s : State) : s.startWindows.startView = { s.startView with locked := true, cores := 0xFF#8 } := rfl

theorem State.restoreRecords_startView (known : Option Nat) (s : State) : (s.restoreRecords known).startView = s.startView := by
  unfold State.restoreRecords
  dsimp only
  split
  · exact State.storeDirect_startView ..
  · split
    · rfl
    · exact State.storeDirect_startView ..

theorem State.restoreShown_startView (i : StartIn) (s : State) : (s.restoreShown i).startView = s.startView := by
  unfold State.restoreShown
  dsimp only
  split
  · exact State.report_startView ..
  · rfl

theorem State.restoreCounters_startView (i : StartIn) (s : State) : (s.restoreCounters i).startView = s.startView := by
  unfold State.restoreCounters
  split
  · rfl
  · exact State.report_startView ..

theorem State.restoreDrops_startView (i : StartIn) (s : State) : (s.restoreDrops i).startView = s.startView := by
  unfold State.restoreDrops
  split <;> rfl

theorem State.dropAppended_startView (i : StartIn) (s : State) : (s.dropAppended i).startView = s.startView := by
  unfold State.dropAppended
  split <;> rfl

theorem State.metStart_startView (s : State) : s.metStart.startView = s.startView := by
  unfold State.metStart
  cases s.mets.newest with
  | some c =>
    dsimp only
    generalize (if s.mets.area.valid then s.mets.area else _ : MetCopy) = src
    split <;> rfl
  | none =>
    dsimp only
    generalize hu : State.report 0x0E06 _ _ = u
    have hview : u.startView = s.startView := by
      rw [← hu]
      exact State.report_startView ..
    generalize (if u.mets.area.valid then u.mets.area else _ : MetCopy) = src
    split
    · exact hview
    · exact hview

theorem State.startRestore_startView (i : StartIn) (s : State) :
    (s.startRestore i).startView = { s.startView with restored := true, valid := 0 } := by
  have hshown : (((((s.drain.dropAppended i).restoreShown i).restoreCounters i).restoreDrops i)).startView = s.startView := by
    rw [State.restoreDrops_startView, State.restoreCounters_startView, State.restoreShown_startView, State.dropAppended_startView,
      State.drain_startView]
  unfold State.startRestore
  dsimp only
  generalize ((((s.drain.dropAppended i).restoreShown i).restoreCounters i).restoreDrops i) = u at hshown ⊢
  have hrest (u : State) (known : Option Nat) : ((u.restoreRecords known).metStart).startView = u.startView := by
    rw [State.metStart_startView, State.restoreRecords_startView]
  generalize hw : State.metStart _ = w
  have hview : w.startView = u.startView := by
    rw [← hw]
    exact hrest ..
  rw [← hshown, ← hview]
  rfl

end Sys2Proof.Machine
end

section
/-! SUPPORT. What the later steps of START show (Table 2-3, Table 2-4). -/

namespace Sys2Proof.Machine

/-! Steps 8 to 10: the configuration, the keys, the self-test. -/

@[simp] theorem State.cfgOutcome_startView (code : Nat) (data : List (Nat × Int)) (s : State) : (s.cfgOutcome code data).startView = s.startView :=
  State.report_startView ..

@[simp] theorem State.antImageRead_startView (supply : Nat) (s : State) : (s.antImageRead supply).startView = s.startView := by
  unfold State.antImageRead State.antSupply
  split
  · rfl
  · split
    · rfl
    · split
      · rfl
      · exact State.report_startView ..

/-- The views differ at most in the configuration selected, with restricted service where no slot validates (R41). -/
def StartView.Configured (v w : StartView) : Prop := ∃ selected cfgPending image active restricted,
  (restricted = v.restricted ∨ restricted = 1) ∧
  w = { v with selected := selected, cfgPending := cfgPending, image := image, active := active, restricted := restricted }

theorem StartView.Configured.trans {v w x : StartView} (h : v.Configured w) (g : w.Configured x) : v.Configured x := by
  obtain ⟨_, _, _, _, r, hr, rfl⟩ := h
  obtain ⟨_, _, _, _, r', hr', rfl⟩ := g
  refine ⟨_, _, _, _, r', ?_, rfl⟩
  rcases hr' with h | h
  · exact h ▸ hr
  · exact .inr h

theorem State.useSlot_ok {m : Image} {s : State} (h : s.validateSlot s.cfg.selected = .ok m) :
    s.useSlot = { s.noteSlot s.cfg.selected 0 0 with cfg.image := some m, cfg.active := s.cfg.selected } := by
  simp only [State.useSlot, h]

theorem State.useSlot_configured (s : State) : s.startView.Configured s.useSlot.startView := by
  cases hfirst : s.validateSlot s.cfg.selected with
  | ok m =>
    rw [State.useSlot_ok hfirst]
    have hview := State.noteSlot_startView s.cfg.selected 0 0 s
    generalize s.noteSlot s.cfg.selected 0 0 = u at hview ⊢
    rw [← hview]
    exact ⟨_, _, _, _, _, .inl rfl, rfl⟩
  | error why =>
    simp only [State.useSlot, hfirst]
    have hview := State.noteSlot_startView s.cfg.selected why.1 why.2 s
    generalize s.noteSlot s.cfg.selected why.1 why.2 = u at hview ⊢
    rw [← hview]
    cases hsecond : u.validateSlot (1 - s.cfg.selected) with
    | ok m =>
      dsimp only
      have hview := State.noteSlot_startView (1 - s.cfg.selected) 0 0 u
      generalize u.noteSlot (1 - s.cfg.selected) 0 0 = w at hview ⊢
      rw [State.cfgOutcome_startView, ← hview]
      exact ⟨_, _, _, _, _, .inl rfl, rfl⟩
    | error again =>
      dsimp only
      have hview := State.noteSlot_startView (1 - s.cfg.selected) again.1 again.2 u
      generalize u.noteSlot (1 - s.cfg.selected) again.1 again.2 = w at hview ⊢
      rw [State.cfgOutcome_startView, ← hview]
      exact ⟨_, _, _, _, _, .inr rfl, rfl⟩

/-- The selector read at START (R41). -/
def State.readSelector (bad : Bool) (s : State) : State :=
  if bad then ({ s with cfg.selected := 0, cfg.pending := none, cfg.selectorLost := true }).cfgOutcome 0x0005 []
  else { s with cfg.selectorLost := false }

theorem State.readSelector_configured (bad : Bool) (s : State) : s.startView.Configured (s.readSelector bad).startView := by
  cases bad
  · exact ⟨_, _, _, _, _, .inl rfl, rfl⟩
  · exact ⟨_, _, _, _, _, .inl rfl, State.cfgOutcome_startView ..⟩

/-- A slot that was to be activated (Table 2-4, rows 2 and 3). -/
def State.activateSlot (p : Nat) (s : State) : State :=
  match s.validateSlot p with
  | .ok m =>
    ({ s.noteSlot p 0 0 with cfg.image := some m, cfg.selected := p, cfg.active := p, cfg.pending := none, cfg.outcome := 1 }).cfgOutcome 0x0006
      [(1, p)]
  | .error (c, d) =>
    (({ s.noteSlot p c d with cfg.pending := none, cfg.outcome := 2 }).cfgOutcome 0x0007 [(1, p), (1, c), (4, d)]).useSlot

theorem State.selectConfig_eq (bad : Bool) (s : State) :
    s.selectConfig bad = (s.readSelector bad).cfg.pending.elim (s.readSelector bad).useSlot (fun p => (s.readSelector bad).activateSlot p) := by
  have hselect : s.selectConfig bad = match (s.readSelector bad).cfg.pending with
    | none => (s.readSelector bad).useSlot
    | some p => (s.readSelector bad).activateSlot p := rfl
  rw [hselect]
  cases (s.readSelector bad).cfg.pending <;> rfl

theorem State.selectConfig_of_none {bad : Bool} {s : State} (h : (s.readSelector bad).cfg.pending = none) :
    s.selectConfig bad = (s.readSelector bad).useSlot := by
  rw [State.selectConfig_eq, h, Option.elim_none]

theorem State.activateSlot_configured (p : Nat) (s : State) : s.startView.Configured (s.activateSlot p).startView := by
  unfold State.activateSlot
  cases s.validateSlot p with
  | ok m =>
    dsimp only
    have hview := State.noteSlot_startView p 0 0 s
    generalize s.noteSlot p 0 0 = w at hview ⊢
    rw [State.cfgOutcome_startView, ← hview]
    exact ⟨_, _, _, _, _, .inl rfl, rfl⟩
  | error why =>
    dsimp only
    have hview := State.noteSlot_startView p why.1 why.2 s
    generalize s.noteSlot p why.1 why.2 = w at hview ⊢
    refine .trans ?_ (State.useSlot_configured _)
    rw [State.cfgOutcome_startView, ← hview]
    exact ⟨_, _, _, _, _, .inl rfl, rfl⟩

theorem State.selectConfig_configured (bad : Bool) (s : State) : s.startView.Configured (s.selectConfig bad).startView := by
  refine (State.readSelector_configured bad s).trans ?_
  rw [State.selectConfig_eq]
  cases (s.readSelector bad).cfg.pending with
  | none => exact State.useSlot_configured _
  | some p => exact State.activateSlot_configured p _

/-! What an image sets at START. -/

theorem State.when_startView {f : State → State} (h : ∀ s, (f s).startView = s.startView) (c : Bool) (s : State) :
    (s.when c f).startView = s.startView := by
  cases c
  · rfl
  · exact h s

theorem State.wake_startView (d : Nat) (s : State) : (s.wake d).startView = s.startView := rfl

theorem State.applyImage_startView (i : StartIn) (m : Image) (s : State) : (s.applyImage i m).startView = s.startView := by
  have hwake (u : State) (l : List Nat) : (l.foldl (fun s m => s.wake (domEth0 + m)) u).startView = u.startView :=
    State.each_startView (fun m s => State.wake_startView (domEth0 + m) s) l u
  unfold State.applyImage
  dsimp only
  generalize hu : State.when _ (State.wake domViaduct) _ = u
  have hview : u.startView = s.startView := by
    rw [← hu, State.when_startView (State.wake_startView _), hwake]
    rfl
  generalize hw : (if m.station.baseMode = 0 then _ else u : State) = w
  have hview : w.startView = s.startView := by
    rw [← hw, State.startView_ite, ← hview]
    exact ite_self _
  have hview : (w.antImageRead i.supply).startView = s.startView := by rw [State.antImageRead_startView, hview]
  split
  · rwa [State.startView_ite, State.report_startView, ite_self]
  · exact hview

theorem State.startConfig_configured (i : StartIn) (s : State) : s.startView.Configured (s.startConfig i).startView := by
  have h := State.selectConfig_configured i.selectorBad s
  unfold State.startConfig
  dsimp only
  generalize s.selectConfig i.selectorBad = u at h ⊢
  split
  · exact h
  · rwa [State.applyImage_startView, State.extend_startView]

/-- The selected slot validates and no other waits: it is the configuration (Table 2-4). -/
theorem State.startConfig_startView {i : StartIn} {m : Image} {s : State} (hb : i.selectorBad = false) (hp : s.cfg.pending = none)
    (hv : s.validateSlot s.cfg.selected = .ok m) :
    (s.startConfig i).startView = { s.startView with image := some m, active := s.cfg.selected } := by
  have hselect : s.selectConfig i.selectorBad =
      { ({ s with cfg.selectorLost := false } : State).noteSlot s.cfg.selected 0 0 with cfg.image := some m, cfg.active := s.cfg.selected } := by
    rw [hb, State.selectConfig_of_none (by exact hp)]
    exact State.useSlot_ok hv
  unfold State.startConfig
  rw [hselect]
  dsimp only
  rw [State.applyImage_startView, State.extend_startView]
  exact congrArg (fun v => { v with image := some m, active := s.cfg.selected }) (State.noteSlot_startView s.cfg.selected 0 0
    { s with cfg.selectorLost := false })

theorem State.dropKey_startView (n : Nat) (s : State) : (s.dropKey n).startView = s.startView := by
  unfold State.dropKey
  split
  · exact State.report_startView ..
  · rfl

theorem State.incomplete_startView (s : State) : s.incomplete.startView = s.startView := by
  unfold State.incomplete
  split
  · exact State.report_startView ..
  · rfl

theorem State.tellTamper_startView (s : State) : s.tellTamper.startView = s.startView := by
  unfold State.tellTamper
  split
  · split
    · exact State.report_startView ..
    · rfl
  · rfl

theorem State.startKeys_startView (i : StartIn) (s : State) : (s.startKeys i).startView = s.startView := by
  have hkeys : (s.tellTamper.each i.keysBad State.dropKey).incomplete.startView = s.startView := by
    rw [State.incomplete_startView, State.each_startView State.dropKey_startView, State.tellTamper_startView]
  unfold State.startKeys
  dsimp only
  rw [State.deriveClass_startView, State.extend_startView]
  exact hkeys

theorem State.startTests_passed {i : StartIn} (hf : i.failures = 0) (s : State) : (s.startTests i).startView = s.startView := by
  unfold State.startTests
  rw [hf]
  rfl

end Sys2Proof.Machine
end

section
/-! SUPPORT. What the end of START shows: the mode, the claim and restricted service are decided there, and nothing else of it (R42). -/

namespace Sys2Proof.Machine

/-- The view without what the end of START decides. -/
def StartView.decided (v : StartView) : StartView := { v with mode := .start, restricted := 0, claim := false, stall := none }

theorem BesideStops.decided {s t : State} (h : BesideStops s t) : t.startView.decided = s.startView.decided := by
  obtain ⟨_, _, _, _, _, rfl⟩ := h
  rfl

theorem State.decided_ite {v : StartView} {c : Prop} [Decidable c] {t u : State} (ht : t.startView.decided = v) (hu : u.startView.decided = v) :
    (if c then t else u).startView.decided = v := by
  split
  · exact ht
  · exact hu

theorem State.setMode_decided (m : Mode) (trigger : Nat) (s : State) : (s.setMode m trigger).startView.decided = s.startView.decided := by
  unfold State.setMode
  dsimp only
  rw [State.startView_ite, State.report_startView]
  split <;> rfl

theorem State.cancelStep_startView (s : State) : s.cancelStep.startView = s.startView := by
  unfold State.cancelStep
  split
  · exact State.report_startView ..
  · rfl

theorem State.when_decided {f : State → State} (h : ∀ s, (f s).startView.decided = s.startView.decided) (c : Bool) (s : State) :
    (s.when c f).startView.decided = s.startView.decided := by
  cases c
  · rfl
  · exact h s

theorem State.toMode_decided (m : Mode) (trigger : Nat) (s : State) : (s.toMode m trigger).startView.decided = s.startView.decided := by
  unfold State.toMode
  extract_lets old set stepped meas surveyed closed ureg opened time pair stop meas'
  have hstepped : stepped.startView.decided = s.startView.decided :=
    (State.when_decided (fun s => congrArg StartView.decided (State.cancelStep_startView s)) _ set).trans (State.setMode_decided ..)
  have hsurveyed : surveyed.startView.decided = s.startView.decided := State.decided_ite hstepped hstepped
  have hclosed : closed.startView.decided = s.startView.decided :=
    (State.when_decided (fun s => (State.diagClose_besideStops 2 s).decided) _ surveyed).trans hsurveyed
  have hopened : opened.startView.decided = s.startView.decided := State.decided_ite hclosed hclosed
  exact State.decided_ite hopened hopened

theorem State.surveyAtStart_startView (s : State) : s.surveyAtStart.startView = s.startView := by
  have hbegin (check : Bool) (source : Nat) (ref : Int × Int × Int) : (s.beginSurvey check source ref).startView = s.startView :=
    State.report_startView ..
  unfold State.surveyAtStart
  split
  · split <;> exact hbegin ..
  · exact hbegin ..

theorem State.serveStart_decided (s : State) : s.serveStart.startView.decided = s.startView.decided := by
  unfold State.serveStart
  split
  · rw [(State.checkInputs_besideStops _).decided, State.surveyAtStart_startView, State.toMode_decided]
  · rw [(State.checkInputs_besideStops _).decided, (State.setCell_besideStops ..).decided, State.toMode_decided]

/-- A unit at the end of START that asserts its claim. -/
theorem State.assertClaim_decided (k : TakeIn) {s : State} (hk : s.pair.seeking = 6) :
    (s.assertClaim k).startView.decided = s.startView.decided := by
  unfold State.assertClaim
  rw [if_pos hk, State.serveStart_decided]
  rfl

theorem State.decideClaim_decided (k : TakeIn) {s : State} (hk : s.pair.seeking = 6) :
    (s.decideClaim k).startView.decided = s.startView.decided := by
  have hstart : s.deciding.startView.decided = s.startView.decided := by
    rw [State.deciding_eq]
    rfl
  have hseek : s.deciding.pair.seeking = 6 := by
    rw [State.deciding_eq]
    exact hk
  have hdecide : s.decideClaim k = s ∨ s.decideClaim k = s.forestalled ∨ s.decideClaim k = s.deciding ∨
      s.decideClaim k = (s.deciding.atLeast (s.deciding.ns + 1000)).assertClaim k := by
    unfold State.decideClaim
    split
    · exact .inl rfl
    · split
      · exact .inr (.inl rfl)
      · dsimp only
        split
        · exact .inr (.inr (.inl rfl))
        · exact .inr (.inr (.inr rfl))
  rcases hdecide with h | h | h | h <;> rw [h]
  · rfl
  · exact hstart
  · rw [State.assertClaim_decided k (by exact hseek)]
    exact hstart

theorem State.adoptClass_startView (s : State) : s.adoptClass.startView = s.startView := by
  unfold State.adoptClass
  split
  · dsimp only
    split
    · exact State.report_startView ..
    · rfl
  · rfl

theorem State.enterShadow_decided (s : State) : s.enterShadow.startView.decided = s.startView.decided := by
  unfold State.enterShadow
  rw [State.adoptClass_startView, State.toMode_decided]
  rfl

theorem State.viaductDown_startView (s : State) : s.viaductDown.startView = s.startView := by
  unfold State.viaductDown State.notMirrored
  split
  · exact State.report_startView ..
  · rw [State.report_startView]
    exact State.report_startView ..

theorem State.decide42_decided (s : State) : s.decide42.startView.decided = s.startView.decided := by
  unfold State.decide42
  split
  · split
    · split
      · exact State.enterShadow_decided s
      · rw [State.holdMismatch_eq]
        rfl
    · dsimp only
      split
      · rfl
      · rw [State.viaductDown_startView]
        rfl
  · exact State.decideClaim_decided _ rfl

theorem State.endTampered_decided (s : State) : s.endTampered.startView.decided = s.startView.decided := by
  have hcell := (State.setCell_besideStops causeTamper 0 s).decided
  unfold State.endTampered
  dsimp only
  generalize s.setCell causeTamper 0 = u at hcell ⊢
  rw [← hcell]
  split
  · rw [(State.checkInputs_besideStops _).decided, (State.setCell_besideStops ..).decided, State.toMode_decided]
  · exact State.decideClaim_decided _ rfl

theorem State.lumStart_startView (s : State) : s.lumStart.startView = s.startView := by
  unfold State.lumStart
  split <;> rfl

/-- The device at START's end: time runs, the watchdog is off (Table 2-3, 306 ms). -/
def StartView.ended (v : StartView) (step : Nat) : StartView := { v with step := step, running := true, watchdog := false, stall := none }

/-- The unit with its device time running, before what START learns of its partner. -/
def State.runTime (i : StartIn) (s : State) : State :=
  let s := (s.atLeast (s.sys.startT0 + 1000000 * i.duration)).whenReady domGnss
  { s with time.fAnchor := s.time.frc, time.rho := 0, time.running := true, sys.duration := sat 16 i.duration, sys.startStep := 12
           sys.watchdog := false, diag.stallStep := none, rad.beaconGap := s.ns, meas.withheldSince := s.ns }

theorem State.runTime_startView (i : StartIn) (s : State) : (s.runTime i).startView = s.startView.ended 12 := rfl

theorem State.startEnd_eq (i : StartIn) (s : State) :
    s.startEnd i = if (s.runTime i).sys.restricted = 1 then { (s.runTime i).startComplete i with sys.startStep := 13 }
      else if ((s.runTime i).meetPartner i).lumStart.tampered then (((s.runTime i).meetPartner i).lumStart.startComplete i).endTampered
      else if ((s.runTime i).meetPartner i).lumStart.staysInStart then ((s.runTime i).meetPartner i).lumStart.decide42.startComplete i
      else (((s.runTime i).meetPartner i).lumStart.startComplete i).decide42 := rfl

theorem State.startComplete_startView (i : StartIn) (s : State) : (s.startComplete i).startView = s.startView := State.reportNow_startView ..

/-- Without a configuration START ends before its last step (log 151). -/
theorem State.startEnd_restricted {i : StartIn} {s : State} (h : s.sys.restricted = 1) : (s.startEnd i).startView = s.startView.ended 13 := by
  have hcomplete := State.startComplete_startView i (s.runTime i)
  rw [State.runTime_startView] at hcomplete
  rw [State.startEnd_eq, if_pos (by exact h)]
  exact congrArg (fun v => { v with step := 13 }) hcomplete

theorem State.startEnd_decided {i : StartIn} {s : State} (h : s.sys.restricted ≠ 1) :
    (s.startEnd i).startView.decided = (s.startView.ended 12).decided := by
  have hmeet : ((s.runTime i).meetPartner i).lumStart.startView = s.startView.ended 12 := State.lumStart_startView _
  rw [State.startEnd_eq, if_neg (by exact h)]
  generalize ((s.runTime i).meetPartner i).lumStart = u at hmeet ⊢
  refine State.decided_ite ?_ (State.decided_ite ?_ ?_)
  · rw [State.endTampered_decided, State.startComplete_startView, hmeet]
  · rw [State.startComplete_startView, State.decide42_decided, hmeet]
  · rw [State.decide42_decided, State.startComplete_startView, hmeet]

end Sys2Proof.Machine
end

section
/-! SUPPORT. The steps of START in their order (R38): a step that hangs, a step that ends START, and the steps that run. -/

namespace Sys2Proof.Machine

/-- Step `k` of Table 2-3. -/
def State.stepOf (i : StartIn) : Nat → State → State
  | 0 => fun s => { s with sys.meas := List.replicate 8 0#384 }
  | 1 => fun s => { s with clk.system := true }
  | 2 => State.startFuse
  | 3 => State.startHeader
  | 4 => State.startJournal i
  | 5 => State.startVerify i
  | 6 => State.startWindows
  | 7 => State.startRestore i
  | 8 => State.startConfig i
  | 9 => State.startKeys i
  | 10 => State.startTests i
  | 11 => State.startEnd i
  | _ => id

def State.runSteps (i : StartIn) : List Nat → State → State
  | [], s => s
  | k :: l, s => State.runSteps i l (s.runStep i k (State.stepOf i k))

theorem State.runStart_eq (i : StartIn) (s : State) : s.runStart i = s.runSteps i [0, 1, 2, 3, 4, 5, 6, 7, 8, 9, 10, 11] := rfl

/-- Steps other than the next do not run. -/
theorem State.runSteps_past {i : StartIn} : ∀ {l : List Nat} {s : State}, s.sys.startStep ∉ l → s.runSteps i l = s
  | [], _, _ => rfl
  | k :: l, s, h => by
    have hk : s.sys.startStep ≠ k := fun e => h (e ▸ List.mem_cons_self ..)
    rw [State.runSteps, State.runStep, if_pos (.inl hk)]
    exact State.runSteps_past (fun hm => h (List.mem_cons_of_mem _ hm))

/-- A step that hangs is the one in progress, and none runs after it. -/
theorem State.runSteps_hang {i : StartIn} {l : List Nat} {s : State} {k : Nat} (hk : s.sys.startStep = k) (hi : i.stall = some k) (hl : k ∉ l) :
    s.runSteps i (k :: l) = s := by
  rw [State.runSteps, State.runStep, if_pos (.inr (.inl hi))]
  exact State.runSteps_past (hk ▸ hl)

/-- The next step runs where it does not hang. -/
theorem State.runSteps_next {i : StartIn} {l : List Nat} {s : State} {k : Nat} (hk : s.sys.startStep = k) (hi : i.stall ≠ some k)
    (hd : s.diag.stallStep = none) : s.runSteps i (k :: l) = State.runSteps i l (State.stepOf i k { s with sys.startStep := k + 1 }) := by
  rw [State.runSteps, State.runStep, if_neg (by simp [hk, hi, hd])]

theorem exec_start {i : StartIn} {s : State} (hm : s.sys.mode = .start) (hk : s.sys.startStep = 0) (hr : s.sys.resetHeld = false)
    (hs : s.sys.saving = false) :
    exec (.start i) s = .next { ({ s with out := [] } : State).runSteps i [0, 1, 2, 3, 4, 5, 6, 7, 8, 9, 10, 11] with pending := s.pending } := by
  simp only [exec, execStart, done_next]
  rw [if_pos ⟨hm, hk, hr, hs⟩, State.runStart_eq]

/-- The unit with MEAS0 to MEAS7 zero and the system domain running, before its fuse step. -/
def State.woken (s : State) : State := { s with sys.meas := List.replicate 8 0#384, clk.system := true, sys.startStep := 2 }

theorem State.runSteps_woken {i : StartIn} {l : List Nat} {s : State} (hk : s.sys.startStep = 0) (hi : i.stall = none)
    (hd : s.diag.stallStep = none) : s.runSteps i (0 :: 1 :: l) = s.woken.runSteps i l := by
  rw [State.runSteps_next hk (by simp [hi]) hd, State.runSteps_next (k := 1) rfl (by simp [hi]) (by exact hd)]
  rfl

/-- A START that shows restricted service at step 13 ends there. -/
theorem State.runSteps_stopped {i : StartIn} {l : List Nat} {s : State} {v : StartView} {why : Nat} (h : s.startView = v.stopped why)
    (hl : 13 ∉ l) : s.runSteps i l = s :=
  State.runSteps_past (by rwa [show s.sys.startStep = 13 from congrArg StartView.step h])

/-- The next step of a START, as it shows. -/
theorem State.runSteps_view {i : StartIn} {l : List Nat} {s : State} {v : StartView} {k : Nat} (h : s.startView = v) (hk : v.step = k)
    (hd : v.stall = none) (hi : i.stall = none) :
    ∃ u : State, u.startView = { v with step := k + 1 } ∧ u.upd = s.upd ∧ s.runSteps i (k :: l) = State.runSteps i l (State.stepOf i k u) := by
  subst h
  exact ⟨{ s with sys.startStep := k + 1 }, rfl, rfl, State.runSteps_next hk (by simp [hi]) hd⟩

/-! From the fuse step to the verified firmware. -/

/-- What a START shows that runs on after its firmware step. -/
def StartView.Verified (v w : StartView) : Prop :=
  ∃ fuse flash fallback, w = { v with system := true, step := 6, fuse := fuse, flash := flash, fallback := fallback }

/-- What a START shows that ended there before its restore: restricted service, with the claim as it was. -/
structure StartView.Barred (v w : StartView) : Prop where
  step : w.step = 13
  mode : w.mode = v.mode
  restricted : w.restricted ≠ 0
  claim : w.claim = v.claim
  system : w.system = true
  pending : w.pending = v.pending

theorem State.runSteps_verified {i : StartIn} {s : State} (hk : s.sys.startStep = 0) (hd : s.diag.stallStep = none) (hi : i.stall = none)
    (hc : i.copyCut = none) (hj : (s.flash.journalLast.getD {}).state = 0) :
    s.startView.Barred (s.runSteps i [0, 1, 2, 3, 4, 5, 6, 7, 8, 9, 10, 11]).startView ∨
    ∃ u : State, s.startView.Verified u.startView ∧
      s.runSteps i [0, 1, 2, 3, 4, 5, 6, 7, 8, 9, 10, 11] = u.runSteps i [6, 7, 8, 9, 10, 11] := by
  rw [State.runSteps_woken hk hi hd]
  obtain ⟨u, hu, -, hrun⟩ := State.runSteps_view (l := [3, 4, 5, 6, 7, 8, 9, 10, 11]) (k := 2) (s := s.woken) rfl rfl hd hi
  rw [hrun]
  obtain ⟨fuse, hfuse | ⟨why, hwhy, hstop⟩⟩ := State.startFuse_startView u
  · rw [hu] at hfuse
    obtain ⟨u, hu, -, hrun⟩ := State.runSteps_view (l := [4, 5, 6, 7, 8, 9, 10, 11]) (k := 3) hfuse rfl hd hi
    have hhead := (State.startHeader_startView u).trans hu
    rw [show State.stepOf i 2 _ = State.startFuse _ from rfl, hrun]
    obtain ⟨u, hu, -, hrun⟩ := State.runSteps_view (l := [5, 6, 7, 8, 9, 10, 11]) (k := 4) hhead rfl hd hi
    rw [show State.stepOf i 3 _ = State.startHeader _ from rfl, hrun]
    have hflash : u.flash = s.flash := (congrArg StartView.flash hu :)
    have hidle : (u.flash.journalLast.getD {}).state = 0 := by
      rw [hflash]
      exact hj
    rw [show State.stepOf i 4 u = State.startJournal i u from rfl, State.startJournal_idle hidle]
    obtain ⟨w, hw, hupd, hrun⟩ := State.runSteps_view (l := [6, 7, 8, 9, 10, 11]) (k := 5) (s := u.readJournal) hu rfl hd hi
    rw [hrun, show State.stepOf i 5 w = State.startVerify i w from rfl]
    have hj : w.upd.journal.state = 0 := by
      rw [hupd]
      exact hidle
    rcases State.startVerify_startView hc hj with ⟨flash, fallback, h⟩ | h
    · exact .inr ⟨_, ⟨fuse, flash, fallback, by rw [h, hw]; rfl⟩, rfl⟩
    · rw [State.runSteps_stopped h (by decide), h, hw]
      exact .inl ⟨rfl, rfl, by simp [StartView.stopped], rfl, rfl, rfl⟩
  · rw [show State.stepOf i 2 u = State.startFuse u from rfl, State.runSteps_stopped hstop (by decide), hstop, hu]
    exact .inl ⟨rfl, rfl, hwhy, rfl, rfl, rfl⟩

end Sys2Proof.Machine
end

section
/-! SUPPORT. START from its world windows to its end, START in FIELD, and START in the boot ROM (R38, R40, R41, R404). -/

namespace Sys2Proof.Machine

/-- What a START shows once MRAM is restored. -/
def StartView.readied (v : StartView) : StartView :=
  { v with step := 9, locked := true, cores := 0xFF#8, restored := true, valid := 0 }

/-- The world windows and the restore, up to the configuration. -/
theorem State.runSteps_readied {i : StartIn} {u : State} {v : StartView} (hu : u.startView = v) (hk : v.step = 6) (hd : v.stall = none)
    (hi : i.stall = none) :
    ∃ x : State, x.startView = v.readied ∧ u.runSteps i [6, 7, 8, 9, 10, 11] = (x.startConfig i).runSteps i [9, 10, 11] := by
  obtain ⟨a, ha, -, hrun⟩ := State.runSteps_view (l := [7, 8, 9, 10, 11]) hu hk hd hi
  have hwindows := State.startWindows_startView a
  rw [ha] at hwindows
  obtain ⟨b, hb, -, hrun'⟩ := State.runSteps_view (l := [8, 9, 10, 11]) (k := 7) hwindows rfl hd hi
  have hrestore := State.startRestore_startView i b
  rw [hb] at hrestore
  obtain ⟨x, hx, -, hrun''⟩ := State.runSteps_view (l := [9, 10, 11]) (k := 8) hrestore rfl hd hi
  exact ⟨x, hx, hrun.trans (hrun'.trans hrun'')⟩

/-- The keys and a self-test that passes, up to the end. -/
theorem State.runSteps_tested {i : StartIn} {u : State} {v : StartView} (hu : u.startView = v) (hk : v.step = 9) (hd : v.stall = none)
    (hi : i.stall = none) (hf : i.failures = 0) :
    ∃ w : State, w.startView = { v with step := 12 } ∧ u.runSteps i [9, 10, 11] = w.startEnd i := by
  obtain ⟨a, ha, -, hrun⟩ := State.runSteps_view (l := [10, 11]) hu hk hd hi
  have hkeys := (State.startKeys_startView i a).trans ha
  obtain ⟨b, hb, -, hrun'⟩ := State.runSteps_view (l := [11]) (k := 10) hkeys rfl hd hi
  have htests := (State.startTests_passed hf b).trans hb
  obtain ⟨w, hw, -, hrun''⟩ := State.runSteps_view (l := []) (k := 11) htests rfl hd hi
  exact ⟨w, hw, hrun.trans (hrun'.trans hrun'')⟩

/-- How a START that nothing hangs shows at its end (R38, Table 2-4). -/
structure StartView.Ends (v w : StartView) : Prop where
  step : w.step = 12 ∨ w.step = 13
  system : w.system = true
  pending : w.pending = v.pending
  barred : w.step = 13 → w.mode = v.mode ∧ w.restricted ≠ 0 ∧ w.claim = v.claim
  served : w.step = 12 → w.running = true ∧ w.restored = true ∧ w.locked = true ∧ w.cores = 0xFF#8 ∧ w.watchdog = false ∧ w.valid = 0

theorem StartView.Barred.ends {v w : StartView} (h : v.Barred w) : v.Ends w where
  step := .inr h.step
  system := h.system
  pending := h.pending
  barred := fun _ => ⟨h.mode, h.restricted, h.claim⟩
  served := fun hk => absurd (h.step.symm.trans hk) (by decide)

/-- A view decided of a START at its last step. -/
theorem StartView.Ends.of_decided {v w x : StartView} (h : w.decided = x.decided) (hk : x.step = 12) (hsystem : x.system = true)
    (hpending : x.pending = v.pending) (hrunning : x.running = true) (hrestored : x.restored = true) (hlocked : x.locked = true)
    (hcores : x.cores = 0xFF#8) (hwatchdog : x.watchdog = false) (hvalid : x.valid = 0) : v.Ends w := by
  have hstep : w.step = 12 := (congrArg StartView.step h :).trans hk
  refine ⟨.inl hstep, (congrArg StartView.system h :).trans hsystem, (congrArg StartView.pending h :).trans hpending,
    fun e => absurd (hstep.symm.trans e) (by decide), fun _ => ⟨(congrArg StartView.running h :).trans hrunning,
      (congrArg StartView.restored h :).trans hrestored, (congrArg StartView.locked h :).trans hlocked,
      (congrArg StartView.cores h :).trans hcores, (congrArg StartView.watchdog h :).trans hwatchdog,
      (congrArg StartView.valid h :).trans hvalid⟩⟩

theorem State.runSteps_ends {i : StartIn} {s : State} (hk : s.sys.startStep = 0) (hd : s.diag.stallStep = none) (hi : i.stall = none)
    (hf : i.failures = 0) (hc : i.copyCut = none) (hj : (s.flash.journalLast.getD {}).state = 0) :
    s.startView.Ends (s.runSteps i [0, 1, 2, 3, 4, 5, 6, 7, 8, 9, 10, 11]).startView := by
  rcases State.runSteps_verified hk hd hi hc hj with h | ⟨u, ⟨fuse, flash, fallback, hu⟩, hrun⟩
  · exact h.ends
  obtain ⟨x, hx, hrun'⟩ := State.runSteps_readied hu rfl hd hi
  have hconfig := State.startConfig_configured i x
  obtain ⟨selected, cfgPending, image, active, restricted, -, hy⟩ := hconfig
  rw [hx] at hy
  obtain ⟨w, hw, hrun''⟩ := State.runSteps_tested hy rfl hd hi hf
  rw [hrun, hrun', hrun'']
  by_cases hr : restricted = 1
  · have hrestricted : w.sys.restricted = 1 := (congrArg StartView.restricted hw :).trans hr
    rw [State.startEnd_restricted hrestricted, hw]
    exact ⟨.inr rfl, rfl, rfl, fun _ => ⟨rfl, fun e => absurd (hr.symm.trans e) (by decide), rfl⟩, fun (e : 13 = 12) => absurd e (by decide)⟩
  · have hend := State.startEnd_decided (i := i) (s := w) (fun e => hr ((congrArg StartView.restricted hw :).symm.trans e))
    rw [hw] at hend
    exact .of_decided hend rfl rfl rfl rfl rfl rfl rfl rfl rfl

/-! A START in FIELD with no transition and no journal step pending, up to its firmware. -/

/-- MEAS0 as the boot ROM leaves it in FIELD: its digest, then the life-cycle state (R40). -/
def romMeasured : BitVec 384 :=
  Config.sha384 (beBytes 48 (Config.sha384 (beBytes 48 0 ++ beBytes 48 (Config.sha384 Config.romDigest).toNat)).toNat ++
    beBytes 48 (Config.sha384 [2#8]).toNat)

/-- The unit about to verify its firmware. -/
structure Verifying (s t : State) : Prop where
  view : t.startView = { s.startView with system := true, step := 6 }
  journal : t.upd.journal.state = 0
  keys : t.keys = s.keys
  pair : t.pair = s.pair
  rom : t.sys.meas[0]? = some romMeasured
  meas6 : t.sys.meas[6]? = some 0#384
  meas7 : t.sys.meas[7]? = some 0#384

theorem State.useHeader_meas {n : Nat} (hn : n ≠ 1) (h : List Octet × BootFlash) (s : State) : (s.useHeader h).sys.meas[n]? = s.sys.meas[n]? := by
  refine (getElem?_updAt _ s.sys.meas 1 n).trans ?_
  simp [hn]

/-- The boot header touches MEAS1 and the flash's parameters (R391). -/
theorem State.startHeader_keeps (s : State) : s.startHeader.keys = s.keys ∧ s.startHeader.pair = s.pair ∧
    ∀ n, n ≠ 1 → s.startHeader.sys.meas[n]? = s.sys.meas[n]? := by
  unfold State.startHeader
  split
  · exact ⟨rfl, rfl, fun n hn => State.useHeader_meas hn ..⟩
  · exact ⟨rfl, rfl, fun n hn => State.useHeader_meas hn ..⟩
  · exact ⟨rfl, rfl, fun n hn => State.useHeader_meas hn ..⟩
  · exact ⟨rfl, rfl, fun _ _ => rfl⟩

/-- The unit after its fuse step in FIELD. -/
def State.fused (s : State) : State := ({ s.woken with sys.startStep := 3 } : State).measureRom.deriveClass 0

theorem State.fused_rom {s : State} (hl : s.life = .field) : s.fused.sys.meas[0]? = some romMeasured := by
  have hcode : s.life.code = 2 := by rw [hl]; rfl
  have hmeas : s.fused.sys.meas[0]? = some (Config.sha384 (beBytes 48 (Config.sha384 (beBytes 48 (0#384).toNat ++
      beBytes 48 (Config.sha384 Config.romDigest).toNat)).toNat ++ beBytes 48 (Config.sha384 [BitVec.ofNat 8 s.life.code]).toNat)) := rfl
  rw [hmeas, hcode]
  rfl

theorem State.runSteps_verifying {i : StartIn} {s : State} (hk : s.sys.startStep = 0) (hd : s.diag.stallStep = none) (hi : i.stall = none)
    (hl : s.life = .field) (hp : s.keys.pendingLc = none) (hj : (s.flash.journalLast.getD {}).state = 0) :
    ∃ w : State, Verifying s w ∧ s.runSteps i [0, 1, 2, 3, 4, 5, 6, 7, 8, 9, 10, 11] =
      (w.startVerify i).runSteps i [6, 7, 8, 9, 10, 11] := by
  have hfuse : State.stepOf i 2 { s.woken with sys.startStep := 3 } = s.fused :=
    State.startFuse_field (s := { s.woken with sys.startStep := 3 }) hl hp
  rw [State.runSteps_woken hk hi hd, State.runSteps_next (k := 2) (s := s.woken) rfl (by simp [hi]) hd, hfuse,
    State.runSteps_next (k := 3) (s := s.fused) rfl (by simp [hi]) hd]
  obtain ⟨hkeys, hpair, hmeas⟩ := State.startHeader_keeps { s.fused with sys.startStep := 4 }
  have hview := State.startHeader_startView { s.fused with sys.startStep := 4 }
  rw [show State.stepOf i 3 _ = State.startHeader _ from rfl]
  generalize State.startHeader _ = b at hkeys hpair hmeas hview ⊢
  have hstep : b.sys.startStep = 4 := (congrArg StartView.step hview :)
  have hstall : b.diag.stallStep = none := (congrArg StartView.stall hview :).trans hd
  have hflash : b.flash = s.flash := (congrArg StartView.flash hview :)
  have hidle : (b.flash.journalLast.getD {}).state = 0 := by
    rw [hflash]
    exact hj
  rw [State.runSteps_next hstep (by simp [hi]) hstall, show State.stepOf i 4 _ = State.startJournal i _ from rfl,
    State.startJournal_idle (by exact hidle), State.runSteps_next (k := 5) rfl (by simp [hi]) (by exact hstall)]
  refine ⟨{ ({ b with sys.startStep := 5 } : State).readJournal with sys.startStep := 6 }, ⟨?_, hidle, hkeys, hpair, ?_, ?_, ?_⟩, rfl⟩
  · exact congrArg (fun v => { v with step := 6 }) hview
  · exact (hmeas 0 (by decide)).trans (State.fused_rom hl)
  · exact (hmeas 6 (by decide)).trans rfl
  · exact (hmeas 7 (by decide)).trans rfl

theorem State.fwOutcome_congr {s t : State} (hfuse : t.keys.fuse = s.keys.fuse) (hflash : t.flash = s.flash) (base : Nat) :
    t.fwOutcome base = s.fwOutcome base := by
  simp only [State.fwOutcome, State.fwImage, State.fwHead, hfuse, hflash]

theorem State.validateSlot_congr {s t : State} (hfuse : t.keys.fuse = s.keys.fuse) (hsel : t.sys.pairSel = s.sys.pairSel)
    (hflash : t.flash = s.flash) (slot : Nat) : t.validateSlot slot = s.validateSlot slot := by
  simp only [State.validateSlot, State.slotOctets, hfuse, hsel, hflash]

/-- The partition booted does not verify, and FALLBACK does not either: the unit stays in the boot ROM (R404). -/
theorem State.startVerify_recovery {i : StartIn} {s : State} (hj : s.upd.journal.state = 0) (hb : s.fwOutcome s.bootBase ≠ 0)
    (hf : s.fwOutcome fwFallback ≠ 0) :
    ∃ rcd events, s.startVerify i = { s with sys.restricted := 2, sys.startStep := 13, rcd := rcd, ureg.events := events, ureg.recovery := true } := by
  have hfall : ((s.updEvent 3).report 0x0D0A [(1, s.fwOutcome s.bootBase)]).fwOutcome fwFallback ≠ 0 := by
    rwa [State.fwOutcome_congr (s := s) (by simp [State.updEvent]) (by simp [State.updEvent])]
  unfold State.startVerify
  dsimp only
  rw [if_neg hb, if_neg (by simp [hj]), if_neg (fun h => hfall h.1), State.report_eq]
  exact ⟨_, _, rfl⟩

/-- Firmware that verifies and a configuration that validates take START to its last step (R38, R41). -/
theorem State.runSteps_field {i : StartIn} {s : State} {m : Image} (hk : s.sys.startStep = 0) (hd : s.diag.stallStep = none)
    (hi : i.stall = none) (hf : i.failures = 0) (hl : s.life = .field) (hp : s.keys.pendingLc = none)
    (hj : (s.flash.journalLast.getD {}).state = 0) (hfall : s.ureg.bootFallback = false) (hr : s.sys.restricted = 0)
    (hactive : s.fwOutcome fwActive = 0) (hbad : i.selectorBad = false) (hpend : s.cfg.pending = none)
    (hm : s.validateSlot s.cfg.selected = .ok m) :
    (s.runSteps i [0, 1, 2, 3, 4, 5, 6, 7, 8, 9, 10, 11]).startView.decided = (StartView.ended { s.startView with
      system := true, locked := true, cores := 0xFF#8, restored := true, valid := 0, image := some m, active := s.cfg.selected } 12).decided := by
  obtain ⟨w, hw, hrun⟩ := State.runSteps_verifying hk hd hi hl hp hj
  have hbase : w.bootBase = fwActive := by
    have hfall' : w.ureg.bootFallback = false := (congrArg StartView.fallback hw.view :).trans hfall
    simp [State.bootBase, hfall']
  have hverified : w.fwOutcome w.bootBase = 0 := by
    rw [hbase, State.fwOutcome_congr (s := s) (congrArg KeyStore.fuse hw.keys) (congrArg StartView.flash hw.view :), hactive]
  rw [hrun, State.startVerify_of_verified i hverified]
  obtain ⟨x, hx, hrun'⟩ := State.runSteps_readied hw.view rfl hd hi
  have hselected : x.cfg.selected = s.cfg.selected := (congrArg StartView.selected hx :)
  have hvalid : x.validateSlot x.cfg.selected = .ok m := by
    rw [hselected, State.validateSlot_congr (s := s) (congrArg StartView.fuse hx :) (congrArg StartView.pairSel hx :)
      (congrArg StartView.flash hx :), hm]
  have hy := State.startConfig_startView (i := i) hbad ((congrArg StartView.cfgPending hx :).trans hpend) hvalid
  rw [hx, hselected] at hy
  obtain ⟨z, hz, hrun''⟩ := State.runSteps_tested hy rfl hd hi hf
  have hrestricted : z.sys.restricted = 0 := (congrArg StartView.restricted hz :).trans hr
  rw [hrun', hrun'', State.startEnd_decided (by simp [hrestricted]), hz]
  rfl

/-- Settles O7: a step that hangs by the order of the steps, START's end by what each step shows of the unit. -/
theorem startRuns : Obligations.StartRuns := by
  unfold Obligations.StartRuns
  refine ⟨?hangs0, ?hangs1, ?hangs2, ?ends, ?recovery⟩
  case hangs0 =>
    intro s i hm hk hr hs hi
    rw [exec_start hm hk hr hs, State.runSteps_hang (by exact hk) hi (by decide)]
  case hangs1 =>
    intro s i hm hk hr hs hd hi
    rw [exec_start hm hk hr hs, State.runSteps_next (s := { s with out := [] }) hk (by simp [hi]) hd, State.runSteps_hang (k := 1) rfl hi (by decide)]
    rfl
  case hangs2 =>
    intro s i hm hk hr hs hd hi
    rw [exec_start hm hk hr hs, State.runSteps_next (s := { s with out := [] }) hk (by simp [hi]) hd,
      State.runSteps_next (k := 1) rfl (by simp [hi]) (by exact hd), State.runSteps_hang (k := 2) rfl hi (by decide)]
    rfl
  case ends =>
    intro s i hm hk hr hs hd hi hf hc hj hfall hres
    have hexec := exec_start (i := i) hm hk hr hs
    have hends := State.runSteps_ends (i := i) (s := { s with out := [] }) hk hd hi hf hc hj
    have hfield := fun hl hp ha hb hpend m hv =>
      State.runSteps_field (i := i) (s := { s with out := [] }) (m := m) hk hd hi hf hl hp hj hfall hres ha hb hpend hv
    generalize State.runSteps i _ _ = t at hexec hends hfield
    refine ⟨_, hexec, hends.step, hends.system, rfl, fun e => ?_, hends.served, fun hl hp ha hb hpend m hv => ?_⟩
    · obtain ⟨hmode, hrestricted, hclaim⟩ := hends.barred e
      exact ⟨hmode.trans hm, hrestricted, hclaim⟩
    · have h := hfield hl hp ha hb hpend m hv
      exact ⟨(congrArg StartView.step h :), (congrArg StartView.image h :), (congrArg StartView.active h :)⟩
  case recovery =>
    intro s i hm hk hr hs hd hi hl hp hj hfall hactive hfallback
    have hexec := exec_start (i := i) hm hk hr hs
    obtain ⟨w, hw, hrun⟩ := State.runSteps_verifying (i := i) (s := { s with out := [] }) hk hd hi hl hp hj
    have hbase : w.bootBase = fwActive := by
      have hfall' : w.ureg.bootFallback = false := (congrArg StartView.fallback hw.view :).trans hfall
      simp [State.bootBase, hfall']
    have hflash : w.flash = s.flash := (congrArg StartView.flash hw.view :)
    have houtcome := State.fwOutcome_congr (s := s) (congrArg KeyStore.fuse hw.keys) hflash
    obtain ⟨rcd, events, hverify⟩ := State.startVerify_recovery (i := i) hw.journal (by rw [hbase, houtcome]; exact hactive)
      (by rw [houtcome]; exact hfallback)
    rw [hrun, hverify, State.runSteps_past (by show 13 ∉ _; decide)] at hexec
    have hmode : w.sys.mode = .start := (congrArg StartView.mode hw.view :).trans hm
    exact ⟨_, hexec, hmode, rfl, rfl, rfl, hw.rom, hw.meas6, hw.meas7, hw.keys, hflash, hw.pair, rfl⟩

end Sys2Proof.Machine
end

section
/-! SUPPORT. A host's request in hand (R473, R475): one that passes every check is marked in progress in its session, and the reply
that ends it is sent, remembered and takes it out of progress. -/

namespace Sys2Proof.Machine

/-! ### Session slots -/

/-- Changing an element in nothing that a search asks for leaves what the search finds. -/
theorem findIdx?_updAt {α : Type} {p : α → Bool} {g : α → α} (h : ∀ x, p (g x) = p x) :
    ∀ (l : List α) (k : Nat), (updAt l k g).findIdx? p = l.findIdx? p
  | [], _ => rfl
  | x :: l, 0 => by simp [updAt, List.findIdx?_cons, h]
  | x :: l, k + 1 => by simp [updAt, List.findIdx?_cons, findIdx?_updAt h l k]

theorem State.slotOf_updHs {g : HostSess → HostSess}
    (h : ∀ x, (g x).inUse = x.inUse ∧ (g x).authed = x.authed ∧ (g x).sid = x.sid ∧ (g x).source = x.source)
    (k : Nat) (f : ChpFrame) (b : Bool) (s : State) : (s.updHs k g).slotOf f b = s.slotOf f b := by
  refine findIdx?_updAt (fun x => ?_) _ _
  obtain ⟨hu, ha, hi, hs⟩ := h x
  rw [hu, ha, hi, hs]

theorem State.slotOf_congr {s t : State} (h : t.host.sessions = s.host.sessions) (f : ChpFrame) (b : Bool) : t.slotOf f b = s.slotOf f b := by
  rw [State.slotOf, State.slotOf, h]

theorem State.hs_congr {s t : State} (h : t.host.sessions = s.host.sessions) (k : Nat) : t.hs k = s.hs k := by
  rw [State.hs, State.hs, h]

/-- A slot that a frame names exists, and a change of it is read back. -/
theorem State.hs_updHs_of_slotOf {f : ChpFrame} {b : Bool} {k : Nat} {s : State} (h : s.slotOf f b = some k) (g : HostSess → HostSess) :
    (s.updHs k g).hs k = g (s.hs k) := by
  obtain ⟨hlt, -⟩ := List.findIdx?_eq_some_iff_getElem.mp h
  simp [State.hs, State.updHs, getElem?_updAt, List.getElem?_eq_getElem hlt]

/-! ### The request in progress -/

/-- The request of the session in slot `k` is the only one of it in progress, and the last one taken; the host bridge runs. -/
structure InHand (f : ChpFrame) (k : Nat) (s : State) : Prop where
  session : f.session ≠ 0#32
  slot : s.slotOf f true = some k
  running : s.tres.frozen.getLsbD 8 = false
  processing : (s.hs k).processing = [f.sequence.toNat]
  lastSeq : (s.hs k).lastSeq = f.sequence.toNat

/-- What leaves the sessions and the freezing of masters alone leaves the request in hand. -/
theorem InHand.congr {f : ChpFrame} {k : Nat} {s t : State} (h : InHand f k s) (hhost : t.host.sessions = s.host.sessions)
    (htres : t.tres = s.tres) : InHand f k t where
  session := h.session
  slot := (State.slotOf_congr hhost ..).trans h.slot
  running := htres ▸ h.running
  processing := (State.hs_congr hhost k).symm ▸ h.processing
  lastSeq := (State.hs_congr hhost k).symm ▸ h.lastSeq

/-- The reply to a request of a session (R472). -/
def ChpFrame.reply (f : ChpFrame) (kind result : Nat) (body : List Octet) (mac : BitVec 128) : Reply :=
  ⟨f.session, f.sequence, BitVec.ofNat 16 kind, BitVec.ofNat 8 result, body, some mac, f.source⟩

/-- The reply that ends the request of an open session goes out under its MAC (R473). -/
theorem State.finish_out {f : ChpFrame} {k : Nat} {s : State} (hsession : f.session ≠ 0#32) (hslot : s.slotOf f true = some k)
    (hrun : s.tres.frozen.getLsbD 8 = false) (kind result : Nat) (body : List Octet) :
    ∃ mac, (s.finish f kind result body).out = s.out ++ [.reply (f.reply kind result body mac)] ∧
      (s.finish f kind result body).hs k = { s.hs k with
        remembered := (f.reply kind result body mac :: (s.hs k).remembered).take 16
        processing := (s.hs k).processing.filter (fun q => decide (q ≠ f.sequence.toNat)) } := by
  unfold State.finish
  simp only [if_neg hsession, hslot, State.sendReply, State.updHs_tres, hrun]
  exact ⟨_, rfl, State.hs_updHs_of_slotOf hslot _⟩

theorem InHand.finish_out {f : ChpFrame} {k : Nat} {s : State} (h : InHand f k s) (kind result : Nat) (body : List Octet) :
    ∃ mac, (s.finish f kind result body).out = s.out ++ [.reply (f.reply kind result body mac)] ∧
      ((s.finish f kind result body).hs k).remembered.head? = some (f.reply kind result body mac) ∧
      ((s.finish f kind result body).hs k).processing = [] ∧ ((s.finish f kind result body).hs k).lastSeq = f.sequence.toNat := by
  obtain ⟨mac, hout, hhs⟩ := State.finish_out h.session h.slot h.running kind result body
  exact ⟨mac, hout, by simp [hhs], by simp [hhs, h.processing], by rw [hhs]; exact h.lastSeq⟩

/-- A request in hand of which nothing has been sent is answered by its end. -/
theorem InHand.answered {f : ChpFrame} {k : Nat} {s : State} (h : InHand f k s) (hout : s.out = []) (kind result : Nat) (body : List Octet) :
    answered f kind result body k (s.finish f kind result body) := by
  obtain ⟨mac, ho, hr, hp, hl⟩ := h.finish_out kind result body
  exact ⟨mac, by rw [ho, hout]; rfl, hr, hp, hl⟩

@[simp] theorem State.finish_pending (f : ChpFrame) (kind result : Nat) (body : List Octet) (s : State) :
    (s.finish f kind result body).pending = s.pending := by rw [State.finish_eq]

/-! ### The checks passed -/

/-- A request whose checks have passed keeps its session from being idle, and no more of the session changes (R476). -/
theorem State.slotOf_passed (f : ChpFrame) (k : Nat) (s : State) : (s.passed (some k)).slotOf f true = s.slotOf f true :=
  State.slotOf_updHs (g := fun h => { h with lastFrame := s.ns }) (fun _ => ⟨rfl, rfl, rfl, rfl⟩) ..

theorem State.hs_passed {f : ChpFrame} {k : Nat} {s : State} (h : s.slotOf f true = some k) :
    (s.passed (some k)).hs k = { s.hs k with lastFrame := s.ns } :=
  State.hs_updHs_of_slotOf (s := { s with host.rxFrames := incr s.host.rxFrames }) h (fun h => { h with lastFrame := s.ns })

/-- A session takes the request with this sequence number (R475). -/
def HostSess.taking (q : Nat) (h : HostSess) : HostSess := { h with lastSeq := q, processing := q :: h.processing }

/-- The session's request is taken and has passed its checks. -/
def State.accepted (f : ChpFrame) (k : Nat) (s : State) : State := (s.updHs k (HostSess.taking f.sequence.toNat)).passed (some k)

theorem State.slotOf_accepted (f : ChpFrame) (k : Nat) (s : State) : (s.accepted f k).slotOf f true = s.slotOf f true :=
  (State.slotOf_passed ..).trans (State.slotOf_updHs (g := HostSess.taking f.sequence.toNat) (fun _ => ⟨rfl, rfl, rfl, rfl⟩) ..)

theorem State.hs_accepted {f : ChpFrame} {k : Nat} {s : State} (h : s.slotOf f true = some k) :
    (s.accepted f k).hs k = { (s.hs k).taking f.sequence.toNat with lastFrame := s.ns } := by
  have hslot := (State.slotOf_updHs (g := HostSess.taking f.sequence.toNat) (fun _ => ⟨rfl, rfl, rfl, rfl⟩) k f true s).trans h
  rw [State.accepted, State.hs_passed hslot, State.hs_updHs_of_slotOf h]
  rfl

/-- The request is in hand then. -/
theorem State.accepted_inHand {kind : Nat} {right : Option Nat} {lead : Bool} {f : ChpFrame} {k : Nat} {s : State}
    (h : chpPasses kind right lead f k s) : InHand f k (s.accepted f k) := by
  obtain ⟨hcarries, -, hsession, hslot, -, -, -, hidle, -⟩ := h
  refine ⟨hsession, (State.slotOf_accepted ..).trans hslot, ?_, ?_, ?_⟩
  · simp only [State.carries, State.transports, Bool.and_eq_true] at hcarries
    exact (Bool.not_eq_true' _).mp hcarries.2.1.2
  · rw [State.hs_accepted hslot]
    simp [HostSess.taking, hidle]
  · rw [State.hs_accepted hslot]
    rfl

/-- A request of a type that is served, of a host with its right, at a lead where it is lead-only, runs (R473, R475). -/
theorem State.chpRun_of_admitted {kind : Nat} {right : Option Nat} {lead : Bool} {f : ChpFrame} {k : Nat} {s : State}
    (hslot : s.slotOf f true = some k) (hserves : s.serves kind = true)
    (hright : (right.map (bit ((s.accessRec (s.hs k).host).elim 0 (·.rights)))).getD true = true) (hlead : lead = true → s.isLead = true)
    (run : Nat → State → State) : s.chpRun kind right lead f run k = run (s.hs k).host (s.accepted f k) := by
  set u := s.updHs k (HostSess.taking f.sequence.toNat) with hu
  have hhost : (u.hs k).host = (s.hs k).host := by
    rw [hu, State.hs_updHs_of_slotOf hslot]
    rfl
  have hserves' : u.serves kind = true := hserves
  have hright' : (right.map (bit ((u.accessRec (u.hs k).host).elim 0 (·.rights)))).getD true = true := by
    rw [hhost]
    exact hright
  have hlead' : lead = true → u.isLead = true := hlead
  rw [← hhost]
  exact (if_neg (c := (!u.serves kind) = true) (by simp [hserves'])).trans
    ((if_neg (c := (!(right.map (bit ((u.accessRec (u.hs k).host).elim 0 (·.rights)))).getD true) = true) (by simp [hright'])).trans
      (if_neg (c := (lead && !u.isLead) = true) (by simpa using hlead')))

/-- A request whose checks all pass runs (R473). -/
theorem State.chpSession_of_passes {kind : Nat} {right : Option Nat} {lead : Bool} {f : ChpFrame} {k : Nat} {s : State}
    (h : chpPasses kind right lead f k s) (run : Nat → State → State) :
    s.chpSession kind right lead f run k = run (s.hs k).host (s.accepted f k) := by
  obtain ⟨-, -, -, hslot, hadmits, hmac, hnew, hidle, hseq, hserves, hright, hlead⟩ := h
  have hfind : (s.hs k).remembered.find? (fun r => decide (r.sequence = f.sequence)) = none :=
    List.find?_eq_none.mpr (fun r hr => by simpa using hnew r hr)
  unfold State.chpSession
  rw [if_neg (by simp [hadmits]), if_neg (by simp [hmac]), State.chpAuthed, hfind]
  dsimp only
  rw [if_neg (by simp [hidle]), if_neg (by simp [hidle]), if_neg (by omega), State.chpRun_of_admitted hslot hserves hright hlead]

/-- Leaving the receive buffer changes nothing that the checks ask for (R471). -/
theorem chpPasses_takeFrame {kind : Nat} {right : Option Nat} {lead : Bool} {f : ChpFrame} {k : Nat} {s : State}
    (h : chpPasses kind right lead f k s) : chpPasses kind right lead f k (s.takeFrame f) := by
  unfold State.takeFrame
  split
  · exact h
  · exact h

/-- So does one on a transport that runs CHP, taken from its buffer (R471). -/
theorem State.chp_of_passes {kind : Nat} {right : Option Nat} {lead : Bool} {f : ChpFrame} {k : Nat} {s : State}
    (h : chpPasses kind right lead f k s) {ok : Bool} (hok : ok = true) (anon : Bool) (run : Nat → State → State) :
    State.chp kind right lead anon ok f run s = run (((s.takeFrame f).hs k).host) ((s.takeFrame f).accepted f k) := by
  have htaken := chpPasses_takeFrame h
  have hslot : (s.takeFrame f).slotOf f true = some k := by
    obtain ⟨-, -, -, hslot, -⟩ := htaken
    exact hslot
  obtain ⟨hcarries, hformed, hsession, -⟩ := h
  unfold State.chp State.chpTaken
  rw [if_pos hcarries]
  dsimp only
  rw [if_neg (by simp [hformed, hok]), if_neg hsession, hslot]
  exact State.chpSession_of_passes htaken run

theorem State.takeFrame_eq (f : ChpFrame) (s : State) : s.takeFrame f = { s with host.spiRx := (s.takeFrame f).host.spiRx } := by
  unfold State.takeFrame
  split <;> rfl

/-- Taking the frame and the request changes the host bridge's registers alone, and none of the requests that wait. -/
theorem State.accepted_takeFrame_eq (f : ChpFrame) (k : Nat) (s : State) :
    (s.takeFrame f).accepted f k = { s with host := ((s.takeFrame f).accepted f k).host } := by
  rw [State.takeFrame_eq]
  rfl

theorem State.accepted_takeFrame_awaiting (f : ChpFrame) (k : Nat) (s : State) :
    ((s.takeFrame f).accepted f k).host.awaiting = s.host.awaiting := by
  rw [State.takeFrame_eq]
  rfl

theorem State.hs_takeFrame (f : ChpFrame) (k : Nat) (s : State) : (s.takeFrame f).hs k = s.hs k := by
  rw [State.takeFrame_eq]
  rfl

/-- A command that hands such a request to its message's meaning answers what that makes of it: the request is in hand, and only the host
bridge's registers have changed. -/
theorem done_chp_of_passes {kind : Nat} {right : Option Nat} {lead : Bool} {f : ChpFrame} {k : Nat} {s : State}
    (h : chpPasses kind right lead f k s) {ok : Bool} (hok : ok = true) (anon : State → Bool) (run : Nat → State → State) :
    ∃ hb : HostBridge, hb.awaiting = s.host.awaiting ∧ InHand f k { s with host := hb, out := [] } ∧
      done (fun s => s.chp kind right lead (anon s) ok f run) s =
        .next { run (s.hs k).host { s with host := hb, out := [] } with pending := s.pending } := by
  have h' : chpPasses kind right lead f k { s with out := [] } := h
  have hrun := State.chp_of_passes h' hok (anon { s with out := [] }) run
  have hhand := State.accepted_inHand (chpPasses_takeFrame h')
  rw [State.accepted_takeFrame_eq] at hrun hhand
  refine ⟨_, State.accepted_takeFrame_awaiting f k { s with out := [] }, hhand, ?_⟩
  rw [done_next, hrun, State.hs_takeFrame]
  rfl

/-- What it makes of the request leaves the queue as it is. -/
theorem done_chp_eq_next {kind : Nat} {right : Option Nat} {lead : Bool} {f : ChpFrame} {k : Nat} {s : State}
    (h : chpPasses kind right lead f k s) {ok : Bool} (hok : ok = true) (anon : State → Bool) (run : Nat → State → State) :
    ∃ hb : HostBridge, hb.awaiting = s.host.awaiting ∧ InHand f k { s with host := hb, out := [] } ∧
      ∀ t, run (s.hs k).host { s with host := hb, out := [] } = t → t.pending = s.pending →
        done (fun s => s.chp kind right lead (anon s) ok f run) s = .next t := by
  obtain ⟨hb, hawaiting, hhand, hrun⟩ := done_chp_of_passes h hok anon run
  refine ⟨hb, hawaiting, hhand, fun t ht hp => ?_⟩
  subst ht
  exact hrun.trans (next_of_pending hp)

end Sys2Proof.Machine
end

section
/-! SUPPORT. STATUS_READ (R13, R478): what a register reads apart from the host bridge, the latch and what is sent; the words of a read. -/

namespace Sys2Proof.Machine

/-! ### What no register shows -/

/-- The channel of the highest use is sought in the radio's air log alone. -/
theorem State.dwellMax_beside (i : Nat) (s : State) (hb : HostBridge) (l : Tab Word) (o : List Out) :
    State.dwellMax i { s with host := hb, latch := l, out := o } = s.dwellMax i := by
  have hplan : State.planRec i { s with host := hb, latch := l, out := o } = s.planRec i := rfl
  have huse : (fun p => State.airUse i (State.now { s with host := hb, latch := l, out := o } / perUs) p
      { s with host := hb, latch := l, out := o }) = (fun p => s.airUse i (s.now / perUs) p) := rfl
  have huse' := fun p => congrFun huse p
  simp only [State.dwellMax, hplan, huse']

theorem readRad_beside (i off : Nat) (s : State) (hb : HostBridge) (l : Tab Word) (o : List Out) :
    readRad i off { s with host := hb, latch := l, out := o } = readRad i off s := by
  unfold readRad
  dsimp only
  rw [State.dwellMax_beside]
  rfl

/-- No register of another block than HOST shows the host bridge, the latch or what is sent. -/
theorem readReg_beside {block : Nat} (h : block ≠ 0x11) (off : Nat) (s : State) (hb : HostBridge) (l : Tab Word) (o : List Out) :
    readReg block off { s with host := hb, latch := l, out := o } = readReg block off s := by
  unfold readReg
  split
  case h_7 | h_8 => exact readRad_beside ..
  case h_18 => exact absurd rfl h
  all_goals rfl

theorem liveReg_beside {a : Nat} (h : blockOf a ≠ 0x11) (s : State) (hb : HostBridge) (l : Tab Word) (o : List Out) :
    liveReg a { s with host := hb, latch := l, out := o } = liveReg a s := by
  rw [liveReg, liveReg, readReg_beside h]

/-- No register shows the latch or what is sent. -/
theorem liveReg_latch_out (a : Nat) (s : State) (l : Tab Word) (o : List Out) :
    liveReg a { s with latch := l, out := o } = liveReg a s := by
  by_cases h : blockOf a = 0x11
  · rw [liveReg, liveReg, h]
    rfl
  · exact liveReg_beside h s s.host l o

/-! ### Words read one after the other -/

/-- A word that belongs to no long value is read live and latches nothing. -/
theorem State.readWord_plain {a : Nat} (s : State) (h : wideReg (blockOf a) (offsetOf a) = none) :
    s.readWord a = ((liveReg a s).getD 0#32, s) := by
  simp [State.readWord, h]

/-- A read changes the latch alone. -/
theorem State.readWord_eq (a : Nat) (s : State) : (s.readWord a).2 = { s with latch := (s.readWord a).2.latch } := by
  unfold State.readWord
  dsimp only
  split
  · rfl
  · split <;> rfl

theorem liveReg_readWord (a b : Nat) (s : State) : liveReg a (s.readWord b).2 = liveReg a s := by
  rw [State.readWord_eq]
  exact liveReg_latch_out a s _ s.out

theorem State.readWords_cons (a : Nat) (l : List Nat) (s : State) :
    s.readWords (a :: l) = ((s.readWord a).1 :: ((s.readWord a).2.readWords l).1, ((s.readWord a).2.readWords l).2) := rfl

theorem State.readWords_eq : ∀ (l : List Nat) (s : State), (s.readWords l).2 = { s with latch := (s.readWords l).2.latch }
  | [], _ => rfl
  | a :: l, s => (State.readWords_eq l (s.readWord a).2).trans
    (congrArg (fun t => { t with latch := ((s.readWord a).2.readWords l).2.latch }) (State.readWord_eq a s))

theorem State.readWords_length : ∀ (l : List Nat) (s : State), (s.readWords l).1.length = l.length
  | [], _ => rfl
  | _ :: l, _ => congrArg (· + 1) (State.readWords_length l _)

theorem State.readWords_plain : ∀ (l : List Nat) (s : State), (∀ x ∈ l, wideReg (blockOf x) (offsetOf x) = none) →
    s.readWords l = (l.map (fun x => (liveReg x s).getD 0#32), s)
  | [], _, _ => rfl
  | a :: l, s, h => by
    rw [State.readWords_cons, State.readWord_plain s (h a (by simp)), State.readWords_plain l s (fun x hx => h x (by simp [hx]))]
    rfl

/-- Whatever was latched before it, a word that belongs to no long value is read live. -/
theorem State.readWords_getElem? {a : Nat} (h : wideReg (blockOf a) (offsetOf a) = none) (l : List Nat) (s : State) (i : Nat)
    (hi : l[i]? = some a) : (s.readWords l).1[i]? = some ((liveReg a s).getD 0#32) := by
  induction l generalizing s i with
  | nil => simp at hi
  | cons b l ih =>
    rw [State.readWords_cons]
    cases i with
    | zero =>
      obtain rfl := Option.some.inj hi
      rw [List.getElem?_cons_zero, State.readWord_plain s h]
    | succ i => rw [List.getElem?_cons_succ, ih (s.readWord b).2 i hi, liveReg_readWord]

/-! ### STATUS_READ -/

theorem readAddresses_length (a n : Nat) : (readAddresses a n).length = n := by simp [readAddresses]

theorem readAddresses_head? (a : Nat) {n : Nat} (h : 1 ≤ n) : (readAddresses a n).head? = some a := by
  obtain ⟨n, rfl⟩ := Nat.exists_eq_add_of_le' h
  simp [readAddresses, List.range_succ_eq_map]

theorem readAddresses_getElem? {a n i : Nat} (h : i < n) : (readAddresses a n)[i]? = some (a + 4 * i) := by
  simp [readAddresses, h]

/-- The body of the answer to a STATUS_READ of `n` words (R478). -/
def State.statusBody (n : Nat) (l : List Word) (s : State) : List Octet :=
  leBytes 2 n ++ [0#8, 0#8] ++ leBytes 4 s.pub.tick ++ s.credits ++ l.flatMap (fun w => leBytes 4 w.toNat)

/-- A read of registers that are assigned and of one block is answered with their words. -/
theorem State.statusRead_of_assigned {a n : Nat} (f : ChpFrame) (s : State) (hn : 1 ≤ n)
    (h : ∀ x ∈ readAddresses a n, blockOf x = blockOf a ∧ (liveReg x s).isSome = true) :
    s.statusRead f (readAddresses a n) =
      (s.readWords (readAddresses a n)).2.finish f 0x0010 0 (s.statusBody n (s.readWords (readAddresses a n)).1) := by
  have hnone : (readAddresses a n).find? (fun x => (liveReg x s).isNone || decide (blockOf x ≠ blockOf a)) = none :=
    List.find?_eq_none.mpr (fun x hx => by
      obtain ⟨hblock, hsome⟩ := h x hx
      obtain ⟨v, hv⟩ := Option.isSome_iff_exists.mp hsome
      simp [hblock, hv])
  unfold State.statusRead
  rw [readAddresses_head? a hn, Option.getD_some]
  dsimp only
  rw [hnone, readAddresses_length]
  rfl

/-- A read that begins at an address that is not assigned is answered with that address. -/
theorem State.statusRead_of_unassigned {a n : Nat} (f : ChpFrame) {s : State} (hn : 1 ≤ n) (h : liveReg a s = none) :
    s.statusRead f (readAddresses a n) = s.finish f 0x0010 7 (leBytes 4 a) := by
  obtain ⟨l, hl⟩ := List.head?_eq_some_iff.mp (readAddresses_head? a hn)
  unfold State.statusRead
  simp [hl, h]
  rfl

/-- A STATUS_READ that passes reads with its request in hand. -/
theorem exec_statusRead {s : State} {f : ChpFrame} {k a n : Nat} (h : chpPasses 0x0010 (some 0) false f k s) (hlen : f.body.length = 8)
    (ha : getLe f.body 0 4 = a) (hn : getLe f.body 4 2 = n) (h1 : 1 ≤ n) (h256 : n ≤ 256) (hz : zeros f.body 6 2 = true) :
    ∃ hb : HostBridge, InHand f k { s with host := hb, out := [] } ∧
      ∀ t, State.statusRead f (readAddresses a n) { s with host := hb, out := [] } = t → t.pending = s.pending →
        exec (.statusRead f) s = .next t := by
  have hok : (decide (f.body.length = 8) && decide (1 ≤ getLe f.body 4 2 ∧ getLe f.body 4 2 ≤ 256) && zeros f.body 6 2) = true := by
    simp [hlen, hn, h1, h256, hz]
  subst ha hn
  obtain ⟨hb, -, hhand, hrun⟩ := done_chp_eq_next h hok (fun s => _ && s.anonRead (readAddresses (getLe f.body 0 4) (getLe f.body 4 2)))
    (fun _ s => s.statusRead f (readAddresses (getLe f.body 0 4) (getLe f.body 4 2)))
  exact ⟨hb, hhand, hrun⟩

/-- What answers a read is the same whatever the host bridge holds. -/
theorem State.statusBody_beside (n : Nat) (l : List Word) (s : State) (hb : HostBridge) (o : List Out) :
    State.statusBody n l { s with host := hb, out := o } = s.statusBody n l := rfl

/-- Registers outside HOST that belong to no long value are answered as they stand. -/
theorem exec_statusRead_plain {s : State} {f : ChpFrame} {k a n : Nat} (h : chpPasses 0x0010 (some 0) false f k s)
    (hlen : f.body.length = 8) (ha : getLe f.body 0 4 = a) (hn : getLe f.body 4 2 = n) (h1 : 1 ≤ n) (h256 : n ≤ 256)
    (hz : zeros f.body 6 2 = true) (hhost : blockOf a ≠ 0x11)
    (hreg : ∀ x ∈ readAddresses a n, blockOf x = blockOf a ∧ (liveReg x s).isSome = true ∧ wideReg (blockOf x) (offsetOf x) = none) :
    ∃ t, exec (.statusRead f) s = .next t ∧
      answered f 0x0010 0 (s.statusBody n ((readAddresses a n).map (fun x => (liveReg x s).getD 0#32))) k t ∧
      { t with host := s.host, out := [] } = { s with out := [] } := by
  obtain ⟨hb, hhand, hexec⟩ := exec_statusRead h hlen ha hn h1 h256 hz
  have hlive : ∀ x ∈ readAddresses a n, liveReg x { s with host := hb, out := [] } = liveReg x s := fun x hx =>
    liveReg_beside ((hreg x hx).1 ▸ hhost) s hb s.latch []
  have hwords : (readAddresses a n).map (fun x => (liveReg x { s with host := hb, out := [] }).getD 0#32) =
      (readAddresses a n).map (fun x => (liveReg x s).getD 0#32) := List.map_congr_left (fun x hx => by rw [hlive x hx])
  have hread := State.statusRead_of_assigned f { s with host := hb, out := [] } h1
    (fun x hx => ⟨(hreg x hx).1, by rw [hlive x hx]; exact (hreg x hx).2.1⟩)
  rw [State.readWords_plain _ _ (fun x hx => (hreg x hx).2.2), hwords, State.statusBody_beside] at hread
  exact ⟨_, hexec _ hread (State.finish_pending ..), hhand.answered rfl .., by rw [State.finish_eq]⟩

/-- Registers of one block are answered, those of no long value as they stand, and reading changes the latch at most. -/
theorem exec_statusRead_assigned {s : State} {f : ChpFrame} {k a n : Nat} (h : chpPasses 0x0010 (some 0) false f k s)
    (hlen : f.body.length = 8) (ha : getLe f.body 0 4 = a) (hn : getLe f.body 4 2 = n) (h1 : 1 ≤ n) (h256 : n ≤ 256)
    (hz : zeros f.body 6 2 = true)
    (hreg : ∀ x ∈ readAddresses a n, blockOf x = blockOf a ∧ ∀ h, (liveReg x { s with host := h }).isSome = true) :
    ∃ (t : State) (l : List Word), exec (.statusRead f) s = .next t ∧ l.length = n ∧
      answered f 0x0010 0 (s.statusBody n l) k t ∧
      (∀ i, i < n → blockOf a ≠ 0x11 → wideReg (blockOf a) (offsetOf (a + 4 * i)) = none → l[i]? = liveReg (a + 4 * i) s) ∧
      { t with host := s.host, latch := s.latch, out := [] } = { s with out := [] } := by
  obtain ⟨hb, hhand, hexec⟩ := exec_statusRead h hlen ha hn h1 h256 hz
  have hsome : ∀ x ∈ readAddresses a n, (liveReg x { s with host := hb, out := [] }).isSome = true := fun x hx =>
    (congrArg Option.isSome (liveReg_latch_out x { s with host := hb } s.latch [])).trans ((hreg x hx).2 hb)
  have hread := State.statusRead_of_assigned f { s with host := hb, out := [] } h1 (fun x hx => ⟨(hreg x hx).1, hsome x hx⟩)
  have hframe := State.readWords_eq (readAddresses a n) { s with host := hb, out := [] }
  have hlength := State.readWords_length (readAddresses a n) { s with host := hb, out := [] }
  have hget := fun x hx => State.readWords_getElem? (a := x) hx (readAddresses a n) { s with host := hb, out := [] }
  generalize State.readWords (readAddresses a n) { s with host := hb, out := [] } = r at hread hframe hlength hget
  obtain ⟨l, u⟩ := r
  dsimp only at hread hframe hlength hget
  generalize u.latch = latch at hframe
  subst hframe
  rw [State.statusBody_beside] at hread
  have hhand' : InHand f k { s with host := hb, latch := latch, out := [] } := hhand.congr rfl rfl
  refine ⟨_, l, hexec _ hread (State.finish_pending ..), hlength.trans (readAddresses_length a n), hhand'.answered rfl ..,
    fun i hi hhost hwide => ?_, by rw [State.finish_eq]⟩
  have hadr := readAddresses_getElem? (a := a) hi
  have hmem := List.mem_of_getElem? hadr
  have hblock := (hreg _ hmem).1
  rw [hget _ (hblock.symm ▸ hwide) i hadr, ← liveReg_beside (hblock.symm ▸ hhost) s hb s.latch []]
  obtain ⟨v, hv⟩ := Option.isSome_iff_exists.mp (hsome _ hmem)
  rw [hv, Option.getD_some]

/-- A first address that is not assigned is named in the refusal. -/
theorem exec_statusRead_unassigned {s : State} {f : ChpFrame} {k a : Nat} (h : chpPasses 0x0010 (some 0) false f k s)
    (hlen : f.body.length = 8) (ha : getLe f.body 0 4 = a) (h1 : 1 ≤ getLe f.body 4 2) (h256 : getLe f.body 4 2 ≤ 256)
    (hz : zeros f.body 6 2 = true) (hhost : blockOf a ≠ 0x11) (hnone : liveReg a s = none) :
    ∃ t, exec (.statusRead f) s = .next t ∧ answered f 0x0010 7 (leBytes 4 a) k t ∧
      { t with host := s.host, out := [] } = { s with out := [] } := by
  obtain ⟨hb, hhand, hexec⟩ := exec_statusRead h hlen ha rfl h1 h256 hz
  have hread := State.statusRead_of_unassigned f h1 ((liveReg_beside hhost s hb s.latch []).trans hnone)
  exact ⟨_, hexec _ hread (State.finish_pending ..), hhand.answered rfl .., by rw [State.finish_eq]⟩

end Sys2Proof.Machine
end

section
/-! SUPPORT. STATUS_WRITE (R14, R115, R479): the pairs applied in order, and what a write of one pair-wide register does. -/

namespace Sys2Proof.Machine

/-! ### The write of one register -/

/-- A pair-wide write waits for the next second; of a member of a pair with its Viaduct up it goes to the partner too (R115). -/
theorem State.deferReg_of_alone (a v : Nat) {s : State} (h : (s.pair.viaUp && s.paired) = false) :
    s.deferReg a v = { s with pair.regDue := s.pair.regDue ++ [(a, v, secOf s.now + 1)] } := by
  cases hp : s.paired
  · exact if_neg (c := s.paired = true) (by simp [hp])
  · exact (if_pos (c := s.paired = true) hp).trans (if_neg (c := (s.pair.viaUp && s.paired) = true) (by simp [h]))

theorem State.deferReg_of_viaduct (a v : Nat) {s : State} (hup : s.pair.viaUp = true) (hp : s.paired = true) :
    s.deferReg a v = { s with
      pair.regDue := s.pair.regDue ++ [(a, v, secOf s.now + 1)]
      out := s.out ++ [.viaduct 0x06 (s.framed 0x06 (leBytes 4 a ++ leBytes 4 v ++ leBytes 4 (secOf s.now + 1)))] } :=
  (if_pos (c := s.paired = true) hp).trans (if_pos (c := (s.pair.viaUp && s.paired) = true) (by simp [hup, hp]))

/-- HOST has no pair-wide register. -/
theorem blockOf_ne_host_of_pairWide {a : Nat} (h : pairWide (blockOf a) (offsetOf a) = true) : blockOf a ≠ 0x11 :=
  fun e => by simp [e, pairWide] at h

theorem State.writeReg_unassigned (w : Writer) {a : Nat} (v : Nat) {s : State} (h : liveReg a s = none) : s.writeReg w a v = (7, s) := by
  simp [State.writeReg, h, wrAddress]

/-- A pair-wide register is written by the lead alone, with a value in its ranges (R115). -/
theorem State.writeReg_pairWide (w : Writer) {a : Nat} (v : Nat) {s : State} (ha : liveReg a s ≠ none)
    (hwide : pairWide (blockOf a) (offsetOf a) = true) :
    s.writeReg w a v = if s.isLead = false then (9, s) else if pairWideOk (blockOf a) (offsetOf a) v = true then (0, s.deferReg a v) else (8, s) := by
  simp [State.writeReg, ha, hwide, wrNotLead, wrOk, wrAccess]

/-- Who writes is known while the request is in hand. -/
theorem InHand.writer {f : ChpFrame} {k : Nat} {s : State} (h : InHand f k s) : ∃ w, s.writer f = some w := by
  simp [State.writer, h.slot]

/-! ### The pairs in order -/

/-- The answer of a STATUS_WRITE: the index of the pair refused and its result (R479). -/
def writeAnswer (r : Nat × Nat) : List Octet := leBytes 2 r.1 ++ leBytes 1 r.2 ++ [0#8]

theorem leBytes_two_zero : leBytes 2 0 = [0#8, 0#8] := by decide

/-- How the pairs from index `i` on end after `c` of them, in state `u`: all are applied, the writer's session is gone, or the next is
refused. -/
inductive PairsEnd (f : ChpFrame) (i : Nat) (l : List (Nat × Nat)) (c : Nat) (u : State) : (Nat × Nat) × State → Prop
  | all (h : c = l.length) : PairsEnd f i l c u ((0xFFFF, 0), u)
  | gone (hc : c < l.length) (hw : u.writer f = none) : PairsEnd f i l c u ((0xFFFF, 0), u)
  | refused {p : Nat × Nat} {w : Writer} {r : Nat × State} (hp : l[c]? = some p) (hw : u.writer f = some w) (hr : u.writeReg w p.1 p.2 = r)
      (he : r.1 ≠ 0) : PairsEnd f i l c u ((i + c, r.1), r.2)

/-- The first `c` pairs of a list are applied with result 0, through the states `q`. -/
def PairsApplied (f : ChpFrame) (l : List (Nat × Nat)) (q : Nat → State) (c : Nat) : Prop :=
  ∀ j, j < c → ∃ w p, (q j).writer f = some w ∧ l[j]? = some p ∧ (q j).writeReg w p.1 p.2 = (0, q (j + 1))

/-- The states of a run with one state before them. -/
def statesFrom (s : State) (q : Nat → State) : Nat → State
  | 0 => s
  | j + 1 => q j

theorem PairsApplied.cons {f : ChpFrame} {l : List (Nat × Nat)} {q : Nat → State} {c : Nat} {p : Nat × Nat} {s : State} {w : Writer}
    (h : PairsApplied f l q c) (hw : s.writer f = some w) (hr : s.writeReg w p.1 p.2 = (0, q 0)) :
    PairsApplied f (p :: l) (statesFrom s q) (c + 1)
  | 0, _ => ⟨w, p, hw, rfl, hr⟩
  | j + 1, hj => h j (by omega)

theorem PairsEnd.cons {f : ChpFrame} {i c : Nat} {l : List (Nat × Nat)} {u : State} {r : (Nat × Nat) × State} (p : Nat × Nat)
    (h : PairsEnd f (i + 1) l c u r) : PairsEnd f i (p :: l) (c + 1) u r := by
  cases h with
  | all h => exact .all (by simp [h])
  | gone hc hw => exact .gone (by simpa using hc) hw
  | refused hp hw hr he =>
    rw [Nat.add_assoc, Nat.add_comm 1 c]
    exact .refused hp hw hr he

/-- The pairs are applied in order, up to the end, to a write that ends the session, or to one that is refused (R479). -/
theorem State.writeGo_spec (f : ChpFrame) (l : List (Nat × Nat)) (i : Nat) (s : State) :
    ∃ c q, q 0 = s ∧ c ≤ l.length ∧ PairsApplied f l q c ∧ PairsEnd f i l c (q c) (State.writeGo f i l s) := by
  induction l generalizing i s with
  | nil => exact ⟨0, fun _ => s, rfl, Nat.le_refl _, fun _ h => absurd h (by omega), .all rfl⟩
  | cons p l ih =>
    unfold State.writeGo
    split
    case h_1 hw => exact ⟨0, fun _ => s, rfl, Nat.zero_le _, fun _ h => absurd h (by omega), .gone (by simp) hw⟩
    case h_2 w hw =>
      dsimp only
      split
      case isTrue h0 =>
        obtain ⟨c, q, hq, hc, happlied, hend⟩ := ih (i + 1) (s.writeReg w p.1 p.2).2
        exact ⟨c + 1, statesFrom s q, rfl, by simpa using hc, happlied.cons hw (Prod.ext h0 hq.symm), hend.cons p⟩
      case isFalse h0 =>
        exact ⟨0, fun _ => s, rfl, Nat.zero_le _, fun _ h => absurd h (by omega), .refused rfl hw rfl h0⟩

/-! ### STATUS_WRITE -/

/-- The pairs written and the answer sent. -/
def State.statusWrite (f : ChpFrame) (n : Nat) (s : State) : State :=
  (State.writeGo f 0 (writePairs f.body n) s).2.finish f 0x0011 0x00 (writeAnswer (State.writeGo f 0 (writePairs f.body n) s).1)

/-- A STATUS_WRITE that passes writes with its request in hand. -/
theorem exec_statusWrite {s : State} {f : ChpFrame} {k n : Nat} (h : chpPasses 0x0011 (some 1) false f k s) (hn : getLe f.body 0 2 = n)
    (h1 : 1 ≤ n) (h64 : n ≤ 64) (hlen : f.body.length = 4 + 8 * n) (hz : zeros f.body 2 2 = true) :
    ∃ hb : HostBridge, InHand f k { s with host := hb, out := [] } ∧
      exec (.statusWrite f) s = .next { State.statusWrite f n { s with host := hb, out := [] } with pending := s.pending } := by
  have hok : (decide (1 ≤ getLe f.body 0 2 ∧ getLe f.body 0 2 ≤ 64) && decide (f.body.length = 4 + 8 * getLe f.body 0 2) && zeros f.body 2 2) =
      true := by
    simp [hn, h1, h64, hlen, hz]
  subst hn
  obtain ⟨hb, -, hhand, hrun⟩ := done_chp_of_passes h hok (fun _ => false) (fun _ s => s.statusWrite f (getLe f.body 0 2))
  exact ⟨hb, hhand, hrun⟩

/-- One of one pair answers the result of its write. -/
theorem exec_statusWrite_one {s : State} {f : ChpFrame} {k a v : Nat} (h : chpPasses 0x0011 (some 1) false f k s) (hone : oneWrite f.body)
    (ha : getLe f.body 4 4 = a) (hv : getLe f.body 8 4 = v) :
    ∃ hb : HostBridge, InHand f k { s with host := hb, out := [] } ∧
      ∀ e u, (∀ w, State.writeReg w a v { s with host := hb, out := [] } = (e, u)) → u.pending = s.pending →
        exec (.statusWrite f) s = .next (u.finish f 0x0011 0 (writeAnswer (if e = 0 then (0xFFFF, 0) else (0, e)))) := by
  obtain ⟨hlen, hn, hz⟩ := hone
  obtain ⟨hb, hhand, hexec⟩ := exec_statusWrite h hn (Nat.le_refl 1) (by decide) hlen hz
  refine ⟨hb, hhand, fun e u hwrite hp => ?_⟩
  obtain ⟨w, hw⟩ := hhand.writer
  have hgo : State.writeGo f 0 (writePairs f.body 1) { s with host := hb, out := [] } = (if e = 0 then (0xFFFF, 0) else (0, e), u) := by
    have hpairs : writePairs f.body 1 = [(a, v)] := by simp [writePairs, ← ha, ← hv]
    rw [hpairs, State.writeGo, hw]
    dsimp only
    rw [hwrite w]
    by_cases he : e = 0
    · rw [if_pos he]
      exact if_pos (c := e = 0) he
    · rw [if_neg he]
      exact if_neg (c := e = 0) he
  rw [hexec, State.statusWrite, hgo]
  exact next_of_pending ((State.finish_pending ..).trans hp)

/-- A lead's write of a pair-wide register with a value in its ranges is put off, whatever the host bridge holds (R115). -/
theorem State.writeReg_deferred {s : State} {a v : Nat} (hreg : liveReg a s ≠ none) (hwide : pairWide (blockOf a) (offsetOf a) = true)
    (hrange : pairWideOk (blockOf a) (offsetOf a) v = true) (hlead : s.isLead = true) (hb : HostBridge) (w : Writer) :
    State.writeReg w a v { s with host := hb, out := [] } = (0, State.deferReg a v { s with host := hb, out := [] }) := by
  have hreg' : liveReg a { s with host := hb, out := [] } ≠ none := by
    rwa [liveReg_beside (blockOf_ne_host_of_pairWide hwide) s hb s.latch []]
  have hlead' : State.isLead { s with host := hb, out := [] } = true := hlead
  rw [State.writeReg_pairWide w v hreg' hwide, if_neg (by simp [hlead']), if_pos hrange]

/-- A pair-wide write by a lead without a partner on the Viaduct waits for the next second. -/
theorem exec_statusWrite_deferred {s : State} {f : ChpFrame} {k a v : Nat} (h : chpPasses 0x0011 (some 1) false f k s) (hone : oneWrite f.body)
    (ha : getLe f.body 4 4 = a) (hv : getLe f.body 8 4 = v) (hreg : liveReg a s ≠ none) (hwide : pairWide (blockOf a) (offsetOf a) = true)
    (hrange : pairWideOk (blockOf a) (offsetOf a) v = true) (hlead : s.isLead = true) (halone : (s.pair.viaUp && s.paired) = false) :
    ∃ t, exec (.statusWrite f) s = .next t ∧ t.pair = { s.pair with regDue := s.pair.regDue ++ [(a, v, secOf s.now + 1)] } ∧
      answered f 0x0011 0 [0xFF#8, 0xFF#8, 0#8, 0#8] k t ∧ { t with pair := s.pair, host := s.host, out := [] } = { s with out := [] } := by
  obtain ⟨hb, hhand, hexec⟩ := exec_statusWrite_one h hone ha hv
  have hwrite := State.writeReg_deferred hreg hwide hrange hlead hb
  rw [State.deferReg_of_alone (s := { s with host := hb, out := [] }) a v halone,
    show State.now { s with host := hb, out := [] } = s.now from rfl] at hwrite
  generalize s.pair.regDue ++ [(a, v, secOf s.now + 1)] = due at hwrite ⊢
  refine ⟨_, hexec 0 { s with pair.regDue := due, host := hb, out := [] } hwrite rfl, ?_, ?_, ?_⟩
  · rw [State.finish_eq]
  · exact InHand.answered (hhand.congr (t := { s with pair.regDue := due, host := hb, out := [] }) rfl rfl) rfl ..
  · rw [State.finish_eq]

/-- One by a lead with its Viaduct up goes to the partner as well. -/
theorem exec_statusWrite_shared {s : State} {f : ChpFrame} {k a v : Nat} (h : chpPasses 0x0011 (some 1) false f k s) (hone : oneWrite f.body)
    (ha : getLe f.body 4 4 = a) (hv : getLe f.body 8 4 = v) (hreg : liveReg a s ≠ none) (hwide : pairWide (blockOf a) (offsetOf a) = true)
    (hrange : pairWideOk (blockOf a) (offsetOf a) v = true) (hlead : s.isLead = true) (hup : s.pair.viaUp = true) (hp : s.paired = true) :
    ∃ t r, exec (.statusWrite f) s = .next t ∧ t.pair = { s.pair with regDue := s.pair.regDue ++ [(a, v, secOf s.now + 1)] } ∧
      t.out = [.viaduct 0x06 (s.framed 0x06 (leBytes 4 a ++ leBytes 4 v ++ leBytes 4 (secOf s.now + 1))), .reply r] ∧ r.result = 0#8 ∧
      r.body = [0xFF#8, 0xFF#8, 0#8, 0#8] ∧ r.session = f.session ∧ r.sequence = f.sequence ∧
      { t with pair := s.pair, host := s.host, out := [] } = { s with out := [] } := by
  obtain ⟨hb, hhand, hexec⟩ := exec_statusWrite_one h hone ha hv
  have hwrite := State.writeReg_deferred hreg hwide hrange hlead hb
  rw [State.deferReg_of_viaduct (s := { s with host := hb, out := [] }) a v hup hp,
    show State.now { s with host := hb, out := [] } = s.now from rfl] at hwrite
  have hframed : (fun c => State.framed 0x06 c { s with host := hb, out := [] }) = (fun c => s.framed 0x06 c) := rfl
  rw [congrFun hframed] at hwrite
  generalize s.pair.regDue ++ [(a, v, secOf s.now + 1)] = due at hwrite ⊢
  generalize s.framed 0x06 _ = frame at hwrite ⊢
  have hhand' : InHand f k { s with pair.regDue := due, host := hb, out := [.viaduct 0x06 frame] } := hhand.congr rfl rfl
  obtain ⟨mac, hout, -⟩ := hhand'.finish_out 0x0011 0 [0xFF#8, 0xFF#8, 0#8, 0#8]
  refine ⟨_, f.reply 0x0011 0 [0xFF#8, 0xFF#8, 0#8, 0#8] mac,
    hexec 0 { s with pair.regDue := due, host := hb, out := [.viaduct 0x06 frame] } hwrite rfl, ?_, hout, rfl, rfl, rfl, rfl, ?_⟩
  · rw [State.finish_eq]
  · rw [State.finish_eq]

/-- A write that is refused names its pair with the reason: the address is not assigned, the unit is not lead, the value is out of range. -/
theorem exec_statusWrite_refused {s : State} {f : ChpFrame} {k a v : Nat} (h : chpPasses 0x0011 (some 1) false f k s) (hone : oneWrite f.body)
    (ha : getLe f.body 4 4 = a) (hv : getLe f.body 8 4 = v) (hhost : blockOf a ≠ 0x11)
    (hwhy : liveReg a s = none ∨
      pairWide (blockOf a) (offsetOf a) = true ∧ (s.isLead = false ∨ pairWideOk (blockOf a) (offsetOf a) v = false)) :
    ∃ t, exec (.statusWrite f) s = .next t ∧
      answered f 0x0011 0 ([0#8, 0#8] ++ leBytes 1 (if liveReg a s = none then 7 else if s.isLead = false then 9 else 8) ++ [0#8]) k t ∧
      { t with host := s.host, out := [] } = { s with out := [] } := by
  obtain ⟨hb, hhand, hexec⟩ := exec_statusWrite_one h hone ha hv
  have hlive := liveReg_beside hhost s hb s.latch []
  have hlead : State.isLead { s with host := hb, out := [] } = s.isLead := rfl
  obtain ⟨e, he⟩ : ∃ e, e = if liveReg a s = none then 7 else if s.isLead = false then 9 else 8 := ⟨_, rfl⟩
  have he0 : e ≠ 0 := by
    rw [he]
    split
    · decide
    · split <;> decide
  have hwrite : ∀ w, State.writeReg w a v { s with host := hb, out := [] } = (e, { s with host := hb, out := [] }) := by
    intro w
    by_cases hnone : liveReg a s = none
    · rw [State.writeReg_unassigned w v (hlive.trans hnone), he, if_pos hnone]
    · obtain ⟨hwide, hcause⟩ := hwhy.resolve_left hnone
      rw [State.writeReg_pairWide w v (by rwa [hlive]) hwide, hlead, he, if_neg hnone]
      rcases hcause with hl | hr
      · rw [if_pos hl, if_pos hl]
      · rw [hr]
        split <;> rfl
  have hexec' := hexec e _ hwrite rfl
  rw [if_neg he0, show writeAnswer (0, e) = [0#8, 0#8] ++ leBytes 1 e ++ [0#8] by rw [writeAnswer, leBytes_two_zero]] at hexec'
  rw [← he]
  exact ⟨_, hexec', hhand.answered rfl .., by rw [State.finish_eq]⟩

/-- The pairs of a STATUS_WRITE of several (R479). -/
theorem writePairs_getElem? {b : List Octet} {n i : Nat} (h : i < n) :
    (writePairs b n)[i]? = some (getLe b (4 + 8 * i) 4, getLe b (8 + 8 * i) 4) := by
  simp [writePairs, h]

/-- The reply to a write whose session stands goes out. -/
theorem State.finish_reply {f : ChpFrame} {s : State} (hsession : f.session ≠ 0#32) (hw : s.writer f ≠ none)
    (hrun : s.tres.frozen.getLsbD 8 = false) (kind : Nat) (body : List Octet) :
    ∃ r, .reply r ∈ (s.finish f kind 0 body).out ∧ r.result = 0#8 ∧ r.body = body := by
  obtain ⟨k, hk⟩ : ∃ k, s.slotOf f true = some k := Option.ne_none_iff_exists'.mp (fun e => hw (by simp [State.writer, e]))
  obtain ⟨mac, hout, -⟩ := State.finish_out hsession hk hrun kind 0 body
  exact ⟨f.reply kind 0 body mac, by rw [hout]; simp, rfl, rfl⟩

/-- Several pairs are applied in order; the answer names the one that is refused, or says that all are applied. -/
theorem exec_statusWrite_pairs {s : State} {f : ChpFrame} {k n : Nat} (h : chpPasses 0x0011 (some 1) false f k s) (hn : getLe f.body 0 2 = n)
    (h1 : 1 ≤ n) (h64 : n ≤ 64) (hlen : f.body.length = 4 + 8 * n) (hz : zeros f.body 2 2 = true) :
    ∃ t c q, exec (.statusWrite f) s = .next t ∧ writtenTo f n s q c ∧
      (c = n → (q n).writer f ≠ none → (q n).tres.frozen.getLsbD 8 = false →
        ∃ r, .reply r ∈ t.out ∧ r.result = 0#8 ∧ r.body = [0xFF#8, 0xFF#8, 0#8, 0#8]) ∧
      (c < n → ∀ w e u, (q c).writer f = some w → pairWritten f c w (q c) = (e, u) → e ≠ 0 ∧
        (u.writer f ≠ none → u.tres.frozen.getLsbD 8 = false →
          ∃ r, .reply r ∈ t.out ∧ r.result = 0#8 ∧ r.body = leBytes 2 c ++ leBytes 1 e ++ [0#8])) := by
  obtain ⟨hb, hhand, hexec⟩ := exec_statusWrite h hn h1 h64 hlen hz
  obtain ⟨c, q, hq, hc, happlied, hend⟩ := State.writeGo_spec f (writePairs f.body n) 0 { s with host := hb, out := [] }
  have hlength : (writePairs f.body n).length = n := by simp [writePairs]
  rw [hlength] at hc
  rw [State.statusWrite] at hexec
  generalize State.writeGo f 0 (writePairs f.body n) { s with host := hb, out := [] } = r at hexec hend
  refine ⟨_, c, q, hexec, ⟨by rw [hq], hc, fun i hi => ?_⟩, ?all, ?refused⟩
  · obtain ⟨w, p, hw, hp, hr⟩ := happlied i hi
    obtain rfl := Option.some.inj ((writePairs_getElem? (by omega)).symm.trans hp)
    exact ⟨w, hw, hr⟩
  case all =>
    intro hcn hw hrun
    subst hcn
    cases hend with
    | all => exact State.finish_reply hhand.session hw hrun 0x0011 (writeAnswer (0xFFFF, 0))
    | gone hlt => omega
    | refused hp => exact absurd hp (by simp [writePairs])
  case refused =>
    intro hcn w e u hw hr
    cases hend with
    | all hlt => omega
    | gone _ hgone => rw [hgone] at hw; cases hw
    | refused hp hw' hr' he =>
      obtain rfl := Option.some.inj ((writePairs_getElem? hcn).symm.trans hp)
      obtain rfl := Option.some.inj (hw'.symm.trans hw)
      obtain rfl : _ = (e, u) := hr'.symm.trans hr
      refine ⟨he, fun hu hrun => ?_⟩
      rw [Nat.zero_add]
      exact State.finish_reply hhand.session hu hrun ..

end Sys2Proof.Machine
end

section
/-! SUPPORT. NODE_SEND and NODE_LAST (R482, R483). -/

namespace Sys2Proof.Machine

/-- A request in hand that joins those that wait for a publication waits. -/
theorem InHand.waiting {f : ChpFrame} {k : Nat} {s t : State} (h : InHand f k s) (hhost : t.host.sessions = s.host.sessions) (hout : t.out = []) :
    waiting f k t := by
  have hhs := State.hs_congr hhost k
  exact ⟨hout, (congrArg HostSess.processing hhs).trans h.processing, (congrArg HostSess.lastSeq hhs).trans h.lastSeq⟩

/-- The NODE_DATA frame of a NODE_SEND of `n` octets to node `a`. -/
def ChpFrame.nodeData (f : ChpFrame) (a n tick : Nat) : Unicast :=
  { radio := 1, kind := 0x21, dest := a, extended := false, payload := [0x21#8] ++ leBytes 1 n ++ slice f.body 4 n, tick := tick }

/-- What NODE_SEND makes of a request for node `a`. -/
def State.nodeSend (f : ChpFrame) (a n : Nat) (s : State) : State :=
  if s.nodeRec a = none then s.awaitRefusal f 0x0021 1
  else if 4 ≤ ((s.waitingFor a).filter (fun u => decide (u.kind = 0x21))).length then s.awaitRefusal f 0x0021 2
  else (s.queueFrame (f.nodeData a n (tickOf s.now))).await f 0x0021 s.nextTick []

/-- A NODE_SEND that passes acts with its request in hand. -/
theorem exec_nodeSend {s : State} {f : ChpFrame} {k a n : Nat} (h : chpPasses 0x0021 (some 2) true f k s) (ha : getLe f.body 0 2 = a)
    (hn : getLe f.body 2 1 = n) (h1 : 1 ≤ n) (h64 : n ≤ 64) (hlen : f.body.length = 4 + n) (hz : zeros f.body 3 1 = true) :
    ∃ hb : HostBridge, hb.awaiting = s.host.awaiting ∧ InHand f k { s with host := hb, out := [] } ∧
      ∀ t, State.nodeSend f a n { s with host := hb, out := [] } = t → t.pending = s.pending → exec (.nodeSend f) s = .next t := by
  have hok : (decide (1 ≤ getLe f.body 2 1 ∧ getLe f.body 2 1 ≤ 64) && decide (f.body.length = 4 + getLe f.body 2 1) && zeros f.body 3 1) =
      true := by
    simp [hn, h1, h64, hlen, hz]
  subst ha hn
  exact done_chp_eq_next h hok (fun _ => false) (fun _ s => s.nodeSend f (getLe f.body 0 2) (getLe f.body 2 1))

/-- A frame for a node of the roster with fewer than four waiting joins the queue. -/
theorem exec_nodeSend_queued {s : State} {f : ChpFrame} {k a n : Nat} (h : chpPasses 0x0021 (some 2) true f k s) (ha : getLe f.body 0 2 = a)
    (hn : getLe f.body 2 1 = n) (h1 : 1 ≤ n) (h64 : n ≤ 64) (hlen : f.body.length = 4 + n) (hz : zeros f.body 3 1 = true)
    (hrec : (s.nodeRec a).isSome = true) (hroom : ((s.waitingFor a).filter (fun u => decide (u.kind = 0x21))).length < 4) :
    ∃ t, exec (.nodeSend f) s = .next t ∧ t.fleet.unicast = s.fleet.unicast ++ [f.nodeData a n (tickOf s.now)] ∧
      t.host.awaiting = s.host.awaiting ++ [⟨f, 0x0021, 0, s.nextTick, []⟩] ∧ waiting f k t ∧
      { t with fleet.unicast := s.fleet.unicast, host := s.host } = { s with out := [] } := by
  obtain ⟨hb, hawaiting, hhand, hexec⟩ := exec_nodeSend h ha hn h1 h64 hlen hz
  have hsend : State.nodeSend f a n { s with host := hb, out := [] } = { s with
      fleet.unicast := s.fleet.unicast ++ [f.nodeData a n (tickOf s.now)]
      host := { hb with awaiting := s.host.awaiting ++ [⟨f, 0x0021, 0, s.nextTick, []⟩] }, out := [] } := by
    rw [← hawaiting]
    exact (if_neg (c := s.nodeRec a = none) (by rintro e; simp [e] at hrec)).trans
      (if_neg (c := 4 ≤ ((s.waitingFor a).filter (fun u => decide (u.kind = 0x21))).length) (by omega))
  exact ⟨_, hexec _ hsend rfl, rfl, rfl, hhand.waiting rfl rfl, rfl⟩

/-- One for another node, or a fifth, is refused when the next tick is published. -/
theorem exec_nodeSend_refused {s : State} {f : ChpFrame} {k a n : Nat} (h : chpPasses 0x0021 (some 2) true f k s) (ha : getLe f.body 0 2 = a)
    (hn : getLe f.body 2 1 = n) (h1 : 1 ≤ n) (h64 : n ≤ 64) (hlen : f.body.length = 4 + n) (hz : zeros f.body 3 1 = true)
    (hwhy : s.nodeRec a = none ∨ 4 ≤ ((s.waitingFor a).filter (fun u => decide (u.kind = 0x21))).length) :
    ∃ t, exec (.nodeSend f) s = .next t ∧
      t.host.awaiting = s.host.awaiting ++ [⟨f, 0x0021, if s.nodeRec a = none then 1 else 2, s.nextTick, []⟩] ∧ waiting f k t ∧
      { t with host := s.host } = { s with out := [] } := by
  obtain ⟨hb, hawaiting, hhand, hexec⟩ := exec_nodeSend h ha hn h1 h64 hlen hz
  have hsend : State.nodeSend f a n { s with host := hb, out := [] } = { s with
      host := { hb with awaiting := s.host.awaiting ++ [⟨f, 0x0021, if s.nodeRec a = none then 1 else 2, s.nextTick, []⟩] }, out := [] } := by
    rw [← hawaiting]
    by_cases hrec : s.nodeRec a = none
    · rw [if_pos hrec]
      exact if_pos (c := s.nodeRec a = none) hrec
    · rw [if_neg hrec]
      exact (if_neg (c := s.nodeRec a = none) hrec).trans
        (if_pos (c := 4 ≤ ((s.waitingFor a).filter (fun u => decide (u.kind = 0x21))).length) (hwhy.resolve_left hrec))
  exact ⟨_, hexec _ hsend rfl, rfl, hhand.waiting rfl rfl, rfl⟩

/-- The body of the answer to a NODE_LAST: the last report with the second of its receipt, or eight octets of 0. -/
def State.lastReport (a : Nat) (s : State) : List Octet :=
  (s.node a).reported.elim (List.replicate 8 0#8) (fun sec =>
    leBytes 4 sec ++ leBytes 1 (nodePayload (s.node a).battery (s.node a).items).length ++ [0#8, 0#8, 0#8] ++
      nodePayload (s.node a).battery (s.node a).items)

theorem exec_nodeLast {s : State} {f : ChpFrame} {k a : Nat} (h : chpPasses 0x0022 (some 0) false f k s) (hlen : f.body.length = 4)
    (hz : zeros f.body 2 2 = true) (ha : getLe f.body 0 2 = a) :
    ∃ t, exec (.nodeLast f) s = .next t ∧ answered f 0x0022 0 (s.lastReport a) k t ∧
      { t with host := s.host, out := [] } = { s with out := [] } := by
  have hok : (decide (f.body.length = 4) && zeros f.body 2 2) = true := by simp [hlen, hz]
  subst ha
  have hexec : exec (.nodeLast f) s = done (fun s => s.chp 0x0022 (some 0) false false (decide (f.body.length = 4) && zeros f.body 2 2) f
      (fun _ s => s.finish f 0x0022 0x00 (s.lastReport (getLe f.body 0 2)))) s := by
    simp only [exec, execNodeLast]
    congr 2
    funext _ s
    unfold State.lastReport
    cases (s.node (getLe f.body 0 2)).reported <;> rfl
  obtain ⟨hb, -, hhand, hrun⟩ := done_chp_eq_next h hok (fun _ => false) (fun _ s => s.finish f 0x0022 0x00 (s.lastReport (getLe f.body 0 2)))
  exact ⟨_, hexec.trans (hrun _ rfl (State.finish_pending ..)), hhand.answered rfl .., by rw [State.finish_eq]⟩

end Sys2Proof.Machine
end

section
/-! SUPPORT. CONFIG_WRITE and CONFIG_COMMIT (R77, R78, R482), with what an erase and a program leave in the boot flash. -/

namespace Sys2Proof.Machine

/-! ### The boot flash -/

/-- A key whose entries are left out reads as unlisted. -/
theorem Tab.get_filter_out {α : Type} {d : α} (p : Nat → Bool) (t : Tab α) (i : Nat) (hp : p i = false) :
    Tab.get d (t.filter (fun c => p c.1)) i = d := by
  induction t with
  | nil => rfl
  | cons c t ih =>
    obtain ⟨k, v⟩ := c
    rw [List.filter_cons]
    split
    · rename_i hk
      rw [Tab.get, if_neg (fun e => by simp [e, hp] at hk), ih]
    · exact ih

/-- What an erase covers reads as erased. -/
theorem Memory.read_erase_inside {m : Memory} {a n b : Nat} (ha : a ≤ b) (hn : b < a + n) : (m.erase a n).read b = 0xFF#8 :=
  Tab.get_filter_out (fun k => !(decide (a ≤ k) && decide (k < a + n))) m b (by simp [ha, hn])

theorem Memory.read_erase (m : Memory) (a n b : Nat) : (m.erase a n).read b = if a ≤ b ∧ b < a + n then 0xFF#8 else m.read b := by
  split
  case isTrue h => exact Memory.read_erase_inside h.1 h.2
  case isFalse h => exact Memory.read_erase_other a n b (by omega)

/-- Programming an octet clears bits of what stood there. -/
theorem Memory.read_program_inside {m : Memory} (a : Nat) (l : List Octet) (i : Nat) (h : m.wf = true) (hi : i < l.length) :
    (m.program a l).read (a + i) = m.read (a + i) &&& (l[i]?).getD 0#8 := by
  induction l generalizing m a i with
  | nil => simp at hi
  | cons o l ih =>
    have hwf := Memory.wf_write a (m.read a &&& o) h
    rw [Memory.program]
    cases i with
    | zero => rw [Memory.read_program_other (a + 1) (a + 0) l hwf (by omega), Nat.add_zero, Memory.read_write_same _ _ h]; rfl
    | succ i =>
      rw [show a + (i + 1) = a + 1 + i by omega, ih (a + 1) i hwf (by simpa using hi), Memory.read_write_other _ h (by omega)]
      rfl

/-! ### CONFIG_WRITE -/

/-- The flash after octets were written at an offset of a slot: a sector start erases its sector first (R77). -/
def Memory.configured (m : Memory) (slot off : Nat) (d : List Octet) : Memory :=
  (if off % 65536 = 0 then m.erase (slotBase slot + off) 65536 else m).program (slotBase slot + off) d

theorem Memory.wf_beforeConfig {m : Memory} (slot off : Nat) (h : m.wf = true) :
    (if off % 65536 = 0 then m.erase (slotBase slot + off) 65536 else m).wf = true := by
  split
  · exact Memory.wf_erase _ _ h
  · exact h

theorem Memory.read_configured_inside {m : Memory} (slot off : Nat) {d : List Octet} {i : Nat} (h : m.wf = true) (hi : i < d.length)
    (hd : d.length ≤ 65536) : (m.configured slot off d).read (slotBase slot + off + i) =
      (if off % 65536 = 0 then 0xFF#8 else m.read (slotBase slot + off + i)) &&& (d[i]?).getD 0#8 := by
  rw [Memory.configured, Memory.read_program_inside _ _ _ (Memory.wf_beforeConfig slot off h) hi]
  split
  · rw [Memory.read_erase_inside (by omega) (by omega)]
  · rfl

theorem Memory.read_configured_outside {m : Memory} (slot off : Nat) {d : List Octet} {x : Nat} (h : m.wf = true)
    (hx : x < slotBase slot + off ∨ slotBase slot + off + d.length ≤ x) : (m.configured slot off d).read x =
      if off % 65536 = 0 ∧ slotBase slot + off ≤ x ∧ x < slotBase slot + off + 65536 then 0xFF#8 else m.read x := by
  rw [Memory.configured, Memory.read_program_other _ _ _ (Memory.wf_beforeConfig slot off h) hx]
  by_cases h0 : off % 65536 = 0
  · rw [if_pos h0, Memory.read_erase]
    simp only [h0, true_and]
  · rw [if_neg h0, if_neg (fun e => h0 e.1)]

/-- A CONFIG_WRITE that passes writes with its request in hand. -/
theorem exec_configWrite {s : State} {f : ChpFrame} {k : Nat} (h : chpPasses 0x0090 (some 9) false f k s) (hok : configWriteOk f.body = true) :
    ∃ hb : HostBridge, InHand f k { s with host := hb, out := [] } ∧
      ∀ t, State.configWrite f { s with host := hb, out := [] } = t → t.pending = s.pending → exec (.configWrite f) s = .next t := by
  obtain ⟨hb, -, hhand, hrun⟩ := done_chp_eq_next h hok (fun s => decide (s.sys.restricted = 1)) (fun _ s => s.configWrite f)
  exact ⟨hb, hhand, hrun⟩

/-- The selector's pending name of a slot goes when the slot is written (R77). -/
def CfgState.written (slot : Nat) (c : CfgState) : CfgState := { c with pending := if c.pending = some slot then none else c.pending }

/-- A write that is permitted programs the slot and answers whether the octets read back. -/
theorem State.configWrite_of_permitted {f : ChpFrame} {slot off : Nat} {d : List Octet} {s : State} (hslot : getLe f.body 0 1 = slot)
    (hoff : getLe f.body 4 4 = off) (hd : f.body.drop 8 = d) (hactive : s.sys.restricted = 1 ∨ s.cfg.active ≠ slot) (ho4 : off % 4 = 0)
    (hd4 : d.length % 4 = 0) (hend : off + d.length ≤ 2097152) :
    s.configWrite f = (if (s.flash.configured slot off d).readN (slotBase slot + off) d.length = d then State.finish f 0x0090 0x00 []
      else State.refuse f 0x0090 3) { s with flash := s.flash.configured slot off d, cfg := s.cfg.written slot } := by
  have hname : (if s.cfg.pending = some slot then { s with cfg.pending := none } else s) = { s with cfg := s.cfg.written slot } := by
    unfold CfgState.written
    split <;> rfl
  unfold State.configWrite
  simp only [hslot, hoff, hd]
  rw [if_neg (by rcases hactive with h | h <;> simp [h]), if_neg (by omega), hname]
  exact (apply_ite (fun g : State → State => g { s with flash := s.flash.configured slot off d, cfg := s.cfg.written slot }) _ _ _).symm

theorem length_le_of_configWriteOk {b : List Octet} (h : configWriteOk b = true) : (b.drop 8).length ≤ 4096 := by
  simp only [configWriteOk, within, Bool.and_eq_true, decide_eq_true_eq] at h
  rw [List.length_drop]
  omega

/-- The flash, the pending name and the answer of a permitted write. -/
theorem exec_configWrite_permitted {s : State} {f : ChpFrame} {k slot off : Nat} {d : List Octet} (h : chpPasses 0x0090 (some 9) false f k s)
    (hok : configWriteOk f.body = true) (hslot : getLe f.body 0 1 = slot) (hoff : getLe f.body 4 4 = off) (hd : f.body.drop 8 = d)
    (hactive : s.sys.restricted = 1 ∨ s.cfg.active ≠ slot) (ho4 : off % 4 = 0) (hd4 : d.length % 4 = 0) (hend : off + d.length ≤ 2097152) :
    ∃ t, exec (.configWrite f) s = .next t ∧ t.flash = s.flash.configured slot off d ∧ t.cfg = s.cfg.written slot ∧
      (t.flash.readN (slotBase slot + off) d.length = d → answered f 0x0090 0 [] k t) ∧
      (t.flash.readN (slotBase slot + off) d.length ≠ d → answered f 0x0090 0x0E [3#8] k t) ∧
      { t with flash := s.flash, cfg := s.cfg, host := s.host, out := [] } = { s with out := [] } := by
  obtain ⟨hb, hhand, hexec⟩ := exec_configWrite h hok
  have hwrite := State.configWrite_of_permitted (s := { s with host := hb, out := [] }) hslot hoff hd hactive ho4 hd4 hend
  have hhand' : InHand f k { s with flash := s.flash.configured slot off d, cfg := s.cfg.written slot, host := hb, out := [] } :=
    hhand.congr rfl rfl
  generalize s.flash.configured slot off d = m at hwrite hhand' ⊢
  by_cases hread : m.readN (slotBase slot + off) d.length = d
  · rw [if_pos hread] at hwrite
    refine ⟨_, hexec _ hwrite (State.finish_pending ..), ?_, ?_, fun _ => hhand'.answered rfl .., fun hne => absurd ?_ hne, ?_⟩
    · rw [State.finish_eq]
    · rw [State.finish_eq]
    · rw [State.finish_eq]; exact hread
    · rw [State.finish_eq]
  · rw [if_neg hread] at hwrite
    refine ⟨_, hexec _ hwrite (State.finish_pending ..), ?_, ?_, fun he => absurd ?_ hread, fun _ => hhand'.answered rfl .., ?_⟩
    · rw [State.refuse, State.finish_eq]
    · rw [State.refuse, State.finish_eq]
    · rw [State.refuse, State.finish_eq] at he; exact he
    · rw [State.refuse, State.finish_eq]

/-- Octets for the active slot are refused (R77). -/
theorem exec_configWrite_active {s : State} {f : ChpFrame} {k : Nat} (h : chpPasses 0x0090 (some 9) false f k s)
    (hok : configWriteOk f.body = true) (hr : s.sys.restricted ≠ 1) (hactive : s.cfg.active = getLe f.body 0 1) :
    ∃ t, exec (.configWrite f) s = .next t ∧ answered f 0x0090 0x0E [1#8] k t ∧ { t with host := s.host, out := [] } = { s with out := [] } := by
  obtain ⟨hb, hhand, hexec⟩ := exec_configWrite h hok
  have hwrite : State.configWrite f { s with host := hb, out := [] } = State.refuse f 0x0090 1 { s with host := hb, out := [] } :=
    if_pos (c := s.sys.restricted ≠ 1 ∧ s.cfg.active = getLe f.body 0 1) ⟨hr, hactive⟩
  exact ⟨_, hexec _ hwrite (State.finish_pending ..), hhand.answered rfl .., by rw [State.refuse, State.finish_eq]⟩

/-! ### CONFIG_COMMIT -/

/-- What CONFIG_COMMIT makes of a slot's validation. -/
def State.configCommit (f : ChpFrame) (slot : Nat) (s : State) : Except (Nat × Nat) Image → State
  | .ok _ => { s.noteSlot slot 0 0 with cfg.pending := some slot }.finish f 0x0091 0x00 (leBytes 1 0 ++ [0#8, 0#8, 0#8] ++ leBytes 4 0)
  | .error (c, d) => (s.noteSlot slot c d).finish f 0x0091 0x00 (leBytes 1 c ++ [0#8, 0#8, 0#8] ++ leBytes 4 d)

/-- Only CFG notes what a validation found. -/
theorem State.noteSlot_beside (slot c d : Nat) (s : State) (hb : HostBridge) (o : List Out) :
    State.noteSlot slot c d { s with host := hb, out := o } = { s with cfg := (s.noteSlot slot c d).cfg, host := hb, out := o } := by
  unfold State.noteSlot
  split <;> rfl

/-- A slot that validates becomes the pending one; one that fails answers the step and its detail (R78). -/
theorem exec_configCommit {s : State} {f : ChpFrame} {k : Nat} (h : chpPasses 0x0091 (some 9) false f k s) (hlen : f.body.length = 4)
    (hslot : getLe f.body 0 1 < 2) (hz : zeros f.body 1 3 = true) :
    ∃ t, exec (.configCommit f) s = .next t ∧ commitAnswer f k s t (s.validateSlot (getLe f.body 0 1)) ∧
      { t with cfg := s.cfg, host := s.host, out := [] } = { s with out := [] } := by
  have hok : (decide (f.body.length = 4) && decide (getLe f.body 0 1 < 2) && zeros f.body 1 3) = true := by simp [hlen, hslot, hz]
  obtain ⟨hb, -, hhand, hrun⟩ := done_chp_eq_next h hok (fun s => decide (s.sys.restricted = 1))
    (fun _ s => s.configCommit f (getLe f.body 0 1) (s.validateSlot (getLe f.body 0 1)))
  have hsame : State.validateSlot (getLe f.body 0 1) { s with host := hb, out := [] } = s.validateSlot (getLe f.body 0 1) :=
    State.validateSlot_congr rfl rfl rfl _
  simp only [hsame] at hrun
  generalize s.validateSlot (getLe f.body 0 1) = v at hrun ⊢
  have hanswer : ∀ c body, State.configCommit f (getLe f.body 0 1) { s with host := hb, out := [] } v =
      State.finish f 0x0091 0 body { s with cfg := c, host := hb, out := [] } →
      ∃ t, exec (.configCommit f) s = .next t ∧ (t.cfg = c ∧ answered f 0x0091 0 body k t) ∧
        { t with cfg := s.cfg, host := s.host, out := [] } = { s with out := [] } := by
    intro c body hfinish
    have hhand' : InHand f k { s with cfg := c, host := hb, out := [] } := hhand.congr rfl rfl
    refine ⟨_, hrun _ hfinish (State.finish_pending ..), ⟨?_, hhand'.answered rfl ..⟩, ?_⟩
    · rw [State.finish_eq]
    · rw [State.finish_eq]
  rcases v with ⟨c, d⟩ | m
  · exact hanswer _ _ (by rw [State.configCommit, State.noteSlot_beside])
  · have hbody : leBytes 1 0 ++ [0#8, 0#8, 0#8] ++ leBytes 4 0 = [0#8, 0#8, 0#8, 0#8, 0#8, 0#8, 0#8, 0#8] := by decide
    exact hanswer _ _ (by rw [State.configCommit, State.noteSlot_beside, hbody])

end Sys2Proof.Machine
end

section
/-! SUPPORT. RESTART (R44, R457, R483): what was sent before a restart stays sent first, and its preparations leave the key store, the boot
flash and the count of restarts alone. -/

namespace Sys2Proof.Machine

/-- The key store, the flash and the count of restarts stand, and nothing sent is taken back. -/
structure Standing (s t : State) : Prop where
  keys : t.keys = s.keys
  flash : t.flash = s.flash
  restarts : t.ao.restarts = s.ao.restarts
  out : s.out <+: t.out

theorem Standing.of_eq {s t : State} (hkeys : t.keys = s.keys) (hflash : t.flash = s.flash) (hrestarts : t.ao.restarts = s.ao.restarts)
    (hout : t.out = s.out) : Standing s t := ⟨hkeys, hflash, hrestarts, [], by rw [hout, List.append_nil]⟩

theorem Standing.refl (s : State) : Standing s s := .of_eq rfl rfl rfl rfl

theorem Standing.trans {s t u : State} (h : Standing s t) (g : Standing t u) : Standing s u :=
  ⟨g.keys.trans h.keys, g.flash.trans h.flash, g.restarts.trans h.restarts, h.out.trans g.out⟩

theorem Standing.ite {s t u : State} {c : Prop} [Decidable c] (ht : Standing s t) (hu : Standing s u) : Standing s (if c then t else u) := by
  split
  · exact ht
  · exact hu

theorem BesideStops.standing {s t : State} (h : BesideStops s t) : Standing s t := by
  obtain ⟨_, _, _, _, _, rfl⟩ := h
  exact .of_eq rfl rfl rfl rfl

theorem State.report_standing (code : Nat) (data : List (Nat × Int)) (s : State) : Standing s (s.report code data) :=
  (State.report_besideStops code data s).standing

/-- Cutting off the air sends the frames that it cuts. -/
theorem State.cutAir_standing (s : State) : Standing s s.cutAir := by
  refine State.each_keeps (Standing s) _ (fun i t ht => ?_) _ s (.refl s)
  have hradio : ∀ g, Standing t (t.updRadio i g) := fun g => .ite (.of_eq rfl rfl rfl rfl) (.of_eq rfl rfl rfl rfl)
  dsimp only
  split
  · exact ht.trans ((hradio _).trans (.ite ⟨rfl, rfl, rfl, _, rfl⟩ (.refl _)))
  · exact ht

theorem State.releaseClaim_standing (s : State) : Standing s s.releaseClaim := s.cutAir_standing.trans (.of_eq rfl rfl rfl rfl)

theorem State.diagStart_standing (s : State) : Standing s s.diagStart := by
  have hclose : ∀ t, Standing s t → Standing s (({ t with diag.session := false, diag.host := 0 } : State).report 0x1202 [(1, 3)]) := fun t ht =>
    (ht.trans (u := { t with diag.session := false, diag.host := 0 }) (.of_eq rfl rfl rfl rfl)).trans (State.report_standing ..)
  exact .ite (hclose _ (.ite (.refl s) (State.cancelInjection_besideStops s).standing)) (.refl s)

theorem State.closeHost_standing (k cause : Nat) (s : State) : Standing s (s.closeHost k cause) := by
  have hdrop : Standing s (s.updHs k (fun _ => {})) := .of_eq rfl rfl rfl rfl
  exact .ite (.refl s) ((hdrop.trans (.ite (State.report_standing ..) (.refl _))).trans
    (.ite (State.diagClose_besideStops 0 _).standing (.refl _)))

theorem State.drain_standing (s : State) : Standing s s.drain := by
  rw [State.drain_eq]
  exact .of_eq rfl rfl rfl rfl

theorem State.storeDirect_standing (code : Nat) (data : List (Nat × Int)) (cls : Nat) (s : State) : Standing s (s.storeDirect code data cls) := by
  rw [State.storeDirect_eq]
  exact .of_eq rfl rfl rfl rfl

theorem State.flush_standing (s : State) : Standing s s.flush := by
  have hreport : ∀ t, Standing s t → ∀ waiting, Standing s (t.reportOverwrite waiting) := fun t ht waiting =>
    .ite ht (((ht.trans (u := { t with rcd.events := t.rcd.events ||| 8#32 }) (.of_eq rfl rfl rfl rfl)).trans
      (State.report_standing ..)).trans (State.drain_standing _))
  have hlost : ∀ t, Standing s t → Standing s t.reportLost := fun t ht =>
    .ite ht ((ht.trans (u := { t with rcd.lostRun := 0, rcd.events := t.rcd.events ||| 4#32 }) (.of_eq rfl rfl rfl rfl)).trans
      (State.storeDirect_standing ..))
  unfold State.flush
  dsimp only
  refine hlost _ (hreport _ ?_ _)
  exact .of_eq rfl rfl rfl rfl

/-- An entry to START takes back nothing that was sent. -/
theorem State.enterStart_out (c trigger : Nat) (s : State) : s.out <+: (s.enterStart c trigger).out := by
  simp only [State.enterStart]
  generalize hs : (if (s.diag.active.elim true Injection.outlives) = true then s else s.cancelInjection) = u
  have hu : Standing s u := hs ▸ .ite (.refl s) (State.cancelInjection_besideStops s).standing
  rw [State.ite_report_eq, State.each_report_eq, State.each_report_eq]
  simpa [State.fresh] using (hu.trans u.releaseClaim_standing).out

/-- A restart is counted and releases the claim; the key store, the flash and what was sent stand (R44). -/
theorem State.restart_spec {cause : Nat} (hc : cause ≠ 1) (s : State) :
    (s.restart cause).sys.mode = .start ∧ (s.restart cause).sys.cause = cause ∧ (s.restart cause).pair.claim = false ∧
      (s.restart cause).ao.restarts = min (s.ao.restarts + 1) 0xFFFF ∧ (s.restart cause).keys = s.keys ∧ (s.restart cause).flash = s.flash ∧
      s.out <+: (s.restart cause).out := by
  have hclosed : Standing s (s.releaseClaim.diagStart.each (List.range 8) (fun k s => s.closeHost k 3)) :=
    State.each_keeps (Standing s) _ (fun k t ht => ht.trans (State.closeHost_standing k 3 t)) _ _
      (s.releaseClaim_standing.trans (State.diagStart_standing _))
  have h := hclosed.trans ((State.drain_standing _).trans (State.flush_standing _))
  obtain ⟨trigger, u, hu, hrestart⟩ : ∃ trigger u, Standing s u ∧ s.restart cause = u.enterStart cause trigger := by
    refine ⟨if s.sys.mode = Mode.start ∧ cause = 4 then 4 else 12, _, h, ?_⟩
    rw [State.restart]
  rw [hrestart, State.enterStart_mode, State.enterStart_cause, State.enterStart_claim, State.enterStart_restarts, State.enterStart_keys,
    State.enterStart_flash, if_neg hc, hu.restarts, hu.keys, hu.flash]
  exact ⟨rfl, rfl, rfl, rfl, rfl, rfl, hu.out.trans (State.enterStart_out ..)⟩

/-- What RESTART makes of a request of host `h`. -/
def State.restartOrder (f : ChpFrame) (h : Nat) (s : State) : State :=
  ((s.report 0x1109 [(1, h), (1, f.source.transport)]).finish f 0x0012 0x00 []).restart 3

/-- The answer goes out first, then the unit restarts. -/
theorem InHand.restartOrder {f : ChpFrame} {k : Nat} {s : State} (h : InHand f k s) (hout : s.out = []) (host : Nat) :
    ∃ mac, (s.restartOrder f host).sys.mode = .start ∧ (s.restartOrder f host).sys.cause = 3 ∧ (s.restartOrder f host).pair.claim = false ∧
      (s.restartOrder f host).out.head? = some (.reply (f.reply 0x0012 0 [] mac)) ∧
      (s.restartOrder f host).ao.restarts = min (s.ao.restarts + 1) 0xFFFF ∧ (s.restartOrder f host).keys = s.keys ∧
      (s.restartOrder f host).flash = s.flash := by
  unfold State.restartOrder
  have hhand : InHand f k (s.report 0x1109 [(1, host), (1, f.source.transport)]) :=
    h.congr (by rw [State.report_host]) (State.report_tres ..)
  have hstand := State.report_standing 0x1109 [(1, host), (1, f.source.transport)] s
  have hempty := (State.report_out 0x1109 [(1, host), (1, f.source.transport)] s).trans hout
  generalize s.report 0x1109 [(1, host), (1, f.source.transport)] = v at hhand hstand hempty ⊢
  obtain ⟨mac, hreply, -⟩ := hhand.finish_out 0x0012 0 []
  have hfinish := State.finish_eq f 0x0012 0 [] v
  generalize v.finish f 0x0012 0 [] = u at hreply hfinish ⊢
  obtain ⟨hmode, hcause, hclaim, hrestarts, hkeys, hflash, l, hl⟩ := State.restart_spec (cause := 3) (by decide) u
  refine ⟨mac, hmode, hcause, hclaim, ?_, ?_, ?_, ?_⟩
  · rw [← hl, hreply, hempty]
    rfl
  · rw [hrestarts, hfinish, hstand.restarts]
  · rw [hkeys, hfinish, hstand.keys]
  · rw [hflash, hfinish, hstand.flash]

/-- RESTART is answered, and the unit starts over (R44, R483). -/
theorem exec_restart {s : State} {f : ChpFrame} {k : Nat} (h : chpPasses 0x0012 (some 1) false f k s) (hbody : f.body = []) :
    ∃ t mac, exec (.restart f) s = .next t ∧ t.sys.mode = .start ∧ t.sys.cause = 3 ∧ t.pair.claim = false ∧
      t.out.head? = some (.reply ⟨f.session, f.sequence, 0x12#16, 0#8, [], some mac, f.source⟩) ∧
      t.ao.restarts = min (s.ao.restarts + 1) 0xFFFF ∧ t.keys = s.keys ∧ t.flash = s.flash ∧ t.pending = s.pending := by
  obtain ⟨hb, -, hhand, hrun⟩ := done_chp_of_passes h (decide_eq_true hbody)
    (fun s => decide (s.sys.restricted = 1 ∨ s.sys.restricted = 2)) (fun h s => s.restartOrder f h)
  have hexec : exec (.restart f) s = _ := hrun
  obtain ⟨mac, hmode, hcause, hclaim, hout, hrestarts, hkeys, hflash⟩ := hhand.restartOrder rfl (s.hs k).host
  generalize State.restartOrder f (s.hs k).host { s with host := hb, out := [] } = t at hexec hmode hcause hclaim hout hrestarts hkeys hflash
  exact ⟨_, mac, hexec, hmode, hcause, hclaim, hout, hrestarts, hkeys, hflash, rfl⟩

end Sys2Proof.Machine
end

section
/-! PROOF. The host messages (R77, R78, R115, R478, R479, R482, R483). -/

namespace Sys2Proof.Machine

/-- Settles O55: each message passes its checks with its request in hand, acts, and is answered or waits. -/
theorem hostMessages : Obligations.HostMessages := by
  unfold Obligations.HostMessages
  refine ⟨?readPlain, ?readAssigned, ?readUnassigned, ?deferred, ?shared, ?pairs, ?refused, ?restart, ?queued, ?notQueued, ?last, ?configure,
    ?activeSlot, ?commit⟩
  case readPlain =>
    intro s f k a n h hlen ha hn h1 h256 hz hhost hreg
    have hread := exec_statusRead_plain h hlen ha hn h1 h256 hz hhost hreg
    simp only [State.statusBody, List.flatMap_map] at hread
    exact hread
  case readAssigned => exact fun _ _ _ _ _ => exec_statusRead_assigned
  case readUnassigned => exact fun _ _ _ _ => exec_statusRead_unassigned
  case deferred => exact fun _ _ _ _ _ => exec_statusWrite_deferred
  case shared => exact fun _ _ _ _ _ => exec_statusWrite_shared
  case pairs => exact fun _ _ _ _ => exec_statusWrite_pairs
  case refused => exact fun _ _ _ _ _ => exec_statusWrite_refused
  case restart => exact fun _ _ _ => exec_restart
  case queued => exact fun _ _ _ _ _ => exec_nodeSend_queued
  case notQueued => exact fun _ _ _ _ _ => exec_nodeSend_refused
  case last => exact fun _ _ _ _ => exec_nodeLast
  case configure =>
    intro s f k slot off d h hok hslot hoff hd hactive ho4 hd4 hend hwf
    obtain ⟨t, hexec, hflash, hcfg, hread, hunread, hframe⟩ := exec_configWrite_permitted h hok hslot hoff hd hactive ho4 hd4 hend
    have hlen : d.length ≤ 4096 := hd ▸ length_le_of_configWriteOk hok
    refine ⟨t, hexec, fun i hi => ?_, fun x hx => ?_, hcfg, hread, hunread, hframe⟩
    · rw [hflash, Memory.read_configured_inside slot off hwf hi (by omega)]
    · rw [hflash, Memory.read_configured_outside slot off hwf hx]
  case activeSlot => exact fun _ _ _ => exec_configWrite_active
  case commit => exact fun _ _ _ => exec_configCommit

end Sys2Proof.Machine
end

section
/-! SUPPORT. What a timeout on the free-running counter leaves alone (R178), and a command that ends in a report. -/

namespace Sys2Proof.Machine

/-- Time that runs on to an instant changes the free-running counter alone (log 5). -/
theorem State.atLeast_eq (n : Nat) (s : State) : s.atLeast n = { s with time.frc := (s.atLeast n).time.frc } := rfl

@[simp] theorem State.atLeast_clk (n : Nat) (s : State) : (s.atLeast n).clk = s.clk := rfl
@[simp] theorem State.atLeast_diag (n : Nat) (s : State) : (s.atLeast n).diag = s.diag := rfl
@[simp] theorem State.atLeast_lake (n : Nat) (s : State) : (s.atLeast n).lake = s.lake := rfl
@[simp] theorem State.atLeast_trk (n : Nat) (s : State) : (s.atLeast n).trk = s.trk := rfl
@[simp] theorem State.atLeast_pending (n : Nat) (s : State) : (s.atLeast n).pending = s.pending := rfl

/-- A command whose effect ends in a report of a state that has the queue as it was. -/
theorem done_report {f : State → State} {s t : State} {code : Nat} {data : List (Nat × Int)}
    (h : f { s with out := [] } = t.report code data) (hp : t.pending = s.pending) : done f s = .next (t.report code data) :=
  done_eq_next h (by rw [State.report_pending, hp])

end Sys2Proof.Machine
end

section
/-! PROOF. The antenna bias (R87, R88, R89). -/

namespace Sys2Proof.Machine

/-- Where the switch is powered, the readings taken are held (R89). -/
theorem State.antSense_of_sensed {s : State} (c v : Nat) (hp : s.lake.ant ≠ .passive) (ho : s.lake.ant ≠ .off) :
    s.antSense c v = { s with lake.antCurrent := c, lake.antVoltage := v } := if_neg (not_or.mpr ⟨hp, ho⟩)

/-- In PASSIVE and OFF nothing is sensed (R87, R89). -/
theorem State.antSense_of_unsensed {s : State} (c v : Nat) (h : s.lake.ant = .passive ∨ s.lake.ant = .off) : s.antSense c v = s := if_pos h

/-- A closed switch is sensed. -/
theorem AntState.sensed_of_closed {a : AntState} (h : a = .on ∨ a = .openCircuit) : a ≠ .passive ∧ a ≠ .off := by
  rcases h with rfl | rfl <;> decide

/-- A second after the short the readings are taken, and the consecutive-short count decides (R88). -/
theorem exec_antShortWaitEnd {s b : State} (c : BitVec 8) (v : BitVec 12) (h : s.lake.ant = .shortWait)
    (hb : b = State.atLeast (s.lake.antSince + 1000000000) { s with out := [] }) :
    exec (.antShortWaitEnd c v) s = done (fun _ =>
      let u := { b with lake.antCurrent := c.toNat, lake.antVoltage := v.toNat }
      if s.lake.shorts ≤ 4 then u.antRestore
      else ((u.setAnt .latchedOff).lakeEvent 2).report 0x0103 [(1, c.toNat), (2, v.toNat)]) s := by
  have hlake : b.lake = s.lake := by rw [hb, State.atLeast_lake]
  simp only [exec, execAntShortWaitEnd, done_next, h, if_true]
  rw [← hb, State.antSense_of_sensed (s := b) _ _ (by simp [hlake, h]) (by simp [hlake, h])]
  simp only [hlake]

/-- Settles O16: each row of Table 4-3 is its command's one branch. -/
theorem antennaBias : Obligations.AntennaBias := by
  unfold Obligations.AntennaBias
  refine ⟨?opened, ?unsensed, ?restored, ?short, ?waitOn, ?waitLatched, ?supplyFault, ?supplyRestored, ?countReset, ?retry, ?noRetry, ?loss⟩
  case opened =>
    intro s c v h hc
    simp only [exec, execAntOpen]
    refine done_report ?_ rfl
    rw [State.antSense_of_sensed] <;> simp [h, hc, State.setAnt, State.lakeEvent, State.ns]
  case unsensed =>
    intro s c v h
    have hs := State.antSense_of_unsensed (s := { s with out := [] }) c.toNat v.toNat h
    have hclosed : ¬ (s.lake.ant = .on ∨ s.lake.ant = .openCircuit) := by rcases h with h | h <;> simp [h]
    have hon : s.lake.ant ≠ .on := fun hon => hclosed (.inl hon)
    constructor
    · simp [exec, execAntOpen, done_next, hs, hon]
    · simp [exec, execAntShort, done_next, hs, hclosed]
  case restored =>
    intro s c v h hc
    simp only [exec, execAntOpenRestored]
    refine done_report ?_ rfl
    rw [State.antSense_of_sensed] <;> simp [h, hc, State.antRestore, State.setAnt, AntState.code, State.ns]
  case short =>
    intro s c v h hn hs
    obtain ⟨hp, ho⟩ := AntState.sensed_of_closed h
    have hsat : sat 3 (s.lake.shorts + 1) = s.lake.shorts + 1 := Nat.min_eq_left (by omega)
    simp only [exec, execAntShort]
    refine done_report ?_ rfl
    rw [State.antSense_of_sensed (s := { s with out := [] }) _ _ hp ho, if_pos ⟨h, hs⟩]
    simp [hsat, State.setAnt, State.lakeEvent, State.ns]
  case waitOn =>
    intro s b c v h hn hb
    have hlake : b.lake = s.lake := by rw [hb, State.atLeast_lake]
    rw [exec_antShortWaitEnd c v h hb]
    refine done_report ?_ (by rw [hb, State.atLeast_pending])
    simp [hn, hlake, h, State.antRestore, State.setAnt, AntState.code, State.ns]
  case waitLatched =>
    intro s b c v h hn hb
    have hlake : b.lake = s.lake := by rw [hb, State.atLeast_lake]
    rw [exec_antShortWaitEnd c v h hb]
    refine done_report ?_ (by rw [hb, State.atLeast_pending])
    simp [hn, hlake, State.setAnt, State.lakeEvent, State.ns]
  case supplyFault =>
    intro s c v n h hn
    obtain ⟨hp, ho⟩ := AntState.sensed_of_closed h
    simp only [exec, execAntSupplyFault]
    refine done_report ?_ rfl
    rw [State.antSense_of_sensed (s := { s with out := [] }) _ _ hp ho, if_pos ⟨h, hn⟩]
    simp [State.antSupply, State.setAnt, State.lakeEvent, State.ns]
  case supplyRestored =>
    intro s c v n h hn
    simp only [exec, execAntSupplyRestored]
    refine done_report ?_ rfl
    rw [State.antSense_of_sensed (s := { s with out := [] }) _ _ (by simp [h]) (by simp [h]), if_pos ⟨h, hn⟩]
    simp [h, State.antRestore, State.setAnt, AntState.code, State.ns]
  case countReset =>
    intro s h
    exact done_eq_next (if_pos h) (State.atLeast_pending (s.lake.antSince + 60000000000) { s with out := [] })
  case retry =>
    intro s h
    simp only [exec, execAntRetry]
    refine done_report ?_ rfl
    simp [State.antRetry, h, State.antRestore, State.setAnt, AntState.code, State.ns]
  case noRetry =>
    intro s h
    simp [exec, execAntRetry, done_next, State.antRetry, h]
  case loss => exact fun s => rfl

end Sys2Proof.Machine
end

section
/-! PROOF. The pair-wide writes at their second (R115). -/

namespace Sys2Proof.Machine

/-- The second of the pair-wide writes comes: those due leave the queue and take effect in order (R115). -/
theorem exec_pairWideRegApply {s b : State} (hp : s.sys.mode ≠ .dormant) (hs : s.sys.saving = false) (hr : s.time.running = true)
    (hb : b = State.mark 27 perSec { s with out := [] }) :
    exec .pairWideRegApply s = done (fun _ =>
      State.each (s.pair.regDue.filter (fun p => decide (p.2.2 ≤ secOf b.now))) (fun p s => applyReg (blockOf p.1) (offsetOf p.1) p.2.1 s)
        { b with pair.regDue := s.pair.regDue.filter (fun p => decide (secOf b.now < p.2.2)) }) s := by
  have hpair : b.pair = s.pair := by rw [hb, State.mark_eq]
  simp only [exec, execPairWideRegApply, done_next]
  rw [if_neg (by simp [State.powered, hp, hs, hr]), ← hb, hpair]

/-- Settles O20: the writes that are due are those whose second has come. -/
theorem pairWideWritesAtSecond : Obligations.PairWideWritesAtSecond := by
  unfold Obligations.PairWideWritesAtSecond
  constructor
  · intro s b hp hs hr hb hlater
    have hpair : b.pair = s.pair := by rw [hb, State.mark_eq]
    have hdue : s.pair.regDue.filter (fun p => decide (p.2.2 ≤ secOf b.now)) = [] :=
      List.filter_eq_nil_iff.mpr fun p h => by have := hlater p h; simpa using this
    have hwait : s.pair.regDue.filter (fun p => decide (secOf b.now < p.2.2)) = s.pair.regDue :=
      List.filter_eq_self.mpr fun p h => by simpa using hlater p h
    rw [exec_pairWideRegApply hp hs hr hb]
    refine done_eq_next ?_ (by rw [hb, State.mark_eq])
    rw [hdue, hwait, ← hpair]
    rfl
  · intro s b v second hp hs hr hb hreg hdue
    rw [exec_pairWideRegApply hp hs hr hb]
    refine done_eq_next ?_ (by rw [hb, State.mark_eq])
    have hwait : ¬ secOf b.now < second := by omega
    simp [hreg, hdue, hwait, State.each, applyReg, applyLake, blockOf, offsetOf]

end Sys2Proof.Machine
end

section
/-! SUPPORT. The Lake's slots and FIFO (R102, R103, R107, R111): what a slot set, a search ended and a request taken leave. -/

namespace Sys2Proof.Machine

theorem LakeSlot.ne_reset_of_state {v : LakeSlot} (h : v.state ≠ .idle) : v ≠ LakeSlot.reset := fun hv => h (by rw [hv]; rfl)

/-- A slot in use reads as set, whatever form the table is in. -/
theorem State.slot_setSlot_same {v : LakeSlot} (hv : v ≠ LakeSlot.reset) (n : Nat) (s : State) : (s.setSlot n v).slot n = v :=
  Tab.get_set_same_of_ne hv n s.lake.slots

/-- Every other slot then reads as before. -/
theorem State.slot_setSlot_other {v : LakeSlot} (hv : v ≠ LakeSlot.reset) {n m : Nat} (hm : m ≠ n) (s : State) :
    (s.setSlot n v).slot m = s.slot m := Tab.get_set_other_of_ne hv hm s.lake.slots

@[simp] theorem State.setSlot_fifo (n : Nat) (v : LakeSlot) (s : State) : (s.setSlot n v).lake.fifo = s.lake.fifo := rfl

/-- What the end of a search does (R107): its slot is idle with the outcome, and the search is counted. -/
structure SearchEnded (n outcome : Nat) (s t : State) : Prop where
  own : t.slot n = { s.slot n with state := .idle, outcome := outcome, channel := none }
  others : ∀ m, m ≠ n → t.slot m = s.slot m
  fifo : t.lake.fifo = s.lake.fifo
  frame : t = { s with lake.slots := t.lake.slots, lake.idleSince := s.ns, lcnt := t.lcnt }

theorem State.endSearch_ended {outcome : Nat} (ho : outcome ≠ 0) (n : Nat) (s : State) : SearchEnded n outcome s (s.endSearch n outcome) := by
  have hv : ({ s.slot n with state := .idle, outcome := outcome, channel := none } : LakeSlot) ≠ LakeSlot.reset :=
    LakeSlot.ne_reset_of_outcome ho
  exact ⟨State.slot_setSlot_same hv n s, fun m hm => State.slot_setSlot_other hv hm s, rfl, rfl⟩

theorem State.slot_of_empty {s : State} (h : s.lake.slots = []) (n : Nat) : s.slot n = LakeSlot.reset := by rw [State.slot, h]; rfl

/-- With no request waiting no slot takes one. -/
theorem State.takeRequests_of_empty {s : State} (h : s.lake.fifo = []) : s.takeRequests = s := by
  simp [State.takeRequests, h, State.each]

/-- Before the Lake domain runs no slot takes a request (R26, R111). -/
theorem State.takeRequests_of_unready {s : State} (h : s.domReady domLake = false) : s.takeRequests = s := by
  simp [State.takeRequests, h]

/-- With every slot idle the lowest-numbered one takes the one request that waits (R103). -/
theorem State.takeRequests_of_single {q : SearchReq} {s : State} (hl : s.clk.lake = true) (hr : s.domReady domLake = true)
    (hs : s.lake.slots = []) (hq : s.lake.fifo = [q]) :
    s.takeRequests = { s.setSlot 0 { LakeSlot.reset with req := q, state := .search, doppler := q.doppler, since := s.ns } with
      lake.fifo := [] } := by
  have hidle := State.slot_of_empty hs
  have hfirst : (List.range 96).find? (fun n => decide ((s.slot n).state = .idle)) = some 0 := by
    rw [List.range_succ_eq_map, List.find?_cons_of_pos (by simp [hidle, LakeSlot.reset])]
  simp [State.takeRequests, State.each, hl, hr, hq, State.takeOne, hfirst, firstRequest, hidle 0, LakeSlot.reset]

/-- A domain that takes time to start is not ready when it wakes (R26). -/
theorem State.readyAt_wake {d : Nat} (hd : domStart d ≠ 0) (s : State) : Tab.get 0 (s.wake d).clk.readyAt d = s.ns + domStart d :=
  Tab.get_set_same_of_ne (by omega) d s.clk.readyAt

theorem State.domReady_wake {d : Nat} (hd : domStart d ≠ 0) (s : State) : (s.wake d).domReady d = false := by
  have hns : (s.wake d).ns = s.ns := rfl
  simp only [State.domReady, State.readyAt_wake hd, hns, decide_eq_false_iff_not]
  omega

/-- The instant of a timeout has come (log 5). -/
theorem State.le_atLeast_ns {n : Nat} (h : n < 2 ^ 64) (s : State) : n ≤ (s.atLeast n).ns := by
  show n ≤ (if s.ns < n then BitVec.ofNat 64 n else s.time.frc).toNat
  split
  · rw [BitVec.toNat_ofNat, Nat.mod_eq_of_lt h]
  next hn => exact Nat.le_of_not_lt hn

theorem State.domReady_whenReady {d : Nat} {s : State} (h : Tab.get 0 s.clk.readyAt d < 2 ^ 64) : (s.whenReady d).domReady d = true :=
  decide_eq_true (State.le_atLeast_ns h s)

/-- With the Lake domain stopped, or nothing waiting, nothing happens before a command of the Lake. -/
theorem State.lakeUp_of_empty {s : State} (h : s.lake.fifo = []) : s.lakeUp = s := by
  simp [State.lakeUp, h]

/-- The one request that waits for the Lake domain is taken once it runs (R111, log 175). -/
theorem State.lakeUp_of_single {q : SearchReq} {s : State} (hl : s.clk.lake = true) (hr : Tab.get 0 s.clk.readyAt domLake < 2 ^ 64)
    (hs : s.lake.slots = []) (hq : s.lake.fifo = [q]) :
    s.lakeUp = { (s.whenReady domLake).setSlot 0
      { LakeSlot.reset with req := q, state := .search, doppler := q.doppler, since := (s.whenReady domLake).ns } with lake.fifo := [] } := by
  rw [State.lakeUp, if_pos (by simp [hl, hq])]
  exact State.takeRequests_of_single hl (State.domReady_whenReady hr) hs hq

/-- A request that Table 4-7 refuses for another reason than a full FIFO is counted alone. -/
theorem State.submitSearch_of_refused {q : SearchReq} {r : Nat} {s : State} (h : s.searchRefusal q = some r) (hr : r ≠ 1) :
    s.submitSearch q = (some r, { s with lcnt.refused := incr s.lcnt.refused }) := by
  simp [State.submitSearch, h, hr]

/-- A request that meets a full FIFO is refused, counted and recorded. -/
theorem State.submitSearch_of_full {q : SearchReq} {s : State} (h : 32 ≤ s.lake.fifo.length) :
    s.submitSearch q = (some 1, (State.lakeEvent 4 { s with lcnt.refused := incr s.lcnt.refused }).report 0x010C
      [(1, q.sig.signal), (1, q.sig.sv), (1, q.kind)]) := by
  simp [State.submitSearch, State.searchRefusal, h]

theorem State.submitSearch_of_taken {q : SearchReq} {s : State} (h : s.searchRefusal q = none) :
    s.submitSearch q = (none, (State.wakeLake { s with lake.fifo := s.lake.fifo ++ [q] }).takeRequests) := by
  simp [State.submitSearch, h]

/-- With the domain running and every slot idle the lowest-numbered slot takes the request at once (R103). -/
theorem State.submitSearch_of_idle {q : SearchReq} {s : State} (h : s.searchRefusal q = none) (hl : s.clk.lake = true)
    (hr : s.domReady domLake = true) (hs : s.lake.slots = []) (hq : s.lake.fifo = []) :
    s.submitSearch q =
      (none, { s.setSlot 0 { LakeSlot.reset with req := q, state := .search, doppler := q.doppler, since := s.ns } with lake.fifo := [] }) := by
  have hawake : State.wakeLake { s with lake.fifo := s.lake.fifo ++ [q] } = { s with lake.fifo := [q] } := by
    simp [State.wakeLake, hl, hq]
  rw [State.submitSearch_of_taken h, hawake, State.takeRequests_of_single (s := { s with lake.fifo := [q] }) hl hr hs rfl]
  rfl

/-- With the domain stopped the request waits while the domain starts (R111, Table 1-6). -/
theorem State.submitSearch_of_stopped {q : SearchReq} {s : State} (h : s.searchRefusal q = none) (hl : s.clk.lake = false) :
    s.submitSearch q = (none, State.wake domLake { s with lake.fifo := s.lake.fifo ++ [q], clk.lake := true }) := by
  have hwoken : State.wakeLake { s with lake.fifo := s.lake.fifo ++ [q] } =
      State.wake domLake { s with lake.fifo := s.lake.fifo ++ [q], clk.lake := true } := by simp [State.wakeLake, hl]
  rw [State.submitSearch_of_taken h, hwoken, State.takeRequests_of_unready (State.domReady_wake (by decide) _)]

/-- A search that was cancelled: its slot is idle with the outcome CANCELLED (R109). -/
def LakeSlot.Cancelled (v : LakeSlot) : Prop := v.state = .idle ∧ v.outcome = 6

/-- A slot searches, verifies or waits for a channel: what a cancellation ends (R109). -/
def LakeSlot.Searching (v : LakeSlot) : Prop := v.state = .search ∨ v.state = .verify ∨ v.state = .waitChannel

theorem State.cancelSlot_of_searching {n : Nat} {s : State} (h : (s.slot n).Searching) : s.cancelSlot n = s.endSearch n 6 := by
  unfold State.cancelSlot
  rcases h with h | h | h <;> rw [h]

theorem State.cancelSlot_of_not_searching {n : Nat} {s : State} (h : ¬ (s.slot n).Searching) : s.cancelSlot n = s := by
  unfold State.cancelSlot
  split <;> simp_all [LakeSlot.Searching]

theorem State.cancelSlot_eq (n : Nat) (s : State) :
    s.cancelSlot n = { s with lake.slots := (s.cancelSlot n).lake.slots, lake.idleSince := (s.cancelSlot n).lake.idleSince
                              lcnt := (s.cancelSlot n).lcnt } := by
  by_cases h : (s.slot n).Searching
  · rw [State.cancelSlot_of_searching h]; rfl
  · rw [State.cancelSlot_of_not_searching h]

/-- The slot cancelled is so, and one cancelled before stays so. -/
theorem State.cancelSlot_cancelled (a n : Nat) {s : State} (h : a = n ∧ (s.slot n).Searching ∨ (s.slot n).Cancelled) :
    ((s.cancelSlot a).slot n).Cancelled := by
  by_cases ha : (s.slot a).Searching
  · obtain ⟨hown, hothers, -, -⟩ := State.endSearch_ended (outcome := 6) (by decide) a s
    rw [State.cancelSlot_of_searching ha]
    by_cases hn : n = a
    · subst hn; rw [hown]; exact ⟨rfl, rfl⟩
    · rw [hothers n hn]; exact h.resolve_left (fun h => hn h.1.symm)
  · rw [State.cancelSlot_of_not_searching ha]
    exact h.resolve_left (fun h => ha (h.1 ▸ h.2))

theorem State.cancelSlot_other {a m : Nat} (hm : m ≠ a) (s : State) : (s.cancelSlot a).slot m = s.slot m := by
  by_cases ha : (s.slot a).Searching
  · rw [State.cancelSlot_of_searching ha]
    exact (State.endSearch_ended (outcome := 6) (by decide) a s).others m hm
  · rw [State.cancelSlot_of_not_searching ha]

theorem State.each_cancelSlot_cancelled (n : Nat) : ∀ (l : List Nat) (s : State), n ∈ l ∧ (s.slot n).Searching ∨ (s.slot n).Cancelled →
    ((s.each l (fun a s => s.cancelSlot a)).slot n).Cancelled
  | [], _, h => h.resolve_left (by simp)
  | a :: l, s, h => by
    refine State.each_cancelSlot_cancelled n l (s.cancelSlot a) ?_
    by_cases hn : n = a
    · exact .inr (State.cancelSlot_cancelled a n (h.imp_left (fun h => ⟨hn.symm, h.2⟩)))
    · rw [State.cancelSlot_other hn]
      exact h.imp_left (fun h => ⟨(List.mem_cons.mp h.1).resolve_left hn, h.2⟩)

theorem State.each_cancelSlot_other {m : Nat} : ∀ (l : List Nat) (s : State), m ∉ l → (s.each l (fun a s => s.cancelSlot a)).slot m = s.slot m
  | [], _, _ => rfl
  | a :: l, s, h => by
    obtain ⟨hm, hl⟩ := not_or.mp (List.mem_cons.not.mp h)
    exact (State.each_cancelSlot_other l (s.cancelSlot a) hl).trans (State.cancelSlot_other hm s)

theorem State.cancelWhere_cancelled {p : SearchReq → Bool} {n : Nat} {s : State} (hn : n < 96) (hp : p (s.slot n).req = true)
    (hs : (s.slot n).Searching) : ((s.cancelWhere p).slot n).Cancelled :=
  State.each_cancelSlot_cancelled n _ s (.inl ⟨List.mem_filter.mpr ⟨List.mem_range.mpr hn, hp⟩, hs⟩)

theorem State.cancelWhere_other {p : SearchReq → Bool} {m : Nat} {s : State} (hp : p (s.slot m).req = false) :
    (s.cancelWhere p).slot m = s.slot m :=
  State.each_cancelSlot_other _ s (fun hm => by simp [hp] at hm)

/-- Cancelling changes the slots, the FIFO, the instant since which the Lake has been idle and the counters alone. -/
theorem State.cancelWhere_eq (p : SearchReq → Bool) (s : State) :
    s.cancelWhere p = { s with
      lake.slots := (s.cancelWhere p).lake.slots, lake.idleSince := (s.cancelWhere p).lake.idleSince
      lake.fifo := s.lake.fifo.filter (fun q => !p q), lcnt := (s.cancelWhere p).lcnt } := by
  have h := State.each_keeps (fun t => t = { s with lake.slots := t.lake.slots, lake.idleSince := t.lake.idleSince, lcnt := t.lcnt })
    (fun n s => s.cancelSlot n) (fun n t ht => by rw [State.cancelSlot_eq, ht])
    ((List.range 96).filter (fun n => p (s.slot n).req)) s rfl
  unfold State.cancelWhere
  dsimp only
  rw [h]

end Sys2Proof.Machine
end

section
/-! PROOF. Search requests, their records and outcomes (R100, R102–R105, R107, R109, R111). -/

namespace Sys2Proof.Machine

/-- Two meanings that do the same to this state answer the same. -/
theorem done_congr {f g : State → State} {s : State} (h : f { s with out := [] } = g { s with out := [] }) : done f s = done g s := by
  rw [done_next, done_next, h]

theorem exec_searchRequest {s : State} {o : List Octet} {d : Bool} {q : SearchReq} (hq : q = if d then (searchReqOf o).withDefaults else searchReqOf o)
    (hg : s.clk.gnss = true) : exec (.searchRequest o d) s = done (fun s => (s.submitSearch q).2) s := by
  subst hq
  simp only [exec, execSearchRequest, done_next, hg, if_true]

/-- A record with a parity error is discarded, counted and recorded (R107). -/
theorem exec_searchRecordDone_parity {s : State} {n : Fin 96} (a : Nat) (d : Int) (r : Nat)
    (hs : (s.slot n.val).state = .search ∨ (s.slot n.val).state = .verify) (ha : s.diag.eccArmed = none) (hf : s.lake.fifo = []) :
    exec (.searchRecordDone n (some a) d r) s = done (fun s =>
      (State.lakeEvent 5 { s with lcnt.parity := incr s.lcnt.parity }).report 0x010B [(1, n.val), (4, a)]) s := by
  have hbusy : ¬ ((s.slot n.val).state ≠ .search ∧ (s.slot n.val).state ≠ .verify) := by tauto
  simp only [exec, execSearchRecordDone]
  refine done_congr ?_
  simp only [State.lakeUp_of_empty (s := { s with out := [] }) hf, ha]
  exact if_neg hbusy

/-- A good record of a search advances NC_DONE; the best cell so far stands in the slot view (R107). -/
theorem exec_searchRecordDone_good {s : State} {n : Fin 96} (d : Int) {r : Nat} (hs : (s.slot n.val).state = .search)
    (ha : s.diag.eccArmed = none) (hf : s.lake.fifo = []) (hnc : (s.slot n.val).ncDone < (s.slot n.val).req.nnc)
    (hp : (s.slot n.val).peak ≤ r) (hr : r < 65536) :
    exec (.searchRecordDone n none d r) s = done (State.setSlot n.val
      { s.slot n.val with ncDone := (s.slot n.val).ncDone + 1, doppler := d, peak := r, ratio := r }) s := by
  have hbusy : ¬ ((s.slot n.val).state ≠ .search ∧ (s.slot n.val).state ≠ .verify) := fun h => h.1 hs
  have hmin : min ((s.slot n.val).ncDone + 1) (s.slot n.val).req.nnc = (s.slot n.val).ncDone + 1 := Nat.min_eq_left hnc
  have hsat : sat 16 r = r := Nat.min_eq_left (by omega)
  simp only [exec, execSearchRecordDone]
  refine done_congr ?_
  simp only [State.lakeUp_of_empty (s := { s with out := [] }) hf, ha]
  refine (if_neg hbusy).trans ?_
  have hslot : ({ s with out := [] } : State).slot n.val = s.slot n.val := rfl
  simp [hslot, hs, hp, hmin, hsat]

/-- A record of a slot that is idle once the waiting requests are taken changes nothing else (R107, R111). -/
theorem exec_searchRecordDone_idle {s : State} {n : Fin 96} (p : Option Nat) (d : Int) (r : Nat)
    (hu : (State.lakeUp { s with out := [] }).slot n.val = LakeSlot.reset) :
    exec (.searchRecordDone n p d r) s = done State.lakeUp s := by
  simp only [exec, execSearchRecordDone]
  refine done_congr ?_
  simp [hu, LakeSlot.reset]

/-- A search that is over ends at an instant with its outcome, and with no request waiting no slot takes one (R107). -/
theorem done_endSearch {n outcome x : Nat} {s : State} (ho : outcome ≠ 0) (hf : s.lake.fifo = []) :
    ∃ t, done (fun s => ((s.atLeast x).endSearch n outcome).takeRequests) s = .next t ∧ (t.slot n).state = .idle ∧
      (t.slot n).outcome = outcome ∧ t.lcnt = (State.endSearch n outcome s).lcnt ∧ (∀ m, m ≠ n → t.slot m = s.slot m) ∧
      { t with lake.slots := s.lake.slots, lake.idleSince := s.lake.idleSince, lcnt := s.lcnt, time := s.time } = { s with out := [] } := by
  obtain ⟨hown, hothers, hfifo, hframe⟩ := State.endSearch_ended ho n (State.atLeast x { s with out := [] })
  refine ⟨_, done_eq_next (State.takeRequests_of_empty (hfifo.trans hf)) rfl, ?_, ?_, rfl, hothers, rfl⟩
  · rw [hown]
  · rw [hown]

/-- A slot whose search does not end yet passes to another state, at an instant. -/
theorem done_setSlot_atLeast {n x : Nat} {v : State → LakeSlot} {s : State} (hv : ∀ u, v u ≠ LakeSlot.reset) :
    ∃ t, done (fun s => (s.atLeast x).setSlot n (v (s.atLeast x))) s = .next t ∧ t.time = (s.atLeast x).time ∧
      t.slot n = v (State.atLeast x { s with out := [] }) ∧ (∀ m, m ≠ n → t.slot m = s.slot m) ∧
      { t with lake.slots := s.lake.slots, time := s.time } = { s with out := [] } :=
  ⟨_, rfl, rfl, State.slot_setSlot_same (hv _) n _, fun _ hm => State.slot_setSlot_other (hv _) hm _, rfl⟩

/-- The searches that a SEARCH_CANCEL names (R109). -/
def taggedBy (g : BitVec 16) (q : SearchReq) : Bool := decide (q.tag = g.toNat)

/-- Settles O17: a submission is the branch of Table 4-7 that holds; a record, a decision and a cancellation set their slots, and with
no request waiting no slot takes one. -/
theorem searchesRun : Obligations.SearchesRun := by
  unfold Obligations.SearchesRun
  refine ⟨?refused, ?full, ?taken, ?waits, ?parity, ?record, ?woken, ?verify, ?notFound, ?verifyFailed, ?noChannel, ?cancelled⟩
  case refused =>
    intro s o d q r hq hg hr h1
    rw [exec_searchRequest hq hg, done_next, State.submitSearch_of_refused (s := { s with out := [] }) hr h1]
    rfl
  case full =>
    intro s o d q hq hg hf
    rw [exec_searchRequest hq hg]
    refine done_report ?_ rfl
    rw [State.submitSearch_of_full (s := { s with out := [] }) hf]
    rfl
  case taken =>
    intro s o d q hq hg hl hr hn hs hf
    rw [exec_searchRequest hq hg, done_next, State.submitSearch_of_idle (s := { s with out := [] }) hn hl hr hs hf]
    have hv : ({ LakeSlot.reset with req := q, state := .search, doppler := q.doppler, since := s.ns } : LakeSlot) ≠ LakeSlot.reset :=
      LakeSlot.ne_reset_of_state (by simp)
    have hown := State.slot_setSlot_same hv 0 { s with out := [] }
    exact ⟨_, rfl, congrArg LakeSlot.state hown, congrArg LakeSlot.req hown, congrArg LakeSlot.since hown,
      fun n hn => (State.slot_setSlot_other hv (Nat.ne_of_gt hn) _).trans (State.slot_of_empty hs n), rfl, rfl⟩
  case waits =>
    intro s o d q hq hg hl hn
    rw [exec_searchRequest hq hg, done_next, State.submitSearch_of_stopped (s := { s with out := [] }) hn hl]
    exact ⟨_, rfl, rfl, rfl, State.readyAt_wake (d := domLake) (by decide) { s with lake.fifo := s.lake.fifo ++ [q], clk.lake := true, out := [] }, rfl⟩
  case parity =>
    intro s n a d r hs ha hf
    rw [exec_searchRecordDone_parity a d r hs ha hf]
    exact done_report rfl rfl
  case record =>
    intro s n d r hs ha hf hnc hp hr
    have hv : ({ s.slot n.val with ncDone := (s.slot n.val).ncDone + 1, doppler := d, peak := r, ratio := r } : LakeSlot) ≠ LakeSlot.reset :=
      LakeSlot.ne_reset_of_state (by simp [hs])
    rw [exec_searchRecordDone_good d hs ha hf hnc hp hr]
    exact ⟨_, rfl, State.slot_setSlot_same hv n.val s, fun m hm => State.slot_setSlot_other hv hm s, rfl⟩
  case woken =>
    intro s n q p d r h0 ha hl hr hs hf
    have hup := State.lakeUp_of_single (s := { s with out := [] }) hl hr hs hf
    have hv : ({ LakeSlot.reset with req := q, state := .search, doppler := q.doppler
                                     since := (State.whenReady domLake { s with out := [] }).ns } : LakeSlot) ≠ LakeSlot.reset :=
      LakeSlot.ne_reset_of_state (by simp)
    have hown := State.slot_setSlot_same hv 0 (State.whenReady domLake { s with out := [] })
    rw [exec_searchRecordDone_idle p d r (by
      rw [hup]
      exact (State.slot_setSlot_other hv (Nat.ne_of_gt h0) _).trans (State.slot_of_empty (s := s.whenReady domLake) hs n.val)), done_next, hup]
    exact ⟨_, rfl, congrArg LakeSlot.state hown, congrArg LakeSlot.req hown, rfl, rfl⟩
  case verify =>
    intro s n hs hnc hd ht
    have hopen : ¬ ((s.slot n.val).state ≠ .search ∨ (s.slot n.val).ncDone < (s.slot n.val).req.nnc) := by simp [hs, hnc]
    have hexec : exec (.searchDone n) s = done (fun u =>
        (u.atLeast ((s.slot n.val).since + (s.slot n.val).req.searchNs)).setSlot n.val
          { s.slot n.val with state := .verify, ncDone := 0, since := (u.atLeast ((s.slot n.val).since + (s.slot n.val).req.searchNs)).ns }) s := by
      simp only [exec, execSearchDone]
      exact done_congr ((if_neg hopen).trans (if_pos hd))
    rw [hexec]
    obtain ⟨t, hnext, htime, hown, hothers, hframe⟩ :=
      done_setSlot_atLeast (n := n.val) (x := (s.slot n.val).since + (s.slot n.val).req.searchNs)
        (v := fun u => { s.slot n.val with state := .verify, ncDone := 0, since := u.ns }) (s := s)
        (fun u => LakeSlot.ne_reset_of_state (by simp))
    have hns : t.ns = (s.atLeast ((s.slot n.val).since + (s.slot n.val).req.searchNs)).ns := by rw [State.ns, htime, State.ns]
    exact ⟨t, hnext, by rw [hown, hns]; rfl, by rw [hns]; exact State.le_atLeast_ns ht s, hothers, hframe⟩
  case notFound =>
    intro s n hs hnc hd hf
    have hopen : ¬ ((s.slot n.val).state ≠ .search ∨ (s.slot n.val).ncDone < (s.slot n.val).req.nnc) := by simp [hs, hnc]
    have hexec : exec (.searchDone n) s = done (fun s' =>
        ((s'.atLeast ((s.slot n.val).since + (s.slot n.val).req.searchNs)).endSearch n.val 2).takeRequests) s := by
      simp only [exec, execSearchDone]
      exact done_congr ((if_neg hopen).trans (if_neg (Nat.not_le.mpr hd)))
    rw [hexec]
    exact done_endSearch (by decide) hf
  case verifyFailed =>
    intro s n r c p d hs hnc hr hf
    have hopen : ¬ ((s.slot n.val).state ≠ .verify ∨ (s.slot n.val).ncDone < (s.slot n.val).req.nnc) := by simp [hs, hnc]
    have hexec : exec (.verifyDone n r c p d) s = done (fun s' =>
        ((s'.atLeast ((s.slot n.val).since + (s.slot n.val).req.verifyNs)).endSearch n.val 3).takeRequests) s := by
      simp only [exec, execVerifyDone]
      exact done_congr ((if_neg hopen).trans (if_pos hr))
    rw [hexec]
    exact done_endSearch (by decide) hf
  case noChannel =>
    intro s n hs hf
    have hexec : exec (.noChannel n) s =
        done (fun s' => ((s'.atLeast ((s.slot n.val).since + 200000000)).endSearch n.val 5).takeRequests) s := by
      simp only [exec, execNoChannel]
      exact done_congr (if_pos hs)
    rw [hexec]
    exact done_endSearch (by decide) hf
  case cancelled =>
    intro s g n hn hs hf
    have hfifo : ((State.cancelWhere (taggedBy g) { s with out := [] }).lake.fifo) = [] := by
      rw [State.cancelWhere_eq]
      exact List.filter_eq_nil_iff.mpr fun q hq => by simp [taggedBy, hf q hq]
    obtain ⟨hidle, houtcome⟩ := State.cancelWhere_cancelled (p := taggedBy g) (s := { s with out := [] }) n.isLt (decide_eq_true hn) hs
    refine ⟨State.cancelWhere (taggedBy g) { s with out := [] }, ?_, hidle, houtcome, hfifo,
      fun m hm => State.cancelWhere_other (s := { s with out := [] }) (decide_eq_false hm), ?_⟩
    · simp only [exec, execSearchCancel]
      exact done_eq_next (State.takeRequests_of_empty hfifo) (by rw [State.cancelWhere_eq])
    · rw [State.cancelWhere_eq]
end Sys2Proof.Machine
end

section
/-! PROOF. The handover of a verified candidate to a channel (R105–R108, R124, R127). -/

namespace Sys2Proof.Machine

theorem Channel.ne_reset_of_state {v : Channel} (h : v.state ≠ .free) : v ≠ Channel.reset := fun hv => h (by rw [hv]; rfl)

/-- A channel in use reads as set, whatever form the table is in; every other reads as before. -/
theorem State.chan_setChan_same {v : Channel} (hv : v ≠ Channel.reset) (c : Nat) (s : State) : (s.setChan c v).chan c = v :=
  Tab.get_set_same_of_ne hv c s.trk.channels

theorem State.chan_setChan_other {v : Channel} (hv : v ≠ Channel.reset) {c k : Nat} (hk : k ≠ c) (s : State) :
    (s.setChan c v).chan k = s.chan k := Tab.get_set_other_of_ne hv hk s.trk.channels

/-- With no channel free a handover has none to go to (R107). -/
theorem State.handoverChannel_of_none_free {q : SearchReq} {s : State} (h : ∀ k, k < 288 → (s.chan k).state ≠ .free) :
    s.handoverChannel q = none := by
  have hfree : s.freeChannel = none := List.find?_eq_none.mpr fun k hk => by simp [h k (List.mem_range.mp hk)]
  by_cases ht : q.target ≤ 287
  · simp [State.handoverChannel, hfree, h q.target (by omega)]
  · simp [State.handoverChannel, hfree, ht]

/-- A free target that no slot in HANDOVER has been given is where a handover goes (R108). -/
theorem State.handoverChannel_of_target {q : SearchReq} {s : State} (ht : q.target ≤ 287) (hf : (s.chan q.target).state = .free)
    (hs : ∀ v ∈ s.lake.slots, v.2.state ≠ .handover) : s.handoverChannel q = some q.target := by
  have hgiven : s.lake.slots.any (fun n => decide (n.2.state = .handover ∧ n.2.channel = some q.target)) = false :=
    List.any_eq_false.mpr fun v hv => by simp [hs v hv]
  rw [State.handoverChannel, hgiven, if_pos (by simp [ht, hf])]

/-- A slot's measured values at an instant, as a verification passes them on (R105). -/
def LakeSlot.measured (t c p : Nat) (d : Int) (v : LakeSlot) : LakeSlot :=
  { v with cn0 := c, codePhase := p, doppler := d, instant := t, since := t }

/-- Where a verified slot goes: to the channel that it is given, or to wait for one (R107, R108). -/
def LakeSlot.handedTo (o : Option Nat) (v : LakeSlot) : LakeSlot :=
  match o with
  | some c => { v with state := .handover, channel := some c }
  | none => { v with state := .waitChannel }

theorem LakeSlot.handedTo_ne_reset (o : Option Nat) (v : LakeSlot) : v.handedTo o ≠ LakeSlot.reset :=
  LakeSlot.ne_reset_of_state (by cases o <;> simp [LakeSlot.handedTo])

/-- A verification at or above its threshold, with the check of R106 off, passes to HANDOVER or waits for a channel. -/
theorem exec_verifyDone_passed {s : State} {n : Fin 96} {r : Nat} (c p : Nat) (d : Int) (hs : (s.slot n.val).state = .verify)
    (hnc : (s.slot n.val).req.nnc ≤ (s.slot n.val).ncDone) (hr : 10 * s.lake.verify ≤ r) (hx : s.lake.xcorrCheck = false) :
    ∃ t, exec (.verifyDone n r c p d) s = .next t ∧
      t.slot n.val = ((s.slot n.val).measured t.ns c p d).handedTo (s.handoverChannel (s.slot n.val).req) ∧
      (∀ m, m ≠ n.val → t.slot m = s.slot m) ∧ { t with lake.slots := s.lake.slots, time := s.time } = { s with out := [] } := by
  have hopen : ¬ ((s.slot n.val).state ≠ .verify ∨ (s.slot n.val).ncDone < (s.slot n.val).req.nnc) := by simp [hs, hnc]
  have hexec : exec (.verifyDone n r c p d) s = done (fun u =>
      (u.atLeast ((s.slot n.val).since + (s.slot n.val).req.verifyNs)).setSlot n.val
        (((s.slot n.val).measured (u.atLeast ((s.slot n.val).since + (s.slot n.val).req.verifyNs)).ns c p d).handedTo
          (s.handoverChannel (s.slot n.val).req))) s := by
    simp only [exec, execVerifyDone]
    refine done_congr ((if_neg hopen).trans ((if_neg (Nat.not_lt.mpr hr)).trans ((if_neg ?_).trans ?_)))
    · simp [State.isXcorr, hx]
    · split
      next k h => rw [(show s.handoverChannel (s.slot n.val).req = some k from h)]; rfl
      next h => rw [(show s.handoverChannel (s.slot n.val).req = none from h)]; rfl
  obtain ⟨t, hnext, htime, hown, hothers, hframe⟩ := done_setSlot_atLeast (n := n.val) (x := (s.slot n.val).since + (s.slot n.val).req.verifyNs)
    (v := fun u => ((s.slot n.val).measured u.ns c p d).handedTo (s.handoverChannel (s.slot n.val).req)) (s := s)
    (fun u => LakeSlot.handedTo_ne_reset _ _)
  have hns : t.ns = (State.atLeast ((s.slot n.val).since + (s.slot n.val).req.verifyNs) { s with out := [] }).ns := by
    rw [State.ns, htime, State.ns]; rfl
  exact ⟨t, hexec.trans hnext, by rw [hown, hns], hothers, hframe⟩

/-- The channel that accepts a handover, loaded at an instant with what the slot hands over (R108, R124, R127, R139). -/
def LakeSlot.loaded (cfg : ChanCfg) (t : Nat) (v : LakeSlot) : Channel :=
  let phase := advancePhase v.req.sig v.codePhase v.doppler (t - v.instant)
  { Channel.reset with
    sig := v.req.sig, state := .pullIn, half := true, onData := startsOnData v.req.sig.signal cfg.comp
    noiseTap := dataOnly v.req.sig.signal || !startsOnData v.req.sig.signal cfg.comp
    coh := cohBefore v.req.sig.signal, cfg := cfg, cn0 := v.cn0, doppler := v.doppler, codePhase := phase * 2 ^ 22
    instant := t, handed := (phase * 2 ^ 22, v.doppler, t), kind := v.req.kind
    fll := true, entered := t, tag := v.req.tag, changes := List.replicate (bitPeriod v.req.sig) 0 }

/-- A channel starts with its loop objects, the carrier's at the Doppler handed over (R124). -/
def State.startChannel (c : Nat) (v : Channel) (s : State) : State :=
  ((s.setChan c v).setObj (2 * c) { LoopObj.reset with i1 := v.doppler * loopOne, output := v.doppler * loopOne }).setObj (2 * c + 1) LoopObj.reset

theorem State.chan_startChannel_same {v : Channel} (hv : v.state ≠ .free) (c : Nat) (s : State) : (s.startChannel c v).chan c = v :=
  Tab.get_set_same_of_ne (Channel.ne_reset_of_state hv) c s.trk.channels

theorem State.chan_startChannel_other {v : Channel} (hv : v.state ≠ .free) {c k : Nat} (hk : k ≠ c) (s : State) :
    (s.startChannel c v).chan k = s.chan k := Tab.get_set_other_of_ne (Channel.ne_reset_of_state hv) hk s.trk.channels

theorem State.startChannel_eq (c : Nat) (v : Channel) (s : State) :
    s.startChannel c v = { s with trk := (s.startChannel c v).trk, loop := (s.startChannel c v).loop } := rfl

/-- The channel that starts is loaded, the search that ends is counted CONFIRMED, and with no request waiting no slot takes one (R107). -/
theorem done_startChannel {n c : Nat} {v : Channel} {s : State} (hv : v.state ≠ .free) (hf : s.lake.fifo = []) :
    ∃ t, done (fun s => ((s.startChannel c v).endSearch n 1).takeRequests) s = .next t ∧ t.chan c = v ∧ (∀ k, k ≠ c → t.chan k = s.chan k) ∧
      (t.slot n).state = .idle ∧ (t.slot n).outcome = 1 ∧ (∀ m, m ≠ n → t.slot m = s.slot m) ∧
      t.lcnt = { s.lcnt with done := s.lcnt.done + 1#32, confirmed := s.lcnt.confirmed + 1#32 } ∧
      { t with lake := s.lake, trk := s.trk, loop := s.loop, lcnt := s.lcnt } = { s with out := [] } := by
  have hload := State.chan_startChannel_same hv c { s with out := [] }
  have hothers := fun k (hk : k ≠ c) => State.chan_startChannel_other hv hk { s with out := [] }
  have hframe := State.startChannel_eq c v { s with out := [] }
  refine ⟨(State.startChannel c v { s with out := [] }).endSearch n 1, ?_⟩
  simp only [done_next]
  generalize State.startChannel c v { s with out := [] } = u at *
  obtain ⟨hslot, hslots, hfifo, hended⟩ := State.endSearch_ended (outcome := 1) (by decide) n u
  have hempty : (u.endSearch n 1).lake.fifo = [] := by rw [hfifo, hframe]; exact hf
  have hslot_u : ∀ m, u.slot m = s.slot m := fun m => by rw [hframe]; rfl
  refine ⟨?_, hload, hothers, ?_, ?_, fun m hm => (hslots m hm).trans (hslot_u m), ?_, ?_⟩
  · rw [State.takeRequests_of_empty hempty, hended, hframe]
  · rw [hslot]
  · rw [hslot]
  · rw [hframe]; rfl
  · rw [hended, hframe]

/-- A free channel takes what its slot hands over, its loop objects start, and the search ends CONFIRMED. -/
theorem exec_handoverAccepted_free {s : State} {n : Fin 96} {c : Nat} (hs : (s.slot n.val).state = .handover)
    (hc : (s.slot n.val).channel = some c) (hf : (s.chan c).state = .free) :
    exec (.handoverAccepted n) s = done (fun u =>
      ((u.startChannel c ((s.slot n.val).loaded ((s.trk.sigcfg[(s.slot n.val).req.sig.signal]?).getD {}) s.ns)).endSearch n.val 1).takeRequests)
      s := by
  have hslot : ({ s with out := [] } : State).slot n.val = s.slot n.val := rfl
  have hchan : ({ s with out := [] } : State).chan c = s.chan c := rfl
  simp only [exec, execHandoverAccepted]
  refine done_congr ?_
  simp only [hslot, hs, hc, hchan, hf]
  rfl

/-- Settles O18: a verified slot passes to the channel it is given or waits; the channel that accepts is loaded and the search ends. -/
theorem handoverToChannel : Obligations.HandoverToChannel := by
  unfold Obligations.HandoverToChannel
  refine ⟨?given, ?waits, ?accepted⟩
  case given =>
    intro s n r c p d hs hnc hr hx hchan ht hslots
    have hfree : (s.chan (s.slot n.val).req.target).state = .free := by rw [State.chan, hchan]; rfl
    obtain ⟨t, hexec, hown, hothers, hframe⟩ := exec_verifyDone_passed c p d hs hnc hr hx
    rw [State.handoverChannel_of_target ht hfree hslots] at hown
    exact ⟨t, hexec, hown, hothers, hframe⟩
  case waits =>
    intro s n r c p d hs hnc hr hx hbusy
    obtain ⟨t, hexec, hown, hothers, hframe⟩ := exec_verifyDone_passed c p d hs hnc hr hx
    rw [State.handoverChannel_of_none_free hbusy] at hown
    exact ⟨t, hexec, by rw [hown]; rfl, by rw [hown]; rfl, hothers, hframe⟩
  case accepted =>
    intro s n c hs hc hf hfifo
    obtain ⟨t, hexec, hload, hothers, hidle, houtcome, hslots, hcount, hframe⟩ := done_startChannel (n := n.val) (c := c)
      (v := (s.slot n.val).loaded ((s.trk.sigcfg[(s.slot n.val).req.sig.signal]?).getD {}) s.ns) (by simp [LakeSlot.loaded]) hfifo
    refine ⟨t, (exec_handoverAccepted_free hs hc hf).trans hexec, ?_⟩
    rw [hload]
    exact ⟨rfl, rfl, rfl, rfl, rfl, rfl, Nat.mul_comm _ _, rfl, rfl, rfl, rfl, hothers, hidle, houtcome, hslots, hcount, hframe⟩

end Sys2Proof.Machine
end

section
/-! SUPPORT. The band paths (R91–R99): what an operation on one band keeps of it, of the other bands and of the rest. -/

namespace Sys2Proof.Machine

theorem length_updAt {α : Type} (f : α → α) : ∀ (l : List α) (i : Nat), (updAt l i f).length = l.length
  | [], _ => rfl
  | _ :: _, 0 => rfl
  | _ :: l, i + 1 => congrArg (· + 1) (length_updAt f l i)

/-- A list changed at a place that it has is set there. -/
theorem updAt_of_getElem? {α : Type} (f : α → α) : ∀ {l : List α} {i : Nat} {x : α}, l[i]? = some x → updAt l i f = l.set i (f x)
  | _ :: _, 0, _, h => by cases h; rfl
  | y :: _, i + 1, _, h => congrArg (y :: ·) (updAt_of_getElem? f (i := i) h)

theorem getElem?_enum {α : Type} (l : List α) (k : Nat) : (enum l)[k]? = (l[k]?).map (fun x => (k, x)) := by
  by_cases h : k < l.length
  · simp [enum, h]
  · simp [enum, Nat.not_lt.mp h]

theorem mem_enum {α : Type} {l : List α} {p : Nat × α} (h : p ∈ enum l) : l[p.1]? = some p.2 := by
  obtain ⟨k, hk⟩ := List.mem_iff_getElem?.mp h
  rw [getElem?_enum] at hk
  obtain ⟨x, hx, rfl⟩ := Option.map_eq_some_iff.mp hk
  exact hx

/-- Where no element's effect does anything, the list's does not. -/
theorem State.each_id {α : Type} {f : α → State → State} {s : State} : ∀ {l : List α}, (∀ a ∈ l, f a s = s) → s.each l f = s
  | [], _ => rfl
  | a :: l, h => by
    show State.each l f (f a s) = s
    rw [h a List.mem_cons_self]
    exact State.each_id fun b hb => h b (List.mem_cons_of_mem a hb)

theorem State.band_updBand_same {b : Nat} (f : Band → Band) {s : State} (h : b < s.lake.bands.length) :
    (s.updBand b f).band b = f (s.band b) := by
  simp [State.band, State.updBand, getElem?_updAt, h]

theorem State.band_updBand_other {b k : Nat} (f : Band → Band) (hk : k ≠ b) (s : State) : (s.updBand b f).band k = s.band k := by
  simp [State.band, State.updBand, getElem?_updAt, hk]

/-- What an operation on band `b` keeps: what `view` shows of that band, every other band, and all but the bands, the events latched and
the recorder. -/
structure BandKept {α : Type} (view : Band → α) (b : Nat) (s t : State) : Prop where
  own : view (t.band b) = view (s.band b)
  others : ∀ k, k ≠ b → t.band k = s.band k
  length : t.lake.bands.length = s.lake.bands.length
  frame : t = { s with lake.bands := t.lake.bands, lake.events := t.lake.events, rcd := t.rcd }

namespace BandKept

variable {α : Type} {view : Band → α} {b : Nat} {s t u : State}

theorem refl : BandKept view b s s := ⟨rfl, fun _ _ => rfl, rfl, rfl⟩

theorem trans (h : BandKept view b s t) (h' : BandKept view b t u) : BandKept view b s u where
  own := h'.own.trans h.own
  others k hk := (h'.others k hk).trans (h.others k hk)
  length := h'.length.trans h.length
  frame := by rw [h'.frame, h.frame]

theorem updBand {f : Band → Band} (hf : ∀ x, view (f x) = view x) : BandKept view b s (s.updBand b f) where
  own := by
    by_cases h : b < s.lake.bands.length
    · rw [State.band_updBand_same f h, hf]
    · simp [State.band, State.updBand, getElem?_updAt, Nat.not_lt.mp h]
  others _ hk := State.band_updBand_other f hk s
  length := length_updAt f s.lake.bands b
  frame := rfl

theorem lakeEvent (n : Nat) : BandKept view b s (s.lakeEvent n) := ⟨rfl, fun _ _ => rfl, rfl, rfl⟩

theorem report (code : Nat) (data : List (Nat × Int)) : BandKept view b s (s.report code data) := by
  rw [State.report_eq]
  exact ⟨rfl, fun _ _ => rfl, rfl, rfl⟩

theorem interfEvent (raised : Bool) (b' flagNo : Nat) : BandKept view b s (s.interfEvent raised b' flagNo) := by
  unfold State.interfEvent
  split
  · exact .report ..
  · exact .report ..

theorem ite {c : Prop} [Decidable c] (h : BandKept view b s t) (h' : BandKept view b s u) : BandKept view b s (if c then t else u) := by
  split
  · exact h
  · exact h'

/-- A flag of the band changes and is recorded. -/
theorem flag {f : Band → Band} {raised : Bool} {n : Nat} (hf : ∀ x, view (f x) = view x) :
    BandKept view b s ((s.updBand b f).interfEvent raised b n) := (updBand hf).trans (interfEvent ..)

/-- A flag of the band is raised, latched and recorded. -/
theorem raise {f : Band → Band} {raised : Bool} {e n : Nat} (hf : ∀ x, view (f x) = view x) :
    BandKept view b s (((s.updBand b f).lakeEvent e).interfEvent raised b n) := ((updBand hf).trans (lakeEvent e)).trans (interfEvent ..)

theorem each {β : Type} {f : β → State → State} (hf : ∀ a s, BandKept view b s (f a s)) (l : List β) : BandKept view b s (s.each l f) :=
  State.each_keeps (BandKept view b s) f (fun a t h => h.trans (hf a t)) l s .refl

end BandKept

/-- Band `b` became `x`: every other band, and all but the bands, the events latched and the recorder, are as they were. -/
structure BandBecame (b : Nat) (x : Band) (s t : State) : Prop where
  own : t.band b = x
  others : ∀ k, k ≠ b → t.band k = s.band k
  length : t.lake.bands.length = s.lake.bands.length
  frame : t = { s with lake.bands := t.lake.bands, lake.events := t.lake.events, rcd := t.rcd }

namespace BandBecame

variable {b : Nat} {x : Band} {s t u : State}

theorem refl : BandBecame b (s.band b) s s := ⟨rfl, fun _ _ => rfl, rfl, rfl⟩

theorem updBand (h : BandBecame b x s t) (hb : b < s.lake.bands.length) (f : Band → Band) : BandBecame b (f x) s (t.updBand b f) where
  own := (State.band_updBand_same f (h.length.symm ▸ hb)).trans (congrArg f h.own)
  others k hk := (State.band_updBand_other f hk t).trans (h.others k hk)
  length := (length_updAt f t.lake.bands b).trans h.length
  frame := by
    have hframe := h.frame
    unfold State.updBand
    rw [hframe]

theorem notchChange (h : BandBecame b x s t) (hb : b < s.lake.bands.length) : BandBecame b { x with changed := true } s (t.notchChange b) :=
  have hchanged := h.updBand hb (fun x => { x with changed := true })
  ⟨hchanged.own, hchanged.others, hchanged.length, by unfold State.notchChange State.lakeEvent; rw [hchanged.frame]⟩

theorem report (h : BandBecame b x s t) (code : Nat) (data : List (Nat × Int)) : BandBecame b x s (t.report code data) := by
  rw [State.report_eq]
  exact ⟨h.own, h.others, h.length, by rw [h.frame]⟩

/-- What an operation keeps of the band shows what the band became. -/
theorem kept {α : Type} {view : Band → α} (h : BandBecame b x s t) (h' : BandKept view b t u) :
    view (u.band b) = view x ∧ (∀ k, k ≠ b → u.band k = s.band k) ∧
      u = { s with lake.bands := u.lake.bands, lake.events := u.lake.events, rcd := u.rcd } :=
  ⟨h'.own.trans (congrArg view h.own), fun k hk => (h'.others k hk).trans (h.others k hk), by rw [h'.frame, h.frame]⟩

end BandBecame

/-- A notch changed is the one set in its band. -/
theorem State.updNotch_became {b n : Nat} {v : Notch} (f : Notch → Notch) {s : State} (hb : b < s.lake.bands.length)
    (hv : (s.band b).notches[n]? = some v) :
    BandBecame b { s.band b with notches := (s.band b).notches.set n (f v) } s (s.updNotch b n f) := by
  have h := BandBecame.refl.updBand hb (fun x => { x with notches := updAt x.notches n f })
  rwa [updAt_of_getElem? f hv] at h

/-- The parts of a band that its notches and flags do not touch: the last run's spectrum, the number of runs, and the run pending. -/
def Band.run (x : Band) : List Int × Nat × Bool := (x.spectrum, x.runs, x.runPending)

theorem State.updNotch_kept (b n : Nat) (f : Notch → Notch) (s : State) : BandKept Band.run b s (s.updNotch b n f) := .updBand fun _ => rfl

theorem State.notchChange_kept (b : Nat) (s : State) : BandKept Band.run b s (s.notchChange b) :=
  .trans (.updBand (f := fun x => { x with changed := true }) fun _ => rfl) (.lakeEvent _)

theorem State.releaseNotch_kept (b n : Nat) (s : State) : BandKept Band.run b s (s.releaseNotch b n) := by
  unfold State.releaseNotch
  split
  · split
    · exact .refl
    · exact ((State.updNotch_kept b n _ s).trans (State.notchChange_kept b _)).trans (.report ..)
  · exact .refl

theorem State.assignNotch_kept (b : Nat) (lines : List (Nat × Int)) (line : Nat × Int) (s : State) :
    BandKept Band.run b s (s.assignNotch b lines line) := by
  unfold State.assignNotch
  dsimp only
  split
  · exact .refl
  · split
    · exact State.updNotch_kept ..
    · split
      · exact (State.releaseNotch_kept b _ s).trans (State.updNotch_kept ..)
      · exact .refl

theorem State.ageNotch_kept (b n : Nat) (lines : List (Nat × Int)) (s : State) : BandKept Band.run b s (s.ageNotch b n lines) := by
  unfold State.ageNotch
  split
  · exact .refl
  · dsimp only
    split
    · exact .refl
    · split
      · exact State.updNotch_kept ..
      · split
        · exact State.releaseNotch_kept ..
        · exact State.updNotch_kept ..

theorem State.lineFlags_kept (b lines : Nat) (s : State) : BandKept Band.run b s (s.lineFlags b lines) := by
  unfold State.lineFlags
  extract_lets x u
  have hnarrow : BandKept Band.run b s u := .ite (.raise fun _ => rfl) (.ite (.flag fun _ => rfl) .refl)
  exact hnarrow.trans (.ite (.flag fun _ => rfl) (.ite (.flag fun _ => rfl) .refl))

/-- The AGC's part of a band: gain, fraction of full samples, and reference gain (R91). -/
def Band.agc (x : Band) : Nat × Nat × Nat := (x.gain, x.full, x.reference)

theorem State.wideEval_kept (b : Nat) (s : State) : BandKept Band.agc b s (s.wideEval b) := by
  unfold State.wideEval
  extract_lets x
  exact .ite .refl (.ite (.ite (.raise fun _ => rfl) .refl)
    (.ite (.ite (.flag fun _ => rfl) (.updBand fun _ => rfl)) (.updBand fun _ => rfl)))

/-- The flags of a band stand after a change that is not of its flags. -/
theorem State.bandFlagged_updBand {b : Nat} {f : Band → Band} {s : State}
    (hf : ∀ x, (f x).narrowband = x.narrowband ∧ (f x).wideband = x.wideband ∧ (f x).unmitigated = x.unmitigated) :
    (s.updBand b f).bandFlagged b = s.bandFlagged b := by
  by_cases h : b < s.lake.bands.length
  · obtain ⟨hn, hw, hu⟩ := hf (s.band b)
    simp only [State.bandFlagged, State.band_updBand_same f h, hn, hw, hu]
    rfl
  · have hout : (s.updBand b f).band b = s.band b := by simp [State.band, State.updBand, getElem?_updAt, Nat.not_lt.mp h]
    unfold State.bandFlagged
    rw [hout]
    rfl

theorem agcStep_flags (need : Int) (full : Nat) (hold : Bool) (x : Band) :
    (agcStep need full hold x).narrowband = x.narrowband ∧ (agcStep need full hold x).wideband = x.wideband ∧
      (agcStep need full hold x).unmitigated = x.unmitigated := by
  unfold agcStep
  (repeat' split) <;> exact ⟨rfl, rfl, rfl⟩

/-- The reference learns from the gain and leaves it (R91). -/
theorem agcLearn_gain (x : Band) : (agcLearn x).gain = x.gain ∧ (agcLearn x).full = x.full := by
  unfold agcLearn
  dsimp only
  (repeat' split) <;> exact ⟨rfl, rfl⟩

/-- The AGC's update of a band. -/
def State.agcUpdate (b : Nat) (need : Int) (full : Nat) (hold : Bool) (s : State) : State :=
  let s := s.updBand b (agcStep need full hold)
  (s.updBand b (if s.bandFlagged b then id else agcLearn)).wideEval b

/-- At an update of the AGC its loop settles, its reference learns while no flag stands, and WIDEBAND is judged against it (R91, R99). -/
theorem State.agcUpdate_spec {b : Nat} {need : Int} {full : Nat} {hold : Bool} {s t : State} (h : b < s.lake.bands.length)
    (ht : s.agcUpdate b need full hold = t) :
    (t.band b).agc = ((if s.bandFlagged b then id else agcLearn) (agcStep need full hold (s.band b))).agc ∧
      (∀ k, k ≠ b → t.band k = s.band k) ∧
      t = { s with lake.bands := t.lake.bands, lake.events := t.lake.events, rcd := t.rcd } := by
  rw [State.agcUpdate, State.bandFlagged_updBand (agcStep_flags need full hold)] at ht
  rw [← ht]
  exact ((BandBecame.refl.updBand h (agcStep need full hold)).updBand h _).kept (State.wideEval_kept b _)

/-- A run over a band: its spectrum is stored and counted; the run is no longer pending (R98). -/
theorem State.monitorBand_band {b : Nat} (power : List Int) {s : State} (h : b < s.lake.bands.length) :
    ((s.monitorBand b power).band b).run = (power.map (fun x => ssat 16 (x - medianOf power)), (s.band b).runs + 1, false) ∧
      (∀ k, k ≠ b → (s.monitorBand b power).band k = s.band k) ∧
      s.monitorBand b power = { s with lake.bands := (s.monitorBand b power).lake.bands, lake.events := (s.monitorBand b power).lake.events
                                       rcd := (s.monitorBand b power).rcd } := by
  unfold State.monitorBand
  extract_lets floor rel engage lines held top u w
  have hkept : BandKept Band.run b u (State.lineFlags b lines.length (w.each lines (fun l s => s.assignNotch b lines l))) :=
    ((BandKept.each (fun n s => State.ageNotch_kept b n held s) (List.range 4)).trans
      (BandKept.each (fun l s => State.assignNotch_kept b lines l s) lines)).trans (State.lineFlags_kept ..)
  exact (BandBecame.refl.updBand h _).kept hkept

/-- A boundary that fires changes the time unit alone (log 5). -/
theorem State.markOfs_eq (kind period : Nat) (ofs : Int) (s : State) : ∃ time, s.markOfs kind period ofs = { s with time := time } := by
  unfold State.markOfs
  exact ⟨_, rfl⟩

@[simp] theorem State.mark_lake (kind period : Nat) (s : State) : (s.mark kind period).lake = s.lake := by
  unfold State.mark State.markOfs; rfl

/-- When a run reaches a band the Lake domain runs, and the bands after it are pending still (R98). -/
theorem State.monitorDue_eq (b : Nat) (s : State) : ∃ time i, s.monitorDue b = { s with
    time := time, clk.lake := true, lake.idleSince := i
    lake.bands := (enum s.lake.bands).map (fun p => { p.2 with runPending := decide (b < p.1) }) } := by
  unfold State.monitorDue
  obtain ⟨time, hmark⟩ := State.markOfs_eq (markMonitor b) (s.lake.monPeriod * perSec) (((b + 1) * 100 * perMs : Nat) : Int) s
  rw [hmark]
  exact ⟨_, _, rfl⟩

theorem State.monitorDue_band {b k : Nat} {s : State} (h : k < s.lake.bands.length) :
    (s.monitorDue b).band k = { s.band k with runPending := decide (b < k) } := by
  obtain ⟨time, i, hdue⟩ := State.monitorDue_eq b s
  rw [hdue]
  simp [State.band, getElem?_enum, h]

theorem State.monitorDue_length (b : Nat) (s : State) : (s.monitorDue b).lake.bands.length = s.lake.bands.length := by
  obtain ⟨time, i, hdue⟩ := State.monitorDue_eq b s
  rw [hdue]
  simp [enum]

/-- Of one engaged notch none is released (R94). -/
theorem State.closeNotches_of_lone {b n : Nat} {s : State} (h : ∀ k v, (s.band b).notches[k]? = some v → v.state = 2 → k = n) :
    s.closeNotches b = s := by
  refine State.each_id fun m _ => if_neg ?_
  simp only [Bool.and_eq_true, decide_eq_true_eq, List.any_eq_true, not_and, not_exists]
  intro hm p hp hlt
  cases hv : (s.band b).notches[m]? with
  | none => simp [hv] at hm
  | some v =>
    have hmn := h m v hv (by simpa [hv] using hm)
    have hpn := h p.1 p.2 (mem_enum hp) hlt.2
    omega

/-- With no other notch of the list engaged, only the one set can be. -/
theorem lone_of_set {l : List Notch} {n : Nat} (x : Notch) (h : ∀ k w, l[k]? = some w → k ≠ n → w.state ≠ 2) :
    ∀ k w, (l.set n x)[k]? = some w → w.state = 2 → k = n := by
  intro k w hk hw
  by_contra hne
  rw [List.getElem?_set_ne (Ne.symm hne)] at hk
  exact h k w hk hne hw

end Sys2Proof.Machine
end

section
/-! SUPPORT. What the blanker's flags and the searches that LOW_JAMMED cancels leave alone (R96, R97, R109, R113). -/

namespace Sys2Proof.Machine

/-- The state without what the blanker's flags touch: the recorder, the Lake's counters, and of the Lake all but the blanker's history and
carry, the bands and the antenna bias. -/
def State.blankView (s : State) : State :=
  { s with
    rcd := {}, lcnt := {}
    lake := { ({} : Lake) with blankMs := s.lake.blankMs, blankPulses := s.lake.blankPulses, blankCarry := s.lake.blankCarry
                               blankSatMs := s.lake.blankSatMs, bands := s.lake.bands, ant := s.lake.ant } }

@[simp] theorem State.lakeEvent_blankView (n : Nat) (s : State) : (s.lakeEvent n).blankView = s.blankView := rfl

@[simp] theorem State.report_blankView (code : Nat) (data : List (Nat × Int)) (s : State) : (s.report code data).blankView = s.blankView := by
  rw [State.report_eq]; rfl

@[simp] theorem State.interfEvent_blankView (raised : Bool) (b flagNo : Nat) (s : State) :
    (s.interfEvent raised b flagNo).blankView = s.blankView := by
  unfold State.interfEvent
  split <;> simp

@[simp] theorem State.each_blankView {α : Type} {f : α → State → State} (h : ∀ a s, (f a s).blankView = s.blankView) (l : List α) (s : State) :
    (s.each l f).blankView = s.blankView :=
  State.each_keeps (fun t => t.blankView = s.blankView) f (fun a t ht => (h a t).trans ht) l s rfl

@[simp] theorem State.cancelWhere_blankView (p : SearchReq → Bool) (s : State) : (s.cancelWhere p).blankView = s.blankView := by
  rw [State.cancelWhere_eq]; rfl

@[simp] theorem State.keepAided_blankView (q : SearchReq) (s : State) : (s.keepAided q).blankView = s.blankView := by
  unfold State.keepAided
  (repeat' split) <;> rfl

@[simp] theorem State.takeOne_blankView (s : State) : s.takeOne.blankView = s.blankView := by
  unfold State.takeOne
  split <;> rfl

@[simp] theorem State.takeRequests_blankView (s : State) : s.takeRequests.blankView = s.blankView := by
  unfold State.takeRequests
  split
  · exact State.each_blankView (fun _ s => State.takeOne_blankView s) _ s
  · rfl

@[simp] theorem State.jamLow_blankView (s : State) : s.jamLow.blankView = s.blankView := by
  unfold State.jamLow
  simp only [State.takeRequests_blankView, State.each_blankView State.keepAided_blankView, State.cancelWhere_blankView,
    State.interfEvent_blankView, State.lakeEvent_blankView]
  rfl

@[simp] theorem State.jamEval_blankView (s : State) : s.jamEval.blankView = s.blankView := by
  unfold State.jamEval
  extract_lets last sum
  split
  · split
    · exact State.jamLow_blankView s
    · rfl
  · split
    · split
      · exact (State.interfEvent_blankView ..).trans rfl
      · rfl
    · rfl

@[simp] theorem State.pulseEval_blankView (s : State) : s.pulseEval.blankView = s.blankView := by
  unfold State.pulseEval
  extract_lets sum u
  split
  · exact (State.interfEvent_blankView ..).trans rfl
  · split
    · exact (State.interfEvent_blankView ..).trans rfl
    · rfl

/-- The samples blanked and the pulses enter the history (R97). -/
theorem State.countBlanked_blankView (carry n pulses : Nat) (s : State) :
    (s.countBlanked carry n pulses).blankView = State.blankView { s with
      lake.blankMs := (n :: s.lake.blankMs).take 1000, lake.blankSatMs := if 12800 < n then s.lake.blankSatMs + 1 else 0
      lake.blankCarry := carry, lake.blankPulses := s.lake.blankPulses + BitVec.ofNat 32 pulses } := by
  by_cases h : 12800 < n
  · simp only [State.countBlanked, h, if_true, State.report_blankView, State.lakeEvent_blankView]
    rfl
  · simp only [State.countBlanked, h, if_false]
    rfl

theorem State.when_blankView {f : State → State} (h : ∀ s, (f s).blankView = s.blankView) (c : Bool) (s : State) :
    (s.when c f).blankView = s.blankView := by
  cases c
  · rfl
  · exact h s

theorem State.countBlanked_pending (carry n pulses : Nat) (s : State) : (s.countBlanked carry n pulses).pending = s.pending := by
  unfold State.countBlanked
  extract_lets satMs u
  split
  · exact State.report_pending ..
  · rfl

/-- The queue put back is in the view. -/
theorem State.blankView_pending {s t : State} {p : List Instr} (h : t.blankView = s.blankView) (hp : s.pending = p) :
    ({ t with pending := p } : State).blankView = s.blankView := by
  subst hp
  exact congrArg (fun v : State => { v with pending := s.pending }) h

end Sys2Proof.Machine
end

section
/-! PROOF. The band paths and the Lake domain (R91, R93, R95–R98, R110, R111). -/

namespace Sys2Proof.Machine

/-- A run of the monitor with its 4,096 bins (R98). -/
theorem exec_spectrumMonitorRun {s : State} (b : Fin 3) {p : List Int} (hg : s.clk.gnss = true) (hp : p.length = 4096) :
    exec (.spectrumMonitorRun b p) s = done (fun s => (s.monitorDue b.val).monitorBand b.val p) s := by
  simp only [exec, execSpectrumMonitorRun]
  exact done_congr ((if_pos hg).trans (if_neg (not_not_intro hp)))

/-- How far, in kHz, an engaged notch follows its line since it last moved (R93). -/
def Notch.reach (t : Nat) (v : Notch) : Int := 100 * max 1 ((t - v.instant) / 1000000 : Nat)

/-- Where an engaged notch is once it has followed its line. -/
def Notch.followed (t : Nat) (o : Int) (v : Notch) : Int := max (v.offset - v.reach t) (min o (v.offset + v.reach t))

/-- An engaged notch follows its line: its band is changed where it moved more than its width since the last epoch (R93, R95). -/
theorem State.followLine_became {s : State} {b n : Nat} {v : Notch} (o : Int) (depth : Nat) (hb : b < s.lake.bands.length)
    (hv : (s.band b).notches[n]? = some v) :
    BandBecame b { s.band b with
      changed := (s.band b).changed || decide (notchKhz s.lake.notchWidth < (v.followed s.ns o - v.epochAt).natAbs)
      notches := (s.band b).notches.set n { v with offset := ssat 16 (v.followed s.ns o), depth := depth, instant := s.ns } } s
      (s.followLine b n o depth v) := by
  have hset := State.updNotch_became (fun w => { w with offset := ssat 16 (v.followed s.ns o), depth := depth, instant := s.ns }) hb hv
  by_cases hfar : notchKhz s.lake.notchWidth < (v.followed s.ns o - v.epochAt).natAbs
  · have hmoved : s.followLine b n o depth v = State.notchChange b (s.updNotch b n
      (fun w => { w with offset := ssat 16 (v.followed s.ns o), depth := depth, instant := s.ns })) := if_pos hfar
    have hbecame := hset.notchChange hb
    rw [hmoved]
    simpa [hfar] using hbecame
  · have hstayed : s.followLine b n o depth v = s.updNotch b n
      (fun w => { w with offset := ssat 16 (v.followed s.ns o), depth := depth, instant := s.ns }) := if_neg hfar
    rw [hstayed]
    simpa [hfar] using hset

/-- A move of its notch changes the bands and the events latched alone. -/
theorem State.followLine_eq (b n : Nat) (o : Int) (depth : Nat) (v : Notch) (s : State) :
    s.followLine b n o depth v = { s with lake.bands := (s.followLine b n o depth v).lake.bands
                                          lake.events := (s.followLine b n o depth v).lake.events } := by
  unfold State.followLine
  extract_lets reach moved u
  split <;> rfl

/-- A notch engaged at its line at an instant (R93). -/
def Notch.engagedAt (o : Int) (depth t : Nat) (v : Notch) : Notch :=
  { v with state := 2, offset := ssat 16 o, depth := depth, epochAt := ssat 16 o, instant := t }

/-- An acquiring notch is engaged at its line: its band is changed, and what is close to it is released (R93, R94, R95). -/
theorem exec_notchEngaged_acquiring {s : State} {b : Fin 3} {n : Fin 4} {v : Notch} (o : Int) (d : BitVec 6) (hg : s.clk.gnss = true)
    (hv : (s.band b.val).notches[n.val]? = some v) (h1 : v.state = 1) :
    exec (.notchEngaged b n o d) s = done (fun u => (((u.updNotch b.val n.val (Notch.engagedAt o d.toNat s.ns)).notchChange b.val).report
      0x0106 [(1, b.val), (1, n.val), (2, ssat 16 o), (1, d.toNat)]).closeNotches b.val) s := by
  have hv' : ((({ s with out := [] } : State).band b.val).notches[n.val]?).getD {} = v := by
    rw [show (({ s with out := [] } : State).band b.val).notches[n.val]? = some v from hv]; rfl
  simp only [exec, execNotchEngaged]
  exact done_congr ((if_pos hg).trans (if_pos (by rw [hv', h1])))

/-- An engaged notch follows its line. -/
theorem exec_notchEngaged_engaged {s : State} {b : Fin 3} {n : Fin 4} {v : Notch} (o : Int) (d : BitVec 6) (hg : s.clk.gnss = true)
    (hv : (s.band b.val).notches[n.val]? = some v) (h2 : v.state = 2) :
    exec (.notchEngaged b n o d) s = done (fun u => (u.followLine b.val n.val o d.toNat v).closeNotches b.val) s := by
  have hv' : ((({ s with out := [] } : State).band b.val).notches[n.val]?).getD {} = v := by
    rw [show (({ s with out := [] } : State).band b.val).notches[n.val]? = some v from hv]; rfl
  simp only [exec, execNotchEngaged]
  refine done_congr ((if_pos hg).trans ((if_neg (by rw [hv', h2]; decide)).trans ((if_pos (by rw [hv', h2])).trans ?_)))
  rw [hv']

/-- The AGC's whole second (R91). -/
theorem exec_agcReferenceUpdate {s : State} (b : Fin 3) (g : Int) (f : BitVec 8) (hold : Bool) (hg : s.clk.gnss = true)
    (hlen : s.lake.bands.length = 3) :
    ∃ t, exec (.agcReferenceUpdate b g f hold) s = .next t ∧
      (t.band b.val).agc = ((if s.bandFlagged b.val then id else agcLearn)
        (agcStep g f.toNat (hold && s.lake.blankEn && decide (b.val = 2)) (s.band b.val))).agc ∧
      (∀ k, k ≠ b.val → t.band k = s.band k) ∧ { t with lake := s.lake, rcd := s.rcd, time := s.time } = { s with out := [] } := by
  have hexec : exec (.agcReferenceUpdate b g f hold) s = done (fun u => State.agcUpdate b.val g f.toNat
      (hold && (u.mark (markAgc b.val) perSec).lake.blankEn && decide (b.val = 2)) (u.mark (markAgc b.val) perSec)) s := by
    simp only [exec, execAgcReferenceUpdate]
    exact done_congr (if_pos hg)
  have hmark := State.mark_eq (markAgc b.val) perSec { s with out := [] }
  rw [hexec, done_next, State.mark_lake]
  generalize State.mark (markAgc b.val) perSec { s with out := [] } = u at hmark ⊢
  have hlake : u.lake = s.lake := by rw [hmark]
  generalize ht : State.agcUpdate b.val g f.toNat (hold && s.lake.blankEn && decide (b.val = 2)) u = t
  obtain ⟨hown, hothers, hframe⟩ := State.agcUpdate_spec (by rw [hlake, hlen]; exact b.isLt) ht
  have hband : ∀ k, u.band k = s.band k := fun k => by rw [State.band, hlake]; rfl
  have hflag : u.bandFlagged b.val = s.bandFlagged b.val := by rw [State.bandFlagged, hlake, hband]; rfl
  exact ⟨_, rfl, by rw [← hflag, ← hband]; exact hown, fun k hk => (hothers k hk).trans (hband k), by rw [hframe, hmark]⟩

/-- The blanker's millisecond (R96, R97, R99). -/
theorem exec_blankEval {s : State} (l : List (Nat × Nat)) {r : Nat × Nat × Nat} (hg : s.clk.gnss = true)
    (hr : r = blankGo s.lake.blankPost ((l.filter (fun h => s.lake.blankEn && decide (h.1 < 64000 ∧ s.lake.blankThreshold ≤ h.2))).map (·.1))
      (s.lake.blankCarry, s.lake.blankCarry, 0)) :
    ∃ time t, exec (.blankEval l) s = .next t ∧
      t.blankView = (State.countBlanked (r.1 - 64000) (r.2.1 - (r.1 - 64000)) r.2.2 { s with out := [], time := time }).blankView := by
  obtain ⟨time, hmark⟩ : ∃ time, State.mark markBlank perMs { s with out := [] } = { s with out := [], time := time } :=
    State.markOfs_eq markBlank perMs 0 { s with out := [] }
  have hexec : exec (.blankEval l) s = .next { State.when (decide ((State.countBlanked (r.1 - 64000) (r.2.1 - (r.1 - 64000)) r.2.2
      { s with out := [], time := time }).jamEval.lake.blankCount % 1000 = 0)) State.pulseEval
      (State.countBlanked (r.1 - 64000) (r.2.1 - (r.1 - 64000)) r.2.2 { s with out := [], time := time }).jamEval with pending := s.pending } := by
    simp only [exec, execBlankEval, State.gnssRuns, done_next, hg, if_true, hmark, ← hr]
  refine ⟨time, _, hexec, State.blankView_pending ?_ (State.countBlanked_pending ..)⟩
  exact (State.when_blankView State.pulseEval_blankView _ _).trans (State.jamEval_blankView _)

/-- Settles O19: each command of the band paths changes its own band as its rule says; the Lake domain runs while something needs it. -/
theorem bandPaths : Obligations.BandPaths := by
  unfold Obligations.BandPaths
  refine ⟨?monitor, ?engaged, ?followed, ?blanked, ?agcLearned, ?agcHeld, ?latched, ?stops, ?runsOn, ?dropped, ?requeued⟩
  case monitor =>
    intro s b p hg hlen hp
    obtain ⟨time, i, hdue⟩ := State.monitorDue_eq b.val { s with out := [] }
    have hband := fun k (hk : k < 3) => State.monitorDue_band (b := b.val) (k := k) (s := { s with out := [] }) (hlen.symm ▸ hk)
    have hlength := State.monitorDue_length b.val { s with out := [] }
    rw [exec_spectrumMonitorRun b hg hp, done_next]
    generalize State.monitorDue b.val { s with out := [] } = u at hdue hband hlength ⊢
    obtain ⟨hrun, hothers, hframe⟩ := State.monitorBand_band (b := b.val) p (s := u) (by rw [hlength]; exact hlen.symm ▸ b.isLt)
    generalize u.monitorBand b.val p = w at hrun hothers hframe ⊢
    have hb := hband b.val b.isLt
    refine ⟨_, rfl, congrArg (·.1) hrun, (congrArg (·.2.1) hrun).trans ?_, congrArg (·.2.2) hrun,
      fun k hk hne => (hothers k hne).trans (hband k hk), ?_, ?_, ?_⟩
    · simp [hb]; rfl
    · rw [hframe, hdue]
    · rw [hframe, hdue]
    · rw [hframe, hdue]
  case engaged =>
    intro s b n o d v hg hlen hv h1 hlone
    have hb : b.val < s.lake.bands.length := hlen.symm ▸ b.isLt
    have hexec := exec_notchEngaged_acquiring o d hg hv h1
    have hw := ((State.updNotch_became (Notch.engagedAt o d.toNat s.ns) (s := { s with out := [] }) hb hv).notchChange hb).report 0x0106 [(1, b.val), (1, n.val), (2, ssat 16 o), (1, d.toNat)]
    refine ⟨_, hexec.trans (done_eq_next (State.closeNotches_of_lone (n := n.val) ?_) ?_), hw.own, ?_, hw.others, ?_⟩
    · exact fun k w hk => lone_of_set _ (fun k w hk _ => hlone w (List.mem_of_getElem? hk)) k w
        ((congrArg (fun x : Band => x.notches[k]?) hw.own).symm.trans hk)
    · exact State.report_pending ..
    · exact congrArg Lake.events (State.report_lake ..)
    · rw [hw.frame]
  case followed =>
    intro s b n o r a d v hg hlen hv h2 hlone hr ha
    have hb : b.val < s.lake.bands.length := hlen.symm ▸ b.isLt
    have hoff : a = v.followed s.ns o := by rw [ha, hr]; rfl
    have ht := State.followLine_became o d.toNat (s := { s with out := [] }) hb hv
    have hexec := exec_notchEngaged_engaged o d hg hv h2
    have hframe := State.followLine_eq b.val n.val o d.toNat v { s with out := [] }
    have hclose := State.closeNotches_of_lone (b := b.val) (n := n.val) (s := State.followLine b.val n.val o d.toNat v { s with out := [] })
      (fun k w hk => lone_of_set _ hlone k w ((congrArg (fun x : Band => x.notches[k]?) ht.own).symm.trans hk))
    refine ⟨_, hexec.trans (done_eq_next hclose (by rw [hframe])), ?_, ht.others, by rw [hframe]⟩
    rw [ht.own, hoff]
    rfl
  case blanked =>
    intro s l r n hg hr hn
    obtain ⟨time, t, hexec, hview⟩ := exec_blankEval l hg hr
    rw [State.countBlanked_blankView, ← hn] at hview
    exact ⟨t, hexec, congrArg (·.lake.blankMs) hview, congrArg (·.lake.blankPulses) hview, congrArg (·.lake.blankCarry) hview,
      congrArg (·.lake.blankSatMs) hview, congrArg (·.lake.bands) hview, congrArg (·.lake.ant) hview,
      congrArg (fun v : State => { v with lake := s.lake, lcnt := s.lcnt, rcd := s.rcd, time := s.time }) hview⟩
  case agcLearned =>
    intro s b g f hg hlen hflag h0 h120 href hcount
    obtain ⟨t, hexec, hagc, hothers, hframe⟩ := exec_agcReferenceUpdate b g f false hg hlen
    have hstep : agcStep g f.toNat (false && s.lake.blankEn && decide (b.val = 2)) (s.band b.val) = { s.band b.val with gain := g.toNat, full := 38 } := by
      simp [agcStep, Int.not_lt.mpr h0, Int.not_lt.mpr h120]
    rw [hflag, hstep] at hagc
    simp only [agcLearn, href, hcount, Band.agc, if_true, Bool.false_eq_true, if_false, Nat.reduceAdd, Prod.mk.injEq] at hagc
    exact ⟨t, hexec, hagc.1, hagc.2.1, hagc.2.2, hothers, hframe⟩
  case agcHeld =>
    intro s g f hg hlen hen
    obtain ⟨t, hexec, hagc, hothers, hframe⟩ := exec_agcReferenceUpdate 2 g f true hg hlen
    have hstep : agcStep g f.toNat (true && s.lake.blankEn && decide ((2 : Fin 3).val = 2)) (s.band (2 : Fin 3).val) =
        { s.band 2 with full := f.toNat } := by
      simp [agcStep, hen]
    rw [hstep] at hagc
    have hkept : (t.band 2).gain = (s.band 2).gain ∧ (t.band 2).full = f.toNat := by
      cases hf : s.bandFlagged (2 : Fin 3).val with
      | true => rw [hf] at hagc; exact ⟨congrArg (·.1) hagc, congrArg (·.2.1) hagc⟩
      | false =>
        rw [hf] at hagc
        obtain ⟨hgain, hfull⟩ := agcLearn_gain { s.band 2 with full := f.toNat }
        exact ⟨(congrArg (·.1) hagc).trans hgain, (congrArg (·.2.1) hagc).trans hfull⟩
    exact ⟨t, hexec, hkept.1, hkept.2, hothers, hframe⟩
  case latched =>
    intro s v hv
    have hbit : bit v.toNat 8 = true := by simpa [bit, BitVec.getLsbD] using hv
    simp only [exec, execSpecLatch]
    exact done_eq_next (by simp [State.writeSpecSel, hbit, bits, State.band]) rfl
  case stops =>
    intro s hl hf hslots hruns
    have hstop : (s.clk.lake && s.lake.fifo.isEmpty && s.lake.slots.all (fun n => decide (n.2.state = .idle)) &&
        s.lake.bands.all (fun b => !b.runPending)) = true := by
      simp only [hl, hf, Bool.and_eq_true, List.all_eq_true, List.isEmpty_nil, decide_eq_true_eq, true_and]
      exact ⟨hslots, fun b hb => by rw [hruns b hb]; rfl⟩
    simp only [exec, execLakeDomainStop]
    exact done_eq_next (if_pos hstop) (State.atLeast_pending (s.lake.idleSince + 10000000) { s with out := [] })
  case runsOn =>
    intro s hf
    simp only [exec, execLakeDomainStop]
    exact done_eq_next (if_neg (by simp [hf])) rfl
  case dropped =>
    intro s q c hq hc
    have hlive : State.chan { s with out := [], lake.requeue := [] } c = s.chan c := rfl
    simp only [exec, execAidRequeue]
    refine done_eq_next ?_ rfl
    simp [hq, State.each, hlive, hc]
  case requeued =>
    intro s q c hq hc hsat hn hdup hs hf hl hr
    have htaken := State.submitSearch_of_idle (s := { s with out := [], lake.requeue := [] }) hn hl hr hs hf
    have hv : ({ LakeSlot.reset with
        req := State.aidedReq s.ns (s.chan c) q.sig.signal, state := .search
        doppler := (State.aidedReq s.ns (s.chan c) q.sig.signal).doppler, since := s.ns } : LakeSlot) ≠ LakeSlot.reset :=
      LakeSlot.ne_reset_of_state (by simp)
    have hown := State.slot_setSlot_same hv 0 { s with out := [], lake.requeue := [] }
    have hexec : exec .aidRequeue s = done (fun u =>
        (State.submitSearch (State.aidedReq s.ns (s.chan c) q.sig.signal) { u with lake.requeue := [] }).2) s := by
      have hlive : ¬ ((!((decide ((s.chan c).state = .locked) || decide ((s.chan c).state = .synced)) && sameSat (s.chan c).sig q.sig) ||
          s.duplicate q.sig) = true) := by simp [hc, hsat, hdup]
      simp only [exec, execAidRequeue]
      refine done_congr ?_
      show State.each s.lake.requeue _ _ = _
      rw [hq]
      refine (if_neg hlive).trans (if_neg ?_)
      exact fun h => by rcases h with h | h <;> cases (congrArg Prod.fst htaken).symm.trans h
    rw [hexec, done_next, htaken]
    exact ⟨_, rfl, congrArg LakeSlot.state hown, congrArg LakeSlot.req hown, rfl, rfl, rfl⟩

end Sys2Proof.Machine
end

section
/-! SUPPORT. What the stages of an epoch leave alone of the channels, the bands, the keys and what the latch itself writes (R145 to R156). -/

namespace Sys2Proof.Machine

/-- What the stages of an epoch after its latch leave as they found it. -/
structure LatchView where
  keys : KeyStore
  flash : Memory
  pair : Pair
  pending : List Instr
  trk : Trk
  lake : Lake
  marks : Tab Nat
  epochs : BitVec 32
  epochT : Nat
  last : List Obs
  sends : Bool

/-- Of a state, what the stages of an epoch leave alone. -/
def State.latchView (s : State) : LatchView :=
  ⟨s.keys, s.flash, s.pair, s.pending, s.trk, s.lake, s.time.marks, s.mreg.epochs, s.meas.epochT, s.meas.last, s.meas.job.isSome⟩

theorem State.ite_latchView {c : Prop} [Decidable c] {s t : State} {v : LatchView} (hs : s.latchView = v) (ht : t.latchView = v) :
    (if c then s else t).latchView = v := by
  split
  · exact hs
  · exact ht

@[simp] theorem State.each_latchView {α : Type} {f : α → State → State} (h : ∀ a s, (f a s).latchView = s.latchView) (l : List α) (s : State) :
    (s.each l f).latchView = s.latchView :=
  State.each_keeps (fun t => t.latchView = s.latchView) f (fun a t ht => (h a t).trans ht) l s rfl

@[simp] theorem State.when_latchView {f : State → State} (h : ∀ s, (f s).latchView = s.latchView) (c : Bool) (s : State) :
    (s.when c f).latchView = s.latchView := by
  cases c
  · rfl
  · exact h s

@[simp] theorem State.report_latchView (code : Nat) (data : List (Nat × Int)) (s : State) : (s.report code data).latchView = s.latchView := by
  rw [State.report_eq]; rfl

@[simp] theorem State.measEvent_latchView (n : Nat) (s : State) : (s.measEvent n).latchView = s.latchView := rfl

theorem BesideStops.latchView {s t : State} (h : BesideStops s t) : t.latchView = s.latchView := by
  obtain ⟨_, _, _, _, _, rfl⟩ := h
  rfl

/-! ### Checks and corrections -/

@[simp] theorem State.noteCauses_latchView (os : List Obs) (s : State) : (s.noteCauses os).latchView = s.latchView := by
  unfold State.noteCauses
  extract_lets u
  have hu : u.latchView = s.latchView := by
    refine State.each_latchView (fun o v => ?_) os s
    exact State.ite_latchView rfl ((State.report_latchView ..).trans (State.ite_latchView rfl rfl))
  exact hu

@[simp] theorem State.formEpoch_latchView (t : Nat) (sky : EpochIn) (s : State) : (s.formEpoch t sky).1.latchView = s.latchView :=
  State.noteCauses_latchView ..

@[simp] theorem State.stationChecks_latchView (sky : EpochIn) (os : List Obs) (s : State) : (s.stationChecks sky os).latchView = s.latchView := rfl

@[simp] theorem State.integSecond_latchView (s : State) : s.integSecond.latchView = s.latchView := by
  have hwithheld : ∀ u : State, u.latchView = s.latchView →
      (if u.meas.integ then u else { u with mreg.withheldS := incr u.mreg.withheldS }).latchView = s.latchView :=
    fun u hu => State.ite_latchView hu hu
  refine hwithheld _ (State.ite_latchView (State.ite_latchView ?_ rfl) (State.ite_latchView ?_ rfl))
  · exact State.report_latchView ..
  · exact State.report_latchView ..

@[simp] theorem State.promoteValid_latchView (t : Nat) (s : State) : (s.promoteValid t).latchView = s.latchView := by
  unfold State.promoteValid
  split
  · exact State.ite_latchView rfl rfl
  · rfl

@[simp] theorem State.airDrop_latchView (n : Nat) (s : State) : (s.airDrop n).latchView = s.latchView :=
  State.ite_latchView rfl (State.ite_latchView rfl (State.report_latchView ..))

@[simp] theorem State.airRoute_latchView (t period : Nat) (ms : List RtcmMsg) (s : State) : (s.airRoute t period ms).latchView = s.latchView := by
  unfold State.airRoute
  extract_lets lead u fit v
  rw [State.when_latchView (State.airDrop_latchView _)]
  exact State.when_latchView (State.airDrop_latchView _) lead s

@[simp] theorem State.updJob_latchView (f : EpochJob → EpochJob) (s : State) : (s.updJob f).latchView = s.latchView := by
  simp [State.updJob, State.latchView]

@[simp] theorem State.uartRoute_latchView (u : Nat) (ms : List RtcmMsg) (s : State) : (s.uartRoute u ms).latchView = s.latchView :=
  State.ite_latchView rfl (State.updJob_latchView ..)

@[simp] theorem State.udpRoute_latchView (ms : List RtcmMsg) (s : State) : (s.udpRoute ms).latchView = s.latchView :=
  State.each_latchView (fun _ _ => State.ite_latchView (State.updJob_latchView ..) rfl) _ s

@[simp] theorem State.corrections_latchView (t : Nat) (os : List Obs) (s : State) : (s.corrections t os).latchView = s.latchView := by
  unfold State.corrections
  extract_lets per air eth isAir isEth stream valid promoted m r u lead m1 v ms routed w x
  have hu : u.latchView = s.latchView := State.ite_latchView (State.promoteValid_latchView ..) rfl
  have hv : v.latchView = s.latchView := State.ite_latchView hu hu
  have hw : w.latchView = s.latchView := by
    refine State.ite_latchView ?_ hv
    have hrouted : routed.latchView = s.latchView := (State.airRoute_latchView ..).trans hv
    exact State.ite_latchView ((State.uartRoute_latchView ..).trans ((State.uartRoute_latchView ..).trans hrouted)) hrouted
  have hx : x.latchView = s.latchView := State.ite_latchView ((State.udpRoute_latchView ..).trans hw) hw
  exact State.ite_latchView hx hx

/-! ### The survey and the comparison of the position -/

@[simp] theorem State.beginSurvey_latchView (check : Bool) (source : Nat) (ref : Int × Int × Int) (s : State) :
    (s.beginSurvey check source ref).latchView = s.latchView := State.report_latchView ..

@[simp] theorem State.surveyAfterAlarm_latchView (s : State) : s.surveyAfterAlarm.latchView = s.latchView :=
  State.ite_latchView (State.beginSurvey_latchView ..) (State.beginSurvey_latchView ..)

@[simp] theorem State.setCell_latchView (c source : Nat) (s : State) : (s.setCell c source).latchView = s.latchView :=
  (State.setCell_besideStops c source s).latchView

@[simp] theorem State.clearCell_latchView (c : Nat) (host : Bool) (s : State) : (s.clearCell c host).latchView = s.latchView :=
  State.ite_latchView rfl ((State.report_latchView ..).trans (State.ite_latchView rfl rfl))

@[simp] theorem State.setMode_latchView (m : Mode) (trigger : Nat) (s : State) : (s.setMode m trigger).latchView = s.latchView := by
  rw [State.setMode_eq]
  rfl

@[simp] theorem State.cancelStep_latchView (s : State) : s.cancelStep.latchView = s.latchView := by
  unfold State.cancelStep
  split
  · exact State.report_latchView ..
  · rfl

/-- Entering HOLD touches nothing of an epoch (R36). -/
@[simp] theorem State.toMode_hold_latchView (trigger : Nat) (s : State) : (s.toMode .hold trigger).latchView = s.latchView :=
  (State.toMode_hold_besideStops trigger s).latchView

/-- Entering SURVEY leaves an epoch's frame to be sent (R36, R187). -/
@[simp] theorem State.toMode_survey_latchView (trigger : Nat) (s : State) : (s.toMode .survey trigger).latchView = s.latchView := by
  have hclose (u : State) : (u.diagClose 2).latchView = u.latchView := (State.diagClose_besideStops 2 u).latchView
  unfold State.toMode
  simp only [reduceCtorEq, or_false, or_self, and_false, decide_true, State.when_true, if_true, if_false,
    State.when_latchView hclose]
  rw [← (State.cancelStep_latchView _).trans (State.setMode_latchView .survey trigger s)]
  simp [State.latchView]

@[simp] theorem State.settle_latchView (source : Nat) (p : Int × Int × Int) (seH seV : Nat) (keep : Bool) (s : State) :
    (s.settle source p seH seV keep).latchView = s.latchView := by
  simp only [State.settle, State.clearCell_latchView, State.toMode_hold_latchView, State.report_latchView]
  rfl

@[simp] theorem State.judgeCheck_latchView (mean : Int × Int × Int) (s : State) : (s.judgeCheck mean).latchView = s.latchView :=
  State.ite_latchView (State.settle_latchView ..) (State.ite_latchView
    ((State.beginSurvey_latchView ..).trans (State.report_latchView ..)) ((State.beginSurvey_latchView ..).trans (State.report_latchView ..)))

@[simp] theorem State.surveySecond_latchView (p : Int × Int × Int) (s : State) : (s.surveySecond p).latchView = s.latchView :=
  State.ite_latchView (State.ite_latchView (State.judgeCheck_latchView ..) rfl) (State.ite_latchView (State.settle_latchView ..) rfl)

@[simp] theorem State.consistency_latchView (s : State) : s.consistency.latchView = s.latchView := by
  refine State.ite_latchView rfl (State.ite_latchView (State.ite_latchView (State.report_latchView ..) ?_) rfl)
  simp only [State.surveyAfterAlarm_latchView, State.toMode_survey_latchView, State.setCell_latchView, State.report_latchView]
  rfl

@[simp] theorem State.fixSecond_latchView (p : Option (Int × Int × Int)) (s : State) : (s.fixSecond p).latchView = s.latchView := by
  refine State.ite_latchView rfl ?_
  split
  · split
    · exact State.ite_latchView rfl (State.surveySecond_latchView ..)
    · rfl
  · exact State.ite_latchView rfl (State.consistency_latchView _)
  · exact State.ite_latchView rfl (State.consistency_latchView _)
  all_goals rfl

end Sys2Proof.Machine
end

section
/-! SUPPORT. The boundary of an epoch, what it takes from the channels and the bands, and how many observations it forms (R95, R128, R139, R145). -/

namespace Sys2Proof.Machine

/-! ### Mapped tables and sorted lists -/

/-- What a map of a table yields holds of all its values. -/
theorem Tab.forall_mapVals {α : Type} [DecidableEq α] {d : α} {f : Nat → α → α} {P : α → Prop} (h : ∀ k v, P (f k v)) :
    ∀ {t : Tab α}, ∀ p ∈ Tab.mapVals d f t, P p.2
  | [] => by simp [Tab.mapVals]
  | (k, v) :: t => by
    intro p hp
    rw [Tab.mapVals] at hp
    split at hp
    · exact Tab.forall_mapVals h p hp
    · rcases List.mem_cons.mp hp with rfl | hp
      · exact h k v
      · exact Tab.forall_mapVals h p hp

/-- What holds of all values of a table and of its default holds of every entry read. -/
theorem Tab.get_of_forall {α : Type} {d : α} {P : α → Prop} (hd : P d) (i : Nat) : ∀ {t : Tab α}, (∀ p ∈ t, P p.2) → P (Tab.get d t i)
  | [], _ => hd
  | (k, v) :: t, h => by
    rw [Tab.get]
    split
    · exact h (k, v) List.mem_cons_self
    · exact Tab.get_of_forall hd i (fun p hp => h p (List.mem_cons_of_mem _ hp))

/-- A map keeps the number of values with a property that it respects and the default has not. -/
theorem Tab.length_filter_mapVals {α : Type} [DecidableEq α] {d : α} {f : Nat → α → α} {q : α → Bool} (hd : q d = false)
    (hf : ∀ k v, q (f k v) = q v) : ∀ t : Tab α, ((Tab.mapVals d f t).filter (fun p => q p.2)).length = (t.filter (fun p => q p.2)).length
  | [] => rfl
  | (k, v) :: t => by
    have ih := Tab.length_filter_mapVals hd hf t
    rw [Tab.mapVals]
    split
    · next h =>
      have hv : q v = false := by rw [← hf k v, h, hd]
      rw [ih, List.filter_cons_of_neg (by simp [hv])]
    · by_cases hv : q v = true
      · rw [List.filter_cons_of_pos (by simpa [hf] using hv), List.filter_cons_of_pos (by simpa using hv), List.length_cons, List.length_cons, ih]
      · rw [List.filter_cons_of_neg (by simpa [hf] using hv), List.filter_cons_of_neg (by simpa using hv), ih]

theorem length_insertBy {α : Type} (lt : α → α → Bool) (x : α) : ∀ l : List α, (insertBy lt x l).length = l.length + 1
  | [] => rfl
  | y :: l => by
    rw [insertBy]
    split
    · exact congrArg (· + 1) (length_insertBy lt x l)
    · rfl

theorem length_sortBy {α : Type} (lt : α → α → Bool) : ∀ l : List α, (sortBy lt l).length = l.length
  | [] => rfl
  | x :: l => (length_insertBy lt x _).trans (congrArg (· + 1) (length_sortBy lt l))

/-! ### The boundary -/

/-- A boundary that has fired is remembered one count on, and lies at a whole multiple of its period. -/
theorem State.get_mark_mod (kind period : Nat) (s : State) : (Tab.get 0 (s.mark kind period).time.marks kind - 1) % period = 0 := by
  have hget : Tab.get 0 (s.mark kind period).time.marks kind = s.nextMark kind period 0 + 1 :=
    Tab.get_set_same_of_ne (Nat.succ_ne_zero _) kind s.time.marks
  rw [hget, Nat.add_sub_cancel, State.nextMark]
  generalize ceilDiv _ _ = n
  have hn : (((n * period : Nat) : Int) + 0).toNat = n * period := by omega
  exact hn ▸ Nat.mul_mod_left n period

/-! ### The latch -/

/-- With the latch every channel's SLIP and CFG_CHANGED flags clear (R128, R139). -/
theorem State.latchFlags_chan (c : Nat) (s : State) : (s.latchFlags.chan c).slip = false ∧ (s.latchFlags.chan c).cfgChanged = false := by
  have hcleared : ∀ p ∈ s.latchFlags.trk.channels, p.2.slip = false ∧ p.2.cfgChanged = false :=
    Tab.forall_mapVals (P := fun ch : Channel => ch.slip = false ∧ ch.cfgChanged = false) (fun _ _ => ⟨rfl, rfl⟩)
  exact Tab.get_of_forall (P := fun ch : Channel => ch.slip = false ∧ ch.cfgChanged = false) ⟨rfl, rfl⟩ c hcleared

/-- With the latch every band's notch change clears (R95). -/
theorem State.latchFlags_bands (s : State) : ∀ b ∈ s.latchFlags.lake.bands, b.changed = false := by
  intro b hb
  obtain ⟨a, -, rfl⟩ := List.mem_map.mp hb
  rfl

/-- How many channels are held. -/
def State.heldCount (s : State) : Nat := (s.trk.channels.filter (fun (p : Nat × Channel) => decide (p.2.state ≠ .free))).length

theorem State.latchHalves_heldCount (s : State) : s.latchHalves.heldCount = s.heldCount :=
  Tab.length_filter_mapVals (d := Channel.reset) (f := fun _ (ch : Channel) => { ch with halfDone := ch.halfDue })
    (q := fun ch : Channel => decide (ch.state ≠ .free)) rfl (fun _ _ => rfl) _

/-- Every channel that is held gives an observation (R145). -/
theorem State.length_formEpoch (t : Nat) (sky : EpochIn) (s : State) : (s.formEpoch t sky).2.length = s.heldCount := by
  unfold State.formEpoch State.exclude
  simp only [List.length_map, length_sortBy]
  rfl

/-- GLONASS slot numbers change channels and the causes kept by signal (R84). -/
theorem State.takeSlots_eq (sky : EpochIn) (s : State) :
    s.takeSlots sky = { s with trk := (s.takeSlots sky).trk, meas := (s.takeSlots sky).meas } := by
  refine State.each_keeps (fun t => t = { s with trk := t.trk, meas := t.meas }) _ (fun p t ht => ?_) sky.slots s rfl
  dsimp only
  split
  · rw [ht]; rfl
  · exact ht

end Sys2Proof.Machine
end

section
/-! PROOF. EpochsLatched (O24). -/

namespace Sys2Proof.Machine

/-! ### The epoch latch -/

/-- The unit at the latch of an epoch, `s` the unit where its boundary has come (Table 6-2). -/
def State.epochOpen (sky : EpochIn) (s : State) : State := (s.epochPast.takeSlots sky).latchHalves

theorem State.epochOpen_eq (sky : EpochIn) (s : State) :
    s.epochOpen sky = { s with trk := (s.epochOpen sky).trk, meas := (s.epochOpen sky).meas, out := (s.epochOpen sky).out } := by
  rw [State.epochOpen, State.takeSlots_eq, State.epochSends_epochPast s]
  rfl

theorem State.epochOpen_heldCount {sky : EpochIn} (s : State) (h : sky.slots = []) : (s.epochOpen sky).heldCount = s.heldCount := by
  have hslots (u : State) : u.takeSlots sky = u := by rw [State.takeSlots, h]; rfl
  rw [State.epochOpen, State.latchHalves_heldCount, hslots, State.epochSends_epochPast s]
  rfl

/-- What an epoch is once it is latched, `u` the unit at its latch (R145). -/
structure EpochTaken (u t : State) : Prop where
  epochT : t.meas.epochT = Tab.get 0 u.time.marks markEpoch - 1
  epochs : t.mreg.epochs = u.mreg.epochs + 1#32
  job : t.meas.job.isSome = true
  last : t.meas.last.length = u.heldCount
  slip : ∀ c, (t.chan c).slip = false ∧ (t.chan c).cfgChanged = false
  changed : ∀ b ∈ t.lake.bands, b.changed = false
  keys : t.keys = u.keys
  flash : t.flash = u.flash
  pair : t.pair = u.pair

/-- An epoch is latched where what its stages leave alone is what its latch wrote. -/
theorem EpochTaken.of_latchView {u v t : State} {last : List Obs} (h : t.latchView = v.latchFlags.latchView)
    (hv : v.latchView = { u.latchView with
      epochs := u.mreg.epochs + 1#32, epochT := Tab.get 0 u.time.marks markEpoch - 1, last := last, sends := true })
    (hlast : last.length = u.heldCount) : EpochTaken u t where
  epochT := (congrArg LatchView.epochT h).trans (congrArg LatchView.epochT hv :)
  epochs := (congrArg LatchView.epochs h).trans (congrArg LatchView.epochs hv :)
  job := (congrArg LatchView.sends h).trans (congrArg LatchView.sends hv :)
  last := (congrArg (·.last.length) h).trans ((congrArg (·.last.length) hv :).trans hlast)
  slip c := by
    have htrk : t.trk = v.latchFlags.trk := congrArg LatchView.trk h
    rw [State.chan, htrk]
    exact v.latchFlags_chan c
  changed := by
    have hlake : t.lake = v.latchFlags.lake := congrArg LatchView.lake h
    rw [hlake]
    exact v.latchFlags_bands
  keys := (congrArg LatchView.keys h).trans (congrArg LatchView.keys hv :)
  flash := (congrArg LatchView.flash h).trans (congrArg LatchView.flash hv :)
  pair := (congrArg LatchView.pair h).trans (congrArg LatchView.pair hv :)

theorem exec_epochLatch {s : State} {e : EpochIn} {per : Nat} {u : State} (hs : s.inService = true) (hv : s.sys.saving = false)
    (hr : s.time.running = true) (hg : s.clk.gnss = true) (hper : perSec / max 1 ((s.station.map (·.epochRate)).getD 1) = per)
    (hu : u = State.epochOpen e (State.mark markEpoch per { s with out := [] })) :
    ∃ t, exec (.epochLatch e) s = .next { t with pending := s.pending } ∧ EpochTaken u t := by
  subst hper
  have hgo : ¬ (!State.inService { s with out := [] } || s.sys.saving || !s.time.running || !s.clk.gnss) = true := by
    rw [show State.inService { s with out := [] } = true from hs, hv, hr, hg]
    decide
  refine ⟨_, rfl, ?_⟩
  beta_reduce
  rw [if_neg hgo]
  extract_lets rate b w t second f v mode computes pub os m jobbed corrected own obs m1 r1 noted sent latched
  obtain rfl : w = u := hu.symm
  clear_value w
  have hf : f.1.latchView = w.latchView := State.formEpoch_latchView t e w
  have hos : os.length = w.heldCount := (List.length_map _).trans (State.length_formEpoch t e w)
  clear_value f os
  have hv : v.latchView = w.latchView := State.ite_latchView ((State.integSecond_latchView _).trans hf) hf
  clear_value v
  have hjobbed : jobbed.latchView = { w.latchView with sends := true } := by
    rw [← hv]
    rfl
  have hcorrected : corrected.latchView = { w.latchView with sends := true } :=
    (State.when_latchView (State.corrections_latchView t os) ..).trans hjobbed
  have hobs : obs.length = w.heldCount := by
    refine Eq.trans ?_ hos
    simp only [obs]
    split
    · rfl
    · exact List.length_map _
  clear_value obs own corrected
  have hnoted : noted.latchView = { corrected.latchView with
      epochs := corrected.mreg.epochs + 1#32, epochT := t, last := noted.meas.last } := rfl
  have hlast : noted.meas.last.length = w.heldCount := (List.length_map _).trans hobs
  clear_value noted
  have hsent : sent.latchView = noted.latchView := State.when_latchView (State.updJob_latchView _) ..
  refine .of_latchView (v := sent) (State.ite_latchView (State.fixSecond_latchView ..) rfl) (hsent.trans ?_) hlast
  have hepochs : corrected.mreg.epochs = w.mreg.epochs := congrArg LatchView.epochs hcorrected
  rw [hnoted, hepochs, hcorrected]

/-- Outside the service modes nothing is latched (Table 6-2). -/
theorem exec_epochLatch_of_outOfService {s : State} (e : EpochIn) (h : s.inService = false) : exec (.epochLatch e) s = .next { s with out := [] } := by
  have hstop : (!State.inService { s with out := [] } || s.sys.saving || !s.time.running || !s.clk.gnss) = true := by
    rw [show State.inService { s with out := [] } = false from h]
    rfl
  simp only [exec, execEpochLatch]
  exact done_eq_next (if_pos hstop) rfl

/-! ### The EPOCH frame -/

/-- A frame of the partner that the link carries is taken (R342). -/
theorem State.viaFrame_carried {kind : Nat} {dropped f : State → State} {s : State} (hm : s.powered = true) (hs : s.sys.saving = false)
    (hu : s.pair.viaUp = true) (hc : s.diag.viaCorrupt ≠ some kind) : s.viaFrame kind dropped f = f s := by
  simp [State.viaFrame, hm, hs, hu, hc]

/-- The alignment keeps the base ring and touches the measurement engine and the recorder alone (R171 to R173). -/
structure Aligned (lead own : List Obs) (s t : State) : Prop where
  sigs : t.meas.align.map (·.sig) = (lead.filter (fun o => own.any (fun p => sameSignal p.sig o.sig))).map (·.sig)
  alignAt : t.meas.alignAt = s.ns
  alignState : t.meas.alignState = 1
  ring : t.meas.ring = s.meas.ring
  frame : t = { s with meas := t.meas, mreg := t.mreg, rcd := t.rcd }

@[simp] theorem AlignSig.second_sig (t : Nat) (clk : Int) (lead own : Obs) (a : AlignSig) : (a.second t clk lead own).sig = a.sig := by
  unfold AlignSig.second
  extract_lets flip b c d codes ok
  have hb : b.sig = a.sig := by
    simp only [b]
    split <;> rfl
  split
  · exact hb
  · exact hb

/-- The signals that both records hold, each as the lead's record has it. -/
theorem map_filterMap_find? (own : List Obs) (f : Obs × Obs → AlignSig) (hf : ∀ p, (f p).sig = p.1.sig) : ∀ lead : List Obs,
    ((lead.filterMap (fun o => (own.find? (fun p => sameSignal p.sig o.sig)).map (fun p => (o, p)))).map f).map (·.sig) =
      (lead.filter (fun o => own.any (fun p => sameSignal p.sig o.sig))).map (·.sig)
  | [] => rfl
  | o :: lead => by
    have ih := map_filterMap_find? own f hf lead
    cases h : own.find? (fun p => sameSignal p.sig o.sig) with
    | none =>
      have hany : own.any (fun p => sameSignal p.sig o.sig) = false := by simpa using h
      rw [List.filterMap_cons_none (by rw [h]; rfl), List.filter_cons_of_neg (by simp [hany]), ih]
    | some p =>
      have hany : own.any (fun p => sameSignal p.sig o.sig) = true :=
        List.any_eq_true.mpr ⟨p, List.mem_of_find?_eq_some h, List.find?_some (p := fun q : Obs => sameSignal q.sig o.sig) h⟩
      rw [List.filterMap_cons_some (b := (o, p)) (by rw [h]; rfl), List.filter_cons_of_pos (by simpa using hany),
        List.map_cons, List.map_cons, List.map_cons, ih, hf]

theorem State.alignSecond_aligned (lead own : List Obs) {s : State} (ha : s.meas.align = []) (hr : s.meas.clkRun = []) :
    Aligned lead own s (s.alignSecond lead own) := by
  unfold State.alignSecond
  extract_lets pairs diffs clk run sigs lost required ok was n m r u
  have hsigs : sigs.map (·.sig) = (lead.filter (fun o => own.any (fun p => sameSignal p.sig o.sig))).map (·.sig) :=
    map_filterMap_find? own _ (fun p => by simp [State.alignOf, ha]) lead
  have hok : ok = false := by
    have hrun : run.length ≤ 1 := by
      simp only [run, hr]
      split <;> simp
    have : ¬ 30 ≤ run.length := by omega
    simp [ok, this]
  have hu : Aligned lead own s u := ⟨hsigs, rfl, by simp [u, hok], rfl, rfl⟩
  obtain ⟨-, hat, hstate, hring, -⟩ := hu
  rw [if_neg (by simp [hok])]
  split
  · rw [State.report_eq]
    exact ⟨hsigs, hat, hstate, hring, rfl⟩
  · exact ⟨hsigs, hat, hstate, hring, rfl⟩

/-- What a standby makes of an EPOCH frame that the link carries (R153, R171). -/
theorem exec_epochFrame {s : State} {f : EpochFrame} (hm : s.sys.mode = .shadow) (hs : s.sys.saving = false) (hu : s.pair.viaUp = true)
    (hc : s.diag.viaCorrupt = none) {u t : State}
    (hsurvey : u = { s with out := [], meas.survey := { f.survey with source := if f.survey.base = 3 then 3 else f.survey.source } })
    (ht : t = match s.meas.ring.find? (fun (x : RingEntry) => decide (x.second = f.second)) with
      | some e => u.alignSecond f.observations e.obs
      | none => u) (hp : t.pending = s.pending) : exec (.epochFrame f) s = .next t := by
  subst hsurvey
  have hpow : State.powered { s with out := [] } = true := by simp [State.powered, hm]
  simp only [exec, execEpochFrame]
  refine done_eq_next ((State.viaFrame_carried hpow hs hu (by simp [hc])).trans ?_) hp
  dsimp only
  rw [if_neg (not_not.mpr hm)]
  exact ht.symm

/-- A reference that departs degrades a lone lead, which notes that the reference failed (R180). -/
structure RefFaulted (s t : State) : Prop extends HeldDegraded { s with pair := t.pair } t where
  refSeen : t.pair.refSeen = true
  claim : t.pair.claim = s.pair.claim

theorem State.refFault_held (d : Int) {s : State} (hm : s.sys.mode = .lead) (hlone : s.paired = false) (hd : s.sys.degraded = false)
    (hs : s.sys.saving = false) (hc : bit s.cellSet causeDegraded = false) : RefFaulted s (s.refFault d) := by
  unfold State.refFault
  extract_lets p noted reported
  have hsys : reported.breakHealth.sys = s.sys := by simp [reported, noted]
  have hcfg : reported.breakHealth.cfg = s.cfg := by simp [reported, noted, State.breakHealth]
  have hcell : reported.breakHealth.cellSet = s.cellSet := by simp [reported, noted, State.breakHealth, State.cellSet]
  have hlone' : reported.breakHealth.paired = false := by rw [← hlone, State.paired, State.unitRec, hcfg]; rfl
  have h := State.degrade_lead 3 0xFF (by rwa [hsys]) hlone' (by rwa [hsys]) (by rwa [hsys]) (by rwa [hcell])
  have hpair : reported.breakHealth.pair.refSeen = true ∧ reported.breakHealth.pair.claim = s.pair.claim := by
    simp [reported, noted, p, State.breakHealth]
  exact {
    mode := h.mode, degraded := h.degraded, cause := h.cause, go := h.go, pair := rfl
    tres := h.tres.trans (by simp [reported, noted, State.breakHealth])
    flash := h.flash.trans (by simp [reported, noted, State.breakHealth])
    keys := h.keys.trans (by simp [reported, noted, State.breakHealth])
    pending := h.pending.trans (by simp [reported, noted, State.breakHealth])
    refSeen := h.pair ▸ hpair.1
    claim := h.pair ▸ hpair.2 }

/-- Settles O24: an epoch's stages after its latch leave what the latch wrote. -/
theorem epochsLatched : Obligations.EpochsLatched := by
  unfold Obligations.EpochsLatched
  refine ⟨?latch, fun s e h => exec_epochLatch_of_outOfService e h, ?unheld, ?held, ?reference⟩
  case latch =>
    intro s e hs hv hr hg
    generalize hper : perSec / max 1 ((s.station.map (·.epochRate)).getD 1) = per
    obtain ⟨b, hb⟩ : ∃ b, b = State.mark markEpoch per { s with out := [] } := ⟨_, rfl⟩
    have hmod : (Tab.get 0 b.time.marks markEpoch - 1) % per = 0 := by
      rw [hb]
      exact State.get_mark_mod ..
    have hmark : b = { s with out := [], time := b.time } := by
      rw [hb]
      exact State.mark_eq ..
    obtain ⟨t, hexec, ht⟩ := exec_epochLatch (e := e) hs hv hr hg hper (congrArg (State.epochOpen e) hb)
    clear hb
    have hopen := State.epochOpen_eq e b
    have hmarks : (b.epochOpen e).time.marks = b.time.marks := by rw [hopen]
    refine ⟨_, hexec, ?_, ht.epochs.trans ?_, ht.job, fun h => ht.last.trans ((State.epochOpen_heldCount b h).trans ?_), ht.slip, ht.changed,
      ht.keys.trans ?_, ht.flash.trans ?_, congrArg Pair.claim (ht.pair.trans ?_), rfl⟩
    · exact (congrArg (· % per) (ht.epochT.trans (by rw [hmarks]))).trans hmod
    · rw [hopen, hmark]
    · rw [hmark]
      rfl
    · rw [hopen, hmark]
    · rw [hopen, hmark]
    · rw [hopen, hmark]
  case unheld =>
    intro s f hm hs hu hc hring hbase
    refine exec_epochFrame hm hs hu hc rfl ?_ rfl
    rw [List.find?_eq_none.mpr (by simpa using hring), if_neg hbase]
  case held =>
    intro s f e hm hs hu hc hfind ha hr
    obtain ⟨u, hsurvey⟩ : ∃ u : State, u = { s with
        out := [], meas.survey := { f.survey with source := if f.survey.base = 3 then 3 else f.survey.source } } := ⟨_, rfl⟩
    have haligned := State.alignSecond_aligned f.observations e.obs (s := u) (by rw [hsurvey]; exact ha) (by rw [hsurvey]; exact hr)
    have hexec := fun hp => exec_epochFrame (t := u.alignSecond f.observations e.obs) hm hs hu hc hsurvey (by rw [hfind]) hp
    generalize u.alignSecond f.observations e.obs = t at haligned hexec
    obtain ⟨hsigs, hat, hstate, hring, hframe⟩ := haligned
    subst hsurvey
    exact ⟨t, hexec (by rw [hframe]), hstate, hat, hsigs, hring, by rw [hframe]⟩
  case reference =>
    intro s d hm hlone hd hs hc
    have hpow : State.powered { s with out := [] } = true := by simp [State.powered, hm]
    have hfault := State.refFault_held d (s := { s with out := [] }) hm hlone hd hs hc
    generalize hu : State.refFault d { s with out := [] } = u at hfault
    refine ⟨u, ?_, hfault.mode, hfault.degraded, hfault.refSeen, hfault.cause, hfault.go, hfault.claim, hfault.tres, hfault.flash,
      hfault.keys, hfault.pending⟩
    simp only [exec, execRefFault]
    exact done_eq_next ((if_pos hpow).trans hu) hfault.pending

end Sys2Proof.Machine
end

section
/-! SUPPORT. What the publication of a tick, at the lead and at the standby, sends and leaves of the always-on domain (R31, R46, R344). -/

namespace Sys2Proof.Machine

/-! ### Nothing sent, and the always-on domain left alone -/

/-- What a unit has sent, and its always-on domain. -/
def State.outView (s : State) : List Out × AlwaysOn := (s.out, s.ao)

theorem State.ite_outView {c : Prop} [Decidable c] {s t : State} {v : List Out × AlwaysOn} (hs : s.outView = v) (ht : t.outView = v) :
    (if c then s else t).outView = v := by
  split
  · exact hs
  · exact ht

@[simp] theorem State.each_outView {α : Type} {f : α → State → State} (h : ∀ a s, (f a s).outView = s.outView) (l : List α) (s : State) :
    (s.each l f).outView = s.outView :=
  State.each_keeps (fun t => t.outView = s.outView) f (fun a t ht => (h a t).trans ht) l s rfl

@[simp] theorem State.report_outView (code : Nat) (data : List (Nat × Int)) (s : State) : (s.report code data).outView = s.outView := by
  rw [State.report_eq]; rfl

@[simp] theorem State.fleetEvent_outView (code : Nat) (s : State) : (s.fleetEvent code).outView = s.outView := by
  unfold State.fleetEvent
  split <;> rfl

@[simp] theorem State.tickReport_outView (code : Nat) (data : List (Nat × Int)) (s : State) : (s.tickReport code data).outView = s.outView := by
  unfold State.tickReport
  split
  · rfl
  · exact State.report_outView ..

@[simp] theorem State.dropGo_outView (n : Nat) (s : State) : (s.dropGo n).outView = s.outView := by
  rw [State.dropGo_eq]; rfl

@[simp] theorem State.setSess_outView (n c source : Nat) (s : State) : (s.setSess n c source).outView = s.outView :=
  State.ite_outView rfl ((State.report_outView ..).trans (State.dropGo_outView ..))

@[simp] theorem State.countNews_outView (n : TickNews) (s : State) : (s.countNews n).outView = s.outView := by
  cases n <;> rfl

@[simp] theorem State.syncBusy_outView (ms : Nat) (s : State) : (s.syncBusy ms).outView = s.outView := by
  refine State.each_outView (fun k u => ?_) _ s
  exact State.ite_outView rfl (State.ite_outView rfl rfl)

@[simp] theorem State.authCheck_outView (s : State) : s.authCheck.outView = s.outView := by
  refine State.each_outView (fun n u => ?_) s.openSessions s
  dsimp only
  split
  · exact State.ite_outView ((State.fleetEvent_outView ..).trans ((State.tickReport_outView ..).trans (State.setSess_outView ..))) rfl
  · rfl

@[simp] theorem State.lightingPublish_outView (s : State) : s.lightingPublish.outView = s.outView := rfl

/-- A standby that applies a tick sends nothing by it. -/
theorem State.applyTick_outView (d : TickDelta) (s : State) : (s.applyTick d).outView = s.outView := by
  unfold State.applyTick
  extract_lets old u changed map k p r v w x
  have hw : w.outView = s.outView := (State.syncBusy_outView ..).trans (State.each_outView State.countNews_outView ..)
  exact (State.lightingPublish_outView _).trans (State.ite_outView ((State.authCheck_outView _).trans hw) hw)

/-! ### The operating time -/

@[simp] theorem State.each_optime {α : Type} {f : α → State → State} (h : ∀ a s, (f a s).ao.optime = s.ao.optime) (l : List α) (s : State) :
    (s.each l f).ao.optime = s.ao.optime :=
  State.each_keeps (fun t => t.ao.optime = s.ao.optime) f (fun a t ht => (h a t).trans ht) l s rfl

theorem State.optime_of_outView {s t : State} (h : t.outView = s.outView) : t.ao.optime = s.ao.optime := congrArg (·.2.optime) h

@[simp] theorem State.returnGo_optime (n : Nat) (s : State) : (s.returnGo n).ao.optime = s.ao.optime := by
  unfold State.returnGo
  split <;> rfl

@[simp] theorem State.queueProfile_optime (tick n : Nat) (s : State) : (s.queueProfile tick n).ao.optime = s.ao.optime := by
  unfold State.queueProfile
  split <;> rfl

@[simp] theorem State.backbone_optime (kind : Nat) (body : List Octet) (s : State) : (s.backbone kind body).ao.optime = s.ao.optime := by
  unfold State.backbone
  split
  · rfl
  · extract_lets tick i head mac h u
    exact State.each_optime (fun n v => by rfl) _ u

@[simp] theorem State.sendReply_optime (f : ChpFrame) (kind result : Nat) (body : List Octet) (mac : Option (BitVec 128)) (s : State) :
    (s.sendReply f kind result body mac).ao.optime = s.ao.optime := by
  unfold State.sendReply
  split <;> rfl

@[simp] theorem State.finish_optime (f : ChpFrame) (kind result : Nat) (body : List Octet) (s : State) :
    (s.finish f kind result body).ao.optime = s.ao.optime := by
  unfold State.finish
  split
  · exact State.sendReply_optime ..
  · split
    · rfl
    · exact State.sendReply_optime ..

@[simp] theorem State.replies_optime (tick : Nat) (mirrored : Bool) (s : State) : (s.replies tick mirrored).ao.optime = s.ao.optime := by
  refine State.each_optime (fun a u => ?_) _ _
  split
  · exact State.finish_optime ..
  · exact State.finish_optime ..

@[simp] theorem State.towerExpire_optime (s : State) : s.towerExpire.ao.optime = s.ao.optime := by
  unfold State.towerExpire
  split
  · split <;> rfl
  · rfl

@[simp] theorem State.towerPublish_optime (s : State) : s.towerPublish.ao.optime = s.ao.optime := by
  unfold State.towerPublish
  split
  · rfl
  · extract_lets zs diff towers
    split
    · rfl
    · refine State.each_optime (fun p u => ?_) _ _
      rfl

/-- The publication of a tick leaves the operating time alone. -/
theorem State.publishTick_optime (mirrored : Bool) (s : State) : (s.publishTick mirrored).ao.optime = s.ao.optime := by
  unfold State.publishTick
  split
  · rfl
  · next o _ =>
    extract_lets changed r u v w x y z k
    have hv : v.ao.optime = s.ao.optime := State.optime_of_outView (State.each_outView State.countNews_outView o.news u)
    clear_value u v
    have hw : w.ao.optime = s.ao.optime := (State.optime_of_outView (State.syncBusy_outView (10 * o.tick) v)).trans hv
    clear_value w
    have hx : x.ao.optime = s.ao.optime :=
      (State.each_optime (f := fun (r : Nat × List (Nat × Int)) u => u.reportNow r.1 r.2) (fun r u => State.reportNow_ao_optime r.1 r.2 u) o.records w).trans hw
    clear_value x
    have hy : y.ao.optime = s.ao.optime := (State.each_optime State.returnGo_optime _ x).trans hx
    clear_value y
    have hz : z.ao.optime = s.ao.optime := (State.each_optime (State.queueProfile_optime o.tick) _ y).trans hy
    clear_value z
    have hk : k.ao.optime = s.ao.optime :=
      (State.each_optime (f := fun (g : Nat × List Octet) u => u.backbone g.1 g.2) (fun g u => State.backbone_optime g.1 g.2 u) o.guestOut z).trans hz
    rw [State.towerPublish_optime, State.towerExpire_optime, State.optime_of_outView (State.lightingPublish_outView _)]
    exact (State.replies_optime ..).trans hk

end Sys2Proof.Machine
end

section
/-! SUPPORT. Heartbeats and the link: what is sent, what a received frame brings, and when the mirror ends (R339 to R345). -/

namespace Sys2Proof.Machine

/-! ### Boundaries and frames -/

/-- A boundary that fires moves the counter and is remembered, and touches nothing else. -/
theorem State.markOfs_fired (kind period : Nat) (ofs : Int) (s : State) : ∃ frc marks, s.markOfs kind period ofs =
    { s with time.frc := frc, time.marks := marks } := by
  unfold State.markOfs
  exact ⟨_, _, rfl⟩

theorem State.markOfs_sent (kind period : Nat) (ofs : Int) (o : List Out) (s : State) :
    State.markOfs kind period ofs { s with out := o } = { s.markOfs kind period ofs with out := o } := by
  unfold State.markOfs
  rfl

@[simp] theorem length_leBytes : ∀ n v : Nat, (leBytes n v).length = n
  | 0, _ => rfl
  | n + 1, v => congrArg (· + 1) (length_leBytes n (v / 256))

theorem State.length_framed (kind : Nat) (content : List Octet) (s : State) : (s.framed kind content).length = content.length + 8 := by
  unfold State.framed
  simp only [List.length_append, length_leBytes]
  omega

theorem State.length_heartbeat (s : State) : s.heartbeat.length = 56 := by
  unfold State.heartbeat timeOctets
  simp only [List.length_append, length_leBytes, List.length_cons, List.length_nil]

/-- What frames a content is the running firmware. -/
theorem State.framed_congr {s t : State} (hf : t.flash = s.flash) (hu : t.ureg = s.ureg) (kind : Nat) (content : List Octet) :
    t.framed kind content = s.framed kind content := by
  unfold State.framed State.protocol State.activeHead
  rw [hf, hu]

theorem State.viaduct_sent {s : State} (hu : s.pair.viaUp = true) (hp : s.paired = true) (kind : Nat) (content : List Octet) :
    s.viaduct kind content = { s with out := s.out ++ [.viaduct kind (s.framed kind content)] } := by
  unfold State.viaduct
  rw [hu, hp]
  rfl

/-- The link hands a frame of a type that it carries to the unit. -/
theorem State.viaFrame_of_carries {kind : Nat} {dropped f : State → State} {s : State} (h : viaCarries kind s) :
    State.viaFrame kind dropped f { s with out := [] } = f { s with out := [] } := by
  obtain ⟨hpow, hsave, hup, hcorrupt⟩ := h
  exact State.viaFrame_carried hpow hsave hup hcorrupt

/-! ### The mirror's end and beginning -/

/-- A standby that is not mirrored: of the pair what its resync is about differs, and the recorder (R345). -/
theorem State.notMirrored_eq (cause : Nat) (s : State) : ∃ events resync blocks n image rcd, s.notMirrored cause = { s with
    pair := { s.pair with mirrored := false, events := events, resync := resync, resyncBlocks := blocks, cntResyncs := n, imageTick := image }
    rcd := rcd } := by
  unfold State.notMirrored
  split
  · next h =>
    have hm : s.pair.mirrored = false := by simpa using h
    refine ⟨s.pair.events, s.pair.resync, s.pair.resyncBlocks, s.pair.cntResyncs, s.pair.imageTick, s.rcd, ?_⟩
    rw [← hm]
  · rw [State.report_eq]
    exact ⟨_, _, _, _, _, _, rfl⟩

/-- A standby that misses a delta is not mirrored, and its image no longer serves (R345). -/
theorem State.loseDelta_eq (cause : Nat) (s : State) : ∃ events resync blocks n rcd, s.loseDelta cause = { s with
    pair := { s.pair with mirrored := false, events := events, resync := resync, resyncBlocks := blocks, cntResyncs := n, imageTick := none }
    rcd := rcd } := by
  unfold State.loseDelta
  obtain ⟨_, _, _, _, _, _, h⟩ := State.notMirrored_eq cause s
  rw [h]
  exact ⟨_, _, _, _, _, rfl⟩

theorem State.becomeMirrored_eq (s : State) : ∃ resync blocks rcd, s.becomeMirrored = { s with
    pair := { s.pair with mirrored := true, resync := resync, resyncBlocks := blocks }, rcd := rcd } := by
  unfold State.becomeMirrored
  split
  · next h =>
    refine ⟨s.pair.resync, s.pair.resyncBlocks, s.rcd, ?_⟩
    rw [← h]
  · rw [State.report_eq]
    exact ⟨_, _, _, rfl⟩

/-- VIADUCT_DOWN: of the pair its flag, its events and the mirror differ, and the recorder (R346). -/
theorem State.viaductDown_eq (s : State) : ∃ events resync blocks n image rcd, s.viaductDown = { s with
    pair := { s.pair with viaDown := true, mirrored := false, events := events, resync := resync, resyncBlocks := blocks, cntResyncs := n
                          imageTick := image }
    rcd := rcd } := by
  unfold State.viaductDown
  rw [State.report_eq]
  obtain ⟨_, _, _, _, _, _, h⟩ := State.notMirrored_eq 2 _
  exact ⟨_, _, _, _, _, _, h⟩

/-! ### A received heartbeat -/

theorem State.isLead_of_shadow {s : State} (h : s.sys.mode = .shadow) : s.isLead = false := by
  rw [State.isLead, h]

theorem State.mode_ne_shadow_of_isLead {s : State} (h : s.isLead = true) : s.sys.mode ≠ .shadow := by
  intro hm
  rw [State.isLead_of_shadow hm] at h
  exact Bool.false_ne_true h

theorem State.claim_of_isLead {s : State} (h : s.isLead = true) : s.pair.claim = true := by
  unfold State.isLead at h
  split at h <;> simp_all

theorem State.checkInputs_of_not_lead {s : State} (h : s.isLead = false) : s.checkInputs = s := by
  rw [State.checkInputs, h]
  rfl

theorem State.checkInputs_of_run {s : State} (h : s.inputsRun = true) : s.checkInputs = s := by
  rw [State.checkInputs, h, Bool.not_true, Bool.and_false]
  rfl

/-- An exchange of time changes its sum and its count alone; where the unit has sent one frame, the exchange is with it (R193). -/
theorem State.exchangeTime_eq (b : Heartbeat) (r : Nat) (s : State) : ∃ sum count,
    s.exchangeTime b r = { s with time.viaSum := sum, time.viaCount := count } ∧
      (∀ t1, s.pair.beatTx = [t1] → b.stamp ≠ 0 →
        count = s.time.viaCount + 1 ∧ sum = s.time.viaSum + (((t1 : Int) - b.stamp) + ((r : Int) - b.sent)) / 2) := by
  unfold State.exchangeTime
  split
  · next t hfirst =>
    split
    · next h => exact ⟨_, _, rfl, fun _ _ hb => absurd h hb⟩
    · refine ⟨_, _, rfl, fun t1 h1 _ => ?_⟩
      obtain rfl : t1 = t := Option.some.inj (by rw [← hfirst, h1]; rfl)
      exact ⟨rfl, rfl⟩
  · next hnone => exact ⟨_, _, rfl, fun t1 h1 _ => absurd (hnone.symm.trans (by rw [h1]; rfl : _ = some t1)) (by simp)⟩

/-- The unit where a HEARTBEAT has been received: its run of missed ones is over, and it knows what its partner says (R343). -/
def State.beatTaken (b : Heartbeat) (received : Nat) (s : State) : State :=
  { s.peerLines b with
    pair.missed := 0, pair.viaDown := false, pair.beatRx := stamp1ns received, pair.peer := b.health, pair.peerMode := b.mode
    pair.peerReady := b.ready, pair.peerAligned := bit b.ready 1, pair.peerSaving := b.saving
    pair.forceOut := (s.peerLines b).pair.forceOut && !decide (b.mode = 1 ∨ b.mode = 4) }

/-- A standby takes the exchange of time, sigma and the pending step with a heartbeat (R193). -/
theorem State.takeBeat_shadow {b : Heartbeat} {r : Nat} {s : State} (h : s.sys.mode = .shadow) : s.takeBeat b r =
    { (s.beatTaken b r).exchangeTime b (stamp1ns r) with
      time.viaSigma := b.sigma, time.step := if b.step = 0 then none else some ⟨b.step, 0, b.stepSecond⟩ } := by
  unfold State.takeBeat
  extract_lets enters u p v sent q w x q' y
  have hw : w = s.beatTaken b r := if_neg (by simp [enters, State.isLead_of_shadow h])
  have hmode : x.sys.mode = .shadow := by
    obtain ⟨_, _, hex, -⟩ := State.exchangeTime_eq b (stamp1ns r) w
    rw [show x = w.exchangeTime b (stamp1ns r) from rfl, hex, hw]
    exact h
  have hx : x = (s.beatTaken b r).exchangeTime b (stamp1ns r) := by rw [← hw]
  have hy : y = { (s.beatTaken b r).exchangeTime b (stamp1ns r) with
      time.viaSigma := b.sigma, time.step := if b.step = 0 then none else some ⟨b.step, 0, b.stepSecond⟩ } := by
    rw [← hx]
    exact if_pos (by rw [hw]; exact h)
  rw [State.checkInputs_of_not_lead (State.isLead_of_shadow (by rw [hy, ← hx]; exact hmode)), hy]

/-- The pair-wide words come from the blocks that they configure. -/
theorem State.pairWideWords_congr (pair : Pair) (stop : Fstop) (out : List Out) (s : State) :
    State.pairWideWords { s with pair := pair, stop := stop, out := out } = s.pairWideWords := rfl

/-- A lead sends each pair-wide register in a REGISTER frame (R115). -/
theorem State.sendPairWide_eq {s : State} (hu : s.pair.viaUp = true) (hp : s.paired = true) : s.sendPairWide = { s with
    out := s.out ++ s.pairWideWords.map (fun p =>
      .viaduct 6 (s.framed 6 (leBytes 4 p.1 ++ leBytes 4 p.2.toNat ++ leBytes 4 (secOf s.now + 1)))) } := by
  unfold State.sendPairWide
  generalize s.pairWideWords = l
  induction l generalizing s with
  | nil => simp [State.each]
  | cons p l ih =>
    have h := ih (s := s.viaduct 6 (leBytes 4 p.1 ++ leBytes 4 p.2.toNat ++ leBytes 4 (secOf s.now + 1)))
      (by rw [State.viaduct_sent hu hp]; exact hu) (by rw [State.viaduct_sent hu hp]; exact hp)
    refine Eq.trans h ?_
    rw [State.viaduct_sent hu hp]
    exact congrArg (fun o => ({ s with out := o } : State)) (List.append_assoc ..)

/-- A lead whose partner enters SHADOW sends it the pair-wide registers and begins a resync (R115, R345). -/
theorem State.takeBeat_enters {b : Heartbeat} {r : Nat} {s v : State} {o : List Out} (hl : s.isLead = true) (hb : b.mode = 4)
    (hm : s.pair.peerMode ≠ 4) (hv : v = s.beatTaken b r) (hrun : v.inputsRun = true) (hmode : v.sys.mode = s.sys.mode)
    (hsent : v.sendPairWide = { v with out := o }) : s.takeBeat b r = { v with
      out := o, pair.mirrored := false, pair.resync := some v.ns, pair.resyncBlocks := 0, pair.cntResyncs := incr v.pair.cntResyncs } := by
  unfold State.takeBeat
  extract_lets enters w p v' sent q x y q' z
  have henters : enters = true := by simp [enters, hl, hb, hm]
  have hv' : v' = v := hv.symm
  have hx : x = { v with
      out := o, pair.mirrored := false, pair.resync := some v.ns, pair.resyncBlocks := 0, pair.cntResyncs := incr v.pair.cntResyncs } := by
    simp only [x, henters, if_true, q, sent]
    rw [hv', hsent]
  have hz : z = x := if_neg (by rw [hx]; exact fun h => State.mode_ne_shadow_of_isLead hl (hmode.symm.trans h))
  rw [hz, hx]
  exact State.checkInputs_of_run hrun

/-! ### The link -/

/-- A CONFIG frame is sent, and nothing else changes (R79). -/
theorem State.sendConfig_eq (s : State) : ∃ out, s.sendConfig = { s with out := out } := by
  unfold State.sendConfig State.viaduct
  split
  · split
    · exact ⟨_, rfl⟩
    · exact ⟨s.out, rfl⟩
  · exact ⟨s.out, rfl⟩

end Sys2Proof.Machine
end

section
/-! SUPPORT. What a tick applied at a standby and a tick acknowledged at the lead come to (R32, R344, R345). -/

namespace Sys2Proof.Machine

/-- The state of a delta put where a standby's status reads see it. -/
def State.showDelta (d : TickDelta) (s : State) : State :=
  let u := s.adoptFleet d.fleet
  { u with
    pub := { dsp := u.fleet.dsp, xarb := u.fleet.xarb, prof := u.fleet.prof
             covered := (u.openSessions.flatMap (fun n => u.covered n)).eraseDups, tick := d.tick % 2 ^ 32 }
    kreg.switch := d.epochSwitch.or s.kreg.switch
    pair.ackTick := d.tick, pair.nextTick := d.tick + 1
    pair.heard := s.pair.heard.filter (fun (h : Heard) => decide (10 * perMs * d.tick ≤ h.frame.time)) }

/-- What a standby does further with a delta stays beside the tick. -/
theorem State.applyTick_besideTick (d : TickDelta) (s : State) : (s.applyTick d).besideTick = (s.showDelta d).besideTick := by
  unfold State.applyTick
  simp only [State.lightingPublish_besideTick, State.besideTick_ite, State.authCheck_besideTick, ite_self, State.syncBusy_besideTick,
    State.each_besideTick State.countNews_besideTick]
  rfl

/-- What the work of a tick and its publication leave alone, and what status reads see. -/
structure BesideKept (s t : State) : Prop where
  pub : t.pub = s.pub
  pair : t.pair = s.pair
  sys : t.sys = s.sys
  cfg : t.cfg = s.cfg
  time : t.time = s.time
  lake : t.lake = s.lake
  trk : t.trk = s.trk
  flash : t.flash = s.flash
  ureg : t.ureg = s.ureg
  keys : t.keys = s.keys
  mets : t.mets = s.mets
  upd : t.upd = s.upd
  saved : t.saved = s.saved
  pending : t.pending = s.pending

theorem BesideKept.of_besideTick {s t : State} (h : t.besideTick = s.besideTick) : BesideKept s t where
  pub := (congrArg State.pub h :)
  pair := (congrArg State.pair h :)
  sys := (congrArg State.sys h :)
  cfg := (congrArg State.cfg h :)
  time := (congrArg State.time h :)
  lake := (congrArg State.lake h :)
  trk := (congrArg State.trk h :)
  flash := (congrArg State.flash h :)
  ureg := (congrArg State.ureg h :)
  keys := (congrArg State.keys h :)
  mets := (congrArg State.mets h :)
  upd := (congrArg State.upd h :)
  saved := (congrArg State.saved h :)
  pending := (congrArg State.pending h :)

/-- A delta applied at a standby and acknowledged with `ok` (R344). -/
structure DeltaApplied (d : TickDelta) (s t : State) : Prop where
  kept : BesideKept (s.showDelta d) t
  out : t.out = s.out ++ [.viaduct 3 (s.framed 3 (leBytes 4 d.tick ++ leBytes 1 (flag d.digestOk)))]
  optime : t.ao.optime = s.ao.optime

theorem State.applyTick_acknowledged (d : TickDelta) {s : State} (hu : s.pair.viaUp = true) (hp : s.paired = true) :
    DeltaApplied d s ((s.applyTick d).viaduct 0x03 (leBytes 4 d.tick ++ leBytes 1 (flag d.digestOk))) := by
  have hkept := BesideKept.of_besideTick (State.applyTick_besideTick d s)
  have hout := State.applyTick_outView d s
  generalize s.applyTick d = u at hkept hout
  have hup : u.pair.viaUp = true := by rw [hkept.pair]; exact hu
  have hpaired : u.paired = true := by
    unfold State.paired State.unitRec at hp ⊢
    rw [hkept.cfg]
    exact hp
  rw [State.viaduct_sent hup hpaired, State.framed_congr (s := s) hkept.flash hkept.ureg]
  exact ⟨⟨hkept.pub, hkept.pair, hkept.sys, hkept.cfg, hkept.time, hkept.lake, hkept.trk, hkept.flash, hkept.ureg, hkept.keys, hkept.mets,
    hkept.upd, hkept.saved, hkept.pending⟩, congrArg (· ++ _) (congrArg Prod.fst hout : u.out = s.out),
    (State.optime_of_outView hout : u.ao.optime = s.ao.optime)⟩

/-- A committed tick that the standby has acknowledged is published at the lead, its digest equal (R32, R345). -/
theorem State.publishTick_kept {s : State} {o : TickOut} (mirrored : Bool) (h : s.tick = some o) :
    BesideKept (s.showTick o) (s.publishTick mirrored) := .of_besideTick (State.publishTick_besideTick mirrored h)

end Sys2Proof.Machine
end

section
/-! PROOF. LinkAndMirror (O42). -/

namespace Sys2Proof.Machine

/-! ### Heartbeats sent and missed -/

theorem exec_healthRefresh {s : State} (h : s.powered = true) : exec .healthRefresh s = .next { s with out := [], pair.healthAt := some s.ns } := by
  simp only [exec, execHealthRefresh]
  exact done_eq_next (if_pos h) rfl

/-- The boundary of a heartbeat where device time runs, with nothing sent yet. -/
theorem State.mark_sent {s m : State} (hm : m = s.mark markBeat (500 * perUs)) :
    State.mark markBeat (500 * perUs) { s with out := [] } = { m with out := [] } := by
  rw [hm]
  exact State.markOfs_sent ..

theorem exec_heartbeatSend_silent {s m : State} (hp : s.powered = true) (hr : s.time.running = true) (hm : m = s.mark markBeat (500 * perUs))
    (hb : m.beats = false) : exec .heartbeatSend s = .next { m with out := [] } := by
  have hpend : m.pending = s.pending := by rw [hm, State.mark_eq]
  simp only [exec, execHeartbeatSend]
  refine done_eq_next ((if_neg ?_).trans ?_) hpend
  · exact (fun h => by simp [show State.powered { s with out := [] } = true from hp] at h)
  · rw [if_pos hr, State.mark_sent hm]
    exact if_pos (by rw [show State.beats { m with out := [] } = false from hb]; rfl)

/-- The frame of a heartbeat leaves, numbered, and the unit notes its instant (R343). -/
theorem exec_heartbeatSend_beating {s m u : State} (hp : s.powered = true) (hr : s.time.running = true) (hm : m = s.mark markBeat (500 * perUs))
    (hb : m.beats = true) (hpair : s.paired = true) (hup : s.pair.viaUp = true)
    (hu : u = { m with out := [], pair.beatAt := some m.ns, pair.beatTx := (stamp1ns m.now :: m.pair.beatTx).take 2 }) :
    exec .heartbeatSend s = .next { u with out := [.viaduct 1 (u.framed 1 u.heartbeat)], pair.beatSeq := (u.pair.beatSeq + 1) % 256 } := by
  have hmark := State.mark_eq markBeat (500 * perUs) s
  rw [← hm] at hmark
  have hpend : u.pending = s.pending := by rw [hu, hmark]
  have hupaired : u.paired = true := by rw [hu, hmark]; exact hpair
  have huup : u.pair.viaUp = true := by rw [hu, hmark]; exact hup
  simp only [exec, execHeartbeatSend]
  refine done_eq_next ((if_neg ?_).trans ?_) hpend
  · exact (fun h => by simp [show State.powered { s with out := [] } = true from hp] at h)
  · rw [if_pos hr, State.mark_sent hm]
    refine (if_neg (by rw [show State.beats { m with out := [] } = true from hb]; decide)).trans ?_
    have hsent := State.viaduct_sent huup hupaired 1 u.heartbeat
    subst hu
    exact (if_pos hupaired).trans (congrArg (fun v : State => { v with pair.beatSeq := (m.pair.beatSeq + 1) % 256 }) hsent)

/-- The unit where a HEARTBEAT has been missed: the run grows and clean health breaks (R343, R352). -/
def State.beatMissed (s : State) : State := s.missBeat.breakHealth

/-- The instant at which the next HEARTBEAT counts as missed comes, and the unit looks whether it has arrived (R343). -/
theorem exec_heartbeatMissed {s m t : State} (hs : s.inService = true) (hp : s.paired = true) (hsave : s.sys.saving = false)
    (hm : m = awaitedBeat s) (ht : (if m.beatArrived then { m with out := [] } else
      if decide ((State.beatMissed { m with out := [] }).pair.missed = 4) && (s.isLead || s.pair.peerClaim)
      then (State.beatMissed { m with out := [] }).viaductDown else State.beatMissed { m with out := [] }) = t)
    (hpend : t.pending = s.pending) : exec .heartbeatMissed s = .next t := by
  obtain ⟨T, hmark⟩ := State.markOfs_eq markMissed (500 * perUs) (100 * perUs) s
  rw [← awaitedBeat, ← hm] at hmark
  have hsent : State.markOfs markMissed (500 * perUs) (100 * perUs) { s with out := [] } = { m with out := [] } := by
    rw [hm]
    exact State.markOfs_sent ..
  have hgo : ¬ (!State.inService { s with out := [] } || !State.paired { s with out := [] } || s.sys.saving) = true := by
    rw [show State.inService { s with out := [] } = true from hs, show State.paired { s with out := [] } = true from hp, hsave]
    decide
  simp only [exec, execHeartbeatMissed]
  refine done_eq_next ((if_neg hgo).trans ?_) hpend
  rw [hsent, ← ht, hmark]
  rfl

/-! ### Heartbeats received -/

/-- A HEARTBEAT that the link carries is taken, or counted with its bad CRC (R341, R343). -/
theorem exec_heartbeatReceived {s t : State} {b : Heartbeat} {ok : Bool} {r : Nat} (hp : s.paired = true) (hc : viaCarries 1 s)
    (ht : (if ok then State.takeBeat b r { s with out := [] } else State.crcDrop { s with out := [] }) = t) (hpend : t.pending = s.pending) :
    exec (.heartbeatReceived b ok r) s = .next t := by
  have hgo : ¬ (!State.paired { s with out := [] }) = true := by
    rw [show State.paired { s with out := [] } = true from hp]
    decide
  simp only [exec, execHeartbeatReceived]
  exact done_eq_next ((if_neg hgo).trans ((State.viaFrame_of_carries hc).trans ht)) hpend

/-! ### The link and the mirror -/

theorem exec_viaductLinkDown {s t : State} (l : Fin 4) (hp : s.powered = true) (hu : s.pair.viaUp = true)
    (ht : State.viaductDown { s with out := [], pair.viaUp := false, pair.lanes := l.val } = t) (hpend : t.pending = s.pending) :
    exec (.viaductLinkDown l) s = .next t := by
  have hgo : ¬ (!State.powered { s with out := [] } || !s.pair.viaUp) = true := by
    rw [show State.powered { s with out := [] } = true from hp, hu]
    decide
  simp only [exec, execViaductLinkDown]
  exact done_eq_next ((if_neg hgo).trans ht) hpend

/-- Training brings the link up: its part of the pair is new, the CONFIG frame leaves, and a lead with a standby resyncs it (R341, R345). -/
theorem exec_viaductLinkUp {s : State} (n : Nat) (hp : s.powered = true) (hpair : s.paired = true) (hup : s.pair.viaUp = false) :
    ∃ out rcd resync blocks k, exec (.viaductLinkUp n) s = .next { s with
      out := out, rcd := rcd, clk.viaduct := true
      pair := { s.pair with viaUp := true, viaDown := false, lanes := 3, missed := 0, retrains := sat 16 (s.pair.retrains + 1)
                            resync := resync, resyncBlocks := blocks, cntResyncs := k } } := by
  have hgo : ¬ (!State.powered { s with out := [] } || !State.paired { s with out := [] } || s.pair.viaUp) = true := by
    rw [show State.powered { s with out := [] } = true from hp, show State.paired { s with out := [] } = true from hpair, hup]
    decide
  simp only [exec, execViaductLinkUp, done_next, if_neg hgo]
  obtain ⟨out, hsent⟩ := State.sendConfig_eq (State.report 0x0B08 [(4, sat 32 n)] { s with
    out := [], clk.viaduct := true, pair.viaUp := true, pair.viaDown := false, pair.lanes := 3, pair.missed := 0
    pair.retrains := sat 16 (s.pair.retrains + 1) })
  rw [hsent, State.report_eq]
  split
  · exact ⟨_, _, _, _, _, rfl⟩
  · exact ⟨_, _, s.pair.resync, s.pair.resyncBlocks, s.pair.cntResyncs, rfl⟩

/-! ### The mirror at the standby -/

section
variable {s t : State} {d : TickDelta} (hc : viaCarries 2 s) (hm : s.sys.mode = .shadow) (hcrc : d.crcOk = true)
  (himage : s.pair.imageTick.isSome = true)
include hc hm hcrc himage

/-- A delta that is next upon a complete image is applied and acknowledged, and a standby with device time is mirrored then (R344, R345). -/
theorem exec_tickDelta_next (htick : d.tick = s.pair.nextTick) (hdigest : d.digestOk = true) (hpair : s.paired = true)
    (hservo : s.time.servo ≠ .provisional) (ht : State.becomeMirrored ((State.applyTick d { s with out := [] }).viaduct 0x03
      (leBytes 4 d.tick ++ leBytes 1 (flag d.digestOk))) = t) (hpend : t.pending = s.pending) : exec (.tickDelta d) s = .next t := by
  obtain ⟨-, -, hup, -⟩ := id hc
  have htime := (State.applyTick_acknowledged d (s := { s with out := [] }) hup hpair).kept.time
  have himage' : ¬ (s.pair.imageTick = none ∨ d.tick < s.pair.nextTick) := by
    rw [htick]
    simpa [Option.isSome_iff_ne_none] using himage
  simp only [exec, execTickDelta]
  refine done_eq_next ((State.viaFrame_of_carries hc).trans ?_) hpend
  refine (if_neg (not_not.mpr hm)).trans ((if_neg (by simp [hcrc])).trans ((if_neg himage').trans ((if_neg (by simp [htick])).trans ?_)))
  refine (if_neg (by simp [hdigest])).trans ((if_neg ?_).trans ht)
  rw [htime]
  exact hservo

/-- A delta beyond the next one shows that one is missing (R345). -/
theorem exec_tickDelta_missing (htick : s.pair.nextTick < d.tick) (ht : State.loseDelta 0 { s with out := [] } = t)
    (hpend : t.pending = s.pending) : exec (.tickDelta d) s = .next t := by
  have himage' : ¬ (s.pair.imageTick = none ∨ d.tick < s.pair.nextTick) := by
    have : ¬ d.tick < s.pair.nextTick := by omega
    simpa [Option.isSome_iff_ne_none, this] using himage
  simp only [exec, execTickDelta]
  refine done_eq_next ((State.viaFrame_of_carries hc).trans ?_) hpend
  exact (if_neg (not_not.mpr hm)).trans ((if_neg (by simp [hcrc])).trans ((if_neg himage').trans ((if_pos htick).trans ht)))

end

/-- A block of an image is counted at a standby, and the last completes the image (R345). -/
theorem exec_resync {s t : State} {n : Nat} {image : Option Fleet} (hc : viaCarries 9 s) (hm : s.sys.mode = .shadow)
    (ht : (match image with
      | some f => { State.adoptFleet f { s with out := [], pair.resyncBlocks := s.pair.resyncBlocks + 1 } with
          pair.imageTick := some n, pair.nextTick := n + 1, pair.ackTick := n }
      | none => { s with out := [], pair.resyncBlocks := s.pair.resyncBlocks + 1 }) = t)
    (hpend : t.pending = s.pending) : exec (.resync n image) s = .next t := by
  simp only [exec, execResync]
  exact done_eq_next ((State.viaFrame_of_carries hc).trans ((if_neg (not_not.mpr hm)).trans ht)) hpend

theorem exec_ceiling {s : State} (k c : Nat) (hc : viaCarries 5 s) (hm : s.sys.mode = .shadow) (hp : s.paired = true) :
    exec (.ceiling k c) s = .next { s with
      out := [.viaduct 3 (s.framed 3 [5#8])], rad.stored := Tab.set 0 s.rad.stored k c, rad.keys := Tab.set {} s.rad.keys k {} } := by
  obtain ⟨-, -, hup, -⟩ := id hc
  simp only [exec, execCeiling]
  exact done_eq_next ((State.viaFrame_of_carries hc).trans ((if_neg (not_not.mpr hm)).trans (State.viaduct_sent
    (s := { s with out := [], rad.stored := Tab.set 0 s.rad.stored k c, rad.keys := Tab.set {} s.rad.keys k {} }) hup hp 3 [5#8]))) rfl

theorem exec_registerFrame {s : State} (a n : Nat) (v : Word) (hc : viaCarries 6 s) (hm : s.sys.mode = .shadow) :
    exec (.registerFrame a v n) s = .next { s with out := [], pair.regDue := s.pair.regDue ++ [(a, v.toNat, n)] } := by
  simp only [exec, execRegisterFrame]
  exact done_eq_next ((State.viaFrame_of_carries hc).trans (if_neg (not_not.mpr hm))) rfl

/-- A CONFIG frame tells the unit its partner's image; a unit in service takes its class from it (R79, R80). -/
theorem exec_configFrame {s t : State} {p : Image} {l : List Nat} (hp : s.paired = true) (hc : viaCarries 7 s)
    (ht : (if s.inService then State.adoptClass { s with out := [], cfg.partner := some p, pair.checks := l }
      else { s with out := [], cfg.partner := some p, pair.checks := l }) = t) (hpend : t.pending = s.pending) :
    exec (.configFrame p l) s = .next t := by
  have hgo : ¬ (!State.paired { s with out := [] }) = true := by
    rw [show State.paired { s with out := [] } = true from hp]
    decide
  simp only [exec, execConfigFrame]
  exact done_eq_next ((if_neg hgo).trans ((State.viaFrame_of_carries hc).trans ht)) hpend

/-- Out of SHADOW the class of the pair brings the change list alone (R80). -/
theorem State.adoptClass_of_not_shadow {s : State} {own p : Image} (hm : s.sys.mode ≠ .shadow) (hown : s.cfg.image = some own)
    (hp : s.cfg.partner = some p) : s.adoptClass = { s with
      pair.cls := classifyPair own p, cfg.changes := if classifyPair own p = .mixed then changeList p own else [] } := by
  unfold State.adoptClass
  rw [hown, hp]
  simp [hm]

/-! ### The mirror at the lead -/

/-- Where every tick in progress is committed, none is to commit. -/
theorem State.commitTick_of_all {s : State} (h : s.tick.all (·.committed) = true) : s.commitTick = s := by
  cases ht : s.tick with
  | none => exact State.commitTick_of_none ht
  | some o => exact State.commitTick_of_committed ht (by simpa [ht] using h)

/-- The lead that has had a tick acknowledged, mirrored where its standby has device time (R345). -/
def State.acknowledged (n : Nat) (s : State) : State :=
  let u : State := { s with pair.ackTick := n, pair.deltaDue := false }
  if bit u.pair.peerReady 3 then u.becomeMirrored else u

theorem State.acknowledged_eq (n : Nat) (s : State) : ∃ mirrored resync blocks rcd, s.acknowledged n = { s with
    pair := { s.pair with ackTick := n, deltaDue := false, mirrored := mirrored, resync := resync, resyncBlocks := blocks }, rcd := rcd } := by
  unfold State.acknowledged
  extract_lets p u
  split
  · obtain ⟨_, _, _, h⟩ := State.becomeMirrored_eq u
    exact ⟨_, _, _, _, h⟩
  · exact ⟨s.pair.mirrored, s.pair.resync, s.pair.resyncBlocks, s.rcd, rfl⟩

/-- The standby's acknowledgement of the tick sent last, committed already, ends what the lead owes it (R32). -/
theorem exec_deltaAck {s t : State} {n : Nat} {ok : Bool} (hc : viaCarries 3 s) (hl : s.isLead = true) (hdue : s.pair.deltaDue = true)
    (hsent : s.pair.sentTick = n) (htick : s.tick.all (·.committed) = true)
    (ht : (if ok then (State.acknowledged n { s with out := [] }).publishTick (State.acknowledged n { s with out := [] }).pair.mirrored
      else State.notMirrored 1 { s with out := [] }) = t)
    (hpend : t.pending = s.pending) : exec (.deltaAck n ok false) s = .next t := by
  have hcommit (b : Bool) : State.when b State.commitTick { s with out := [] } = { s with out := [] } := by
    cases b
    · rfl
    · exact State.commitTick_of_all (s := { s with out := [] }) htick
  have hgo : ¬ ((!State.isLead { s with out := [] }) = true ∨ (!s.pair.deltaDue) = true ∨ s.pair.sentTick ≠ n) := by
    rw [show State.isLead { s with out := [] } = true from hl, hdue, hsent]
    simp
  simp only [exec, execDeltaAck]
  refine done_eq_next ((State.viaFrame_of_carries hc).trans ((if_neg Bool.false_ne_true).trans ?_)) hpend
  rw [hcommit]
  exact (if_neg hgo).trans ht

/-- The acknowledgement of a CEILING frame frees the oldest key that waits for one (R224). -/
theorem exec_deltaAck_ceiling {s : State} {n k c c' : Nat} {b : Bool} {r : List (Nat × Nat)} (hc : viaCarries 3 s)
    (hdue : s.pair.ceilingDue = (k, c) :: r) (hraised : (Tab.get {} s.rad.keys k).raised = some c') :
    exec (.deltaAck n b true) s = .next { s with
      out := [], pair.ceilingDue := r
      rad.keys := Tab.set {} s.rad.keys k { Tab.get {} s.rad.keys k with ceiling := c', raised := none } } := by
  simp only [exec, execDeltaAck]
  refine done_eq_next ((State.viaFrame_of_carries hc).trans ?_) rfl
  rw [if_pos trivial]
  dsimp only
  rw [hdue]
  unfold State.freeCeiling
  dsimp only
  rw [hraised]

/-- Settles O42: each frame and each boundary by what it does to the pair. -/
theorem linkAndMirror : Obligations.LinkAndMirror := by
  unfold Obligations.LinkAndMirror
  refine ⟨fun s h => exec_healthRefresh h, ?send, fun s hp hr hb => exec_heartbeatSend_silent hp hr rfl hb, ?taken, ?enters, ?badCrc, ?arrived,
    ?missed, ?fourth, ?linkDown, ?linkUp, ?delta, ?lost, ?block, ?image, ?ceiling, ?register, ?configStart, ?configLead, ?badDigest,
    ?acknowledged, ?ceilingFreed⟩
  case send =>
    intro s hp hr hpair hup hb
    obtain ⟨m, hm⟩ : ∃ m, m = s.mark markBeat (500 * perUs) := ⟨_, rfl⟩
    rw [← hm] at hb ⊢
    obtain ⟨frc, marks, hfired⟩ := State.markOfs_fired markBeat (500 * perUs) 0 s
    have hexec := exec_heartbeatSend_beating hp hr hm hb hpair hup rfl
    obtain rfl := hm.trans hfired
    exact ⟨_, _, hexec, rfl, by rw [State.length_framed, State.length_heartbeat], rfl, rfl⟩
  case taken =>
    intro s b r hp hc hm
    have hbeat := State.takeBeat_shadow (b := b) (r := r) (s := { s with out := [] }) hm
    obtain ⟨sum, count, hex, hone⟩ := State.exchangeTime_eq b (stamp1ns r) (State.beatTaken b r { s with out := [] })
    rw [hex] at hbeat
    exact ⟨_, exec_heartbeatReceived hp hc hbeat rfl, rfl, rfl, rfl, rfl, rfl, rfl, rfl, rfl, rfl, rfl, rfl, hone, rfl⟩
  case enters =>
    intro s b r hp hc hl hb hm hrunA hrunB hstopA hstopB
    obtain ⟨-, -, hup, -⟩ := id hc
    have hrun : (State.beatTaken b r { s with out := [] }).inputsRun = true := by
      simp [State.inputsRun, State.beatTaken, State.peerLines, hrunA, hrunB, hstopA, hstopB]
    have hbeat := State.takeBeat_enters (s := { s with out := [] }) hl hb hm rfl hrun rfl (State.sendPairWide_eq hup hp)
    exact ⟨_, exec_heartbeatReceived hp hc hbeat rfl, hb, rfl, rfl, rfl, rfl, rfl⟩
  case badCrc => exact fun s b r hp hc => exec_heartbeatReceived hp hc rfl rfl
  case arrived =>
    intro s hs hp hsave hb
    obtain ⟨m, hm⟩ : ∃ m, m = awaitedBeat s := ⟨_, rfl⟩
    obtain ⟨T, hmark⟩ := State.markOfs_eq markMissed (500 * perUs) (100 * perUs) s
    rw [← hm] at hb ⊢
    exact exec_heartbeatMissed hs hp hsave hm (if_pos hb) (by rw [hm, awaitedBeat, hmark])
  case missed =>
    intro s hs hp hsave hb hrun
    obtain ⟨m, hm⟩ : ∃ m, m = awaitedBeat s := ⟨_, rfl⟩
    obtain ⟨frc, marks, hfired⟩ := State.markOfs_fired markMissed (500 * perUs) (100 * perUs) s
    rw [← hm] at hb ⊢
    have hexec := fun t ht => exec_heartbeatMissed (t := t) hs hp hsave hm ht
    obtain rfl := hm.trans hfired
    have hrun' : ¬ (decide (sat 8 (s.pair.missed + 1) = 4) && (s.isLead || s.pair.peerClaim)) = true := by
      have : sat 8 (s.pair.missed + 1) ≠ 4 := by simp only [sat]; omega
      simp [this]
    exact ⟨_, hexec _ ((if_neg (by simp [hb])).trans (if_neg hrun')) rfl, rfl, rfl, rfl⟩
  case fourth =>
    intro s hs hp hsave hb hrun hmarks
    obtain ⟨m, hm⟩ : ∃ m, m = awaitedBeat s := ⟨_, rfl⟩
    obtain ⟨frc, marks, hfired⟩ := State.markOfs_fired markMissed (500 * perUs) (100 * perUs) s
    rw [← hm] at hb
    have hexec := fun t ht => exec_heartbeatMissed (t := t) hs hp hsave hm ht
    obtain rfl := hm.trans hfired
    obtain ⟨_, _, _, _, _, _, hdown⟩ := State.viaductDown_eq (State.beatMissed { s with out := [], time.frc := frc, time.marks := marks })
    have hrun' : (decide (sat 8 (s.pair.missed + 1) = 4) && (s.isLead || s.pair.peerClaim)) = true := by
      rw [hrun]
      simpa [sat] using hmarks
    refine ⟨_, hexec _ ((if_neg (by simp [hb])).trans ((if_pos hrun').trans hdown)) rfl, ?_, rfl, rfl, rfl, rfl⟩
    exact congrArg (fun n => sat 8 (n + 1)) hrun
  case linkDown =>
    intro s l hp hu
    obtain ⟨_, _, _, _, _, _, hdown⟩ := State.viaductDown_eq { s with out := [], pair.viaUp := false, pair.lanes := l.val }
    exact ⟨_, exec_viaductLinkDown l hp hu hdown rfl, rfl, rfl, rfl, rfl, rfl, rfl⟩
  case linkUp =>
    intro s n hp hpair hup
    obtain ⟨_, _, _, _, _, hexec⟩ := exec_viaductLinkUp n hp hpair hup
    exact ⟨_, hexec, rfl, rfl, rfl, rfl, rfl, rfl, rfl, rfl⟩
  case delta =>
    intro s d hc hm hcrc himage htick hdigest hpair hservo
    obtain ⟨-, -, hup, -⟩ := id hc
    have happ := State.applyTick_acknowledged d (s := { s with out := [] }) hup hpair
    obtain ⟨_, _, _, hmirror⟩ := State.becomeMirrored_eq ((State.applyTick d { s with out := [] }).viaduct 0x03
      (leBytes 4 d.tick ++ leBytes 1 (flag d.digestOk)))
    have hexec := fun hpend => exec_tickDelta_next hc hm hcrc himage htick hdigest hpair hservo hmirror hpend
    generalize (State.applyTick d { s with out := [] }).viaduct 0x03 (leBytes 4 d.tick ++ leBytes 1 (flag d.digestOk)) = u at happ hexec
    obtain ⟨hkept, hout, hoptime⟩ := happ
    have hclaim : u.pair.claim = s.pair.claim := (congrArg Pair.claim hkept.pair :)
    have hack : u.pair.ackTick = d.tick := congrArg Pair.ackTick hkept.pair
    have hnext : u.pair.nextTick = d.tick + 1 := congrArg Pair.nextTick hkept.pair
    refine ⟨_, hexec hkept.pending, hack, hnext, rfl, congrArg Published.tick hkept.pub, congrArg Published.xarb hkept.pub, ?_, hclaim, hkept.sys,
      hkept.lake, hkept.trk, hkept.time, hkept.flash, hkept.keys, hkept.mets, hkept.upd, hkept.saved, hoptime, hkept.pending⟩
    rw [hdigest] at hout
    exact hout
  case lost =>
    intro s d hc hm hcrc himage htick
    obtain ⟨_, _, _, _, _, hlost⟩ := State.loseDelta_eq 0 { s with out := [] }
    exact ⟨_, exec_tickDelta_missing hc hm hcrc himage htick hlost rfl, rfl, rfl, rfl, rfl, rfl⟩
  case block => exact fun s n hc hm => exec_resync hc hm rfl rfl
  case image => exact fun s n f hc hm => ⟨_, exec_resync hc hm rfl rfl, rfl, rfl, rfl, rfl, rfl, rfl, rfl⟩
  case ceiling => exact fun s k c hc hm hp => exec_ceiling k c hc hm hp
  case register => exact fun s a n v hc hm => exec_registerFrame a n v hc hm
  case configStart =>
    intro s p l hp hc hm
    exact exec_configFrame hp hc (if_neg (by simp [State.inService, hm])) rfl
  case configLead =>
    intro s p own l hp hc hm hown
    have hclass := State.adoptClass_of_not_shadow (s := { s with out := [], cfg.partner := some p, pair.checks := l }) (by simp [hm]) hown rfl
    exact ⟨_, exec_configFrame hp hc ((if_pos (by simp [State.inService, hm])).trans hclass) rfl, rfl, rfl, rfl, rfl⟩
  case badDigest =>
    intro s n hc hl hdue hsent htick
    obtain ⟨_, _, _, _, _, _, hlost⟩ := State.notMirrored_eq 1 { s with out := [] }
    exact ⟨_, exec_deltaAck hc hl hdue hsent htick ((if_neg Bool.false_ne_true).trans hlost) rfl, rfl, rfl, rfl, rfl, rfl⟩
  case acknowledged =>
    intro s n o hc hl hdue hsent htick hcommitted
    obtain ⟨_, _, _, _, hack⟩ := State.acknowledged_eq n { s with out := [] }
    have hall : s.tick.all (·.committed) = true := by rw [htick]; exact hcommitted
    have hexec := fun t ht => exec_deltaAck (t := t) (ok := true) hc hl hdue hsent hall ((if_pos rfl).trans ht)
    rw [hack] at hexec
    generalize hv : ({ s with out := [], pair := _, rcd := _ } : State) = v at hexec
    have hkept := State.publishTick_kept v.pair.mirrored (show v.tick = some o by rw [← hv]; exact htick)
    have hpub := State.publishTick_published v.pair.mirrored (show v.tick = some o by rw [← hv]; exact htick)
    have hoptime := State.publishTick_optime v.pair.mirrored v
    generalize v.publishTick v.pair.mirrored = t at hkept hpub hoptime hexec
    subst hv
    have hackTick : t.pair.ackTick = n := (congrArg Pair.ackTick hpub.pair :)
    have hdue' : t.pair.deltaDue = false := (congrArg Pair.deltaDue hpub.pair :)
    have hclaim : t.pair.claim = true := (congrArg Pair.claim hpub.pair :).trans (State.claim_of_isLead hl)
    exact ⟨t, hexec t rfl hpub.pending, hackTick, hdue', hpub.tick, hpub.xarb, hpub.number, hclaim, hpub.sys, hkept.lake, hkept.trk, hkept.time,
      hkept.flash, hkept.keys, hkept.mets, hkept.upd, hkept.saved, hoptime, hkept.pending⟩
  case ceilingFreed => exact fun s n k c c' b r hc hdue hraised => exec_deltaAck_ceiling hc hdue hraised

end Sys2Proof.Machine
end

section
/-! SUPPORT. A channel lost to FREE and the reacquisition that it queues (R124, R125). -/

namespace Sys2Proof.Machine

/-- The keys of a table in canonical form lie at or above its bound. -/
theorem Tab.le_of_mem {α : Type} [DecidableEq α] {d : α} {p : Nat × α} :
    ∀ {t : Tab α} {lo : Nat}, Tab.wfFrom d lo t = true → p ∈ t → lo ≤ p.1
  | (k, w) :: t, lo, hwf, hp => by
    simp only [Tab.wfFrom, Bool.and_eq_true, decide_eq_true_eq] at hwf
    obtain ⟨⟨hlo, -⟩, htail⟩ := hwf
    rcases List.mem_cons.mp hp with rfl | hp
    · exact hlo
    · have := Tab.le_of_mem htail hp
      omega

/-- Once a key reads as unlisted, a table in canonical form lists what it listed for the other keys. -/
theorem Tab.mem_of_mem_set_default {α : Type} [DecidableEq α] {d : α} {i : Nat} {p : Nat × α} :
    ∀ {t : Tab α} {lo : Nat}, Tab.wfFrom d lo t = true → p ∈ Tab.set d t i d → p ∈ t ∧ p.1 ≠ i
  | [], _, _, hp => by simp [Tab.set] at hp
  | (k, w) :: t, lo, hwf, hp => by
    simp only [Tab.wfFrom, Bool.and_eq_true, decide_eq_true_eq] at hwf
    obtain ⟨-, htail⟩ := hwf
    simp only [Tab.set, if_true] at hp
    split_ifs at hp with hlt heq
    · refine ⟨hp, ?_⟩
      rcases List.mem_cons.mp hp with rfl | hp
      · exact Nat.ne_of_gt hlt
      · have := Tab.le_of_mem htail hp
        omega
    · have := Tab.le_of_mem htail hp
      exact ⟨List.mem_cons_of_mem _ hp, by omega⟩
    · rcases List.mem_cons.mp hp with rfl | hp
      · exact ⟨List.mem_cons_self, fun h => heq h.symm⟩
      · obtain ⟨hmem, hne⟩ := Tab.mem_of_mem_set_default htail hp
        exact ⟨List.mem_cons_of_mem _ hmem, hne⟩

/-- With no slot waiting for a channel none is offered the one that has become free (R107). -/
theorem State.offerChannel_of_no_slot {s : State} (h : s.lake.slots = []) : s.offerChannel = s := by
  have hnone : (List.range 96).find? (fun n => decide ((s.slot n).state = .waitChannel)) = none :=
    List.find?_eq_none.mpr fun n _ => by simp [State.slot_of_empty h, LakeSlot.reset]
  rw [State.offerChannel, hnone]

/-- A signal that no channel tracks is not searched for a second time while the Lake is idle (R102). -/
theorem State.duplicate_of_idle {g : SigId} {s : State} (hs : s.lake.slots = []) (hq : s.lake.fifo = [])
    (hc : ∀ v ∈ s.trk.channels, v.2.state ≠ .free → sameSignal v.2.sig g = false) : s.duplicate g = false := by
  have hchan : s.trk.channels.any (fun c => decide (c.2.state ≠ .free) && sameSignal c.2.sig g) = false :=
    List.any_eq_false.mpr fun v hv => by
      by_cases hf : v.2.state = .free
      · simp [hf]
      · simp [hc v hv hf]
  rw [State.duplicate, hchan, hs, hq]
  rfl

/-- What the Lake takes (Table 4-7). -/
theorem State.searchRefusal_eq_none {q : SearchReq} {s : State} (hq : s.lake.fifo = []) (hrange : reqInRange q = true)
    (hsig : bit s.lake.sigEn q.sig.signal = true) (hdup : s.duplicate q.sig = false) (hjam : s.lake.lowJammed = false) :
    s.searchRefusal q = none := by
  simp [State.searchRefusal, hq, hrange, hsig, hdup, hjam]

/-- A reacquisition request that an idle Lake takes goes to slot 0, and nothing is kept for later (R103, R125). -/
theorem State.submitReacq_of_idle {q : SearchReq} {s : State} (deadline : Nat) (h : s.searchRefusal q = none) (hl : s.clk.lake = true)
    (hr : s.domReady domLake = true) (hs : s.lake.slots = []) (hq : s.lake.fifo = []) :
    s.submitReacq q deadline =
      { s.setSlot 0 { LakeSlot.reset with req := q, state := .search, doppler := q.doppler, since := s.ns } with lake.fifo := [] } := by
  rw [State.submitReacq, State.submitSearch_of_idle h hl hr hs hq]
  rfl

/-- Nothing stands against the reacquisition of what a channel tracked: the Lake is idle and running, the request is in range, its signal is
enabled and not jammed, and no other channel tracks it. -/
structure Reacquirable (c : Nat) (ch : Channel) (s : State) : Prop where
  wf : Tab.wf Channel.reset s.trk.channels = true
  slots : s.lake.slots = []
  fifo : s.lake.fifo = []
  awake : s.clk.lake = true
  ready : s.domReady domLake = true
  inRange : reqInRange (reacqReq s.ns c ch) = true
  enabled : bit s.lake.sigEn ch.sig.signal = true
  clear : s.lake.lowJammed = false
  alone : ∀ v ∈ s.trk.channels, v.1 ≠ c → v.2.state ≠ .free → sameSignal v.2.sig ch.sig = false

/-- What the loss of a channel leaves: the channel is unlisted, and nothing but the tracking array, the loop engine and the recorder has
changed. -/
structure ChannelLost (c : Nat) (s t : State) : Prop where
  channels : t.trk.channels = Tab.set Channel.reset s.trk.channels c Channel.reset
  frame : t = { s with trk := t.trk, loop := t.loop, rcd := t.rcd }

/-- A channel goes FREE while no slot waits for one: nothing is offered (R107). -/
theorem State.freeChan_of_no_slot {s : State} (c : Nat) (h : s.lake.slots = []) :
    s.freeChan c = ((s.setChan c Channel.reset).setObj (2 * c) LoopObj.reset).setObj (2 * c + 1) LoopObj.reset :=
  State.offerChannel_of_no_slot (s := ((s.setChan c Channel.reset).setObj (2 * c) LoopObj.reset).setObj (2 * c + 1) LoopObj.reset) h

/-- A channel that goes FREE is lost, whatever the count, the events and the record of its loss. -/
theorem channelLost_report {s : State} (c : Nat) (h : s.lake.slots = []) (count events : Word) (code : Nat) (data : List (Nat × Int)) :
    ChannelLost c s (State.report code data { s.freeChan c with trk.pullinFailed := count, trk.events := events }) := by
  rw [State.freeChan_of_no_slot c h]
  refine ⟨?_, ?_⟩
  · rw [State.report_trk]; rfl
  · rw [State.report_eq]; rfl

/-- The Lake takes the reacquisition of a lost channel in slot 0. -/
theorem State.reacquire_of_lost {c : Nat} {ch : Channel} {s t : State} (h : Reacquirable c ch s) (hlost : ChannelLost c s t) :
    t.reacquire c ch = { t.setSlot 0 { LakeSlot.reset with
      req := reacqReq s.ns c ch, state := .search, doppler := ch.doppler, since := s.ns } with lake.fifo := [] } := by
  obtain ⟨hchan, hframe⟩ := hlost
  have hns : t.ns = s.ns := by rw [hframe]; rfl
  have hlake : t.lake = s.lake := by rw [hframe]
  have hclk : t.clk = s.clk := by rw [hframe]
  have hready : t.domReady domLake = s.domReady domLake := by rw [State.domReady, State.domReady, hclk, hns]
  have hslots : t.lake.slots = [] := hlake ▸ h.slots
  have hfifo : t.lake.fifo = [] := hlake ▸ h.fifo
  have hdup : t.duplicate ch.sig = false := State.duplicate_of_idle hslots hfifo fun v hv hf => by
    rw [hchan] at hv
    obtain ⟨hmem, hne⟩ := Tab.mem_of_mem_set_default h.wf hv
    exact h.alone v hmem hne hf
  have hnone : t.searchRefusal (reacqReq s.ns c ch) = none :=
    State.searchRefusal_eq_none hfifo h.inRange (hlake ▸ h.enabled) hdup (hlake ▸ h.clear)
  rw [State.reacquire, hns, State.submitReacq_of_idle _ hnone (hclk ▸ h.awake) (hready ▸ h.ready) hslots hfifo, hns]
  rfl

end Sys2Proof.Machine
end

section
/-! PROOF. The tracking channels: frequency assist, polarity, settings, loss and reacquisition (R118, R119, R124, R125, R127, R128, R139). -/

namespace Sys2Proof.Machine

/-- A command that sets one channel in use changes nothing else. -/
theorem done_setChan {c : Nat} {v : Channel} {s : State} (hv : v.state ≠ .free) :
    ∃ t, done (fun u => u.setChan c v) s = .next t ∧ t.chan c = v ∧ (∀ k, k ≠ c → t.chan k = s.chan k) ∧
      { t with trk.channels := s.trk.channels } = { s with out := [] } :=
  ⟨_, done_next _ _, State.chan_setChan_same (Channel.ne_reset_of_state hv) c _,
    fun _ hk => State.chan_setChan_other (Channel.ne_reset_of_state hv) hk _, rfl⟩

/-- A slot that searches is in use. -/
theorem LakeSlot.searching_ne_reset (q : SearchReq) (t : Nat) :
    ({ LakeSlot.reset with req := q, state := .search, doppler := q.doppler, since := t } : LakeSlot) ≠ LakeSlot.reset :=
  LakeSlot.ne_reset_of_state (by simp)

/-- A command that at its timeout loses a channel and queues its reacquisition, where an idle Lake takes it. -/
theorem done_reacquire {c n : Nat} {ch : Channel} {s b u : State} (hb : b = State.atLeast n { s with out := [] }) (h : Reacquirable c ch b)
    (hlost : ChannelLost c b u) :
    ∃ t, done (fun _ => u.reacquire c ch) s = .next t ∧ t.chan c = {} ∧ (∀ k, k ≠ c → t.chan k = s.chan k) ∧ t.trk = u.trk ∧
      (t.slot 0).state = .search ∧ (t.slot 0).req = reacqReq b.ns c ch ∧ t.clk = s.clk ∧ t.meas = s.meas ∧ t.time = b.time ∧
      t.pending = s.pending := by
  have hre := State.reacquire_of_lost h hlost
  obtain ⟨hchan, hframe⟩ := hlost
  have hpend : u.pending = s.pending := by rw [hframe, hb]; rfl
  have hown := State.slot_setSlot_same (LakeSlot.searching_ne_reset (reacqReq b.ns c ch) b.ns) 0 u
  have hother : ∀ k, k ≠ c → Tab.get Channel.reset u.trk.channels k = s.chan k := fun k hk => by
    rw [hchan, Tab.get_set_other _ h.wf hk, hb]; rfl
  have hclk : u.clk = s.clk := by rw [hframe, hb]; rfl
  have hmeas : u.meas = s.meas := by rw [hframe, hb]; rfl
  have htime : u.time = b.time := by rw [hframe]
  have hfree : Tab.get Channel.reset u.trk.channels c = Channel.reset := by rw [hchan, Tab.get_set_same _ _ h.wf]
  exact ⟨_, done_eq_next hre hpend, hfree, hother, rfl, congrArg LakeSlot.state hown, congrArg LakeSlot.req hown, hclk, hmeas, htime, hpend⟩

@[simp] theorem State.chan_report (k code : Nat) (data : List (Nat × Int)) (s : State) : (s.report code data).chan k = s.chan k := by
  rw [State.chan, State.report_trk, State.chan]

/-- A slip of a channel in use (R128): its flag, its count and its lock time, the count of the array, an event and a record. -/
theorem State.slip_eq {c : Nat} {s : State} (detector : Nat) (h : (s.chan c).state ≠ .free) :
    (s.slip c detector).chan c = { s.chan c with slip := true, slips := ((s.chan c).slips + 1) % 256, lockTime := 0 } ∧
      (∀ k, k ≠ c → (s.slip c detector).chan k = s.chan k) ∧ (s.slip c detector).trk.slips = s.trk.slips + 1#32 ∧
      (s.slip c detector).trk.halfSlips = s.trk.halfSlips ∧
      s.slip c detector = { s with trk := (s.slip c detector).trk, rcd := (s.slip c detector).rcd } := by
  have hv : ({ s.chan c with slip := true, slips := ((s.chan c).slips + 1) % 256, lockTime := 0 } : Channel) ≠ Channel.reset :=
    Channel.ne_reset_of_state h
  refine ⟨?_, fun k hk => ?_, ?_, ?_, ?_⟩
  · exact (State.chan_report ..).trans (State.chan_setChan_same hv c s)
  · exact (State.chan_report ..).trans (State.chan_setChan_other hv hk s)
  · rw [State.slip, State.report_trk]; rfl
  · rw [State.slip, State.report_trk]; rfl
  · rw [State.slip, State.report_eq]; rfl

/-- A half-cycle slip of a channel in use: a slip, and a half cycle for the reported phase, counted and recorded too (R127, R128). -/
theorem State.halfSlip_eq {c : Nat} {s : State} (detector : Nat) (h : (s.chan c).state ≠ .free) :
    (s.halfSlip c detector).chan c = { s.chan c with
        slip := true, slips := ((s.chan c).slips + 1) % 256, lockTime := 0, halfDue := (s.chan c).halfDue + 1 } ∧
      (∀ k, k ≠ c → (s.halfSlip c detector).chan k = s.chan k) ∧ (s.halfSlip c detector).trk.slips = s.trk.slips + 1#32 ∧
      (s.halfSlip c detector).trk.halfSlips = s.trk.halfSlips + 1#32 ∧
      s.halfSlip c detector = { s with trk := (s.halfSlip c detector).trk, rcd := (s.halfSlip c detector).rcd } := by
  obtain ⟨hown, hothers, hslips, hhalf, hframe⟩ := State.slip_eq detector h
  rw [State.halfSlip]
  dsimp only
  generalize s.slip c detector = u at *
  have hv : ({ u.chan c with halfDue := (u.chan c).halfDue + 1 } : Channel) ≠ Channel.reset :=
    Channel.ne_reset_of_state (by rw [hown]; exact h)
  refine ⟨?_, fun k hk => ?_, ?_, ?_, ?_⟩
  · exact (State.chan_report ..).trans ((State.chan_setChan_same hv c u).trans (by rw [hown]))
  · exact (State.chan_report ..).trans ((State.chan_setChan_other hv hk u).trans (hothers k hk))
  · rw [State.report_trk]; exact hslips
  · rw [State.report_trk]; exact congrArg incr hhalf
  · rw [State.report_eq, hframe]; rfl

/-- A polarity report resolves HALF where synchronisation does not (R127). -/
theorem exec_polarityReport_resolves {s : State} {c : Fin 288} (i : Bool) (hs : (s.chan c.val).state ≠ .free)
    (hb : halfBySync (s.chan c.val).sig.signal = false) (hh : (s.chan c.val).half = true) :
    exec (.polarityReport c i) s = done (fun u => u.setChan c.val { s.chan c.val with
      half := false, polarity := some i, halfDue := (s.chan c.val).halfDue + flag i }) s := by
  have hopen : ¬ ((s.chan c.val).state = .free ∨ (halfBySync (s.chan c.val).sig.signal = true ∧ (s.chan c.val).half = true)) := by
    simp [hs, hb]
  simp only [exec, execPolarityReport]
  exact done_congr ((if_neg hopen).trans (if_pos hh))

/-- A report that contradicts the polarity resolved is a half-cycle slip (R128). -/
theorem exec_polarityReport_contradicts {s u : State} {c : Fin 288} {i : Bool} (hs : (s.chan c.val).state ≠ .free)
    (hh : (s.chan c.val).half = false) (hp : (s.chan c.val).polarity = some i)
    (hu : u = State.setChan c.val { s.chan c.val with polarity := some (!i) } { s with out := [] })
    (hpend : (u.halfSlip c.val 2).pending = s.pending) : exec (.polarityReport c (!i)) s = .next (u.halfSlip c.val 2) := by
  have hopen : ¬ ((s.chan c.val).state = .free ∨ (halfBySync (s.chan c.val).sig.signal = true ∧ (s.chan c.val).half = true)) := by
    simp [hs, hh]
  have hdiff : i ≠ !i := by simp
  subst hu
  simp only [exec, execPolarityReport]
  refine done_eq_next ((if_neg hopen).trans ((if_neg (Bool.not_eq_true _ ▸ hh)).trans ?_)) hpend
  rw [show (State.chan { s with out := [] } c.val).polarity = some i from hp]
  exact if_pos hdiff

/-- A write of TRK_CHc_CFG that keeps to R118, R119 and Table 5-3 waits for the channel's boundary (R139). -/
theorem exec_trkChCfgWrite_taken {s : State} {c : Fin 288} {v : Word} (hs : (s.chan c.val).state ≠ .free)
    (hok : chanCfgOk (s.chan c.val).sig (chanCfgOf v.toNat) = true) :
    exec (.trkChCfgWrite c v) s = done (fun u => u.setChan c.val { s.chan c.val with cfgNext := some (chanCfgOf v.toNat) }) s := by
  have hgood : ¬ ((s.chan c.val).state = .free ∨ chanCfgOk (s.chan c.val).sig (chanCfgOf v.toNat) = false) := by simp [hs, hok]
  simp only [exec, execTrkChCfgWrite]
  exact done_congr (congrArg Prod.snd (if_neg hgood))

/-- The end of PULLIN_MAX in PULL_IN: the channel is lost, counted and recorded, and queues its reacquisition (R124, R125). -/
theorem exec_pullinFailed {s b : State} {c : Fin 288}
    (hb : b = State.atLeast ((s.chan c.val).entered + 10000000 * s.trk.pullinMax) { s with out := [] })
    (hs : (s.chan c.val).state = .pullIn) :
    exec (.pullinFailed c) s = done (fun _ =>
      (State.report 0x0201 [(2, c.val), (1, (s.chan c.val).sig.system), (1, (s.chan c.val).sig.sv), (1, (s.chan c.val).sig.signal)]
        { b.freeChan c.val with trk.pullinFailed := incr b.trk.pullinFailed, trk.events := (b.freeChan c.val).trk.events ||| 1#32 }).reacquire
        c.val (s.chan c.val)) s := by
  subst hb
  simp only [exec, execPullinFailed]
  exact done_congr (if_pos hs)

/-- The end of COAST_MAX in COAST: the channel is lost and recorded, and queues its reacquisition (R124, R125). -/
theorem exec_chDropped {s b : State} {c : Fin 288}
    (hb : b = State.atLeast ((s.chan c.val).entered + 100000000 * s.trk.coastMax) { s with out := [] })
    (hs : (s.chan c.val).state = .coast) :
    exec (.chDropped c) s = done (fun _ =>
      (State.report 0x0203 [(2, c.val), (1, (s.chan c.val).sig.signal), (1, (0 : Nat))]
        { b.freeChan c.val with trk.events := (b.freeChan c.val).trk.events ||| 4#32 }).reacquire c.val (s.chan c.val)) s := by
  have hcoast : (b.chan c.val).state = .coast := by rw [hb]; exact hs
  have hdrop : b.dropChan c.val 0 = State.report 0x0203 [(2, c.val), (1, (s.chan c.val).sig.signal), (1, (0 : Nat))]
      { b.freeChan c.val with trk.events := (b.freeChan c.val).trk.events ||| 4#32 } := by
    rw [State.dropChan]
    dsimp only
    rw [if_pos hcoast, hb]
    rfl
  rw [← hdrop]
  subst hb
  simp only [exec, execChDropped]
  exact done_congr (if_pos hs)

/-- The one request kept is submitted again within its time, carried on to this instant, unless another signal of its satellite is locked
(R125). -/
theorem exec_reacqRequeue_of_single {s : State} {q : SearchReq} {w i : Nat} (hq : s.trk.requeue = [(q, w, i)]) :
    exec .reacqRequeue s = done (fun _ =>
      if s.trk.channels.any (fun c => (decide (c.2.state = ChanState.locked) || decide (c.2.state = ChanState.synced)) && sameSat c.2.sig q.sig) ||
          decide (w < s.ns) then { s with out := [], trk.requeue := [] }
      else State.submitReacq (q.carried (s.ns - i)) w { s with out := [], trk.requeue := [] }) s := by
  simp only [exec, execReacqRequeue]
  refine done_congr ?_
  rw [show ({ s with out := [] } : State).trk.requeue = [(q, w, i)] from hq]
  rfl

/-- Settles O21: each command sets its channel, or loses it and queues its reacquisition, which the idle Lake takes in slot 0. -/
theorem channelsTrack : Obligations.ChannelsTrack := by
  unfold Obligations.ChannelsTrack
  refine ⟨?assistEnds, ?contradicted, ?resolved, ?settings, ?refused, ?pullinFailed, ?dropped, ?expired, ?carried⟩
  case assistEnds =>
    intro s c hs ht
    have hv : ({ s.chan c.val with fll := false } : Channel) ≠ Channel.reset := Channel.ne_reset_of_state (by simp [hs])
    exact ⟨_, done_eq_next (if_pos hs) rfl, State.chan_setChan_same hv c.val _, fun _ hk => State.chan_setChan_other hv hk _,
      State.le_atLeast_ns ht { s with out := [] }, rfl⟩
  case contradicted =>
    intro s c i hs hh hp
    have hv : ({ s.chan c.val with polarity := some (!i) } : Channel) ≠ Channel.reset := Channel.ne_reset_of_state hs
    obtain ⟨u, hu⟩ : ∃ u, u = State.setChan c.val { s.chan c.val with polarity := some (!i) } { s with out := [] } := ⟨_, rfl⟩
    have hchan : u.chan c.val = { s.chan c.val with polarity := some (!i) } := by rw [hu]; exact State.chan_setChan_same hv c.val _
    obtain ⟨hown, hothers, hslips, hhalf, hframe⟩ := State.halfSlip_eq (s := u) 2 (by rw [hchan]; exact hs)
    refine ⟨_, exec_polarityReport_contradicts hs hh hp hu (by rw [hframe, hu]; rfl), by rw [hown, hchan], ?_, ?_,
      fun k hk => (hothers k hk).trans ?_, ?_⟩
    · rw [hslips, hu]; rfl
    · rw [hhalf, hu]; rfl
    · rw [hu]; exact State.chan_setChan_other hv hk _
    · rw [hframe, hu]; rfl
  case resolved =>
    intro s c i hs hb hh
    rw [exec_polarityReport_resolves i hs hb hh]
    exact done_setChan hs
  case settings =>
    intro s c v hs hok
    rw [exec_trkChCfgWrite_taken hs hok]
    exact done_setChan hs
  case refused =>
    intro s c v h
    simp only [exec, execTrkChCfgWrite]
    exact done_eq_next (congrArg Prod.snd (if_pos h)) rfl
  case pullinFailed =>
    intro s b c hb hs hwf hslots hfifo hclk hready hrange hsig hjam halone
    have hre : Reacquirable c.val (s.chan c.val) b := by
      subst hb; exact ⟨hwf, hslots, hfifo, hclk, hready, hrange, hsig, hjam, halone⟩
    rw [exec_pullinFailed hb hs]
    obtain ⟨t, hexec, hown, hothers, htrk, htaken⟩ := done_reacquire hb hre (channelLost_report c.val hre.slots _ _ _ _)
    refine ⟨t, hexec, hown, hothers, ?_, ?_, htaken⟩
    · rw [htrk, State.report_trk, hb]; rfl
    · rw [htrk, State.report_trk, State.freeChan_of_no_slot _ hre.slots, hb]; rfl
  case dropped =>
    intro s b c hb hs hwf hslots hfifo hclk hready hrange hsig hjam halone
    have hre : Reacquirable c.val (s.chan c.val) b := by
      subst hb; exact ⟨hwf, hslots, hfifo, hclk, hready, hrange, hsig, hjam, halone⟩
    rw [exec_chDropped hb hs]
    obtain ⟨t, hexec, hown, hothers, htrk, htaken⟩ :=
      done_reacquire hb hre (channelLost_report c.val hre.slots (b.freeChan c.val).trk.pullinFailed _ _ _)
    refine ⟨t, hexec, hown, hothers, ?_, htaken⟩
    rw [htrk, State.report_trk, State.freeChan_of_no_slot _ hre.slots, hb]; rfl
  case expired =>
    intro s q w i hq hw
    rw [exec_reacqRequeue_of_single hq]
    exact done_eq_next (if_pos (by simp [hw])) rfl
  case carried =>
    intro s q w i hq hw hchan hnone hslots hfifo hclk hready
    have hsubmit := State.submitReacq_of_idle (s := { s with out := [], trk.requeue := [] }) w hnone hclk hready hslots hfifo
    have hown := State.slot_setSlot_same (LakeSlot.searching_ne_reset (q.carried (s.ns - i)) s.ns) 0 { s with out := [], trk.requeue := [] }
    rw [exec_reacqRequeue_of_single hq]
    exact ⟨_, done_eq_next ((if_neg (by simp [hchan, hw])).trans hsubmit) rfl, congrArg LakeSlot.state hown, congrArg LakeSlot.req hown, rfl, rfl⟩

end Sys2Proof.Machine
end

section
/-! PROOF. The loop objects' boundaries (R129, R133) where the table of loop objects is not in canonical form. -/

namespace Sys2Proof.Machine

/-- The clock servo tracks; the table of loop objects lists object 577, which counts the periods of object 576, twice. -/
def outerListedTwice : State :=
  { clk.gnss := true, cfg := { image := none }, time.servo := .tracking, loop.objects := [(577, { inner := 0 }), (577, { inner := 5 })] }

/-- At its boundary object 576 has nothing due and computes from its input. -/
theorem exec_loopPeriodBoundary_outerListedTwice :
    exec (.loopPeriodBoundary 576 0) outerListedTwice = .next
      { State.compute 576 0 (State.mark (markLoop 0) perSec { outerListedTwice with out := [] }) with pending := outerListedTwice.pending } := rfl

/-- The period counted is object 577's first, which an unlisted object has counted too: the first entry goes, and the second shows. -/
theorem inner_compute_outerListedTwice :
    (State.obj { State.compute 576 0 (State.mark (markLoop 0) perSec { outerListedTwice with out := [] }) with
      pending := outerListedTwice.pending } 577).inner = 5 := by
  decide

/-- Refutes O22: the boundary of object 576 is stated for every table of loop objects, also for one that is not in canonical form. Where it
lists object 577 twice, first with no inner period counted, the count becomes 1, which is the unlisted object's: its entry is not kept, and
object 577 reads as the second entry. -/
theorem not_intervalsAndLoops : ¬ Obligations.IntervalsAndLoops := by
  unfold Obligations.IntervalsAndLoops
  rintro ⟨-, -, -, -, -, hboundary, -⟩
  obtain ⟨t, hexec, -, -, -, -, -, hinner, -⟩ :=
    hboundary outerListedTwice _ 0 (by decide) (by decide) (by decide) (by decide) (by decide) (by decide) rfl
  cases Host.Outcome.next.inj (exec_loopPeriodBoundary_outerListedTwice.symm.trans hexec)
  exact absurd (inner_compute_outerListedTwice.symm.trans hinner) (by decide)

end Sys2Proof.Machine
end

section
/-! PROOF. The audits of the robots' positions (R169, R170, R219). -/

namespace Sys2Proof.Machine

/-- A session that is not FREE is in use. -/
theorem RadioSess.ne_default_of_state {v : RadioSess} (h : v.state ≠ 0) : v ≠ {} := fun hv => h (by rw [hv])

/-- A session in use reads as set, whatever form the table is in. -/
theorem State.rs_setRs_same {v : RadioSess} (hv : v.state ≠ 0) (n : Nat) (s : State) : (s.setRs n v).rs n = v :=
  Tab.get_set_same_of_ne (RadioSess.ne_default_of_state hv) n s.fleet.sessions

/-- Every other session then reads as before. -/
theorem State.rs_setRs_other {v : RadioSess} (hv : v.state ≠ 0) {n k : Nat} (hk : k ≠ n) (s : State) : (s.setRs n v).rs k = s.rs k :=
  Tab.get_set_other_of_ne (RadioSess.ne_default_of_state hv) hk s.fleet.sessions

@[simp] theorem State.rs_report (n code : Nat) (data : List (Nat × Int)) (s : State) : (s.report code data).rs n = s.rs n := by
  rw [State.rs, State.report_fleet, State.rs]

/-- Session `n` has the audit state `a` and is else as it was, as is every other; beside the sessions only MEAS and the recorder change. -/
structure AuditSet (n : Nat) (a : AuditState) (s t : State) : Prop where
  own : t.rs n = { s.rs n with audit := a }
  others : ∀ k, k ≠ n → t.rs k = s.rs k
  frame : { t with fleet.sessions := s.fleet.sessions, mreg := s.mreg, rcd := s.rcd } = s

/-- An audit state set is one, whatever MEAS comes to. -/
theorem State.auditSet_setRs {n : Nat} {s : State} (hs : (s.rs n).state ≠ 0) (a : AuditState) (m : MeasRegs) :
    AuditSet n a s { s.setRs n { s.rs n with audit := a } with mreg := m } :=
  ⟨State.rs_setRs_same (v := { s.rs n with audit := a }) hs n s,
    fun _ hk => State.rs_setRs_other (v := { s.rs n with audit := a }) hs hk s, rfl⟩

theorem AuditSet.trans {n : Nat} {a b : AuditState} {s t u : State} (h : AuditSet n a s t) (g : AuditSet n b t u) : AuditSet n b s u where
  own := by rw [g.own, h.own]
  others k hk := (g.others k hk).trans (h.others k hk)
  frame := by rw [← h.frame, ← g.frame]

theorem AuditSet.report {n : Nat} {a : AuditState} {s t : State} (h : AuditSet n a s t) (code : Nat) (data : List (Nat × Int)) :
    AuditSet n a s (t.report code data) where
  own := by rw [State.rs_report, h.own]
  others k hk := by rw [State.rs_report, h.others k hk]
  frame := by rw [State.report_eq]; exact h.frame

/-- Audit hold is entered with its cause (R170). -/
theorem State.auditHold_spec {n : Nat} (cause : Nat) {s : State} (hs : (s.rs n).state ≠ 0) :
    AuditSet n { (s.rs n).audit with hold := true, cause := cause } s (s.auditHold n cause) ∧
      (s.auditHold n cause).mreg = { s.mreg with events := s.mreg.events ||| 256#32 } := by
  refine ⟨(State.auditSet_setRs hs _ _).report .., ?_⟩
  rw [State.auditHold, State.report_mreg]
  rfl

/-- The audit state after a PASS in second `sec` (R170). -/
def AuditState.passed (sec : Nat) (a : AuditState) : AuditState :=
  { a with hold := false, cause := 0, fails := 0, result := 1, conclusive := some sec }

/-- The audit state after a FAIL in second `sec`, before any hold (R170). -/
def AuditState.failed (sec : Nat) (a : AuditState) : AuditState :=
  { a with fails := min 2 (a.fails + 1), result := 2, conclusive := some sec }

theorem State.auditPass_spec {n : Nat} {s : State} (hs : (s.rs n).state ≠ 0) :
    AuditSet n ((s.rs n).audit.passed (secOf s.now)) s (s.auditPass n) ∧
      (s.auditPass n).mreg = { s.mreg with auditPass := s.mreg.auditPass + 1#32 } := by
  have hset := State.auditSet_setRs hs ((s.rs n).audit.passed (secOf s.now)) { s.mreg with auditPass := s.mreg.auditPass + 1#32 }
  rw [State.auditPass]
  dsimp only
  split
  · exact ⟨hset.report .., State.report_mreg ..⟩
  · exact ⟨hset, rfl⟩

theorem State.auditOther_spec {n : Nat} (result : Nat) {s : State} (hs : (s.rs n).state ≠ 0) :
    AuditSet n { (s.rs n).audit with result := result } s (s.auditOther n result) ∧
      (s.auditOther n result).mreg = { s.mreg with auditOther := s.mreg.auditOther + 1#32 } :=
  ⟨State.auditSet_setRs hs _ _, rfl⟩

/-- A FAIL, counted (R170): one after another is held. -/
theorem State.auditFail_spec {n : Nat} (b : Baseline) {s : State} (hs : (s.rs n).state ≠ 0) :
    ∃ a, AuditSet n a s (s.auditFail n b) ∧ a.result = 2 ∧ a.fails = min 2 ((s.rs n).audit.fails + 1) ∧ a.conclusive = some (secOf s.now) ∧
      a.hold = ((s.rs n).audit.hold || decide (1 ≤ (s.rs n).audit.fails)) ∧ (s.auditFail n b).mreg.auditFail = s.mreg.auditFail + 1#32 := by
  have hset := (State.auditSet_setRs hs ((s.rs n).audit.failed (secOf s.now))
    { s.mreg with auditFail := s.mreg.auditFail + 1#32, events := s.mreg.events ||| 128#32 }).report 0x040A
      [(1, n), (4, ssat 32 b.east), (4, ssat 32 b.north), (4, ssat 32 b.up)]
  rw [State.auditFail]
  dsimp only
  split
  next hheld =>
    obtain ⟨hagain, hmreg⟩ := State.auditHold_spec 0 (by rw [hset.own]; exact hs)
    refine ⟨_, hset.trans hagain, ?_, ?_, ?_, ?_, (congrArg MeasRegs.auditFail hmreg).trans (by rw [State.report_mreg])⟩
    · rw [hset.own]; rfl
    · rw [hset.own]; rfl
    · rw [hset.own]; rfl
    · obtain ⟨htwo, -⟩ := hheld
      have hfails : 1 ≤ (s.rs n).audit.fails := by omega
      rw [hset.own]
      simp [hfails]
  next hfree =>
    refine ⟨_, hset, rfl, rfl, rfl, ?_, by rw [State.report_mreg]; rfl⟩
    show (s.rs n).audit.hold = _
    by_cases hh : (s.rs n).audit.hold = true
    · simp [hh]
    · have : ¬ 1 ≤ (s.rs n).audit.fails := fun hf => hfree ⟨by omega, .inl (by simpa using hh)⟩
      simp [hh, this]

/-- What AUDIT_EVALUATE leaves of session `n` before the judgement: the snapshot is spent, its epoch noted as evaluated (R219). -/
def RadioSess.snapSpent (k : Nat) (r : RadioSess) : RadioSess :=
  { r with snap := none, audit := { r.audit with seen := (k :: r.audit.seen.filter (fun j => decide (j ≠ k))).take 120 } }

/-- The state in which the snapshot `v` of session `n` is judged. -/
def State.spendSnap (n : Nat) (v : AuditSnap) (s : State) : State :=
  { s.setRs n ((s.rs n).snapSpent (fullSecond (secOf s.now) v.epoch)) with out := [] }

theorem State.spendSnap_own {n : Nat} (v : AuditSnap) {s : State} (hs : (s.rs n).state ≠ 0) :
    (s.spendSnap n v).rs n = (s.rs n).snapSpent (fullSecond (secOf s.now) v.epoch) :=
  State.rs_setRs_same (v := (s.rs n).snapSpent (fullSecond (secOf s.now) v.epoch)) hs n s

theorem State.spendSnap_others {n : Nat} (v : AuditSnap) {s : State} (hs : (s.rs n).state ≠ 0) {m : Nat} (hm : m ≠ n) :
    (s.spendSnap n v).rs m = s.rs m :=
  State.rs_setRs_other (v := (s.rs n).snapSpent (fullSecond (secOf s.now) v.epoch)) hs hm s

/-- The session stays in use, and its class stands. -/
theorem State.spendSnap_state {n : Nat} (v : AuditSnap) {s : State} (hs : (s.rs n).state ≠ 0) : ((s.spendSnap n v).rs n).state ≠ 0 := by
  rw [State.spendSnap_own v hs]
  exact hs

theorem State.spendSnap_sessClass {n : Nat} (v : AuditSnap) {s : State} (hs : (s.rs n).state ≠ 0) :
    (s.spendSnap n v).sessClass n = s.sessClass n := by
  rw [State.sessClass, State.spendSnap_own v hs]
  rfl

/-- A complete snapshot at a lead is spent, and judged unless its epoch was evaluated before. -/
theorem exec_auditEvaluate {s : State} {n : Fin 256} {v : AuditSnap} (sats : List SatState) (hl : s.isLead = true) (hs : (s.rs n.val).state ≠ 0)
    (hv : (s.rs n.val).snap = some v) (hc : v.complete = true) :
    exec (.auditEvaluate n sats) s = done (fun _ =>
      if (s.rs n.val).audit.seen.contains (fullSecond (secOf s.now) v.epoch) then s.spendSnap n.val v
      else (s.spendSnap n.val v).judgeAudit n.val sats v
        (s.meas.ring.find? (fun (x : RingEntry) => decide (x.second = fullSecond (secOf s.now) v.epoch)))) s := by
  have hgo : ¬ ((!s.isLead) = true ∨ (s.rs n.val).state = 0 ∨ v.complete = false) := by simp [hl, hs, hc]
  simp only [exec, execAuditEvaluate]
  refine done_congr ?_
  rw [show (State.rs n.val { s with out := [] }).snap = some v from hv]
  exact if_neg hgo

/-- What a judgement that sets the audit state `a` leaves of a state whose snapshot is not yet spent. -/
theorem exec_auditEvaluate_judged {s t : State} {n : Fin 256} {v : AuditSnap} {sats : List SatState} {e : Option RingEntry} {a : AuditState}
    (hl : s.isLead = true) (hs : (s.rs n.val).state ≠ 0) (hv : (s.rs n.val).snap = some v) (hc : v.complete = true)
    (hseen : (s.rs n.val).audit.seen.contains (fullSecond (secOf s.now) v.epoch) = false)
    (he : s.meas.ring.find? (fun (x : RingEntry) => decide (x.second = fullSecond (secOf s.now) v.epoch)) = e)
    (hj : (s.spendSnap n.val v).judgeAudit n.val sats v e = t) (h : AuditSet n.val a (s.spendSnap n.val v) t) :
    exec (.auditEvaluate n sats) s = .next t ∧ (t.rs n.val).snap = none ∧ (t.rs n.val).audit = a ∧ (∀ m, m ≠ n.val → t.rs m = s.rs m) ∧
      { t with fleet.sessions := s.fleet.sessions, mreg := s.mreg, rcd := s.rcd } = { s with out := [] } := by
  have hframe : { t with fleet.sessions := s.fleet.sessions, mreg := s.mreg, rcd := s.rcd } = { s with out := [] } :=
    congrArg (fun u : State => { u with fleet.sessions := s.fleet.sessions }) h.frame
  refine ⟨?_, ?_, congrArg RadioSess.audit h.own, fun m hm => (h.others m hm).trans (State.spendSnap_others v hs hm), hframe⟩
  · rw [exec_auditEvaluate sats hl hs hv hc, hseen, he]
    exact done_eq_next ((if_neg Bool.false_ne_true).trans hj) (congrArg State.pending hframe :)
  · rw [h.own, State.spendSnap_own v hs]
    rfl

/-- The judgement over an entry of the ring that is valid and has six satellites (Table 6-10). -/
theorem State.judgeAudit_of_valid {n : Nat} {sats : List SatState} {v : AuditSnap} {e : RingEntry} {b : Baseline} {h w : Nat} {s : State}
    (he : e.valid = true) (hn : 6 ≤ (satellites (e.obs.filter (·.published))).length) (hb : b = baselineOf s.basePos sats v e.obs)
    (hh : h = (s.classRec (s.sessClass n)).elim 0 (·.auditH)) (hw : w = (s.classRec (s.sessClass n)).elim 0 (·.auditV)) :
    s.judgeAudit n sats v (some e) =
      if b.common < 6 ∨ b.ratio < 30 then s.auditOther n 3
      else if (b.east * b.east + b.north * b.north).toNat ≤ h * h ∧ b.up.natAbs ≤ w then s.auditPass n else s.auditFail n b := by
  subst hb hh hw
  exact if_neg (by simpa [he] using hn)

/-- Three audit periods after the last conclusive result the session is held (R170). -/
theorem exec_auditOverdue {s : State} {n : Fin 256} {c : ClassRec} (hl : s.isLead = true) (hs : (s.rs n.val).state ≠ 0)
    (hh : (s.rs n.val).audit.hold = false) (hc : s.classRec (s.sessClass n.val) = some c) (hp : c.auditPeriod ≠ 0) :
    exec (.auditOverdue n) s = done (fun u =>
      (u.reach (perSec * (((s.rs n.val).audit.conclusive.getD 0) + 3 * c.auditPeriod))).auditHold n.val 1) s := by
  have hgo : ¬ ((!s.isLead) = true ∨ (s.rs n.val).state = 0 ∨ (s.rs n.val).audit.hold = true ∨ c.auditPeriod = 0) := by simp [hl, hs, hh, hp]
  simp only [exec, execAuditOverdue]
  refine done_congr ?_
  rw [show State.classRec (State.sessClass n.val { s with out := [] }) { s with out := [] } = some c from hc]
  exact if_neg hgo

/-- An incomplete snapshot goes 10 s after it began; a complete one stays (R219). -/
theorem exec_auditSnapshotDiscard {s : State} {n : Fin 256} {v : AuditSnap} (hv : (s.rs n.val).snap = some v) :
    exec (.auditSnapshotDiscard n) s = done (fun u =>
      if v.complete = false then (u.reach (10 * perSec + v.began)).setRs n.val { s.rs n.val with snap := none } else u) s := by
  simp only [exec, execAuditSnapshotDiscard]
  refine done_congr ?_
  rw [show (State.rs n.val { s with out := [] }).snap = some v from hv]
  rfl

/-- Settles O23: a result sets the session's audit state alone, and each clause is one result. -/
theorem positionAudits : Obligations.PositionAudits := by
  unfold Obligations.PositionAudits
  refine ⟨?judged, ?stale, ?ignored, ?overdue, ?discarded, ?kept⟩
  case judged =>
    intro s n sats v e b h w hl hs hv hc he hvalid hsix hseen hb hh hw
    have hclass := State.spendSnap_sessClass v hs
    have hus := State.spendSnap_state v hs
    have hown := State.spendSnap_own v hs
    have hjudge := State.judgeAudit_of_valid (n := n.val) (s := s.spendSnap n.val v) (b := b) (h := h) (w := w) hvalid hsix hb
      (by rw [hclass]; exact hh) (by rw [hclass]; exact hw)
    by_cases hopen : b.common < 6 ∨ b.ratio < 30
    · obtain ⟨hset, hreg⟩ := State.auditOther_spec 3 hus
      obtain ⟨hexec, hsnap, haudit, hframes⟩ :=
        exec_auditEvaluate_judged hl hs hv hc hseen he (hjudge.trans (if_pos hopen)) hset
      refine ⟨_, hexec, hsnap, ?_, ?_, ?_, fun _ => ?_, hframes⟩ <;> rw [haudit]
      · rw [if_pos hopen]
      · simp
      · simp
      · rw [hown]; exact ⟨rfl, rfl, hreg⟩
    by_cases hpass : (b.east * b.east + b.north * b.north).toNat ≤ h * h ∧ b.up.natAbs ≤ w
    · obtain ⟨hset, hreg⟩ := State.auditPass_spec hus
      obtain ⟨hexec, hsnap, haudit, hframes⟩ :=
        exec_auditEvaluate_judged hl hs hv hc hseen he (hjudge.trans ((if_neg hopen).trans (if_pos hpass))) hset
      refine ⟨_, hexec, hsnap, ?_, fun _ => ?_, ?_, ?_, hframes⟩ <;> rw [haudit]
      · rw [if_neg hopen, if_pos hpass]; rfl
      · exact ⟨rfl, rfl, rfl, hreg⟩
      · simp [AuditState.passed]
      · simp [AuditState.passed]
    · obtain ⟨a, hset, hresult, hfails, hconclusive, hhold, hreg⟩ := State.auditFail_spec b hus
      obtain ⟨hexec, hsnap, haudit, hframes⟩ :=
        exec_auditEvaluate_judged hl hs hv hc hseen he (hjudge.trans ((if_neg hopen).trans (if_neg hpass))) hset
      rw [hown] at hfails hhold
      refine ⟨_, hexec, hsnap, ?_, ?_, fun _ => ?_, ?_, hframes⟩ <;> rw [haudit]
      · rw [if_neg hopen, if_neg hpass, hresult]
      · simp [hresult]
      · exact ⟨hhold, hfails, hconclusive, hreg⟩
      · simp [hresult]
  case stale =>
    intro s n sats v hl hs hv hc hring hseen
    have hnone : s.meas.ring.find? (fun (x : RingEntry) => decide (x.second = fullSecond (secOf s.now) v.epoch)) = none :=
      List.find?_eq_none.mpr fun x hx => by simpa using hring x hx
    obtain ⟨hset, hreg⟩ := State.auditOther_spec 5 (State.spendSnap_state v hs)
    obtain ⟨hexec, hsnap, haudit, hframes⟩ := exec_auditEvaluate_judged (sats := sats) hl hs hv hc hseen hnone rfl hset
    rw [State.spendSnap_own v hs] at haudit
    exact ⟨_, hexec, by rw [haudit], by rw [haudit]; rfl, by rw [haudit]; rfl, hsnap, hreg, hframes⟩
  case ignored =>
    intro s n sats v hl hs hv hc hseen
    have hown := State.spendSnap_own v hs
    rw [exec_auditEvaluate sats hl hs hv hc, hseen]
    exact ⟨_, done_eq_next (if_pos rfl) rfl, by rw [hown]; rfl, by rw [hown]; rfl, by rw [hown]; rfl, by rw [hown]; rfl,
      fun k hk => State.spendSnap_others v hs hk, rfl⟩
  case overdue =>
    intro s n c hl hs hh hc hp
    obtain ⟨hset, hreg⟩ := State.auditHold_spec 1
      (s := State.reach (perSec * (((s.rs n.val).audit.conclusive.getD 0) + 3 * c.auditPeriod)) { s with out := [] }) hs
    have hframe := congrArg (fun u : State => { u with time.frc := s.time.frc }) hset.frame
    rw [exec_auditOverdue hl hs hh hc hp]
    exact ⟨_, done_eq_next rfl (congrArg State.pending hframe :), congrArg RadioSess.audit hset.own, hreg, hset.others, hframe⟩
  case discarded =>
    intro s n v hs hv hc
    rw [exec_auditSnapshotDiscard hv]
    exact ⟨_, done_eq_next (if_pos hc) rfl, State.rs_setRs_same (v := { s.rs n.val with snap := none }) hs n.val _,
      fun k hk => State.rs_setRs_other (v := { s.rs n.val with snap := none }) hs hk _, rfl⟩
  case kept =>
    intro s n v hv hc
    rw [exec_auditSnapshotDiscard hv]
    exact done_eq_next (if_neg (by simp [hc])) rfl

end Sys2Proof.Machine
end

section
/-! SUPPORT. Entries that are served, and broadcast frames (R203, R204, R207, R224): what serving an entry and sending a frame change. -/

namespace Sys2Proof.Machine

/-- An entry that is served acts at its instant. -/
theorem State.serveEntry_served {i kind : Nat} {ofs : Int} {e : DeckEntry} {b t : Nat} {s : State} (h : entryServed i kind ofs e b s)
    (ht : ((b : Int) + ofs).toNat = t) (f : DeckEntry → Nat → State → State) :
    s.serveEntry i kind ofs f = f e b (s.serveAt (entryMark i kind) t) := by
  subst ht
  obtain ⟨hs, hr, hn, hfrom, -, -, hw, hready⟩ := h
  have hwake : s.wakeFor i b = s := if_pos hw
  have hgo : ¬ (b < s.rad.serveFrom ∨ s.radioReadyBy i b = false) := by simp [hfrom, hready]
  simp only [State.serveEntry, hs, hr, hn, hwake, Bool.not_true, Bool.false_eq_true, or_self, if_false]
  exact if_neg hgo

/-- In `u` a command of state `s` acts on the entry `e` at `b`: time has run on to `t`, what was sent before is gone, nothing is injected. -/
structure EntryReached (i kind : Nat) (ofs : Int) (e : DeckEntry) (b t : Nat) (s u : State) : Prop where
  run : ∀ f, State.serveEntry i kind ofs f { s with out := [] } = f e b u
  clear : ∀ sends, u.entryInjection i sends = u
  frc : u.time.frc = (s.reach t).time.frc
  frame : u = { s with out := [], time.frc := u.time.frc, time.marks := u.time.marks }

/-- An entry that is served is reached. -/
theorem entryReached_of_served {i kind : Nat} {ofs : Int} {e : DeckEntry} {b t : Nat} {s : State} (h : entryServed i kind ofs e b s)
    (ht : ((b : Int) + ofs).toNat = t) : ∃ u, EntryReached i kind ofs e b t s u := by
  refine ⟨State.serveAt (entryMark i kind) t { s with out := [] }, State.serveEntry_served (s := { s with out := [] }) h ht, fun sends => ?_,
    rfl, rfl⟩
  obtain ⟨-, -, -, -, hsynth, hpa, -, -⟩ := h
  have hsynth' : (State.serveAt (entryMark i kind) t { s with out := [] }).diag.synthFault ≠ some i := hsynth
  have hpa' : (State.serveAt (entryMark i kind) t { s with out := [] }).diag.paFault = none := hpa
  simp [State.entryInjection, hsynth', hpa']

/-- Neither the channel of an entry nor the leave to transmit depends on the instant. -/
theorem EntryReached.entryChannel {i kind : Nat} {ofs : Int} {e : DeckEntry} {b t : Nat} {s u : State} (h : EntryReached i kind ofs e b t s u) :
    u.entryChannel i e b = s.entryChannel i e b := by
  rw [h.frame]
  rfl

theorem EntryReached.onAirAllowed {i kind : Nat} {ofs : Int} {e : DeckEntry} {b t : Nat} {s u : State} (h : EntryReached i kind ofs e b t s u) :
    u.onAirAllowed = s.onAirAllowed := by
  rw [h.frame]
  rfl

/-- An instant reached and marked is one served. -/
theorem State.reach_marked (mark t : Nat) (s : State) :
    { s.reach t with time.marks := Tab.set 0 (s.reach t).time.marks mark (t + 1) } = s.serveAt mark t := rfl

/-- A sending key with a counter or a ceiling is in the table. -/
theorem State.sendKey_setSendKey {v : SendKey} (hv : v ≠ {}) (k : Nat) (s : State) : (s.setSendKey k v).sendKey k = v := by
  have hget : Tab.get {} (s.setSendKey k v).rad.keys k = v := Tab.get_set_same_of_ne hv k s.rad.keys
  simp [State.sendKey, hget, hv]

theorem State.viaduct_eq (kind : Nat) (content : List Octet) (s : State) :
    s.viaduct kind content = { s with out := (s.viaduct kind content).out } := by
  unfold State.viaduct
  split <;> rfl

/-- A sending key once its ceiling is raised: at a lead that mirrors a standby the raise waits for its acknowledgement (R224). -/
def SendKey.afterRaise (mirrors : Bool) (v : SendKey) : SendKey :=
  if v.ceiling < v.counter + 1024 ∧ v.raised = none then
    if mirrors then { v with raised := some (v.ceiling + 4096) } else { v with ceiling := v.ceiling + 4096 }
  else v

theorem State.sendKey_raiseCeiling (k : Nat) (s : State) :
    (s.raiseCeiling k).sendKey k = (s.sendKey k).afterRaise (s.paired && s.pair.mirrored) := by
  have hraised : ({ s.sendKey k with raised := some ((s.sendKey k).ceiling + 4096) } : SendKey) ≠ {} := by simp
  have hceiling : ({ s.sendKey k with ceiling := (s.sendKey k).ceiling + 4096 } : SendKey) ≠ {} := by simp
  by_cases hr : (s.sendKey k).ceiling < (s.sendKey k).counter + 1024 ∧ (s.sendKey k).raised = none
  · rw [SendKey.afterRaise, if_pos hr]
    by_cases hm : (s.paired && s.pair.mirrored) = true
    · have heq : s.raiseCeiling k = _ := (if_pos hr).trans (if_pos hm)
      rw [heq, if_pos hm, State.viaduct_eq]
      exact State.sendKey_setSendKey hraised k { s with rad.stored := Tab.set 0 s.rad.stored k ((s.sendKey k).ceiling + 4096) }
    · have heq : s.raiseCeiling k = _ := (if_pos hr).trans (if_neg hm)
      rw [heq, if_neg hm]
      exact State.sendKey_setSendKey hceiling k { s with rad.stored := Tab.set 0 s.rad.stored k ((s.sendKey k).ceiling + 4096) }
  · have heq : s.raiseCeiling k = s := if_neg hr
    rw [heq, SendKey.afterRaise, if_neg hr]

/-- The counter that a key gives depends on the key and on the mirroring alone. -/
theorem State.takeCounter_counter (i k : Nat) (s : State) : (s.takeCounter i k).1 =
    if 0xFFFFFFF0 ≤ ((s.sendKey k).afterRaise (s.paired && s.pair.mirrored)).counter ∨
        ((s.sendKey k).afterRaise (s.paired && s.pair.mirrored)).ceiling ≤ ((s.sendKey k).afterRaise (s.paired && s.pair.mirrored)).counter
      then none
    else some ((s.sendKey k).afterRaise (s.paired && s.pair.mirrored)).counter := by
  unfold State.takeCounter
  dsimp only
  rw [State.sendKey_raiseCeiling]
  split <;> rfl

/-- What taking a counter on RADIO_A leaves alone (R224): RADIO_B, RADIO_A but for its events, and all beside the radios, the pair and what is
recorded and sent. -/
structure CounterTaken (s t : State) : Prop where
  own : t.rad.a = { s.rad.a with events := t.rad.a.events }
  other : t.rad.b = s.rad.b
  frame : t = { s with rad := t.rad, pair := t.pair, rcd := t.rcd, out := t.out }

theorem State.raiseCeiling_taken (k : Nat) (s : State) : CounterTaken s (s.raiseCeiling k) := by
  unfold State.raiseCeiling
  dsimp only
  split_ifs
  · rw [State.viaduct_eq]
    exact ⟨rfl, rfl, rfl⟩
  · exact ⟨rfl, rfl, rfl⟩
  · exact ⟨rfl, rfl, rfl⟩

theorem State.takeCounter_taken (k : Nat) (s : State) : CounterTaken s (s.takeCounter 0 k).2 := by
  obtain ⟨hown, hother, hframe⟩ := s.raiseCeiling_taken k
  unfold State.takeCounter
  dsimp only
  generalize s.raiseCeiling k = u at *
  split_ifs
  · exact ⟨hown, hother, hframe⟩
  · rw [State.radReport, State.report_eq]
    exact ⟨congrArg (fun r : Radio => { r with events := u.rad.a.events ||| BitVec.ofNat 32 (2 ^ 6) }) hown, hother, by rw [hframe]; rfl⟩
  · exact ⟨hown, hother, by rw [hframe]; rfl⟩

/-- A frame that RADIO_A sent last: its channel, start, counter and payload; it is counted, RADIO_B and all beside the radios, the pair and
what is recorded and sent are as they were. -/
structure FrameSent (ch b c : Nat) (payload : List Octet) (s t : State) : Prop where
  sent : ∃ a, t.out.getLast? = some (.air a) ∧ a.radio = 0 ∧ a.start = b ∧ a.channel = ch ∧ a.counter = c ∧ a.payload = payload
  cntTx : t.rad.a.cntTx = s.rad.a.cntTx + 1#32
  cntStop : t.rad.a.cntStop = s.rad.a.cntStop
  other : t.rad.b = s.rad.b
  frame : t = { s with rad := t.rad, pair := t.pair, rcd := t.rcd, out := t.out }

/-- A frame sent in an entry that is reached leaves all but the radios, the pair, time and what is recorded and sent. -/
theorem FrameSent.beside {i kind ch b c m : Nat} {ofs : Int} {e : DeckEntry} {payload : List Octet} {s u t : State}
    (h : FrameSent ch b c payload u t) (hu : EntryReached i kind ofs e b m s u) :
    t = { s with time := t.time, rad := t.rad, pair := t.pair, rcd := t.rcd, out := t.out } := by
  rw [h.frame, hu.frame]

/-- Under a plan that limits no air time every use of it is allowed (R203). -/
theorem State.airAllowed_unlimited {i : Nat} {s : State} (h0 : (s.planRec i).elim 2 (·.band) ≠ 0) (h1 : (s.planRec i).elim 2 (·.band) ≠ 1)
    (ch kind t len : Nat) : s.airAllowed i ch kind t len = (true, s) := by
  have hnone : s.useAfter i ch t len = none := by
    unfold State.useAfter
    split
    next h => exact absurd h h0
    next h => exact absurd h h1
    next => rfl
  rw [State.airAllowed, hnone]

theorem State.useAir_unlimited {i : Nat} {s : State} (h0 : (s.planRec i).elim 2 (·.band) ≠ 0) (h1 : (s.planRec i).elim 2 (·.band) ≠ 1)
    (ch t len : Nat) : s.useAir i ch t len = s := by
  unfold State.useAir
  split
  next h => exact absurd h h0
  next h => exact absurd h h1
  next => rfl

/-- A broadcast that nothing holds goes on air with the counter that its key gives (R203, R204, R224). -/
theorem State.broadcast_sent {ch kind b stop c : Nat} {payload : List Octet} {s : State}
    (h : sendFree 0 (s.bcastKey 0) (10 + payload.length + 12) b stop c s) :
    (s.broadcast 0 ch kind payload b stop).1 = 0 ∧ FrameSent ch b c payload s (s.broadcast 0 ch kind payload b stop).2 := by
  obtain ⟨hair, hready, hfits, h0, h1, hcounter⟩ := h
  obtain ⟨hown, hother, hframe⟩ := s.takeCounter_taken (s.bcastKey 0)
  have hgo : ¬ ((!s.onAirAllowed) = true ∨ (!(s.radio 0).ready b) = true ∨ stop < b + perNs * s.airNs 0 (10 + payload.length + 12)) := by
    simp [hair, hready, hfits]
  simp only [State.broadcast, if_neg hgo, State.airAllowed_unlimited h0 h1, Bool.not_true, Bool.false_eq_true, if_false, State.broadcastNow,
    hcounter, true_and]
  generalize (State.takeCounter 0 (s.bcastKey 0) s).2 = u at *
  have hplan : u.planRec 0 = s.planRec 0 := by rw [hframe]; rfl
  rw [State.useAir_unlimited (hplan ▸ h0) (hplan ▸ h1)]
  exact ⟨⟨_, List.getLast?_concat, rfl, rfl, rfl, rfl, rfl⟩, (congrArg (fun r : Radio => r.cntTx + 1#32) hown :),
    (congrArg Radio.cntStop hown :), hother, by rw [hframe]; rfl⟩

/-- What a frame carries is measured: FSTOP's latencies and the recorder's registers change alone (R325). -/
theorem State.carried_eq (times : List Nat) (first : Nat) (s : State) :
    s.carried times first = { s with stop := (s.carried times first).stop, rcd := (s.carried times first).rcd } ∧
      (s.carried times first).stop.cellSince = s.stop.cellSince := by
  unfold State.carried
  split
  · exact ⟨rfl, rfl⟩
  · dsimp only
    split
    · rw [State.report_eq]
      exact ⟨rfl, rfl⟩
    · exact ⟨rfl, rfl⟩

/-- A frame that names all carries every stop: none waits for one any more. -/
theorem State.takeStops_carried (l : List Nat) (first : Nat) (s : State) :
    (s.takeStops true l).2.carried (s.takeStops true l).1 first =
        { s with stop := ((s.takeStops true l).2.carried (s.takeStops true l).1 first).stop
                 rcd := ((s.takeStops true l).2.carried (s.takeStops true l).1 first).rcd } ∧
      ((s.takeStops true l).2.carried (s.takeStops true l).1 first).stop.cellSince = none := by
  obtain ⟨hframe, hsince⟩ := State.carried_eq (s.takeStops true l).1 first (s.takeStops true l).2
  exact ⟨hframe, hsince⟩

/-- What sending needs does not depend on the instant that is reached, nor on what was sent before. -/
theorem EntryReached.sends {i kind n stop c : Nat} {ofs : Int} {e : DeckEntry} {b t : Nat} {s u : State}
    (h : EntryReached i kind ofs e b t s u) (hfree : sendFree i (s.bcastKey i) n b stop c s) : sendFree i (u.bcastKey i) n b stop c u := by
  obtain ⟨hair, hready, hfits, h0, h1, hcounter⟩ := hfree
  have hkey : u.bcastKey i = s.bcastKey i := by rw [h.frame]; rfl
  rw [hkey, h.frame]
  refine ⟨hair, hready, hfits, h0, h1, ?_⟩
  rw [State.takeCounter_counter] at hcounter ⊢
  exact hcounter

end Sys2Proof.Machine
end

section
/-! SUPPORT. A lead that becomes degraded (R23, R39), with a standby and without one. -/

namespace Sys2Proof.Machine

/-- A lead that becomes degraded outside a save restarts where a standby would take over; without one it stops every robot and holds (R23). -/
theorem State.degrade_of_lead (cause row : Nat) {s : State} (hm : s.sys.mode = .lead) (hd : s.sys.degraded = false) (hs : s.sys.saving = false) :
    s.degrade cause row = if s.hasStandby then (s.noteDegraded cause row).degradedRestart
      else ((s.noteDegraded cause row).setCell causeDegraded cause).setMode .hold 7 := by
  have hstandby : (s.noteDegraded cause row).hasStandby = s.hasStandby := by simp [State.hasStandby, State.paired, State.unitRec]
  unfold State.degrade
  rw [if_neg (by simp [hd, State.powered, hm])]
  dsimp only
  generalize hu : State.reportNow 0x000D _ _ = u
  obtain rfl : s.noteDegraded cause row = u := hu
  simp [hm, hs, hstandby, State.toMode_hold]

/-- The cause DEGRADED stands after it is set, also where it stood before. -/
theorem State.setCell_degraded_cause (source : Nat) {s : State} (hm : s.sys.mode ≠ .shadow) :
    bit (s.setCell causeDegraded source).cellSet causeDegraded = true := by
  by_cases h : bit s.cellSet causeDegraded = true
  · have hsame : s.setCell causeDegraded source = s := if_pos (.inl h)
    rw [hsame, h]
  · exact (State.setCell_stops source (by decide) hm (by simpa using h)).cause

/-- Noting the degradation changes SYS, the recorder and what is fed to it (R23). -/
theorem State.noteDegraded_eq (cause row : Nat) (s : State) :
    s.noteDegraded cause row = { s with
      sys := (s.noteDegraded cause row).sys, rcd := (s.noteDegraded cause row).rcd, ao.intake := (s.noteDegraded cause row).ao.intake
      diag.active := (s.noteDegraded cause row).diag.active } := by
  unfold State.noteDegraded
  rw [State.reportNow_eq]

/-- A lead without a standby that becomes degraded holds with the cause DEGRADED (R23); beside SYS, the fleet, FSTOP and what is recorded
nothing changes. -/
theorem State.degrade_holds (cause row : Nat) {s : State} (hm : s.sys.mode = .lead) (hd : s.sys.degraded = false) (hs : s.sys.saving = false)
    (hlone : s.hasStandby = false) :
    (s.degrade cause row).sys.mode = .hold ∧ (s.degrade cause row).sys.degraded = true ∧
      bit (s.degrade cause row).cellSet causeDegraded = true ∧
      BesideStops { s with sys := (s.degrade cause row).sys, ao := (s.degrade cause row).ao } (s.degrade cause row) := by
  rw [State.degrade_of_lead cause row hm hd hs, if_neg (by simp [hlone])]
  refine ⟨State.setMode_mode .., ?_, ?_, ?_⟩
  · rw [State.setMode_degraded, State.setCell_sys, State.noteDegraded_degraded]
  · rw [State.cellSet, State.setMode_fleet, State.setMode_stop]
    exact State.setCell_degraded_cause cause (by simp [hm])
  · obtain ⟨_, _, _, _, _, hcell⟩ := State.setCell_besideStops causeDegraded cause (s.noteDegraded cause row)
    rw [State.setMode_eq, hcell, State.noteDegraded_eq]
    exact ⟨_, _, _, _, _, rfl⟩

theorem State.diagStart_pending (s : State) : s.diagStart.pending = s.pending := by
  unfold State.diagStart
  split
  · dsimp only
    rw [State.report_pending]
    split
    · rfl
    · exact State.cancelInjection_pending s
  · rfl

theorem State.closeHost_pending (k cause : Nat) (s : State) : (s.closeHost k cause).pending = s.pending := by
  have hclose : ∀ u : State, (u.diagClose 0).pending = u.pending := fun u => by
    obtain ⟨_, _, _, _, _, h⟩ := u.diagClose_besideStops 0
    rw [h]
  unfold State.closeHost
  dsimp only
  split_ifs <;> simp [hclose]

/-- The queue of waiting commands stands through a restart (R44). -/
theorem State.restart_pending (cause : Nat) (s : State) : (s.restart cause).pending = s.pending := by
  rw [State.restart, State.enterStart_pending, State.flush_pending, State.drain_pending]
  exact State.each_keeps (fun t => t.pending = s.pending) _ (fun k t ht => (t.closeHost_pending k 3).trans ht) _ _
    ((State.diagStart_pending _).trans (State.releaseClaim_pending s))

/-- A lead whose standby would take over restarts with cause 0x04 and its claim released, up to the third time in succession (R23, R39). -/
theorem State.degrade_restarts (cause row : Nat) {s : State} (hm : s.sys.mode = .lead) (hd : s.sys.degraded = false) (hs : s.sys.saving = false)
    (hstandby : s.hasStandby = true) (hn : s.sys.succession < 3) :
    (s.degrade cause row).sys.mode = .start ∧ (s.degrade cause row).sys.cause = 4 ∧ (s.degrade cause row).pair.claim = false ∧
      (s.degrade cause row).keys = s.keys ∧ (s.degrade cause row).flash = s.flash ∧ (s.degrade cause row).pending = s.pending := by
  have hn' : (s.noteDegraded cause row).sys.succession < 3 := by simpa [State.noteDegraded] using hn
  rw [State.degrade_of_lead cause row hm hd hs, if_pos hstandby, State.degradedRestart, if_pos hn']
  obtain ⟨hmode, hcause, hclaim, -, hkeys, hflash, -⟩ := State.restart_spec (cause := 4) (by decide) (s.noteDegraded cause row)
  exact ⟨hmode, hcause, hclaim, by rw [hkeys, State.noteDegraded_keys], by rw [hflash, State.noteDegraded_flash],
    by rw [State.restart_pending, State.noteDegraded_pending]⟩

end Sys2Proof.Machine
end

section
/-! PROOF. The broadcast entries: beacon, STOP and CORR frames (R165, R204, R212, R214, R215, R235). -/

namespace Sys2Proof.Machine

theorem State.length_beaconHead (kind t : Nat) (s : State) : (s.beaconHead kind t).length = 8 := by
  simp [State.beaconHead]

/-- A beacon has 52 octets (Table 8-10): its kind first, the go bits from the eighth on. -/
theorem State.length_beaconPayload (t : Nat) (s : State) : (s.beaconPayload t).length = 52 := by
  simp [State.beaconPayload, State.length_beaconHead]

theorem State.beaconPayload_kind (t : Nat) (s : State) : getLe (s.beaconPayload t) 0 1 = 1 := rfl

theorem State.beaconPayload_go (t : Nat) (s : State) : ((s.beaconPayload t).drop 8).take 32 = leBytes 32 s.fleet.go.toNat := by
  simp only [State.beaconPayload, List.append_assoc]
  rw [List.drop_left' (s.length_beaconHead 1 t), List.take_left' (length_leBytes ..)]

/-- A beacon sent: its start is noted, the change map clears, and its bitmap is the one that stops are measured against (R212, R214). -/
theorem State.sendBeacon_sent {ch entry b stop c : Nat} {s : State} (h : sendFree 0 (s.bcastKey 0) 74 b stop c s) :
    ∃ r, FrameSent ch b c (s.beaconPayload b) s r ∧ (s.sendBeacon ch entry b stop).stop.bitmap = s.fleet.go ∧
      s.sendBeacon ch entry b stop = { r with stop := (s.sendBeacon ch entry b stop).stop, rcd := (s.sendBeacon ch entry b stop).rcd
                                              rad.beaconStart := some entry, rad.changeMap := 0 } := by
  obtain ⟨hzero, hsent⟩ := State.broadcast_sent (ch := ch) (kind := 1) (payload := s.beaconPayload b) (s := s)
    (by rw [State.length_beaconPayload]; exact h)
  unfold State.sendBeacon
  generalize s.broadcast 0 ch 1 (s.beaconPayload b) b stop = r at *
  obtain ⟨code, r⟩ := r
  obtain rfl : code = 0 := hzero
  dsimp only
  obtain ⟨hframe, -⟩ := State.takeStops_carried [] b r
  generalize (r.takeStops true []).2.carried (r.takeStops true []).1 b = w at *
  refine ⟨r, hsent, ?_, ?_⟩
  · rw [hframe]
    exact (congrArg (fun u : State => u.fleet.go) hsent.frame :)
  · rw [hframe]
    rfl

/-- A BEACON entry that is served at a unit that may transmit sends its beacon (R212). -/
theorem exec_beaconEntry {s u : State} {e : DeckEntry} {b t : Nat} (h : EntryReached 0 1 beaconRead e b t s u) (hl : s.rad.late = none)
    (hair : s.onAirAllowed = true) :
    exec .beaconEntry s = done (fun _ => u.sendBeacon (s.entryChannel 0 e b) b b (e.stop b)) s := by
  have hgo : ¬ (!u.onAirAllowed) = true := by simp [h.onAirAllowed, hair]
  simp only [exec, execBeaconEntry]
  refine done_congr ?_
  rw [show ({ s with out := [] } : State).rad.late = none from hl]
  exact (h.run _).trans ((if_neg hgo).trans (by rw [h.clear, h.entryChannel]))

/-- The judgement of the beacon 1.0 ms into its entry (R235). -/
theorem exec_beaconStartTimeout {s : State} {e : DeckEntry} {b : Nat} (hs : s.inService = true) (hr : s.time.running = true)
    (hn : s.nextEntry 0 (entryMark 0 8) beaconLimit (fun e => decide (e.kind = 1)) = some (e, b)) :
    ∃ t, t = b + beaconLimit ∧ exec .beaconStartTimeout s = done (fun u => (u.serveAt (entryMark 0 8) t).judgeBeacon b) s := by
  have hgo : ¬ (!s.inService || !s.time.running) = true := by simp [hs, hr]
  refine ⟨_, rfl, ?_⟩
  simp only [exec, execBeaconStartTimeout]
  refine done_congr ((if_neg hgo).trans ?_)
  rw [show State.nextEntry 0 (entryMark 0 8) beaconLimit (fun e => decide (e.kind = 1)) { s with out := [] } = some (e, b) from hn,
    ← State.reach_marked]

/-- A beacon that started is no failure. -/
theorem State.judgeBeacon_started {b : Nat} {s : State} (hb : s.rad.beaconStart = some b) (hf : s.rad.txFail = false) : s.judgeBeacon b = s := by
  have hkeep : ({ s with rad.txFail := false } : State) = s := by rw [← hf]
  have hgood : (s.rad.txFail || !(decide (s.rad.beaconStart = some b) || decide (s.rad.skipAt = some b))) = false := by simp [hb, hf]
  rw [State.judgeBeacon, hgood, hkeep]
  rfl

/-- A beacon neither started nor skipped is a transmit failure, which degrades a unit that may transmit (R235). -/
theorem State.judgeBeacon_missing {b : Nat} {s : State} (hair : s.onAirAllowed = true) (hb : s.rad.beaconStart ≠ some b)
    (hk : s.rad.skipAt ≠ some b) (hl : s.rad.late = none) (hf : s.rad.serveFrom ≤ b) :
    s.judgeBeacon b = State.degrade 5 0xFF { s with rad.txFail := false } := by
  have hfailed : ((s.rad.txFail || !(decide (s.rad.beaconStart = some b) || decide (s.rad.skipAt = some b))) &&
      s.onAirAllowed && s.rad.late.isNone && decide (s.rad.serveFrom ≤ b)) = true := by simp [hair, hb, hk, hl, hf]
  exact if_pos hfailed

theorem State.saving_of_onAirAllowed {s : State} (h : s.onAirAllowed = true) : s.sys.saving = false := by
  simp only [State.onAirAllowed, Bool.and_eq_true, Bool.not_eq_true'] at h
  obtain ⟨⟨⟨⟨-, hsaving⟩, -⟩, -⟩, -⟩ := h
  exact hsaving

/-- The beacon missing, the command degrades the unit with the failure noted, in a state that is else the one before but for time (R235). -/
theorem exec_beaconStartTimeout_missing {s : State} {e : DeckEntry} {b : Nat} (hs : s.inService = true) (hr : s.time.running = true)
    (hn : s.nextEntry 0 (entryMark 0 8) beaconLimit (fun e => decide (e.kind = 1)) = some (e, b)) (hair : s.onAirAllowed = true)
    (hb : s.rad.beaconStart ≠ some b) (hk : s.rad.skipAt ≠ some b) (hl : s.rad.late = none) (hf : s.rad.serveFrom ≤ b) :
    ∃ u : State, u = { s with out := [], time := u.time, rad.txFail := false } ∧
      exec .beaconStartTimeout s = done (fun _ => u.degrade 5 0xFF) s := by
  obtain ⟨t, -, hexec⟩ := exec_beaconStartTimeout hs hr hn
  refine ⟨{ State.serveAt (entryMark 0 8) t { s with out := [] } with rad.txFail := false }, rfl, hexec.trans (done_congr ?_)⟩
  exact State.judgeBeacon_missing (s := State.serveAt (entryMark 0 8) t { s with out := [] }) hair hb hk hl hf

/-- What a command answers, where what is to be shown of it follows from its effect. -/
theorem done_next_of {f : State → State} {s t₀ : State} {P : State → Prop} (hf : f { s with out := [] } = t₀)
    (h : ∀ t, t₀ = t → t.pending = s.pending ∧ P t) : ∃ t, done f s = .next t ∧ P t :=
  ⟨t₀, done_eq_next hf (h t₀ rfl).1, (h t₀ rfl).2⟩

/-- The STOP frame that names all (R214), under the stop serial `n`. -/
def stopAllPayload (n : Nat) : List Octet := [0x02#8, 128#8] ++ leBytes 1 (n % 256) ++ List.replicate 4 0xFF#8

/-- A STOP entry under a cell cause sends the frame that names all, and no stop waits for one (R214, R325). -/
theorem exec_stopEntry_all {s u : State} {e : DeckEntry} {b c m : Nat} (h : EntryReached 0 2 (-((250 * perUs : Nat) : Int)) e b m s u)
    (hcell : s.cellSet ≠ 0) (hfree : sendFree 0 (s.bcastKey 0) 29 b (e.stop b) c s) :
    ∃ t, exec .stopEntry s = .next t ∧ ∃ r,
      FrameSent (s.entryChannel 0 e b) b c (stopAllPayload s.fleet.serial) u r ∧
      t.stop.cellSince = none ∧
      t = { r with fleet.serial := s.fleet.serial % 256, rad.a.cntStop := r.rad.a.cntStop + 1#32, stop := t.stop, rcd := t.rcd } := by
  obtain ⟨hzero, hsent⟩ :=
    State.broadcast_sent (ch := s.entryChannel 0 e b) (kind := 2) (payload := stopAllPayload s.fleet.serial) (h.sends hfree)
  have hgo : ¬ (!u.onAirAllowed) = true := by simp [h.onAirAllowed, hfree.1]
  have hset : u.cellSet ≠ 0 := by rw [h.frame]; exact hcell
  have hserial : u.fleet.serial = s.fleet.serial := by rw [h.frame]
  rw [show exec .stopEntry s = execStopEntry s from rfl, execStopEntry]
  refine done_next_of ((h.run _).trans (if_neg hgo)) fun t ht => ?_
  rw [h.clear] at ht
  extract_lets v all ls fresh serial payload r stops w wrap seen _ _ _ _ at ht
  have hall : all = true := by simp [all, v, hset]
  clear_value all
  subst hall
  have hpayload : payload = stopAllPayload s.fleet.serial := by rw [← hserial]; rfl
  have hr : r = u.broadcast 0 (s.entryChannel 0 e b) 2 (stopAllPayload s.fleet.serial) b (e.stop b) := by
    rw [← h.entryChannel, ← hpayload]
  have hnumber : serial = s.fleet.serial % 256 := by rw [← hserial]; rfl
  obtain ⟨hframe, hsince⟩ := State.takeStops_carried ls b r.2
  obtain ⟨fstop, rcd, hw⟩ : ∃ fstop rcd, w = { r.2 with stop := fstop, rcd := rcd } := ⟨_, _, hframe⟩
  have hwsince : w.stop.cellSince = none := hsince
  rw [← hr] at hzero hsent
  rw [if_neg (by simp), if_neg (not_not.mpr hzero)] at ht
  clear_value w serial r
  subst hnumber hw ht
  exact ⟨by rw [hsent.beside h], r.2, hsent, hwsince, rfl⟩

/-- Without an epoch in hand nothing is owed for one (R165, log 187). -/
theorem State.epochPast_of_none {s : State} (h : s.meas.job = none) : s.epochPast = s := by rw [State.epochPast, h]

/-- The stream after `n` octets of it have gone. -/
theorem drop_flatMap_dropStream : ∀ (ms : List RtcmMsg) (n : Nat),
    ((dropStream ms n).1.flatMap (·.octets)).drop (dropStream ms n).2 = (ms.flatMap (·.octets)).drop n
  | [], n => by simp [dropStream]
  | m :: ms, n => by
    rw [dropStream, List.flatMap_cons]
    split
    next hle => rw [drop_flatMap_dropStream ms (n - m.octets.length), List.drop_append, List.drop_eq_nil_of_le hle, List.nil_append]
    next => rfl

/-- Outside its window, or where it may not transmit, a unit sends no corrections (R165). -/
theorem exec_corrEntry_silent {s u : State} {e : DeckEntry} {b m : Nat} (h : EntryReached 0 3 0 e b m s u) (hj : s.meas.job = none)
    (hno : b < s.meas.airFrom ∨ s.onAirAllowed = false) : exec .corrEntry s = .next u := by
  have hmeas : u.meas = s.meas := by rw [h.frame]
  have hpast : u.epochPast = u := State.epochPast_of_none (by rw [hmeas, hj])
  have hstop : (!u.onAirAllowed) = true ∨ b < u.meas.airFrom := by
    rw [h.onAirAllowed, hmeas]
    exact hno.symm.imp_left fun hair => by simp [hair]
  refine done_eq_next ((h.run _).trans ?_) (by rw [h.frame])
  rw [hpast]
  exact if_pos hstop

/-- A CORR entry of a unit that may transmit sends the stream's next octets, and they leave the queue (R215). -/
theorem exec_corrEntry_sent {s u : State} {e : DeckEntry} {b c m : Nat} (h : EntryReached 0 3 0 e b m s u) (hj : s.meas.job = none)
    (hfrom : s.meas.airFrom ≤ b) (hpart : s.corrOctets.take (corrRoom e.length) ≠ [])
    (hfree : sendFree 0 (s.bcastKey 0) (27 + (s.corrOctets.take (corrRoom e.length)).length) b (e.stop b) c s) :
    ∃ t, exec .corrEntry s = .next t ∧ ∃ r payload, FrameSent (s.entryChannel 0 e b) b c payload u r ∧
      payload.drop 5 = s.corrOctets.take (corrRoom e.length) ∧ getLe payload 0 1 = 3 ∧ t.meas.airSeq = (s.meas.airSeq + 1) % 256 ∧
      t.corrOctets = s.corrOctets.drop (corrRoom e.length) ∧ t = { r with meas := t.meas } := by
  have hmeas : u.meas = s.meas := by rw [h.frame]
  have hpast : u.epochPast = u := State.epochPast_of_none (by rw [hmeas, hj])
  have hoctets : u.corrOctets = s.corrOctets := by rw [State.corrOctets, hmeas, State.corrOctets]
  have hgo : ¬ ((!u.onAirAllowed) = true ∨ b < u.meas.airFrom) := by simp [h.onAirAllowed, hfree.1, hmeas, hfrom]
  rw [show exec .corrEntry s = execCorrEntry s from rfl, execCorrEntry]
  refine done_next_of (h.run _) fun t ht => ?_
  rw [hpast] at ht
  replace ht := (if_neg hgo).symm.trans ht
  rw [h.clear] at ht
  extract_lets v rest part payload r q _ _ at ht
  have hrest : rest = s.corrOctets := hoctets
  clear_value rest
  subst hrest
  have hlength : payload.length = part.length + 5 := rfl
  have hoctet : 10 + payload.length + 12 = 27 + part.length := by omega
  obtain ⟨hzero, hsent⟩ := State.broadcast_sent (ch := u.entryChannel 0 e b) (kind := 3) (payload := payload) (hoctet ▸ h.sends hfree)
  have hdrop : payload.drop 5 = part := rfl
  have hkind : getLe payload 0 1 = 3 := rfl
  replace ht := ((if_neg hpart).trans (if_neg (not_not.mpr hzero))).symm.trans ht
  have hstream : r.2.meas = s.meas := (congrArg State.meas hsent.frame).trans hmeas
  have hsent : FrameSent (s.entryChannel 0 e b) b c payload u r.2 := h.entryChannel ▸ hsent
  have hpending : r.2.pending = s.pending := by rw [hsent.beside h]
  clear_value r payload
  subst ht
  refine ⟨hpending, r.2, payload, hsent, hdrop, hkind, by rw [hstream], ?_, rfl⟩
  have hq : q = dropStream s.meas.airQueue (s.meas.airOffset + part.length) := by rw [← hstream]
  show (q.1.flatMap (·.octets)).drop q.2 = _
  rw [hq, drop_flatMap_dropStream, ← List.drop_drop]
  show s.corrOctets.drop (s.corrOctets.take (corrRoom e.length)).length = _
  rw [List.length_take, List.drop_eq_drop_iff, min_assoc, min_self]

/-- Settles O30: a frame sent changes the radios, the pair and what is recorded and sent; a beacon missed is a degradation of the lead. -/
theorem broadcastEntries : Obligations.BroadcastEntries := by
  unfold Obligations.BroadcastEntries
  refine ⟨?beacon, ?started, ?holds, ?restarts, ?stop, ?corrections, ?silent⟩
  case beacon =>
    intro s e b c hserved hl hfree
    obtain ⟨u, h⟩ := entryReached_of_served hserved rfl
    obtain ⟨r, hsent, hbitmap, hframe⟩ := State.sendBeacon_sent (ch := s.entryChannel 0 e b) (entry := b) (h.sends hfree)
    have hbeside := hsent.beside h
    obtain ⟨⟨a, hlast, hradio, hstart, hchannel, hcounter, hpayload⟩, htx, -, hother, -⟩ := hsent
    have hrad : u.rad = s.rad := by rw [h.frame]
    have hfleet : u.fleet = s.fleet := by rw [h.frame]
    rw [exec_beaconEntry h hl hfree.1]
    generalize u.sendBeacon (s.entryChannel 0 e b) b b (e.stop b) = t at *
    refine ⟨t, a, done_eq_next rfl (by rw [hframe, hbeside]), by rw [hframe, hlast], hradio, hstart, hchannel, hcounter, ?_, ?_, ?_,
      by rw [hframe], by rw [hframe], by rw [hbitmap, hfleet], ?_, by rw [hframe, hbeside], by rw [hframe, hbeside], ?_, by rw [hframe, hbeside],
      by rw [hframe, hbeside], by rw [hframe, hbeside]⟩
    · rw [hpayload, State.length_beaconPayload]
    · rw [hpayload, State.beaconPayload_kind]
    · rw [hpayload, State.beaconPayload_go, hfleet]
    · rw [hframe, htx, hrad]
    · rw [hframe, hother, hrad]
  case started =>
    intro s e b hs hr hn hb hf
    obtain ⟨t, ht, hexec⟩ := exec_beaconStartTimeout hs hr hn
    rw [hexec, ← ht]
    exact ⟨_, done_eq_next (State.judgeBeacon_started (s := State.serveAt (entryMark 0 8) t { s with out := [] }) hb hf) rfl, rfl, rfl⟩
  case holds =>
    intro s e b hm hr hair hn hb hk hl hfrom hd hlone
    have hservice : s.inService = true := by rw [State.inService, hm]
    obtain ⟨u, hu, hexec⟩ := exec_beaconStartTimeout_missing hservice hr hn hair hb hk hl hfrom
    obtain ⟨hmode, hdegraded, hcause, _, _, _, _, _, hframe⟩ := State.degrade_holds 5 0xFF (s := u) (by rw [hu, hm]) (by rw [hu, hd])
      (by rw [hu]; exact State.saving_of_onAirAllowed hair) (by rw [hu]; exact hlone)
    rw [hexec]
    generalize u.degrade 5 0xFF = t at *
    exact ⟨t, done_eq_next rfl (by rw [hframe, hu]), hdegraded, hmode, hcause, by rw [hframe, hu], by rw [hframe, hu], by rw [hframe, hu],
      by rw [hframe, hu], by rw [hframe, hu], by rw [hframe, hu], by rw [hframe, hu]⟩
  case restarts =>
    intro s e b hm hr hair hn hb hk hl hfrom hd hstandby hsuccession
    have hservice : s.inService = true := by rw [State.inService, hm]
    obtain ⟨u, hu, hexec⟩ := exec_beaconStartTimeout_missing hservice hr hn hair hb hk hl hfrom
    obtain ⟨hmode, hcause, hclaim, hkeys, hflash, hpending⟩ := State.degrade_restarts 5 0xFF (s := u) (by rw [hu, hm]) (by rw [hu, hd])
      (by rw [hu]; exact State.saving_of_onAirAllowed hair) (by rw [hu]; exact hstandby) (by rw [hu]; exact hsuccession)
    rw [hexec]
    exact ⟨_, done_eq_next rfl (by rw [hpending, hu]), hmode, hcause, hclaim, by rw [hkeys, hu], by rw [hflash, hu], by rw [hpending, hu]⟩
  case stop =>
    intro s e b c hserved hcell hfree
    obtain ⟨u, h⟩ := entryReached_of_served hserved rfl
    obtain ⟨t, hexec, r, hsent, hsince, hframe⟩ := exec_stopEntry_all h hcell hfree
    have hbeside := hsent.beside h
    obtain ⟨⟨a, hlast, -, hstart, hchannel, hcounter, hpayload⟩, -, hcount, hother, -⟩ := hsent
    have hrad : u.rad = s.rad := by rw [h.frame]
    exact ⟨t, a, hexec, by rw [hframe, hlast], hstart, hchannel, hcounter, hpayload, by rw [hframe, hcount, hrad], hsince,
      by rw [hframe, hbeside], by rw [hframe, hbeside], by rw [hframe, hother, hrad], by rw [hframe, hbeside]⟩
  case corrections =>
    intro s e b c hserved hj hfrom hpart hfree
    obtain ⟨u, h⟩ := entryReached_of_served hserved rfl
    obtain ⟨t, hexec, r, payload, hsent, hdrop, hkind, hseq, hoctets, hframe⟩ := exec_corrEntry_sent h hj hfrom hpart hfree
    have hbeside := hsent.beside h
    obtain ⟨⟨a, hlast, -, hstart, -, hcounter, rfl⟩, -, -, hother, -⟩ := hsent
    have hrad : u.rad = s.rad := by rw [h.frame]
    exact ⟨t, a, hexec, by rw [hframe, hlast], hstart, hcounter, hdrop, hkind, hseq, hoctets, by rw [hframe, hbeside], by rw [hframe, hbeside],
      by rw [hframe, hbeside], by rw [hframe, hother, hrad], by rw [hframe, hbeside]⟩
  case silent =>
    intro s e b hserved hj hno
    obtain ⟨u, h⟩ := entryReached_of_served (t := b) hserved (by simp)
    exact ⟨u, exec_corrEntry_silent h hj hno, h.frc, by rw [h.frame]⟩

end Sys2Proof.Machine
end
